-- ==== Sys2Proof/Word.lean ====
section
/-! DEFINITION. The byte and the index types of the OXG-8800's fixed resources. -/

namespace Sys2Proof

/-- One byte of a payload, a slot or a frame; multi-byte fields are little-endian (R9). -/
abbrev Byte := BitVec 8

/-- Car slot 0–7 (R23). -/
abbrev CarId := Fin 8
/-- Field bank FB0–FB15 (01, Dies). -/
abbrev BankId := Fin 16
/-- Lane 0–7 of a bank. -/
abbrev LaneId := Fin 8
/-- CAN0–CAN15. -/
abbrev BusId := Fin 16
/-- Signal engine SE0–SE3. -/
abbrev EngId := Fin 4
/-- Kernel slot 0–31 (R395). -/
abbrev SlotId := Fin 32
/-- RING00–RING63 (R460). -/
abbrev RingId := Fin 64

/-- The reference "none" of R60. -/
def noRef : Nat := 0xFFFFFF

/-- Two values of the same kind: FRONT and REAR doors, or MASTER and SLAVE axes, or channels A and B. -/
abbrev Side := Fin 2

end Sys2Proof
end

