-- ==== Sys2Proof/Config.lean ====
section
/-! DEFINITION. What the spec leaves open: opaque constants with no body. No proof can see a value of one.
Each is named in the assumption log; a statement about one holds for every value of it. -/

namespace Sys2Proof.Config

/-- A fresh integer for draw `n` (log 3): a value the spec does not state. -/
opaque freeInt : Nat → Int
/-- A fresh natural number for draw `n` (log 3). -/
opaque freeNat : Nat → Nat
/-- Where a limit of a bank's analog side lies within the tolerance that the spec gives it: bank, lane (8 for the bank itself) and
the limit's number (log 360). -/
opaque limit : Nat → Nat → Nat → Nat
/-- The rounding of CURRENT's mean (R307, log 360), added to a sum before its division. -/
opaque currentBias : Nat
/-- A fresh byte string for draw `n` (log 3), used where the spec says "random" or names bytes it does not give. -/
opaque freeBytes : Nat → List Byte
/-- The vendor's rounding in the ride-quality pass (R404, log 334): which neighbour a twiddle word takes, RND, and the mean's
rounding of a running sum. -/
opaque twiddleUp : Nat → Bool
opaque rideRounds : Bool
opaque rideMeanBias : Nat
/-- The attestation key's LMS signature of 1,772 bytes over a statement, at leaf Q (R565). -/
opaque attestSignature : Nat → List Byte → List Byte
/-- The module's fused DEVICE_ID (R497). -/
opaque deviceId : Nat
/-- Module hardware revision (R497). -/
opaque hwRev : Nat
/-- The certificates of R568: 0 the device's, 1 the CA's. -/
opaque certificate : Nat → List Byte
/-- Criorauri's 60-byte root public key, whose SHA-256 is fused (R559). -/
opaque rootKey : List Byte
/-- The shipped firmware's version, patch level and pair protocol number (R458, R497). -/
opaque fwVersion : Nat
opaque fwPatch : Nat
opaque pairProtocol : Nat
/-- The shipped firmware's SECURITY_VERSION and signed-message hash (R561, R565). -/
opaque fwSecurity : Nat
opaque fwHash : List Byte
/-- The module's Ethernet address on ETH0 (R435 names it; its bytes are not given). -/
opaque macAddress : List Byte

end Sys2Proof.Config
end

