-- ==== Sys2Proof/Machine/TypesEng.lean ====
section
/-! DEFINITION. Types of the signal engines: instructions, registers, kernels and spectra (11). -/

namespace Sys2Proof.Machine

/-- A 4-bit register number, G0–G15 (R376). -/
abbrev GReg := Fin 16

/-- Fields of format M (R388). -/
structure MForm where
  spaceY : Bool := false
  wide   : Bool := false
  bx     : Bool := false
  g      : GReg := 0
  p      : Fin 4 := 0
  mode   : Fin 8 := 0
  addr   : BitVec 16 := 0
  deriving DecidableEq, Repr, Inhabited

/-- Fields of format D (R388). `xp` picks P0 or P1, `yp` P2 or P3; `xdst` G0–G3, `ydst` G4–G7. -/
structure DForm where
  a     : Fin 2 := 0
  gm    : GReg := 0
  gn    : GReg := 0
  xp    : Fin 2 := 0
  xmode : Fin 4 := 0
  xdst  : Fin 4 := 0
  yp    : Fin 2 := 0
  ymode : Fin 4 := 0
  ydst  : Fin 4 := 0
  deriving DecidableEq, Repr, Inhabited

/-- Fields of format A (R388). -/
structure AForm where
  a      : Fin 2 := 0
  g      : GReg := 0
  shift  : Fin 32 := 0
  bx     : Bool := false
  spaceY : Bool := false
  p      : Fin 4 := 0
  mode   : Fin 8 := 0
  addr   : BitVec 8 := 0
  deriving DecidableEq, Repr, Inhabited

/-- The R-format operations of two G operands (R389). -/
inductive Alu | add | sub | and | or | xor
  deriving DecidableEq, Repr, Inhabited

/-- The shifts of R389. -/
inductive Shift | asr | lsr | shl
  deriving DecidableEq, Repr, Inhabited

/-- One engine instruction (R389). -/
inductive EInstr
  | alu (op : Alu) (gd ga gb : GReg)
  | shift (op : Shift) (gd ga : GReg) (n : Fin 32)
  | cmp (ga gb : GReg)
  | abs (gd ga : GReg)
  | neg (gd ga : GReg)
  | mov (gd ga : GReg)
  | movsR (gd : GReg) (sreg : Fin 16)
  | movsW (sreg : Fin 16) (ga : GReg)
  | clsa (gd ga : GReg)
  | addi (gd : GReg) (imm : BitVec 16)
  | movi (gd : GReg) (imm : BitVec 16)
  | movhi (gd : GReg) (imm : BitVec 16)
  | andi (gd : GReg) (imm : BitVec 16)
  | cmpi (gd : GReg) (imm : BitVec 16)
  | ld (f : MForm)
  | st (f : MForm)
  | mpy (f : DForm)
  | mac (f : DForm)
  | msu (f : DForm)
  | clra (f : DForm)
  | sac (f : AForm)
  | sacg (f : AForm)
  | lda (f : AForm)
  | adda (f : AForm)
  | suba (f : AForm)
  | bexpclr
  | b (cond : Fin 16) (imm : BitVec 16)
  | call (cond : Fin 16) (imm : BitVec 16)
  | ret
  | reti
  | repImm (imm : BitVec 16)
  | repG (g : GReg)
  | kend
  | yield
  | nop
  | rget (g : GReg)
  | rput (g : GReg)
  deriving DecidableEq, Repr, Inhabited

/-- The shadowed registers, one copy per level (R376, R382). `a` is the accumulator as SAC, SACG, CLSA and MOVS read
it; `fwd` the accumulator as MAC, MSU, ADDA and SUBA read it (R386). -/
structure RegBank where
  g   : Vector (BitVec 32) 8 := Vector.replicate 8 0
  a   : Vector (BitVec 40) 2 := Vector.replicate 2 0
  fwd : Vector (BitVec 40) 2 := Vector.replicate 2 0
  p   : Vector (BitVec 14) 2 := Vector.replicate 2 0
  st  : BitVec 16 := 0x0400
  deriving DecidableEq, Repr, Inhabited

/-- A register write on its way to being visible (R386); `shadow` names the bank it was issued in. -/
inductive PipeWrite
  | g (shadow : Bool) (r : GReg) (v : BitVec 32)
  | p (shadow : Bool) (r : Fin 4) (v : BitVec 14)
  | m (r : Fin 4) (v : BitVec 32)
  | acc (shadow : Bool) (r : Fin 2) (v : BitVec 40)
  | st (shadow : Bool) (v : BitVec 16)
  | flags (shadow : Bool) (z n c v : Bool)
  | setZ (shadow : Bool) (z : Bool)
  | setOv (shadow : Bool)
  | rf (shadow : Bool) (full : Bool)
  | bexp (v : BitVec 4)
  | bexpMin (v : Nat)
  deriving DecidableEq, Repr, Inhabited

/-- What an engine is running (R382, R383, R385). -/
inductive EngCtx
  | idle
  | frame (slot : SlotId)
  | ring (slot : SlotId)
  | mbx (slot : SlotId)
  | bg (slot : SlotId)
  deriving DecidableEq, Repr, Inhabited

/-- A flow change that acts after one delay slot (R387). -/
inductive Delayed
  | jump (target : Nat)
  | notTaken
  | reti
  deriving DecidableEq, Repr, Inhabited

/-- One signal engine (R374–R387). The memories are sparse lists of (address, word), unlisted words zero. -/
structure Engine where
  prog   : List (Nat × Nat) := []
  x      : List (Nat × Nat) := []
  y      : List (Nat × Nat) := []
  main   : RegBank := {}
  shadow : RegBank := {}
  /-- G8–G15 -/
  gHi    : Vector (BitVec 32) 8 := Vector.replicate 8 0
  /-- P2, P3 -/
  pHi    : Vector (BitVec 14) 2 := Vector.replicate 2 0
  m      : Vector (BitVec 32) 4 := Vector.replicate 4 0
  bexp   : BitVec 4 := 15
  /-- return stack, newest first, at most 8 -/
  stack  : List (BitVec 14) := []
  pc     : Nat := 0
  /-- interrupt level: the shadow bank is in use (R382) -/
  interrupt : Bool := false
  ctx    : EngCtx := .idle
  /-- cycles the present context has used (R385, R396, R400) -/
  cycles : Nat := 0
  delayed : Option Delayed := none
  /-- issues left of the repeated instruction (R393) -/
  rep    : Option Nat := none
  /-- writes not yet visible, oldest first, with the issues still to pass -/
  pipe   : List (Nat × PipeWrite) := []
  /-- the interrupted background context, its pc and cycles -/
  bgCtx  : EngCtx := .idle
  bgPc   : Nat := 0
  bgCyc  : Nat := 0
  /-- frame-level kernels and handlers still to run in this frame, in order; `idle` marks the end of the frame level (R383) -/
  queue  : List EngCtx := []
  /-- background tasks still to start in this Octave (R385) -/
  bgQueue : List EngCtx := []
  /-- the vendor's catch-up pass owns this frame: customer kernels are skipped (R44, R407) -/
  catchUp : Bool := false
  deriving DecidableEq, Repr, Inhabited

/-- STATE of a kernel slot (R395). -/
inductive SlotState | empty | loaded | running | suspended
  deriving DecidableEq, Repr, Inhabited

/-- The header of an accepted image (R401). -/
structure KernelHeader where
  flags     : Nat := 0
  frameCycles : Nat := 0
  latency   : Nat := 0
  bgCycles  : Nat := 0
  handlerCycles : Nat := 0
  entryFrame : Nat := 0
  entryBg   : Nat := 0
  entryRing : Nat := 0
  entryMbx  : Nat := 0
  progBase  : Nat := 0
  progWords : Nat := 0
  xBase     : Nat := 0
  xWords    : Nat := 0
  yBase     : Nat := 0
  yWords    : Nat := 0
  inBase    : Nat := 0
  outBase   : Nat := 0
  paramBase : Nat := 0
  paramWords : Nat := 0
  stopLimit : Nat := 0
  ringIn    : Nat := 0xFF
  ringOut   : Nat := 0xFF
  inputs    : List Nat := []
  outputs   : List Nat := []
  deriving DecidableEq, Repr, Inhabited

/-- A customer kernel slot (R395–R412). -/
structure Kernel where
  state   : SlotState := .empty
  hdr     : KernelHeader := {}
  /-- the accepted image, for re-initialising data memory (R410) -/
  image   : List Byte := []
  /-- image bytes received so far, none before FIRST (R409) -/
  staging : Option (List Byte) := none
  lastFault : Nat := 0
  consecStops : Nat := 0
  frameLast : Nat := 0
  framePeak : Nat := 0
  bgLast  : Nat := 0
  stops   : Nat := 0
  skips   : Nat := 0
  rfCount : Nat := 0
  /-- `sig.param` data written in this frame: raise MBX after the frame level (R383) -/
  mbx     : Bool := false
  /-- the debugger halts it (R551) -/
  halted  : Bool := false
  deriving DecidableEq, Repr, Inhabited

/-- A published spectrum (R403–R405, R413). -/
structure Spectrum where
  valid  : Bool := false
  ov     : Bool := false
  ep     : Int := 0
  gaps   : Nat := 0
  frame  : Nat := 0
  power  : List Nat := []
  deriving DecidableEq, Repr, Inhabited

/-- The ride-quality data of one car (R403): the newest 1,024 samples of each axis, newest first, each with a gap
mark, and the two readable spectra. -/
structure Ride where
  samples : List (Vector Int 3 × Bool) := []
  /-- results of the pass that has yielded, readable at the next Octave start (R405) -/
  ready   : Vector (Option Spectrum) 2 := Vector.replicate 2 none
  spectra : Vector Spectrum 2 := Vector.replicate 2 {}
  deriving DecidableEq, Repr, Inhabited

end Sys2Proof.Machine
end

