-- ==== Sys2Proof/Machine/TypesIo.lean ====
section
/-! DEFINITION. Types of the ports: banks and lanes, CAN, car links, and the input image (09, 10, R19). -/

namespace Sys2Proof.Machine

/-- Frame length (R35). -/
inductive FrameLen | us250 | us125
  deriving DecidableEq, Repr, Inhabited

/-- One sample of an input lane (R300, R306): its voltage to FVN in mV and its current in µA. -/
structure Sample where
  mv : Int := 0
  ua : Nat := 0
  deriving DecidableEq, Repr, Inhabited

/-- A run of the field supply as the bank measures it (R315): FVP − FVN in mV, and how long it stays so, in µs. -/
structure SupplyRun where
  mv : Nat := 0
  us : Nat := 0
  deriving DecidableEq, Repr, Inhabited

/-- Runs of one bank's field supply, oldest first. -/
structure SupplyTrace where
  bank : BankId
  runs : List SupplyRun
  deriving DecidableEq, Repr, Inhabited

/-- A receive error (R342): the module was the first to see it, and how many further times 8 dominant bits followed. -/
structure RxError where
  primary : Bool := false
  more : Nat := 0
  deriving DecidableEq, Repr, Inhabited

/-- A partner's report over ETH1 beside its PAIR_SEL (R422, R434): its state and the progress of its copy, of 256. -/
structure SelReport where
  state : Nat := 0
  progress : Nat := 0
  deriving DecidableEq, Repr, Inhabited

/-- The limits of a bank's analog side that the spec gives as a tolerance (R300, R306, R315). -/
inductive Limit
  | rise1 | fall1 | rise3 | fall3 | onRise | onFall | broken | lowFall | lowRise | lowTime | missing | missTime | goodTime
  deriving DecidableEq, Repr, Inhabited

/-- What a Lane entry makes of a lane (R299). -/
inductive LaneUse | unbound | input | output
  deriving DecidableEq, Repr, Inhabited

/-- One lane of a bank (09). -/
structure Lane where
  use        : LaneUse := .unbound
  /-- C of R302 -/
  count      : Nat := 0
  /-- the wire-break counter of R306 -/
  wireCount  : Nat := 0
  /-- FILTER_LIMIT in force (R302, R305) -/
  limit      : Nat := 0
  wireBreak  : Bool := false
  /-- INPUT_TYPE of the entry is Type 3 (R300) -/
  type3      : Bool := false
  filtered   : Bool := false
  broken     : Bool := false
  /-- the sum in µA and the number of the current samples since the last strobe (R307) -/
  curSum     : Nat := 0
  curN       : Nat := 0
  /-- CURRENT in 0.1 mA (R307) -/
  current    : Nat := 0
  /-- SAFE_STATE of the entry (R319): 0 OFF, 1 ON, 2 HOLD -/
  safeState  : Nat := 0
  /-- PARALLEL of the entry (R311): 0, 1 (group of 2), 2 (group of 4) -/
  parallel   : Nat := 0
  /-- the command committed at the latest Calends (R309) -/
  committed  : Bool := false
  /-- the command of the last valid refresh (R319) -/
  command    : Bool := false
  /-- output current in mA (R327) -/
  outMa      : Nat := 0
  /-- consecutive images in which the lane's group was unbalanced (R322, class 5) -/
  unbalRun   : Nat := 0
  /-- the output stage's state as the bank drives it -/
  driven     : Bool := false
  /-- a dark-test pulse holds the stage off (R284) -/
  dark       : Bool := false
  /-- READBACK as the last image holds it (R309) -/
  readback   : Bool := false
  /-- FAULT_CLASS of the last image (R322) -/
  faultClass : Nat := 0
  /-- thermal latch (R310) -/
  thermal    : Bool := false
  /-- the command has been off in a refresh since the shutdown (R310) -/
  thermalOff : Bool := false
  /-- an on command has come after that off command (R310) -/
  thermalOn  : Bool := false
  /-- the 1,000 ms since the shutdown have ended, and the latches counted since it (R310) -/
  holdoffEnd : Bool := false
  sinceShut  : Nat := 0
  /-- a dark-test pulse is on this lane in this image (R283, R284) -/
  pulsed     : Bool := false
  deriving DecidableEq, Repr, Inhabited

/-- One field bank (09). -/
structure Bank where
  lanes          : Vector Lane 8 := Vector.replicate 8 {}
  /-- SUPPLY_LOW starts set at a power-up of the bank (R315) -/
  supplyLow      : Bool := true
  supplyMissing  : Bool := false
  timerExpired   : Bool := false
  linkFault      : Bool := false
  /-- the supply has been good for the good time (R317) -/
  supplyReady    : Bool := false
  /-- µs for which the supply has stayed below the LOW falling threshold, at or above the LOW rising threshold, and below the
  MISSING threshold (R315–R317) -/
  lowUs          : Nat := 0
  goodUs         : Nat := 0
  missUs         : Nat := 0
  /-- consecutive valid refreshes since a gap, in frames (R320) -/
  refreshRun     : Nat := 0
  /-- frames since the last valid refresh (R319) -/
  sinceRefresh   : Nat := 0
  gateOpen       : Bool := false
  /-- SAFE_TIMER_MS in force (R319) -/
  safeTimerMs    : Nat := 4
  sampleK        : Nat := 0
  linkErrors     : Nat := 0
  thermalEvents  : Nat := 0
  /-- consecutive images with a failed report (R321) -/
  badReports     : Nat := 0
  /-- coming reports that a failure of the bank's link takes with it (R321) -/
  failing        : Nat := 0
  fieldMv        : Nat := 0
  temp           : Int := 0
  /-- STATUS byte last recorded (R22) -/
  lastStatus     : Nat := 0
  deriving DecidableEq, Repr, Inhabited

/-- What one lane shows in an image (R19). -/
structure LaneImage where
  use        : LaneUse := .unbound
  state      : Bool := false
  broken     : Bool := false
  readback   : Bool := false
  current    : Nat := 0
  faultClass : Nat := 0
  pulsed     : Bool := false
  deriving DecidableEq, Repr, Inhabited

/-- What one bank's report holds besides its lanes. -/
structure BankImage where
  lanes         : Vector LaneImage 8 := Vector.replicate 8 {}
  supplyLow     : Bool := true
  supplyMissing : Bool := false
  timerExpired  : Bool := false
  linkFault     : Bool := false
  /-- what `bank.status` shows of the image (R327): RELEASE_READY, HOLD_GATE_OPEN, FIELD_MV, TEMP, OUT_CURRENT_MA,
  DISSIPATION_MW, LINK_ERRORS, THERMAL_EVENTS -/
  ready         : Bool := false
  gate          : Bool := false
  fieldMv       : Nat := 0
  temp          : Int := 0
  outMa         : Nat := 0
  dissipation   : Nat := 0
  linkErrors    : Nat := 0
  thermalEvents : Nat := 0
  deriving DecidableEq, Repr, Inhabited

/-- A CAN frame (R332, R334): identifier, format, flags, payload, end-of-frame time in µs in its interval. -/
structure CanFrame where
  id     : Nat := 0
  ide    : Bool := false
  rtr    : Bool := false
  fd     : Bool := false
  brs    : Bool := false
  esi    : Bool := false
  data   : List Byte := []
  /-- the DLC of a remote frame, which carries no data (R367) -/
  dlc    : Nat := 0
  timeUs : Nat := 0
  deriving DecidableEq, Repr, Inhabited

/-- A car-link frame as a receiver takes it off the wire (R349, R357, R361): whether its FCS is valid, its EtherType, and its
payload. -/
structure LinkFrame where
  fcsGood   : Bool := true
  etherType : Nat := 0x88B5
  payload   : List Byte := []
  deriving DecidableEq, Repr, Inhabited

/-- An accepted uplink as an image holds it (R355): its 180 payload bytes. -/
structure Uplink where
  bytes : List Byte := []
  deriving DecidableEq, Repr, Inhabited

/-- The input image (R19). -/
structure Image where
  frame    : Nat := 0
  banks    : Vector BankImage 16 := Vector.replicate 16 {}
  /-- decoded count change of ENC0–ENC7 since the previous latch (R615) -/
  enc      : Vector Int 8 := Vector.replicate 8 0
  encFault : Vector Bool 8 := Vector.replicate 8 false
  /-- RECEIVER_FAULT of ENC0–ENC7 (R64) -/
  encBlock : Vector Bool 8 := Vector.replicate 8 false
  can      : Vector (List CanFrame) 16 := Vector.replicate 16 []
  uplink   : Vector (Option Uplink) 8 := Vector.replicate 8 none
  deriving DecidableEq, Repr, Inhabited

/-- The strobes of a bus cycle (R450, R512): the HOST_CS_N that is low, whether another is low with it, and whether HOST_RD_N
is low. -/
structure BusSelect where
  cs     : CarId := 0
  others : Bool := false
  rd     : Bool := false
  deriving DecidableEq, Repr, Inhabited

/-- A codeword of DRAM or of the channel cache as it is read (R569): the 32-byte word's address, or the line's index, its
32 data bytes and its 6 check symbols. -/
structure MemWord where
  cache : Bool := false
  addr  : Nat := 0
  data  : List Byte := List.replicate 32 0
  check : List Byte := List.replicate 6 0
  deriving DecidableEq, Repr, Inhabited

/-- What the outside gives the frame that a Calends begins or ends: encoder motion, failed bank reports, lanes
whose readback differs from their drive, output currents, lanes in current limit, bank temperatures, and the
measured load of the ending frame (R19, R46, R307, R315, R322). -/
structure FrameIn where
  /-- motion at an encoder input since the latch before, in quarter periods of its lines, one run after another (R615) -/
  enc       : List (Fin 8 × Int) := []
  /-- receivers with a block fault, and car links whose PHY die reports a fault, at the latch (R64) -/
  receiverFault : List (Fin 8) := []
  phyFault  : List CarId := []
  badReport : List BankId := []
  /-- lanes whose pin reads other than their stage drives (R323) -/
  stuck     : List (BankId × LaneId) := []
  /-- lanes in current limit for the last 1 ms, and others in current limit at the strobe (R322, classes 2 and 4) -/
  limiting  : List (BankId × LaneId) := []
  limitNow  : List (BankId × LaneId) := []
  /-- bank temperatures in °C (R327) -/
  temps     : List (BankId × Int) := []
  /-- output currents in mA (R327) -/
  outCurrents : List (BankId × LaneId × Nat) := []
  /-- measured load of the ending frame, in cycles (R46) -/
  measured  : Nat := 0
  /-- SG words corrected by their code in the frame (R256, ECC_CORRECTED) -/
  eccCorrected : Nat := 0
  /-- an SG self-test slice differs from its signature in this frame (R256) -/
  selfTestBad : Bool := false
  /-- an SG memory word is uncorrectable in this frame (R256) -/
  sgMemoryBad : Bool := false
  /-- words of the channel cache that the frame's decoding corrects (R570); one beyond correction is MEMORY_UNCORRECTABLE -/
  cacheWords : List MemWord := []
  /-- buses with a frame of the module in an attempt at this Calends (R340) -/
  attempts  : List BusId := []
  /-- rings whose service the ending frame's window could not hold, and the rung it was kept from by (R30, R465) -/
  deferredRings : List (RingId × Nat) := []
  /-- the rung whose service work paused a recorder export in the ending frame (R30, R51) -/
  exportPaused : Option Nat := none
  deriving DecidableEq, Repr, Inhabited

/-- The share and source of a pending transmission (R336). -/
inductive TxKind
  | reference (car : CarId)
  | system
  | stream (chan : Nat)
  | raw (job : Nat)
  deriving DecidableEq, Repr, Inhabited

/-- A pending transmission (R336–R340). -/
structure TxEntry where
  kind     : TxKind := .system
  frame    : CanFrame := {}
  queuedAt : Nat := 0
  maxAge   : Nat := 1
  /-- its start of frame has been sent (R340) -/
  started  : Bool := false
  /-- it leaves after the present attempt (R340) -/
  last     : Bool := false
  /-- it has been offered in this frame interval (R343) -/
  offered  : Bool := false
  deriving DecidableEq, Repr, Inhabited

/-- can.config MODE (R366). -/
inductive BusMode | off | raw | canopen
  deriving DecidableEq, Repr, Inhabited

/-- ERROR_STATE (R64). -/
inductive ErrorState | active | passive | busOff
  deriving DecidableEq, Repr, Inhabited

/-- `can.config` (R366). -/
structure CanCfg where
  mode         : BusMode := .off
  fdEnable     : Bool := false
  autoRecover  : Bool := false
  lonelyThrottle : Bool := false
  echoOwn      : Bool := false
  rxRing       : Nat := 0xFF
  nominalKbps  : Nat := 0
  dataKbps     : Nat := 0
  nomSp        : Nat := 0
  dataSp       : Nat := 0
  nodeId       : Nat := 0
  heartbeatMs  : Nat := 0
  syncFrames   : Nat := 0
  vinCobId     : Nat := 0
  voutCobId    : Nat := 0
  outRefreshMs : Nat := 0
  nodes        : BitVec 128 := 0
  deriving DecidableEq, Repr, Inhabited

/-- One CAN controller and its queue (10). -/
structure Bus where
  cfg         : CanCfg := {}
  /-- the configuration under which the frames of the present image completed (R331) -/
  imageCfg    : CanCfg := {}
  /-- own frames that completed in the present image's interval, for ECHO_OWN (R334) -/
  imageOwn    : List CanFrame := []
  /-- the owning slot is not configured: the bus stays idle (R24) -/
  idle        : Bool := false
  tec         : Nat := 0
  recv        : Nat := 0
  errorState  : ErrorState := .active
  /-- ERROR_STATE as the last latch showed it (R342) -/
  shownState  : ErrorState := .active
  /-- ERROR_STATE of the image before, which LINKS shows (R20, R514) -/
  servedState : ErrorState := .active
  integrating : Bool := false
  recovering  : Bool := false
  /-- frame in which the present recovery began (R344) -/
  recoverAt   : Nat := 0
  recoveryHeld : Bool := false
  lonely      : Bool := false
  /-- LONELY_BUS as the last latch showed it (R343) -/
  shownLonely : Bool := false
  /-- consecutive attempts ended by ACK errors (R343) -/
  ackRun      : Nat := 0
  queue       : List TxEntry := []
  /-- frames completed since the last latch (R332) -/
  received    : List CanFrame := []
  /-- own frames completed since the last latch, for ECHO_OWN (R334) -/
  echoed      : List CanFrame := []
  rxFrames    : Nat := 0
  txFrames    : Nat := 0
  txDiscarded : Nat := 0
  rxDropped   : Nat := 0
  rxSeq       : Nat := 0
  gapPending  : Bool := false
  busOffCount : Nat := 0
  /-- frames in which the bus entered bus-off, newest first (R345) -/
  busOffAt    : List Nat := []
  protocolExceptions : Nat := 0
  nodesLost   : BitVec 128 := 0
  /-- frame in which each listed node was last heard (R346) -/
  heard       : List (Nat × Nat) := []
  /-- CANopen frames waiting for a Calends and for room in the system share (R336, R346) -/
  waiting     : List CanFrame := []
  heartbeatAt : Nat := 0
  syncAt      : Nat := 0
  modeStarted : Bool := false
  deriving DecidableEq, Repr, Inhabited

/-- A CiA 417 map entry (R370). -/
structure MapEntry where
  bus      : Nat := 0
  enabled  : Bool := false
  kind     : Nat := 0
  function : Nat := 0
  lift     : Nat := 0
  floor    : Nat := 0
  door     : Nat := 0
  chan     : Nat := noRef
  /-- last primary value sent, none before the first send (R348) -/
  lastSent : Option Int := none
  sentAt   : Nat := 0
  deriving DecidableEq, Repr, Inhabited

/-- `cl.config` (R372). -/
structure LinkCfg where
  enabled : Bool := false
  amplitude : Bool := false
  autoneg : Bool := false
  leadUs  : Nat := 190
  mac     : List Byte := []
  deriving DecidableEq, Repr, Inhabited

/-- The module's side of a car link (R350–R363, R373). -/
structure CarLink where
  cfg       : LinkCfg := {}
  /-- the owning slot is not configured: the link stays idle (R24) -/
  idle      : Bool := false
  phyUp     : Bool := false
  linkDown  : Bool := false
  /-- LINK_DOWN and PHY_DIE_FAULT as the last latch showed them (R19, R64) -/
  shownDown : Bool := false
  /-- LINK_DOWN of the image before, which LINKS shows (R20, R514) -/
  servedDown : Bool := false
  phyFault  : Bool := false
  health    : Nat := 0
  ports     : Nat := 0
  seqEcho   : Nat := 0
  upSeq     : Nat := 0
  /-- L of R353 in ns; 10 µs until the first measurement -/
  delayNs   : Nat := 10000
  vSupply   : Nat := 0
  accepted  : Nat := 0
  missing   : Nat := 0
  late      : Nat := 0
  rejected  : Nat := 0
  /-- consecutive exchanges without an accepted uplink (R362) -/
  missRun   : Nat := 0
  /-- no uplink accepted since LINK_DOWN: any UP_SEQ is taken (R361) -/
  fresh     : Bool := true
  /-- the wrong CAR_ECHO of the last uplink (R361) -/
  echoWrong : Option Nat := none
  /-- SEQ of the latest downlinks, newest first, and the start of each after its Calends in ns (R351, R353) -/
  starts    : List (Nat × Nat) := []
  /-- frame of the first downlink under this configuration (R362) -/
  firstAt   : Option Nat := none
  /-- the accepted uplink awaiting the next latch -/
  pendingUp : Option Uplink := none
  /-- the downlink committed at the latest exchange (R352) -/
  downlink  : List Byte := []
  /-- its frame's destination and EtherType (R349) -/
  header    : List Byte := []
  /-- the stream's latest assembly not yet carried (R354) -/
  userArea  : Option (List Byte) := none
  deriving DecidableEq, Repr, Inhabited

/-- One power stage at the endpoint (R219–R221, R359, R360). -/
structure Stage where
  enabled : Bool := false
  /-- present angle -/
  angle   : Int := 0
  current : Nat := 0
  /-- angle change over one period, for interpolation and extrapolation (R220, R359) -/
  rate    : Int := 0
  overcurrent : Bool := false
  overtemp  : Bool := false
  undervolt : Bool := false
  fault     : Bool := false
  /-- the stage ignores ANGLE and CURRENT until CLEAR_FAULT after a link loss (R360) -/
  lossHeld  : Bool := false
  /-- exchange periods of the stage's stop ramp, and those of it that have passed (R359) -/
  rampFor   : Nat := 0
  rampAt    : Nat := 0
  deriving DecidableEq, Repr, Inhabited

/-- What the endpoint measures at a sample instant (R221, R355): four stage reports of measured quantities
(V_ALPHA, V_BETA, I_ALPHA, I_BETA, V_BUS, TEMP, ENC_VALID, ENC_COUNT), inputs, acceleration, health and user data. -/
structure EndpointIn where
  axes      : List (List Byte) := []
  inputs    : BitVec 32 := 0
  accel     : List Byte := []
  accelValid : Bool := false
  ready     : Bool := true
  ports     : Nat := 0
  downToUp  : Nat := 0
  vSupply   : Nat := 0
  temp      : Nat := 0
  user      : List Byte := []
  deriving DecidableEq, Repr, Inhabited

/-- The car-top endpoint (R357–R360). -/
structure Endpoint where
  started    : Bool := false
  lastSeq    : Nat := 0
  last       : List Byte := []
  car        : Nat := 0
  dupMismatch : Bool := false
  dupCount   : Nat := 0
  upSeq      : Nat := 0
  /-- consecutive exchange periods without an accepted downlink (R359) -/
  missed     : Nat := 0
  /-- a downlink has been accepted in the present period -/
  got        : Bool := false
  lossLatched : Bool := false
  outputs    : BitVec 32 := 0
  buzzer     : Bool := false
  stages     : Vector Stage 4 := Vector.replicate 4 {}
  sampleAt   : Nat := 0
  lossRampMs : Nat := 0
  port1Used  : Bool := false
  /-- the last uplink sent (R355) -/
  uplink     : List Byte := []
  deriving DecidableEq, Repr, Inhabited

end Sys2Proof.Machine
end

