-- ==== Sys2Proof/Machine/TypesHost.lean ====
section
/-! DEFINITION. Types of the host port, the mailbox, jobs, firmware copies, the recorder and the life cycle
(13, 14, 15, 16, 17). -/

namespace Sys2Proof.Machine

/-- A mailbox source: ring 0–63, or 64 + session − 1 (R84, R475, R498). -/
abbrev Source := Fin 72

/-- A mailbox command as its slots carry it (R468); the row of the table names its OPCODE. -/
structure Cmd where
  src      : Source := 0
  tag      : Nat := 0
  target   : Nat := 0xFF
  flags    : Nat := 0
  seq      : Nat := 0
  hdrCheck : Nat := 0
  payCheck : Nat := 0
  payload  : List Byte := []
  /-- bytes that LENGTH announces beyond the payload: none, but for a LENGTH above 16,368, which no buffer takes (R468, R470) -/
  cut      : Nat := 0
  deriving DecidableEq, Repr, Inhabited

/-- One staged edit (R84, R500). -/
structure Edit where
  chan     : Nat := 0
  version  : Nat := 0
  /-- a staged write: TYPE, WRITE_VALUE, BINDING, PARAMS, VALUE -/
  write    : Option (Nat × Bool × Nat × Nat × Nat) := none
  /-- a staged residency change: true promotes, false demotes -/
  residency : Option Bool := none
  /-- the VERSION that the edit's acceptance gave the entry (R86) -/
  gives    : Nat := 0
  deriving DecidableEq, Repr, Inhabited

/-- What the module keeps for each mailbox source (R84, R470, R485, R486). -/
structure SrcState where
  /-- the last consumed SEQUENCE, none while the expected value is open -/
  last     : Option Nat := none
  lastHdr  : Nat := 0
  lastPay  : Nat := 0
  /-- the STATUS of the last consumed command; OK while it is unanswered -/
  lastStatus : Nat := 0
  staged   : List Edit := []
  /-- the assembly buffer (R470) -/
  asm      : List Byte := []
  /-- frame in which the newest slot of the open chain arrived (R471) -/
  asmAt    : Nat := 0
  accepted : Nat := 0
  discarded : Nat := 0
  deriving DecidableEq, Repr, Inhabited

/-- USE of a ring (R460). -/
inductive RingUse | off | command | reply | dataIn | dataOut
  deriving DecidableEq, Repr, Inhabited

/-- One ring (R460–R466, R480). `data` is a sparse byte list, unlisted bytes zero. -/
structure Ring where
  use       : RingUse := .off
  slotsLog2 : Nat := 3
  sizeCode  : Nat := 0
  partner   : Nat := 0xFF
  prod      : Nat := 0
  cons      : Nat := 0
  badIndex  : Bool := false
  chainDiscarded : Bool := false
  irqOnFree : Bool := false
  data      : List (Nat × Byte) := []
  badEvents : Nat := 0
  deriving DecidableEq, Repr, Inhabited

/-- A reply, or what is left of one, waiting for free slots (R472); `job` marks a progress reply of that job. -/
structure Held where
  job   : Option Nat := none
  bytes : List Byte := []
  deriving DecidableEq, Repr, Inhabited

/-- One network session (R475, R476). -/
structure Session where
  isOpen   : Bool := false
  /-- how often a session has opened here: what it asked for is answered to itself alone (R475) -/
  serial   : Nat := 0
  /-- NET_KEY as it stood when the session opened (R557) -/
  key      : List Byte := []
  moduleNonce : List Byte := []
  hostNonce : List Byte := []
  rxIndex  : Nat := 0
  txIndex  : Nat := 0
  /-- sent and unacknowledged slots, oldest first -/
  unacked  : List (Nat × List Byte) := []
  resends  : Nat := 0
  resentAt : Nat := 0
  lastValid : Nat := 0
  deriving DecidableEq, Repr, Inhabited

/-- The network mailbox (R473–R477, R482). -/
structure NetCfg where
  ip      : List Byte := [0, 0, 0, 0]
  netmask : List Byte := [0, 0, 0, 0]
  gateway : List Byte := [0, 0, 0, 0]
  port    : Nat := 48800
  enabled : Bool := false
  deriving DecidableEq, Repr, Inhabited

/-- A datagram of R473 without its UDP envelope; KIND is the command's, DATA_LEN the data's length. -/
structure Datagram where
  magic   : Nat := 0x4758
  session : Nat := 0
  index   : Nat := 0
  data    : List Byte := []
  mac     : List Byte := []
  deriving DecidableEq, Repr, Inhabited

/-- What a running job works on (R52, R493). -/
inductive JobKind
  | almSave
  | posLearn (car : CarId)
  | canSend (bus : BusId)
  /-- REQUIRE_COSIGN as it stood when the job started (R574) -/
  | fwStage (cosign : Bool)
  | leap
  /-- RING, FIRST, the next INDEX, the last INDEX and SKIPPED so far (R547) -/
  | exportRecs (ring : RingId) (first next last skipped : Nat)
  | brakeTest (car : CarId)
  deriving DecidableEq, Repr, Inhabited

/-- A running job (R491, R493, R498). -/
structure Job where
  id       : Nat := 0
  kind     : JobKind := .leap
  opcode   : Nat := 0
  src      : Source := 0
  tag      : Nat := 0
  seq      : Nat := 0
  target   : Nat := 0xFF
  /-- the opening of its network session (R475, R493) -/
  serial   : Nat := 0
  quiet    : Bool := false
  fraction : Nat := 0
  /-- the fraction of the newest progress reply -/
  posted   : Nat := 0
  cycles   : Nat := 0
  deriving DecidableEq, Repr, Inhabited

/-- STATE of a firmware copy (R510). -/
inductive FwState | empty | staging | valid | invalid
  deriving DecidableEq, Repr, Inhabited

/-- One firmware copy (R508–R510). -/
structure FwCopy where
  state   : FwState := .empty
  signers : Nat := 0
  version : Nat := 0
  patch   : Nat := 0
  protocol : Nat := 0
  size    : Nat := 0
  deriving DecidableEq, Repr, Inhabited

end Sys2Proof.Machine
end

