-- ==== Sys2Proof/Machine/TypesDisp.lean ====
section
/-! DEFINITION. Stop lists, the dispatcher's configuration and the destination terminals (06). -/

namespace Sys2Proof.Machine

/-- DIRECTION of a car (R177). -/
inductive Dir | none | up | down
  deriving DecidableEq, Repr, Inhabited

/-- One listed entry of a stop list (R173); an entry with no origin and no TARGET is empty. -/
structure Stop where
  /-- bit 0 FRONT, bit 1 REAR -/
  sides   : Nat := 0
  /-- bit 0 CAR_CALL, 1 HALL_CALL, 2 REG_PICKUP, 3 REG_DROP, 4 HOST -/
  origins : Nat := 0
  target  : Bool := false
  pastEve : Bool := false
  /-- its HOST origin came with a direction of its own, not DIR_AUTO (R179) -/
  hostDir : Bool := false
  /-- in force since this Calends: it has not been tested yet (R147) -/
  fresh   : Bool := false
  deriving DecidableEq, Repr, Inhabited

/-- A `car.stop.add` whose reply waits for the test of R147 in the frame its stop is in force (R207). -/
structure StopAsk where
  key     : Nat := 0
  /-- it was served at once (R176) -/
  atOnce  : Bool := false
  /-- the stop was asked for by STOP_CMD of the car's image (R521) -/
  image   : Bool := false
  /-- DISPOSITION and stored direction, once the frame's test is made -/
  result  : Option (Nat × Nat) := none
  cmd     : Cmd := {}
  /-- the opening of the network session that asked (R475) -/
  serial  : Nat := 0
  deriving DecidableEq, Repr, Inhabited

/-- `disp.config` (R210). -/
structure DispCfg where
  mode     : Nat := 0
  hallAnnounce : Bool := false
  destCarCalls : Bool := false
  cars     : BitVec 8 := 0
  serviceCars : BitVec 8 := 0
  capacity : Vector Nat 8 := Vector.replicate 8 1
  retainMs : Nat := 0
  deriving DecidableEq, Repr, Inhabited

/-- A destination terminal (R194–R196, R212). -/
structure Terminal where
  enabled : Bool := false
  landing : Nat := 0
  side    : Nat := 0
  point   : Nat := noRef
  offset  : Nat := 0
  stream  : Nat := noRef
  /-- REQUEST_SEQ of its last request, none before the first value shown -/
  lastSeq : Option Nat := none
  /-- the registration of its latest request, by its channel and its ACK_STAMP, and the answer word as last computed
  (R196) -/
  reg     : Option (Nat × Nat) := none
  word    : Nat := 0
  deriving DecidableEq, Repr, Inhabited

/-- The dispatcher (R186–R198, R215). -/
structure Disp where
  cfg      : DispCfg := {}
  /-- W_WAIT, W_RIDE, W_DELAY, W_STOPS, W_LOAD, W_ENERGY, W_REVERSAL, W_ACCESSIBLE (R211) -/
  weights  : Vector Nat 8 := #v[16, 8, 8, 4, 4, 1, 4, 8]
  /-- configured terminals by INDEX -/
  terminals : List (Nat × Terminal) := []
  refusedFull : Nat := 0
  breaks   : Nat := 0
  lastAssign : Nat := 0
  peakAssign : Nat := 0
  deriving DecidableEq, Repr, Inhabited

end Sys2Proof.Machine
end

