-- ==== Sys2Proof/Machine/TypesRec.lean ====
section
/-! DEFINITION. Types of the recorder, the life cycle, what NAND and fuses keep, the start-up and the pair
(12, 16, 17, 18). -/

namespace Sys2Proof.Machine

/-- A recorder record (R535), CHECK computed when it is read. -/
structure Rec where
  seconds  : Nat := 0
  epoch    : Nat := 0
  cont     : Bool := false
  epochSat : Bool := false
  isLocal  : Bool := false
  member   : Bool := false
  fis      : Nat := 0
  code     : Nat := 0
  car      : Nat := 0xFF
  reps     : Nat := 1
  data     : List Byte := []
  lastDelta : Nat := 0
  deriving DecidableEq, Repr, Inhabited

/-- The recorder (R532–R540). `recs` is newest first; the next record takes INDEX `next`. -/
structure Recorder where
  recs    : List Rec := []
  next    : Nat := 0
  /-- the newest record can still be folded into (R537) -/
  isOpen  : Bool := false
  /-- closed records not yet in NAND, counted from the newest closed one (R539) -/
  unsaved : Nat := 0
  /-- the last NAND copy of the record that was open when records last reached NAND (R539) -/
  openCopy : Option Rec := none
  /-- frames for which NAND has been behind the records (R539) -/
  dirtyFor : Nat := 0
  /-- new records and dropped events of the present frame (R540) -/
  fresh   : Nat := 0
  dropped : Nat := 0
  lost    : Nat := 0
  folded  : Nat := 0
  deriving DecidableEq, Repr, Inhabited

/-- LIFE (R458, R549). -/
inductive Life | maker | issued | sealed | returned | retired
  deriving DecidableEq, Repr, Inhabited

/-- The stored pair configuration (R447). -/
structure PairCfg where
  paired     : Bool := false
  diodeBanks : BitVec 16 := 0
  coldWaitMs : Nat := 2000
  deriving DecidableEq, Repr, Inhabited

/-- What NAND holds of a firmware copy (R561): its image as staged, none for the one the module left Criorauri with, and
its SECURITY_VERSION and signed-message hash. -/
structure FwFacts where
  image    : Option (List Byte) := none
  security : Nat := 0
  hash     : List Byte := []
  deriving DecidableEq, Repr, Inhabited

/-- A staging transfer (R508): the members named, TOTAL, and the bytes received so far. -/
structure FwStaging where
  members : Nat := 0
  total   : Nat := 0
  bytes   : List Byte := []
  deriving DecidableEq, Repr, Inhabited

/-- What NAND keeps of a door axis: mass samples, friction, learned (R243, R590). -/
structure LearnedAxis where
  samples  : List Nat := []
  friction : Nat := 0
  learned  : Bool := false
  deriving DecidableEq, Repr, Inhabited

/-- A stored configuration record (R589): the command's OPCODE and payload. -/
structure CfgRec where
  opcode  : Nat := 0
  payload : List Byte := []
  deriving DecidableEq, Repr, Inhabited

/-- PAIR member states (R415). -/
inductive PairState | starting | holder | syncing | vigil | released
  deriving DecidableEq, Repr, Inhabited

/-- Why a part of a frame's delta ends VIGIL (R430, R433): it is not there by its deadline, it fails its check, or it is marked
OVERFLOW, and then whether a safeguard record was among those left out. -/
inductive VigilCause
  | late
  | check
  | overflow (safeguard : Bool)
  deriving DecidableEq, Repr, Inhabited

/-- A release record (R423). -/
structure ReleaseRec where
  cause  : Nat := 0
  /-- latched CAUSES of each car -/
  causes : Vector Nat 8 := Vector.replicate 8 0
  /-- it arrived after the commit guard of the leap frame -/
  late   : Bool := false
  deriving DecidableEq, Repr, Inhabited

/-- The DECISION part (R428): what the ending Calends commits on the ports: the field-lane commands bank by bank, the
16 bytes of each drive reference of the group, the payload of each PAIR_DUP stream instance, and each downlink. -/
structure DecisionPart where
  lanes  : Vector (BitVec 8) 16 := Vector.replicate 16 0
  refs   : List (CarId × List Byte) := []
  streams : List (Nat × List Byte) := []
  downlinks : List (CarId × List Byte) := []
  deriving DecidableEq, Repr, Inhabited

/-- What a module keeps for the pair (12). -/
structure Member where
  state       : PairState := .starting
  holdiActive : Bool := false
  /-- HOLDI has stayed silent since the first Calends (R421) -/
  holdiQuiet  : Bool := true
  vigilReady  : Bool := false
  eth1        : Bool := false
  partnerKnown : Bool := false
  /-- the partner's PAIR_SEL: true is B (R422) -/
  partnerB    : Bool := false
  /-- partner STATE code, 0xFF unknown (R449) -/
  partnerState : Nat := 0xFF
  selConflict : Bool := false
  contention  : Bool := false
  /-- frame in which the contention began (R422) -/
  contentionAt : Nat := 0
  offsetNs    : Int := 0
  lockRun     : Nat := 0
  unlockRun   : Nat := 0
  locked      : Bool := false
  gotImage    : Bool := false
  gotDecision : Bool := false
  gotState    : Bool := false
  /-- consecutive complete frames (R434) -/
  completeRun : Nat := 0
  resynced    : Bool := false
  progress    : Nat := 0
  /-- a former holder after a drill: current state, one complete delta suffices (R434) -/
  afterDrill  : Bool := false
  configMatch : Bool := true
  vigilFrames : Nat := 0
  vigilLosses : Nat := 0
  divergences : Nat := 0
  /-- a divergence event was recorded in this Octave (R432) -/
  divergedOctave : Bool := false
  /-- the standby's own results differ from the holder's in this frame, and in the frame before (R432) -/
  diverged    : Bool := false
  divergedPrior : Bool := false
  leaps       : Nat := 0
  lastLeapFrame : Nat := 0
  lastLeapCause : Nat := 0
  deltaLast   : Nat := 0
  deltaPeak   : Nat := 0
  heldAgeA    : Nat := 0xFFFFFFFF
  heldAgeB    : Nat := 0xFFFFFFFF
  /-- the release record queued on ETH1 (R423) -/
  queued      : Option ReleaseRec := none
  received    : Option ReleaseRec := none
  /-- frames since the leap frame while the first-frame readback is due (R443) -/
  sinceLeap   : Option Nat := none
  /-- cars locked out by the first-frame readback (R448) -/
  leapLocked  : Nat := 0
  /-- a cause to release HOLD has been decided on; the release waits for a host cycle to end (R423, R445) -/
  releaseDue  : Option Nat := none
  /-- the DECISION part at hand (R431) -/
  decision    : Option DecisionPart := none
  /-- the IMAGE and DECISION parts of the frame before arrived (R433) -/
  prior       : Bool := false
  /-- the STATE part of the frame before is still awaited (R428) -/
  stateDue    : Bool := false
  /-- ETH0 frames of the latest STATE part, to be sent at the next Calends (R435) -/
  ethDue      : List (List Byte) := []
  /-- the present frame's own commit, and its own phases, have run (R431) -/
  committed   : Bool := true
  ran         : Bool := true
  deriving DecidableEq, Repr, Inhabited

/-- How far the module has come up (R580–R588). -/
inductive Phase
  /-- rails not valid, or the module's own reset hold (R580) -/
  | off
  /-- rails and reference valid for 1 ms; RESET_N may still be low -/
  | powered
  /-- start-up steps done, the first Calends due (R585) -/
  | ready
  /-- control plane running -/
  | running
  /-- start-up stopped with a code of R586 -/
  | stopped (code : Nat)
  /-- scan-hold (R550) -/
  | scanHold
  /-- MODE 11 refused (R451) -/
  | refused
  /-- RETIRED: serves its commands without a control plane (R587) -/
  | retired
  deriving DecidableEq, Repr, Inhabited

/-- Straps and start-up results (R450, R414, R550, R584, R587). -/
structure Boot where
  phase   : Phase := .off
  mode    : Nat := 0
  pairSel : Bool := false
  scanEn  : Bool := false
  life    : Life := .issued
  /-- LAST_RESET (R576) -/
  lastReset : Nat := 0
  /-- 16 bytes (R555) -/
  challenge : List Byte := []
  running : Fin 2 := 0
  fallback : Bool := false
  fwVersion : Nat := 0xFFFF
  fwPatch  : Nat := 0
  fwProtocol : Nat := 0
  security : Nat := 0
  /-- pair configuration read in step 1 -/
  pair    : PairCfg := {}
  net     : NetCfg := {}
  /-- KIND of the lowest breached limit, 0 when the restored configuration fits (R591) -/
  heldKind : Nat := 0
  /-- next attestation leaf (R566) -/
  nextQ   : Nat := 0
  dramCorrected : Nat := 0
  cacheCorrected : Nat := 0
  scrubPasses : Nat := 0
  /-- boundary scan owns the pins (R550) -/
  extest  : Bool := false
  deriving DecidableEq, Repr, Inhabited

/-- What RESET_RELEASE samples at RESET_N and meets in the start-up steps (R450, R414, R550, R584, R586). -/
structure ReleaseIn where
  mode    : Nat := 0
  pairSel : Bool := false
  scanEn  : Bool := false
  /-- the power fails in step 1, when so many fuses of a pending transition's group are blown (R552, R574) -/
  cut     : Option Nat := none
  /-- words of NAND corrected while the start-up reads it (R572) -/
  nandCorrected : Nat := 0
  /-- a fuse field whose two copies differ (R572) -/
  fuseMismatch : Bool := false
  /-- copies whose NAND is unreadable -/
  badCopy : Vector Bool 2 := Vector.replicate 2 false
  /-- an uncorrectable word on the scrub's read-back -/
  scrubBad : Bool := false
  /-- banks that gave no valid report in step 4 -/
  noReport : BitVec 16 := 0
  /-- what step 5 finds damaged: places in the list of configuration records, Almanac channels, cars' learned data,
  kernel slots (R94, R590) -/
  badConfig : List Nat := []
  badEntries : List Nat := []
  badLearned : Vector Bool 8 := Vector.replicate 8 false
  badSlots : Vector Bool 32 := Vector.replicate 32 false
  deriving DecidableEq, Repr, Inhabited

/-- What began a reset (R581, R571, R572). -/
inductive ResetCause | pin | memory | watchdog
  deriving DecidableEq, Repr, Inhabited

/-- A TAP instruction (R549, R550): boundary-scan instructions that take the pins, that sample them, the engine
debugger, and private test modes. -/
inductive TapIr | idcode | bypass | extest | sample | debugHalt (slot : SlotId) | debugResume (slot : SlotId) | privateMode
  deriving DecidableEq, Repr, Inhabited

/-- What a staging job meets outside the image (R508): its NAND, and the partner's answer. -/
structure FwCheck where
  /-- the image could not be written to NAND -/
  writeFailed : Bool := false
  /-- the partner's RESULT code and its staged copy, when it was named -/
  partner   : Nat := 4
  partnerCopy : Nat := 0xFF
  deriving DecidableEq, Repr, Inhabited

end Sys2Proof.Machine
end

