-- ==== Sys2Proof/Machine/TypesAlm.lean ====
section
/-! DEFINITION. An Almanac entry (03). -/

namespace Sys2Proof.Machine

/-- What the frames have brought an entry since it took effect, evaluated or not (R68, R72, R615). -/
structure Gathered where
  /-- an Encoder's count change still to be added to COUNT (R615) -/
  change : Int := 0
  /-- a receive point has had a matching frame, the field of the latest one, and whether it was too short (R68) -/
  heard  : Bool := false
  field  : Nat := 0
  short  : Bool := false
  /-- frame of the latest matching frame, or of the latest change of a Timer's INPUT (R68, R72) -/
  at_    : Nat := 0
  /-- a Timer's INPUT as it was last read (R72) -/
  input  : Bool := false
  /-- frames since a Timer's last evaluation with a usable INPUT in which INPUT could not be read, and how many of them passed
  before its latest turn (R71, R72) -/
  lost   : Nat := 0
  lostAt : Nat := 0
  deriving DecidableEq, Repr, Inhabited

/-- One entry of the Almanac (R61, R63). The status bits that configuration and image give (SAFETY, CAR_VALID, CAR)
are computed when the entry is read. The default is a FREE entry. -/
structure Entry where
  type    : Nat := 0
  hot     : Bool := false
  sat     : Bool := false
  stale   : Bool := false
  fault   : Bool := true
  pending : Bool := false
  /-- BANK_STATUS as last evaluated (R64) -/
  bank    : Nat := 0
  binding : Nat := 0
  params  : Nat := 0
  value   : Nat := 0
  stamp   : Nat := 0
  version : Nat := 0
  /-- evaluated since it took effect (R71, R73) -/
  seen    : Bool := false
  /-- the remembered previous input state of a Timer or Counter (R71, R73) -/
  prev    : Bool := false
  /-- frame of effect, then a Timer's last evaluation frame (R72) -/
  mark    : Nat := 0
  /-- what the frames have brought between evaluations -/
  got     : Gathered := {}
  deriving DecidableEq, Repr, Inhabited

/-- A FREE entry as R61 gives it. -/
def Entry.free : Entry := {}

/-- The Almanac: entries that are not FREE in the form of R61, by channel ID. -/
abbrev Almanac := List (Nat × Entry)

end Sys2Proof.Machine
end

