-- ==== Sys2Proof/Machine/TypesPos.lean ====
section
/-! DEFINITION. What position tracking holds for a car (04). Positions are in 1/16 mm. -/

namespace Sys2Proof.Machine

/-- `pos.config` (R133). -/
structure PosCfg where
  aps         : Bool := false
  enc         : Bool := false
  autoCorrect : Bool := false
  autoLearn   : Bool := false
  corrUp      : Bool := false
  apsId       : Nat := 0
  apsLatency  : Nat := 0
  apsMaxAge   : Nat := 0
  apsReject   : Nat := 0
  apsWindow   : Nat := 0
  agree       : Nat := 0
  encScale    : Nat := 0
  slipLimit   : Nat := 0
  zoneWindow  : Nat := 0
  zoneHalf    : Nat := 0
  corrSpeed   : Nat := 0
  shaftMin    : Int := 0
  shaftMax    : Int := 0
  corrLimit   : Nat := 0
  landingsM1  : Nat := 0
  codeBits    : Nat := 0
  ratedLoad   : Nat := 0
  loadChan    : Nat := noRef
  codeBase    : Nat := noRef
  relevel     : Nat := 0
  dz          : Vector (Vector Nat 2) 2 := Vector.replicate 2 (Vector.replicate 2 noRef)
  term        : Vector Nat 2 := Vector.replicate 2 noRef
  deriving DecidableEq, Repr, Inhabited

/-- One landing side's record (R121). -/
structure LandingRec where
  written : Bool := false
  served  : Bool := false
  level   : Int := 0
  vane    : Int := 0
  /-- learned ZONE_LOW and ZONE_HIGH -/
  learned : Option (Int × Int) := none
  stretch : Vector Int 8 := Vector.replicate 8 0
  samples : Vector Nat 8 := Vector.replicate 8 0
  deriving DecidableEq, Repr, Inhabited

/-- What NAND keeps of a car's learned data (R590). -/
structure Learned where
  table    : List (Nat × LandingRec) := []
  scale    : Option Nat := none
  ever     : Bool := false
  axes     : Vector (Vector LearnedAxis 2) 2 := Vector.replicate 2 (Vector.replicate 2 {})
  deriving DecidableEq, Repr, Inhabited

/-- Placement states (R116–R119). -/
inductive Placement | unconfigured | unplaced | correcting | placed | learning
  deriving DecidableEq, Repr, Inhabited

/-- The settling sample awaited after a stop (R126). -/
structure Settle where
  at_     : Nat := 0
  pos     : Int := 0
  landing : Nat := 0
  side    : Nat := 0
  band    : Nat := 0
  good    : Bool := true
  deriving DecidableEq, Repr, Inhabited

/-- A zone edge found on a learning trip (R122): side, upper edge or lower, found going up, position. -/
structure LearnEdge where
  side  : Nat := 0
  upper : Bool := false
  up    : Bool := false
  pos   : Int := 0
  deriving DecidableEq, Repr, Inhabited

/-- A learning trip (R122–R124). -/
structure Learn where
  shaft : Bool := false
  scale : Bool := false
  speed : Nat := 0
  /-- the trip has turned at the top -/
  down  : Bool := false
  edges : List LearnEdge := []
  /-- APS position at the first point, for the scale (R123) -/
  apsFrom : Option Int := none
  /-- encoder count since the first point -/
  encNow  : Int := 0
  /-- the point farthest from the first: APS position, and encoder count there (R123) -/
  apsFar  : Int := 0
  encFar  : Int := 0
  /-- it has returned to the bottom terminal, or failed -/
  done  : Bool := false
  failed : Bool := false
  deriving DecidableEq, Repr, Inhabited

/-- Position tracking of a car (R95–R139). -/
structure Pos where
  cfg      : PosCfg := {}
  /-- landing records by landing × 2 + side -/
  table    : List (Nat × LandingRec) := []
  /-- learned ENC_SCALE (R123) -/
  scale    : Option Nat := none
  /-- the table was never learned (R124) -/
  everLearned : Bool := false
  state    : Placement := .unconfigured
  quality  : Nat := 0
  /-- highest fault code raised in the frame (R132, R136) -/
  fault    : Nat := 0
  /-- POSITION in 1/65,536 of a unit -/
  posQ     : Int := 0
  speed    : Int := 0
  accel    : Int := 0
  slip     : Int := 0
  landing  : Nat := 0
  zones    : Vector Bool 2 := Vector.replicate 2 false
  relevel  : Bool := false
  relevelRun : Nat := 0
  band     : Nat := 0
  bandGood : Bool := true
  apsRejects : Nat := 0
  faults   : Nat := 0
  /-- frames since the last used reading (R103, R136) -/
  apsAge   : Nat := 0
  peakError : Nat := 0
  /-- SEQ of the last accepted reading (R100) -/
  apsSeq   : Option Nat := none
  /-- the accepted reading that may begin a pair: SEQ and POSITION (R117, R131) -/
  apsPair  : Option (Nat × Int) := none
  /-- the last used reading carried forward to this Calends (R101, R115) -/
  apsFwd   : Option Int := none
  /-- the used reading before it, carried forward to its Calends, and that frame (R95) -/
  apsPrev  : Option (Int × Nat) := none
  /-- travel per frame in 1/65,536 unit, and SPEED, of the latest 16 frames, newest first (R95) -/
  rates    : List Int := []
  speeds   : List Int := []
  rejectRun : Nat := 0
  seqJumps : Nat := 0
  warning  : Bool := false
  /-- the APS is out of use after APS_LOST, the encoder after ENC_LINE (R130, R131) -/
  apsOut   : Bool := false
  encOut   : Bool := false
  /-- consecutive frames without a line fault (R131) -/
  encGood  : Nat := 0
  /-- sensor states of the previous image, side by side (R107) -/
  sensors  : Vector (Vector Bool 2) 2 := Vector.replicate 2 (Vector.replicate 2 false)
  /-- edge estimates awaiting their second sensor: positions on POSITION and on the encoder track (R107, R115) -/
  edges    : Vector (Vector (Option (Int × Int)) 2) 2 := Vector.replicate 2 (Vector.replicate 2 none)
  /-- the edge position on POSITION at which the zone now on was seen to turn on (R118) -/
  onEdge   : Vector (Option Int) 2 := Vector.replicate 2 none
  /-- the code read in the previous image, and the landing identified while the zone is on (R109, R118) -/
  codePrev : Option Nat := none
  zoneCode : Option Nat := none
  /-- correction still to be slewed in, in 1/65,536 of a unit (R112) -/
  pendingQ : Int := 0
  /-- encoder track in 1/65,536 of a unit (R115) -/
  trackQ   : Int := 0
  anchored : Bool := false
  /-- encoder travel of the correction run, in 1/65,536 of a unit (R120) -/
  corrTravel : Int := 0
  /-- SPEED has been other than 0 in the correction run (R120) -/
  corrMoved : Bool := false
  /-- no automatic correction until `pos.correct` (R120) -/
  corrBlocked : Bool := false
  settle   : Option Settle := none
  learn    : Option Learn := none
  /-- what a successful learning trip brings at the next Calends: the landing table and ENC_SCALE (R122, R123) -/
  learnt   : Option (Option (List (Nat × LandingRec)) × Option Nat) := none
  /-- fault codes raised in the present frame, as bits (R132) -/
  raised   : Nat := 0
  /-- a used reading and an edge fix in this frame (R136) -/
  usedAps  : Bool := false
  fixed    : Bool := false
  deriving DecidableEq, Repr, Inhabited

end Sys2Proof.Machine
end

