-- ==== Sys2Proof/Machine/TypesMotion.lean ====
section
/-! DEFINITION. What the motion planner holds for a car (05). -/

namespace Sys2Proof.Machine

/-- `prof.config` (R169). -/
structure ProfCfg where
  brs     : Bool := false
  refDup  : Bool := false
  refId   : Nat := 0
  statusId : Nat := 0
  maxAge  : Nat := 0
  followFrames : Nat := 0
  rated   : Nat := 0
  v       : Nat := 0
  a       : Nat := 0
  d       : Nat := 0
  j       : Nat := 0
  kp      : Nat := 0
  corrMax : Nat := 0
  followLimit : Nat := 0
  stopWindow : Nat := 0
  settleMs : Nat := 0
  enableMs : Nat := 0
  dwellMs : Nat := 0
  deriving DecidableEq, Repr, Inhabited

/-- The four limits in force: V_MAX, A_MAX, D_MAX, J_MAX (R141). -/
structure Limits where
  v : Nat := 0
  a : Nat := 0
  d : Nat := 0
  j : Nat := 0
  deriving DecidableEq, Repr, Inhabited

/-- A speed-cap zone (R156, R171). -/
structure CapZone where
  up   : Bool := false
  down : Bool := false
  low  : Int := 0
  high : Int := 0
  cap  : Nat := 0
  deriving DecidableEq, Repr, Inhabited

/-- PHASE (R158). -/
inductive TripPhase | idle | starting | running | settling | stopping
  deriving DecidableEq, Repr, Inhabited

/-- What a trip is for (R157). -/
inductive TripKind | normal | correction | learning | relevel
  deriving DecidableEq, Repr, Inhabited

/-- A reference state, exact (R140, R142): position in 1/(6·10^18) unit, speed in 1/(2·10^12) unit/s, acceleration in
1/10^6 unit/s², jerk in unit/s³; so that a whole number of µs at constant jerk stays whole. -/
structure Ref where
  s : Int := 0
  v : Int := 0
  a : Int := 0
  j : Int := 0
  deriving DecidableEq, Repr, Inhabited

/-- What happens to the state as a segment begins (R142): nothing, a held acceleration in the scale of `Ref`, or the end of
the plan, standing, at a target in 1/65,536 unit where it has one. -/
inductive Snap
  | free
  | hold (a : Int)
  | stand (target : Option Int)
  deriving DecidableEq, Repr, Inhabited

/-- A segment of a plan (R142): constant jerk in unit/s³ for a whole number of µs. -/
structure Seg where
  jerk : Int := 0
  us   : Nat := 0
  snap : Snap := .free
  deriving DecidableEq, Repr, Inhabited

/-- The last accepted drive status (R166). -/
structure DriveStatus where
  speed   : Int := 0
  seqEcho : Nat := 0
  flags   : Nat := 0
  code    : Nat := 0
  torque  : Int := 0
  dcBus   : Nat := 0
  deriving DecidableEq, Repr, Inhabited

/-- Profile and drive reference of a car (R140–R172). -/
structure Motion where
  present : Bool := false
  cfg     : ProfCfg := {}
  limits  : Limits := {}
  /-- reductions waiting for the brakes (R153), in the order V, A, D, J -/
  waiting : Vector (Option Nat) 4 := Vector.replicate 4 none
  zones   : Vector CapZone 16 := Vector.replicate 16 {}
  phase   : TripPhase := .idle
  /-- frame in which the phase began -/
  since   : Nat := 0
  kind    : TripKind := .normal
  /-- reference state at the next Calends -/
  ref     : Ref := {}
  /-- what is left of the plan after that Calends -/
  plan    : List Seg := []
  /-- what the plan in force was made for: goal, limits and caps (R140) -/
  planFor : Option (List Int) := none
  /-- the plan's end, in 1/65,536 unit -/
  target  : Option Int := none
  targetLanding : Option Nat := none
  targetSide : Nat := 0
  /-- the target is a committed stop (R147, R148) -/
  committed : Bool := false
  /-- position stop of R130, soonest stop of R150, stop without a landing of R152 -/
  posStop : Bool := false
  reversal : Bool := false
  nowhere : Bool := false
  /-- a zone caps the plan in force (R156, R172) -/
  capped  : Bool := false
  followErr : Int := 0
  /-- FOLLOW_ERR at internal resolution, 1/65,536 unit (R145) -/
  followErrQ : Int := 0
  followRun : Nat := 0
  settleRun : Nat := 0
  pastEve : Nat := 0
  fault   : Nat := 0
  status  : DriveStatus := {}
  /-- consecutive frames without an accepted status (R162), counted from the configuration on -/
  statusAge : Nat := 0
  /-- a status has been accepted under this configuration (R158) -/
  statusSeen : Bool := false
  refSeq  : Nat := 0
  /-- the reference committed at the latest Calends has completed (R165) -/
  refDone : Bool := true
  /-- the one committed at the Calends before it had completed by the latest Calends (R165) -/
  refWas  : Bool := true
  missed  : Nat := 0
  /-- the drive fault or the lost reference SG is told of (R162, R165) -/
  tellDrop : Nat := 0
  /-- frame of the brakes' confirmed set after a reversal stop (R151) -/
  dwellFrom : Option Nat := none
  /-- fault codes raised in the present frame, as bits (R132, R162) -/
  raised  : Nat := 0
  /-- the next trip waits until motion is permitted again (R268) -/
  waitPermit : Bool := false
  /-- the target was withdrawn in this frame (R150, R204) -/
  withdrawn : Bool := false
  /-- the run's direction without a target: a correction run (R119) -/
  down    : Bool := false
  /-- RUNNING has had its first commit (R140, R158) -/
  rolling : Bool := false
  /-- REF_POSITION of the frame before, in 1/(6·10^18) unit (R179) -/
  before  : Int := 0
  /-- sign of the last travel: −1, 0 or 1 (R179) -/
  lastDir : Int := 0
  deriving DecidableEq, Repr, Inhabited

end Sys2Proof.Machine
end

