-- ==== Sys2Proof/Machine/TypesDoor.lean ====
section
/-! DEFINITION. What the door drive holds for a door (07). Positions in 1/16 mm of the door coordinate (R218). -/

namespace Sys2Proof.Machine

/-- `door.config` (R247). -/
structure DoorCfg where
  slave      : Bool := false
  followEnc  : Bool := false
  advance    : Bool := false
  nudgeIgnore : Bool := false
  parkOpen   : Bool := false
  width      : Nat := 0
  vOpen      : Nat := 0
  vClose     : Nat := 0
  a          : Nat := 0
  d          : Nat := 0
  j          : Nat := 0
  dRev       : Nat := 0
  jRev       : Nat := 0
  nudgeSpeed : Nat := 0
  gearPos    : Nat := 0
  blend      : Nat := 0
  ratio1     : Nat := 0
  ratio2     : Nat := 0
  eMax       : Nat := 0
  eNudge     : Nat := 0
  fLimit     : Nat := 0
  forceTrip  : Nat := 0
  laTrip     : Nat := 0
  laFrames   : Nat := 0
  forceFrames : Nat := 0
  nudgeCount : Nat := 0
  endZone    : Nat := 0
  dwellMs    : Nat := 0
  accessMs   : Nat := 0
  refSpeed   : Nat := 0
  mNominal   : Vector Nat 2 := Vector.replicate 2 0
  curtain    : Nat := noRef
  edge       : Nat := noRef
  closedPoint : Nat := noRef
  gearLimit  : Nat := 0
  deriving DecidableEq, Repr, Inhabited

/-- `door.axis` (R248). -/
structure AxisCfg where
  pmsm     : Bool := false
  invert   : Bool := false
  encoder  : Bool := false
  linPerStep : Nat := 0
  rPhase   : Nat := 0
  lPhase   : Nat := 0
  ke       : Nat := 0
  kf       : Nat := 0
  iRun     : Nat := 0
  iHold    : Nat := 0
  encPerStep : Nat := 0
  deriving DecidableEq, Repr, Inhabited

/-- One door axis (R216, R219–R224, R230, R243). -/
structure Axis where
  configured : Bool := false
  cfg      : AxisCfg := {}
  /-- the last 16 accepted mass samples, newest first, 0.1 kg (R230) -/
  samples  : List Nat := []
  /-- learned closing friction, N -/
  friction : Nat := 0
  /-- learned values replace the nominal ones (R243) -/
  learned  : Bool := false
  /-- the offset that referencing fixes, in 1/1024 full step (R222) -/
  offset   : Int := 0
  /-- load angle δ and closing force F_CLOSE by the formulas of R223 from the latest 16 reports, newest first -/
  estimates : List (Int × Int) := []
  /-- δ and F_CLOSE as the latest report leaves them, smoothed (R223) -/
  delta    : Int := 0
  force    : Int := 0
  laRun    : Nat := 0
  forceRun : Nat := 0
  missRun  : Nat := 0
  /-- STATUS and ENC_COUNT of the latest report -/
  status   : Nat := 0
  encCount : Int := 0
  /-- ENC_COUNT where the coordinate was fixed last, that of the next report where none has come yet (R228) -/
  encZero  : Option Int := none
  /-- ANGLE there (R223) -/
  encBase  : Int := 0
  /-- the command record committed last: ANGLE, CURRENT, CONTROL (R219) -/
  angle    : Int := 0
  current  : Nat := 0
  control  : Nat := 0
  /-- ANGLE of the latest commits, newest first (R223) -/
  angles   : List Int := []
  /-- measured current and ENC_COUNT of the report before (R223) -/
  lastI    : Option (Int × Int) := none
  lastEnc  : Option Int := none
  deriving DecidableEq, Repr, Inhabited

/-- PHASE of a door (R253). -/
inductive DoorPhase | unreferenced | closed | opening | opened | closing | reversing | stopped | faulted
  deriving DecidableEq, Repr, Inhabited

/-- What a door's plan aims at (R226). -/
inductive DoorGoal | stay | toClosed | toOpen | standstill
  deriving DecidableEq, Repr, Inhabited

/-- One door (07). -/
structure Door where
  configured : Bool := false
  cfg      : DoorCfg := {}
  axes     : Vector Axis 2 := Vector.replicate 2 {}
  phase    : DoorPhase := .unreferenced
  goal     : DoorGoal := .stay
  ref      : Ref := {}
  plan     : List Seg := []
  /-- what the plan in force was made for: goal, limits (R225) -/
  planFor  : Option (List Int) := none
  /-- deceleration and jerk of the present plan, door or reversal values (R225, R232) -/
  decel    : Nat := 0
  jerk     : Nat := 0
  /-- referenced: the coordinate is fixed (R242) -/
  referenced : Bool := false
  /-- the axes carry ENABLE 1 -/
  enabled  : Bool := false
  /-- the load-angle estimate has become valid in this move (R224) -/
  laValid  : Bool := false
  /-- frame in which an obstruction last reversed the door (R245) -/
  revAt    : Option Nat := none
  /-- the master position that the slave follows, in 1/65,536 unit, with SLAVE_FOLLOWS_ENCODER (R228) -/
  followX  : Option Int := none
  /-- automatic opening and closing have stopped with the car's FAULTED or LOCKED_OUT (R245) -/
  autoOff  : Bool := false
  nudging  : Bool := false
  /-- the next close is a nudging close asked for by `door.close` (R238) -/
  nudgeAsk : Bool := false
  hold     : Bool := false
  /-- automatic opening and closing suspended by `door.stop` (R251) -/
  suspended : Bool := false
  /-- the dwell in force: time in ms, and the frame it runs from (none: held at its start, R240) -/
  dwellMs  : Option Nat := none
  dwellFrom : Option Nat := none
  /-- a registration served at the present stop carries ACCESSIBLE (R240) -/
  access   : Bool := false
  /-- frame of the first commit of the present move (R224) -/
  moveAt   : Nat := 0
  /-- the latest commit had door reference speed and acceleration 0 (R224) -/
  still    : Bool := true
  /-- a learnable move: no obstruction has interrupted it (R243) -/
  clean    : Bool := true
  refMove  : Bool := false
  /-- backing off after an obstructed reference move: the dwell before it closes again (R242) -/
  backOff  : Bool := false
  /-- where the back-off move ends, in 1/16 mm (R242) -/
  backTo   : Int := 0
  /-- frame in which the reference reached 0 (R241) -/
  zeroAt   : Option Nat := none
  notClosedRun : Nat := 0
  gearRun  : Nat := 0
  reversals : Nat := 0
  /-- reversals: REVERSAL_TOTAL shows them saturated, the image modulo 256 (R236, R520) -/
  total    : Nat := 0
  lastSource : Nat := 0
  learnMoves : Nat := 10
  fault    : Nat := 0
  /-- an accepted CLEAR_FAULT awaits its exchange, or the reports after it (R244): opening or closing to follow -/
  clearing : Option DoorGoal := none
  clearSent : Option Nat := none
  vCap     : Nat := 0
  /-- an event of this frame not yet acted on: obstruction sources that tripped, as bits 1–5 -/
  tripped  : Nat := 0
  clampNoted : Bool := false
  /-- sources that showed obstructed at the last exchange, as bits 1–5 (R245) -/
  tripPrev : Nat := 0
  /-- the door opens after the reference move under way (R242) -/
  openAfter : Bool := false
  deriving DecidableEq, Repr, Inhabited

end Sys2Proof.Machine
end

