-- ==== Sys2Proof/Machine/TypesSafe.lean ====
section
/-! DEFINITION. What the safety core holds for a car and for the module (08). -/

namespace Sys2Proof.Machine

/-- `safe.config` (R292). Lanes in the order of its table: 0 CHAIN_A, 1 CHAIN_B, 2 LOCK_FRONT_A, 3 LOCK_FRONT_B,
4 LOCK_REAR_A, 5 LOCK_REAR_B, 6 BRAKE_A, 7 BRAKE_B, 8 MIRROR_A, 9 MIRROR_B, 10 LIFT_A, 11 LIFT_B, 12 BRIDGE_A,
13 BRIDGE_B, 14 STO_A, 15 STO_B, 16 RESET. -/
structure SafeCfg where
  lift     : Bool := false
  bridge   : Bool := false
  sto      : Bool := false
  discChain : Nat := 1
  discLock  : Nat := 1
  discZone  : Nat := 1
  antiChain : Bool := false
  antiLock  : Vector Bool 2 := Vector.replicate 2 false
  antiZone  : Bool := false
  mirrorMs : Nat := 0
  liftMs   : Nat := 0
  pulseUs  : Nat := 0
  periodS  : Nat := 0
  xSpeed   : Nat := 0
  xFrames  : Nat := 0
  xPosition : Nat := 0
  encScale : Nat := 0
  lanes    : Vector Nat 17 := Vector.replicate 17 noRef
  deriving DecidableEq, Repr, Inhabited

/-- One end of `safe.terminal` (R293): TERM_LEVEL and its steps, DIST and LIMIT. -/
structure TermEnd where
  configured : Bool := false
  level : Int := 0
  steps : List (Nat × Nat) := []
  deriving DecidableEq, Repr, Inhabited

/-- The requests of R266, as CC0 made them in its latest frame. -/
structure Requests where
  run     : Bool := false
  lift    : Bool := false
  set     : Bool := false
  level   : Vector Bool 2 := Vector.replicate 2 false
  relevel : Vector Bool 2 := Vector.replicate 2 false
  test    : Vector Bool 2 := Vector.replicate 2 false
  deriving DecidableEq, Repr, Inhabited

/-- One safety output: 0 BRAKE_A, 1 BRAKE_B, 2 BRIDGE_A, 3 BRIDGE_B, 4 STO_A, 5 STO_B (R296). -/
structure SafeOut where
  /-- the command SG has computed in this frame, for the next Calends -/
  want    : Bool := false
  /-- the command committed at the latest Calends -/
  cmd     : Bool := false
  /-- the command committed at the Calends before it -/
  before  : Bool := false
  /-- frame of the Calends at which the command last changed (R275) -/
  changed : Option Nat := none
  /-- frame of the Calends since which it has been on, or of its last passed pulse (R284) -/
  onSince : Nat := 0
  /-- frame of the Calends whose refresh carried its last pulse (R284) -/
  pulsed  : Option Nat := none
  /-- a pulse's result is awaited -/
  testing : Bool := false
  deriving DecidableEq, Repr, Inhabited

/-- A brake test's run (R280). -/
structure BrakeTest where
  job    : Nat := 0
  sets   : Nat := 0
  torque : Int := 0
  testMs : Nat := 0
  limit  : Nat := 0
  /-- the set under test: 0 A, 1 B -/
  set    : Side := 0
  step   : Nat := 1
  since  : Nat := 0
  p0     : Option Int := none
  /-- results: 0 PASS, 1 FAIL, 2 ABORTED, 3 NOT_RUN -/
  result : Vector Nat 2 := Vector.replicate 2 3
  move   : Vector Nat 2 := Vector.replicate 2 0
  deriving DecidableEq, Repr, Inhabited

/-- The safeguard of a car (R254–R296). -/
structure Safe where
  configured : Bool := false
  cfg      : SafeCfg := {}
  terms    : Vector TermEnd 2 := Vector.replicate 2 {}
  /-- consecutive disagreeing images: chain, FRONT lock, REAR lock, FRONT zone, REAR zone (R261) -/
  disc     : Vector Nat 5 := Vector.replicate 5 0
  /-- SG_SPEED (R263) -/
  speed    : Int := 0
  /-- SG_POSITION in 1/65,536 unit -/
  posQ     : Int := 0
  anchored : Bool := false
  /-- SG's accepted APS readings: SEQ, position, end of frame in µs of module time (R263) -/
  readings : List (Nat × Int × Nat) := []
  /-- consecutive frames without a speed source (R264) -/
  noSource : Nat := 0
  xSpeedRun : Nat := 0
  xPosRun  : Nat := 0
  termRun  : Nat := 0
  /-- the lanes of INPUTS of `safe.status` as the present frame reads them (R259, R296), bits 0–10 -/
  inputs   : Nat := 0
  /-- judgements of the present frame's image -/
  chain    : Bool := false
  locks    : Vector Bool 2 := Vector.replicate 2 false
  zones    : Vector Bool 2 := Vector.replicate 2 false
  closedLocked : Bool := false
  permitted : Bool := false
  /-- requests as CC0 made them in its latest frame (R266) -/
  req      : Requests := {}
  runGranted : Bool := false
  /-- a granted LIFT is in force -/
  liftGranted : Bool := false
  /-- LIFT has been granted since the car last stood with both brakes set (R271) -/
  liftSince : Bool := false
  bridge   : Vector Bool 2 := Vector.replicate 2 false
  /-- the granted request is BRIDGE_LEVEL -/
  bridgeLevel : Vector Bool 2 := Vector.replicate 2 false
  outs     : Vector SafeOut 6 := Vector.replicate 6 {}
  /-- MIRROR and LIFT failures seen in this frame's image, not yet raised -/
  mirrorBad : Vector Bool 2 := Vector.replicate 2 false
  liftBad  : Vector Bool 2 := Vector.replicate 2 false
  /-- SG reports (R277) -/
  lifted   : Bool := false
  set      : Bool := true
  /-- STO follows a SET until the brakes are confirmed set (R274) -/
  stoHold  : Bool := false
  /-- a SET, or a drop, has ended the present RUN request -/
  ended    : Bool := false
  /-- an interlock stop or another drop is in force until the requests have ended -/
  dropped  : Bool := false
  /-- latched causes, bit n for code n (R285) -/
  causes   : Nat := 0
  lockId   : Nat := 0
  /-- causes raised in the present frame -/
  raised   : Nat := 0
  /-- findings of the images that have raised their cause and still stand (log 4): bits 0–4 pairs, 5 source, 6 cross-check,
  7 terminal speed, 8–9 mirrors, 10–11 lift switches, 12–17 readbacks, 18–33 banks -/
  told     : Nat := 0
  /-- frame of the Calends at which the lockout latched (R287) -/
  latchedAt : Nat := 0
  /-- pairs behind cause 2, as bits 0–4 -/
  pairs    : Nat := 0
  resetPrev : Bool := false
  /-- frame of the RESET lane's rise -/
  resetRise : Option Nat := none
  /-- frame of the accepted pulse: the open window (R287) -/
  window   : Option Nat := none
  /-- the latest window has closed by time (R287, R294) -/
  windowExpired : Bool := false
  /-- an accepted `safe.reset` awaiting the test of the next frame, with the frame of acceptance -/
  resetCmd : Option (Nat × Cmd × Nat) := none
  /-- a `safe.reset` whose test has found every cause cleared: the next Calends clears the lockout (R287) -/
  resetPass : Option (Cmd × Nat) := none
  /-- sets whose failed brake test bars service (R282), as bits -/
  needTest : Nat := 0
  test     : Option BrakeTest := none
  /-- frame of the latest dark-test pulse on any lane of the car (R284) -/
  pulseAt  : Option Nat := none
  deriving DecidableEq, Repr, Inhabited

/-- The safety core itself (R256, R286, R296). -/
structure SgModule where
  /-- module causes 16–21 latched, bit n for code n -/
  causes   : Nat := 0
  /-- the counter of LOCKOUT_ID -/
  counter  : Nat := 0
  /-- the ID that module causes of the present frame share -/
  frameId  : Option Nat := none
  eccCorrected : Nat := 0
  selfTestPasses : Nat := 0
  /-- the two counts at the end of the last complete frame (R296) -/
  shownEcc : Nat := 0
  shownPasses : Nat := 0
  deriving DecidableEq, Repr, Inhabited

end Sys2Proof.Machine
end

