-- ==== Sys2Proof/Machine/TypesCar.lean ====
section
/-! DEFINITION. What the module holds for each car (04–08, 15). -/

namespace Sys2Proof.Machine

/-- Service states of a car (R199). -/
inductive Service | outOfService | normal | independent | faulted | lockedOut
  deriving DecidableEq, Repr, Inhabited

/-- The UL-40 image of a car (15). -/
structure Ul40 where
  enabled  : Bool := false
  offsetMm : Int := 0
  ins      : Vector Nat 16 := Vector.replicate 16 noRef
  outs     : Vector Nat 16 := Vector.replicate 16 noRef
  /-- EVENTS bits [12:8] of register 0x00, as bits 0–4 (R519) -/
  events   : BitVec 5 := 0
  /-- events of the present frame -/
  raised   : BitVec 5 := 0
  posHi    : Nat := 0
  /-- last committed values of the WS registers (R517) -/
  dwell    : Nat := 0
  accessDwell : Nat := 0
  nudge    : Nat := 0
  doorCmd  : Nat := 0
  stopCmd  : Nat := 0
  serviceCmd : Nat := 0
  vmaxCmd  : Nat := 0
  outWord  : Nat := 0
  stopResult : Nat := 0
  stopLanding : Nat := 0
  /-- REV_FRONT and REV_REAR, modulo 256 (R520) -/
  revs     : Vector Nat 2 := Vector.replicate 2 0
  reads    : Nat := 0
  writes   : Nat := 0
  rejects  : Nat := 0
  lastReject : Nat := 0xFF
  deriving DecidableEq, Repr, Inhabited

/-- One car slot. -/
structure Car where
  configured : Bool := false
  service  : Service := .outOfService
  /-- the state was set by the module in this frame (R200) -/
  forced   : Bool := false
  /-- a departure from service whose stops, calls and registrations leave at the next Calends: the rung kept (R190) -/
  leaving  : Option Nat := none
  pos      : Pos := {}
  motion   : Motion := {}
  doors    : Vector Door 2 := Vector.replicate 2 {}
  safe     : Safe := {}
  /-- the stop list by landing × 2 + direction, DOWN 1 (R173) -/
  stops    : List (Nat × Stop) := []
  dir      : Dir := .none
  /-- entries served in this frame: they leave at the next Calends (R180) -/
  served   : List Nat := []
  /-- the keys and sides of stops served at once in this frame: not listed (R176) -/
  atOnce   : List (Nat × Nat) := []
  /-- the landing of the stop completed in this frame, the sides to open, and ACCESSIBLE (R180, R240) -/
  servedAt : Option (Nat × Nat × Bool) := none
  /-- the landing at which it completed a stop in the frame that the latest Calends ended (R203) -/
  stoppedAt : Option Nat := none
  /-- its assignments broke at the present Calends: no announcement to it comes into force there (R203) -/
  broke    : Bool := false
  asks     : List StopAsk := []
  ul40     : Ul40 := {}
  deriving DecidableEq, Repr, Inhabited

end Sys2Proof.Machine
end

