-- ==== Sys2Proof/Machine/TypesGroup.lean ====
section
/-! DEFINITION. The replicated state of the group, the ports' state, and what a pair's parts carry. -/

namespace Sys2Proof.Machine

/-- How a transmission attempt ended without acknowledgement (R338, R342). -/
inductive TxError
  | arbitration
  /-- no acknowledgement, and whether a dominant bit was seen while the error flag was sent -/
  | ack (dominant : Bool)
  /-- another error, and how often a further 8 dominant bits followed its error flag -/
  | other (more : Nat)
  deriving DecidableEq, Repr, Inhabited

/-- Something accepted in a frame that takes effect at the next Calends, in order of acceptance (R6, R28, R202). -/
inductive Deferred
  /-- a mailbox command's configuration or action -/
  | cmd (opcode : Nat) (payload : List Byte)
  /-- a commit's edits (R85) -/
  | edits (es : List Edit)
  /-- a RESULT written by a kernel or a virtual-input PDO (R348, R399): entry, primary value, and the frame of its STAMP -/
  | result (chan : Nat) (v stamp : Nat)
  /-- a registration's announcement to a car (R189) -/
  | announce (chan : Nat) (car : CarId)
  /-- a hall call's assignment, or its move to another car (R184, R185) -/
  | assign (chan : Nat) (car : CarId)
  /-- a registration that a terminal or `disp.register` opened: entry, ORIGIN, DESTINATION, sides and PROFILE, fixture -/
  | register (chan origin dest flags fixture : Nat)
  /-- a call registers (R183, R184) -/
  | call (chan : Nat)
  /-- a `can.send` and its job (R341, R367) -/
  | send (job : Nat) (payload : List Byte)
  /-- a `can.cancel` or a `bank.ack`, answered when it acts (R326, R368), and the opening of the session that asked -/
  | answer (opcode : Nat) (c : Cmd) (serial : Nat)
  /-- a write of an image WS register (R515) -/
  | image (car : CarId) (reg : Nat) (v : Nat)
  deriving DecidableEq, Repr, Inhabited

/-- The replicated state of the group (R26, R428). -/
structure Group where
  frame     : Nat := 0
  /-- running frame length (R35) -/
  frameLen  : FrameLen := .us250
  /-- measured load figures (R46, R55) -/
  measuredLast : Nat := 0
  measuredPeak : Nat := 0
  excursions   : Nat := 0
  /-- the latched overrun (R48, R50); an admission hold is 2^64 − 1 -/
  overrun   : Option Nat := none
  admissionHeld : Bool := false
  /-- the group is in the safe state of R48 -/
  safeState : Bool := false
  deferred  : List Deferred := []
  /-- the Almanac as the control plane works on it in this frame -/
  alm       : Almanac := []
  /-- the Almanac as the latest Calends committed it: what service-plane readers and the host see (R27, R79) -/
  shown     : Almanac := []
  cars      : Vector Car 8 := Vector.replicate 8 {}
  /-- the cars as the latest Calends committed them: what the host's status commands read (R27) -/
  shownCars : Vector Car 8 := Vector.replicate 8 {}
  /-- DISPATCH_CARS as the ended frame had it, for the images' HOST_DISPATCH (R514) -/
  shownDispatch : BitVec 8 := 0
  disp      : Disp := {}
  sg        : SgModule := {}
  /-- stream instances and user areas assembled in this frame (R74, R354): channel and payload -/
  streams   : List (Nat × List Byte) := []
  sources   : Vector SrcState 72 := Vector.replicate 72 {}
  jobs      : List Job := []
  /-- the module counter of R493: the JOB_ID last taken -/
  jobCounter : Nat := 0
  sessions  : Vector Session 8 := Vector.replicate 8 {}
  kernels   : Vector Kernel 32 := Vector.replicate 32 {}
  engines   : Vector Engine 4 := Vector.replicate 4 {}
  rides     : Vector Ride 8 := Vector.replicate 8 {}
  /-- operating seconds and Calends since they advanced (R532) -/
  seconds   : Nat := 0
  fis       : Nat := 0xFFFF
  /-- what a running `alm.save` is saving (R506) -/
  saving    : Almanac := []
  /-- frame in which the last complete save of this power cycle ended (R507) -/
  saveFrame : Nat := 0
  /-- a firmware image on its way in (R508) -/
  staging   : Option FwStaging := none
  deriving DecidableEq, Repr, Inhabited

/-- The ports (09, 10) and the images. -/
structure Io where
  image   : Image := {}
  banks   : Vector Bank 16 := Vector.replicate 16 {}
  buses   : Vector Bus 16 := Vector.replicate 16 { idle := true }
  map     : Vector MapEntry 512 := Vector.replicate 512 {}
  links   : Vector CarLink 8 := Vector.replicate 8 { idle := true }
  ends    : Vector Endpoint 8 := Vector.replicate 8 {}
  encFault : Vector Bool 8 := Vector.replicate 8 false
  /-- lines A and B of each encoder input: 0 both low, 1 A high, 2 both high, 3 B high (R615) -/
  encPhase : Vector (Fin 4) 8 := Vector.replicate 8 0
  deriving DecidableEq, Repr, Inhabited

/-- The host port (13). -/
structure HostPort where
  rings   : Vector Ring 64 := Vector.replicate 64 {}
  /-- doorbells rung and not yet served (R465) -/
  rung    : Vector Bool 64 := Vector.replicate 64 false
  /-- replies waiting for slots, by reply ring, then by session (R472) -/
  held    : Vector (List Held) 72 := Vector.replicate 72 []
  irqRing : BitVec 64 := 0
  irqMask : BitVec 64 := 2
  irqEvent : BitVec 6 := 0
  irqEventMask : BitVec 6 := 0
  pageRing : Vector Nat 4 := Vector.replicate 4 0
  pageSlot : Vector Nat 4 := Vector.replicate 4 0
  /-- FRAME1–FRAME3 as latched, the frame number's bits [63:16] (R458) -/
  frameLatch : Nat := 0
  busErrors : Nat := 0
  /-- BUS_ERRORS of `ul40.status` (R531) -/
  ul40BusErrors : Nat := 0
  /-- datagrams discarded since the last AUTH_FAILURES record, and the second of that record (R474) -/
  authFailures : Nat := 0
  authAt  : Option Nat := none
  /-- frames sent on ETH0 since the last Calends -/
  ethOut  : List (List Byte) := []
  deriving DecidableEq, Repr, Inhabited

/-- The IMAGE part (R428): lanes and encoders of the holder's image, its CAN counts and CRCs, UP_SEQ used. -/
structure ImagePart where
  image  : Image := {}
  counts : Vector Nat 16 := Vector.replicate 16 0
  crcs   : Vector Nat 16 := Vector.replicate 16 0
  upSeqs : Vector Nat 8 := Vector.replicate 8 0
  deriving DecidableEq, Repr, Inhabited

/-- The port configuration and the ring state that the STATE part's service-plane records bring up to date (R428, R434). -/
structure PortCfg where
  can    : Vector CanCfg 16 := Vector.replicate 16 {}
  map    : Vector MapEntry 512 := Vector.replicate 512 {}
  links  : Vector LinkCfg 8 := Vector.replicate 8 {}
  timers : Vector Nat 16 := Vector.replicate 16 4
  rings  : Vector Ring 64 := Vector.replicate 64 {}
  held   : Vector (List Held) 72 := Vector.replicate 72 []
  deriving DecidableEq, Repr, Inhabited

/-- What both members store for the next start-up (R434, R447, R589). -/
structure StoredCfg where
  frameLen : FrameLen := .us250
  pair     : PairCfg := {}
  net      : NetCfg := {}
  config   : List CfgRec := []
  saved    : Almanac := []
  kernels  : Vector (SlotState × List Byte) 32 := Vector.replicate 32 (.empty, [])
  deriving DecidableEq, Repr, Inhabited

/-- The STATE part (R428): the holder's replicated state after the frame, its service-plane records, its ETH0 frames. -/
structure StatePart where
  group   : Group := {}
  ports   : PortCfg := {}
  stored  : StoredCfg := {}
  records : List Rec := []
  eth     : List (List Byte) := []
  /-- the holder's running pair configuration, its pair protocol number and MODE (R428, R433, R452) -/
  pair    : PairCfg := {}
  protocol : Nat := 0
  mode    : Nat := 0
  /-- its LIFE, and the hashes of its CUSTOMER_ROOT and NET_KEY (R573) -/
  life    : Life := .issued
  keys    : List (List Byte) := []
  deriving DecidableEq, Repr, Inhabited

end Sys2Proof.Machine
end

