-- ==== Sys2Proof/Syntax.lean ====
section
/-! DEFINITION. The commands: one constructor per row of spec/opcode_table.json. -/

namespace Sys2Proof

open Sys2Proof.Machine

/-- One command or event of the block, with the data it carries. -/
inductive Instr
  /-- CALENDS (R38): The frame tick: the previous frame's outputs are committed, a new input image is latched, and the fixed control-plane phases of the new frame run. -/
  | calends (x : FrameIn)
  /-- CONTROL_PLANE_OVERRUN (R48): Staging not complete at the commit guard forces the group safe state at the ending Calends. -/
  | controlPlaneOverrun
  /-- SG_CYCLE (R256): SG's frame work not finished within 14,000 cycles latches module lockout SG_CYCLE. -/
  | sgCycle
  /-- SG_CLOCK (R256): The PLL output deviating beyond ±2% for 10 µs latches module lockout SG_CLOCK. -/
  | sgClock
  /-- SG_SUPPLY (R256): A rail leaving its ±5% window for 5 µs latches module lockout SG_SUPPLY. -/
  | sgSupply
  /-- APS_DISAGREE (R102): Consecutive APS rejections reaching APS_REJECT_LIMIT raise APS_DISAGREE. -/
  | apsDisagree (car : CarId)
  /-- APS_LOST (R103): Frames without a used APS reading exceeding APS_MAX_AGE raise APS_LOST. -/
  | apsLost (car : CarId)
  /-- CORRECTION_FAILED (R120): A correction run travelling CORRECTION_LIMIT without placement raises CORRECTION_FAILED. -/
  | correctionFailed (car : CarId)
  /-- AUTO_CORRECT (R119): With AUTO_CORRECT set, an UNPLACED car without a movement-forbidding fault starts a correction run by itself. -/
  | autoCorrect (car : CarId)
  /-- AUTO_LEARN (R124): With AUTO_LEARN set, an idle placed car never learned starts a shaft learning trip by itself. -/
  | autoLearn (car : CarId)
  /-- SHAFT_LEARN_COMPLETE (R122): A shaft or scale learning trip ends, and its new records take effect or the job fails. -/
  | shaftLearnComplete (car : CarId)
  /-- STRETCH_SAMPLE (R126): 500 ms after the brakes are commanded set, the settling is sampled into STRETCH. -/
  | stretchSample (car : CarId)
  /-- RELEVEL_DEMAND (R129): A levelling error above RELEVEL_THRESHOLD in 4 consecutive frames demands re-levelling. -/
  | relevelDemand (car : CarId)
  /-- FOLLOWING (R161): A following error above FOLLOW_LIMIT in FOLLOW_FRAMES consecutive frames raises FOLLOWING. -/
  | following (car : CarId)
  /-- REFERENCE_LOST (R165): The fourth consecutive missed drive reference makes SG drop both brake channels. -/
  | referenceLost (car : CarId)
  /-- DRIVE_STATUS_LOST (R162): No accepted drive status for more than DRIVE_STATUS_MAX_AGE frames raises DRIVE_STATUS_LOST. -/
  | driveStatusLost (car : CarId)
  /-- DRIVE_START_TIMEOUT (R158): READY not reported within ENABLE_MS abandons the trip with DRIVE_START_TIMEOUT. -/
  | driveStartTimeout (car : CarId)
  /-- SETTLE_TIMEOUT (R158): SETTLE_MS expiring in SETTLING requests the brakes with a SETTLE_TIMEOUT event. -/
  | settleTimeout (car : CarId)
  /-- STOP_COMPLETE (R180): A car's phase returns to IDLE at its target landing, the departure direction is set and the landing's entries are served. -/
  | stopComplete (car : CarId)
  /-- REVERSAL_DWELL_END (R151): After the brakes are set and REVERSAL_DWELL_MS passes, the trip to the new target is planned. -/
  | reversalDwellEnd (car : CarId)
  /-- DISPATCH_PASS (R197): The dispatcher chooses the lowest-cost car for a call or registration and commits the announcement. -/
  | dispatchPass (chan : Nat)
  /-- TERMINAL_REQUEST (R195): A new request word on a destination terminal's REQUEST_POINT is taken and acknowledged as a registration. -/
  | terminalRequest (terminal : Nat)
  /-- REG_RETAIN_EXPIRY (R192): A closed registration's entry is freed REG_RETAIN_MS after it closed. -/
  | regRetainExpiry (chan : Nat)
  /-- COLD_EVALUATION (R80): CC1 evaluates a cold entry after something it reads has changed. -/
  | coldEvaluation (chan : Nat)
  /-- ALMANAC_TIMER (R71): A Timer entry's ELAPSED reaches PRESET and its OUT changes. -/
  | almanacTimer (chan : Nat)
  /-- DOOR_OBSTRUCTION (R235): An armed obstruction source trips and the closing door reverses at the next commit. -/
  | doorObstruction (car : CarId) (side : Side)
  /-- DOOR_MOVE_COMPLETE (R241): A door's reference reaches OPEN or CLOSED and its phase changes. -/
  | doorMoveComplete (car : CarId) (side : Side)
  /-- DWELL_END (R240): An open door's dwell ends and the door closes unless parked open. -/
  | dwellEnd (car : CarId) (side : Side)
  /-- NOT_CLOSED (R241): CLOSED_POINT still 0 for 500 ms after the reference reached 0 raises NOT_CLOSED and re-opens the door. -/
  | notClosed (car : CarId) (side : Side)
  /-- GEAR_SYNC (R228): Master encoder and reference position differing beyond GEAR_SYNC_LIMIT in 2 reports raises GEAR_SYNC. -/
  | gearSync (car : CarId) (side : Side)
  /-- REPORT_LOST (R244): An axis report missing from more than 4 consecutive exchange images raises REPORT_LOST. -/
  | reportLost (car : CarId) (side : Side)
  /-- LOAD_ANGLE_VALID (R224): 120 ms after a move's first commit, the load-angle estimate becomes valid. -/
  | loadAngleValid (car : CarId) (side : Side)
  /-- REFERENCE_FAILED (R242): A reference move travelling OPEN_WIDTH plus 100 mm without CLOSED_POINT raises REFERENCE_FAILED. -/
  | referenceFailed (car : CarId) (side : Side)
  /-- DISCREPANCY (R261): A dual input disagreeing for N+1 consecutive images raises DISCREPANCY. -/
  | discrepancy (car : CarId) (pair : Fin 5)
  /-- SOURCE (R264): SG without a speed source for more than 4 frames with a brake lifted raises SOURCE. -/
  | source (car : CarId)
  /-- XCHECK (R265): SG speed or position differing from fusion beyond its limit in XCHECK_FRAMES comparisons raises XCHECK. -/
  | xcheck (car : CarId)
  /-- TERMINAL_SPEED (R272): A terminal step's LIMIT exceeded in 2 consecutive frames raises TERMINAL_SPEED. -/
  | terminalSpeed (car : CarId)
  /-- MIRROR (R275): A contactor mirror not following its channel within MIRROR_MS raises MIRROR. -/
  | mirror (car : CarId) (ch : Side)
  /-- LIFT (R276): A lift switch not following its channel within LIFT_MS raises LIFT. -/
  | lift (car : CarId) (ch : Side)
  /-- DARK_TEST (R284): A safety output due after DARK_PERIOD_S is pulsed off at an Octave start and its readback judged. -/
  | darkTest (car : CarId) (out : Fin 6) (passed : Bool)
  /-- BRAKE_TEST_TIMEOUT (R280): A brake-test step limit expires, aborting the test or ending TEST_MS with a result. -/
  | brakeTestTimeout (car : CarId)
  /-- RESET_WINDOW_EXPIRY (R287): A reset window closes 10 s after its pulse without an accepted reset. -/
  | resetWindowExpiry (car : CarId)
  /-- LANE_FILTER_CHANGE (R302): A lane's counter filter reaches its limit or 0 and the filtered state changes. -/
  | laneFilterChange (bank : BankId) (lane : LaneId) (samples : List Sample)
  /-- LANE_BROKEN (R306): The wire-break counter reaches its limit or 0 and BROKEN is set or cleared. -/
  | laneBroken (bank : BankId) (lane : LaneId) (samples : List Sample)
  /-- SUPPLY_LOW_CHANGE (R315): The field supply stays below or above the LOW threshold for the LOW time and SUPPLY_LOW changes. -/
  | supplyLowChange (bank : BankId) (runs : List SupplyRun)
  /-- SUPPLY_MISSING (R316): The field supply falling below the MISSING threshold turns every output off and latches SUPPLY_MISSING. -/
  | supplyMissing (x : SupplyTrace)
  /-- RELEASE_READY (R317): The supply stays good for the good time and the bank becomes ready for release. -/
  | releaseReady (x : SupplyTrace)
  /-- SAFE_TIMER_EXPIRY (R319): A bank without a valid refresh for SAFE_TIMER_MS puts its outputs in their safe states. -/
  | safeTimerExpiry (bank : BankId)
  /-- LANE_THERMAL_SHUTDOWN (R310): A lane junction reaching thermal shutdown turns off and latches THERMAL. -/
  | laneThermalShutdown (bank : BankId) (lane : LaneId)
  /-- THERMAL_HOLDOFF_END (R310): 1,000 ms after a thermal shutdown, a still-on command is applied again. -/
  | thermalHoldoffEnd (bank : BankId) (lane : LaneId)
  /-- BANK_REFRESH_RECEIVED (R321): A bank checks a received refresh and applies it or counts it as failed. -/
  | bankRefreshReceived (bank : BankId) (good : Bool)
  /-- BANK_LINK_FAULT (R321): Reports failing in two consecutive images set BANK_LINK_FAULT. -/
  | bankLinkFault (bank : BankId)
  /-- ENCODER_LINE_FAULT (R104): A differential magnitude below 150 mV or near-coincident A and B edges is reported as a line fault. -/
  | encoderLineFault (enc : Fin 8) (bad : Bool)
  /-- CAN_FRAME_RECEIVED (R332): A frame completing without error enters the next input image and, if configured, the receive ring. -/
  | canFrameReceived (bus : BusId) (f : CanFrame)
  /-- CAN_FRAME_SENT (R338): A transmitted frame is acknowledged and leaves the queue. -/
  | canFrameSent (bus : BusId) (timeUs : Nat)
  /-- CAN_TX_ERROR (R338): A frame loses arbitration or meets an error, stays pending and updates the error counters. -/
  | canTxError (bus : BusId) (cause : TxError)
  /-- CAN_FRAME_DISCARD (R339): A queued frame unstarted at its MAX_AGE Calends is discarded and counted. -/
  | canFrameDiscard (bus : BusId)
  /-- CAN_BUS_OFF (R344): The controller enters bus-off, holds its queue and starts or awaits recovery. -/
  | canBusOff (bus : BusId)
  /-- CAN_RECOVERY_COMPLETE (R344): 128 occurrences of 11 recessive bits return the bus to error-active. -/
  | canRecoveryComplete (bus : BusId)
  /-- CAN_INTEGRATED (R331): After can.config, the controller completes integration and resumes reception and transmission. -/
  | canIntegrated (bus : BusId)
  /-- PROTOCOL_EXCEPTION (R329): An unsupported FDF or CAN XL frame triggers the protocol exception event. -/
  | protocolException (bus : BusId)
  /-- HEARTBEAT_PRODUCER (R346): Every HEARTBEAT_MS the module sends its CANopen heartbeat. -/
  | heartbeatProducer (bus : BusId)
  /-- CANOPEN_SYNC (R346): Every SYNC_FRAMES frames the module sends SYNC. -/
  | canopenSync (bus : BusId)
  /-- CANOPEN_NODE_LOST (R346): A listed node silent for 2 × HEARTBEAT_MS is recorded as lost. -/
  | canopenNodeLost (bus : BusId) (node : Nat)
  /-- CANOPEN_OUT_REFRESH (R348): Every OUT_REFRESH_MS an output map entry with a non-zero value resends its PDO. -/
  | canopenOutRefresh (entry : Nat)
  /-- UPLINK_RECEIVED (R361): A car-link uplink is checked and accepted into the image or counted late. -/
  | uplinkReceived (link : CarId) (frame : LinkFrame) (atNs : Nat)
  /-- CL_PHY_LINK_CHANGE (R362): The car-link PHY reports link loss or return and LINK_DOWN changes. -/
  | clPhyLinkChange (link : CarId) (up : Bool)
  /-- CL_LINK_DOWN (R362): Eight consecutive exchanges without an accepted uplink set LINK_DOWN. -/
  | clLinkDown (link : CarId)
  /-- ENDPOINT_DOWNLINK (R357): The car-top endpoint accepts or discards a downlink and re-times its sample instant. -/
  | endpointDownlink (link : CarId) (port : Side) (frame : LinkFrame) (atNs : Nat)
  /-- ENDPOINT_SAMPLE (R358): At each sample instant the endpoint samples its inputs and sends its uplink. -/
  | endpointSample (link : CarId) (x : EndpointIn)
  /-- ENDPOINT_LOSS_LATCH (R359): Four periods without an accepted downlink latch LOSS_LATCHED and ramp the stages to rest. -/
  | endpointLossLatch (link : CarId)
  /-- ENDPOINT_DISABLE (R359): Four periods plus 1 s without a downlink set every stage to ENABLE 0. -/
  | endpointDisable (link : CarId)
  /-- KERNEL_CYCLES_STOP (R396): A customer kernel that has not issued END by its FRAME_CYCLES-th cycle is stopped. -/
  | kernelCyclesStop (eng : EngId)
  /-- BG_CYCLES (R385): A background task reaching BG_CYCLES before YIELD is stopped and suspended. -/
  | bgCycles (eng : EngId)
  /-- HANDLER_CYCLES (R400): A handler running HANDLER_CYCLES cycles without RETI suspends its kernel. -/
  | handlerCycles (eng : EngId)
  /-- ADD (R389): Adds two G registers and sets the flags. -/
  | add (eng : EngId) (gd ga gb : GReg)
  /-- SUB (R389): Subtracts two G registers and sets the flags. -/
  | sub (eng : EngId) (gd ga gb : GReg)
  /-- AND (R389): Bitwise AND of two G registers. -/
  | and (eng : EngId) (gd ga gb : GReg)
  /-- OR (R389): Bitwise OR of two G registers. -/
  | or (eng : EngId) (gd ga gb : GReg)
  /-- XOR (R389): Bitwise XOR of two G registers. -/
  | xor (eng : EngId) (gd ga gb : GReg)
  /-- ASR (R389): Arithmetic shift right by SHAMT. -/
  | asr (eng : EngId) (gd ga : GReg) (shamt : Fin 32)
  /-- LSR (R389): Logical shift right by SHAMT. -/
  | lsr (eng : EngId) (gd ga : GReg) (shamt : Fin 32)
  /-- SHL (R389): Shift left by SHAMT. -/
  | shl (eng : EngId) (gd ga : GReg) (shamt : Fin 32)
  /-- CMP (R389): Sets the flags of GA minus GB. -/
  | cmp (eng : EngId) (ga gb : GReg)
  /-- ABS (R389): Absolute value of a G register. -/
  | abs (eng : EngId) (gd ga : GReg)
  /-- NEG (R389): Negation of a G register. -/
  | neg (eng : EngId) (gd ga : GReg)
  /-- MOV (R389): Copies one G register to another. -/
  | mov (eng : EngId) (gd ga : GReg)
  /-- MOVS_READ (R389): Reads a special register into a G register. -/
  | movsRead (eng : EngId) (gd : GReg) (sreg : Fin 16)
  /-- MOVS_WRITE (R389): Writes a G register into a special register. -/
  | movsWrite (eng : EngId) (sreg : Fin 16) (ga : GReg)
  /-- CLSA (R389): Returns the headroom of an accumulator. -/
  | clsa (eng : EngId) (gd ga : GReg)
  /-- ADDI (R389): Adds an immediate to a G register. -/
  | addi (eng : EngId) (gd : GReg) (imm : BitVec 16)
  /-- MOVI (R389): Loads a sign-extended immediate. -/
  | movi (eng : EngId) (gd : GReg) (imm : BitVec 16)
  /-- MOVHI (R389): Writes an immediate into GD[31:16]. -/
  | movhi (eng : EngId) (gd : GReg) (imm : BitVec 16)
  /-- ANDI (R389): ANDs an immediate into a G register. -/
  | andi (eng : EngId) (gd : GReg) (imm : BitVec 16)
  /-- CMPI (R389): Compares a G register with an immediate. -/
  | cmpi (eng : EngId) (gd : GReg) (imm : BitVec 16)
  /-- LD (R389): Loads one or two data words into G under the addressing mode. -/
  | ld (eng : EngId) (f : MForm)
  /-- ST (R389): Stores one or two words, lowering BEXP with BX. -/
  | st (eng : EngId) (f : MForm)
  /-- MPY (R389): Sets an accumulator to a product, with parallel loads. -/
  | mpy (eng : EngId) (f : DForm)
  /-- MAC (R389): Adds a product to an accumulator, with parallel loads. -/
  | mac (eng : EngId) (f : DForm)
  /-- MSU (R389): Subtracts a product from an accumulator, with parallel loads. -/
  | msu (eng : EngId) (f : DForm)
  /-- CLRA (R389): Clears an accumulator, with parallel loads. -/
  | clra (eng : EngId) (f : DForm)
  /-- SAC (R392): Stores a rounded, shifted and fitted word from an accumulator to memory. -/
  | sac (eng : EngId) (f : AForm)
  /-- SACG (R392): Moves a fitted word from an accumulator into a G register. -/
  | sacg (eng : EngId) (f : AForm)
  /-- LDA (R389): Loads an accumulator with a shifted G register. -/
  | lda (eng : EngId) (f : AForm)
  /-- ADDA (R389): Adds a shifted G register to an accumulator. -/
  | adda (eng : EngId) (f : AForm)
  /-- SUBA (R389): Subtracts a shifted G register from an accumulator. -/
  | suba (eng : EngId) (f : AForm)
  /-- BEXPCLR (R389): Resets BEXP to 15. -/
  | bexpclr (eng : EngId)
  /-- B (R387): Conditional PC-relative branch after one delay slot. -/
  | b (eng : EngId) (cond : Fin 16) (imm : BitVec 16)
  /-- CALL (R387): Conditional call pushing the return stack, after one delay slot. -/
  | call (eng : EngId) (cond : Fin 16) (imm : BitVec 16)
  /-- RET (R387): Returns from a call after one delay slot. -/
  | ret (eng : EngId)
  /-- RETI (R382): Returns from interrupt level and swaps the register bank back. -/
  | reti (eng : EngId)
  /-- REP_IMM (R393): Repeats the next instruction an immediate number of times. -/
  | repImm (eng : EngId) (imm : BitVec 16)
  /-- REP_G (R393): Repeats the next instruction the number of times held in a G register. -/
  | repG (eng : EngId) (g : GReg)
  /-- END (R399): Ends the kernel's frame-level run and copies its outputs. -/
  | kend (eng : EngId)
  /-- YIELD (R385): Ends the background task for this Octave. -/
  | yield (eng : EngId)
  /-- NOP (R389): Does nothing for one cycle. -/
  | nop (eng : EngId)
  /-- RGET (R389): Copies the next input-ring slot into Y memory. -/
  | rget (eng : EngId) (g : GReg)
  /-- RPUT (R389): Posts bytes from Y memory to the output ring or sets RF. -/
  | rput (eng : EngId) (g : GReg)
  /-- HOLD_SILENCE (R420): HOLDI silent for the silence time lets a member in VIGIL acquire HOLD. -/
  | holdSilence
  /-- COLD_WAIT_EXPIRY (R421): Member B acquires HOLD after HOLDI stays silent for COLD_WAIT_MS from its first Calends. -/
  | coldWaitExpiry
  /-- CONTENTION (R422): A holder seeing HOLDI toggle for 2 µs is in contention, and member B releases. -/
  | contention
  /-- CONTENTION_TIMEOUT (R422): Member A not confirming its partner as B within 2 ms of contention releases to RELEASED. -/
  | contentionTimeout
  /-- HOLD_RELEASE (R423): A holder stops HOLDO at the end of any host cycle, stops transmitting and queues a release record. -/
  | holdRelease (cause : Nat)
  /-- RELEASE_RECORD (R443): The new holder receives the old holder's release record and applies its per-car causes if in time. -/
  | releaseRecord (r : ReleaseRec)
  /-- PAIR_IMAGE_PART (R431): The standby receives the IMAGE part and forms its input image. -/
  | pairImagePart (p : ImagePart)
  /-- PAIR_DECISION_PART (R431): The standby receives the DECISION part for its commit and comparison. -/
  | pairDecisionPart (p : DecisionPart)
  /-- PAIR_STATE_PART (R431): The standby receives the STATE part and overwrites its state. -/
  | pairStatePart (p : StatePart)
  /-- VIGIL_LOST (R433): A part missing its deadline, failing its check or marked OVERFLOW ends Vigil. -/
  | vigilLost (cause : VigilCause)
  /-- ETH1_LINK_LOSS (R446): Loss of ETH1 sends the standby to SYNCING while the holder keeps HOLD. -/
  | eth1LinkLoss (up : Bool)
  /-- CALENDS_LOCK (R427): The standby's Calends offset within ±200 ns for 64 frames locks it, or beyond for 4 frames unlocks it. -/
  | calendsLock (offsetNs : Int)
  /-- RESYNC_COMPLETE (R434): The resynchronisation copy and 64 complete frames put the member in VIGIL. -/
  | resyncComplete
  /-- SELF_CAUSE (R426): A member not holding that detects a cause of codes 17–33 in itself enters RELEASED. -/
  | selfCause (cause : Nat)
  /-- WATCHDOG (R424): CC0 or CC1 failing its watchdog within 2 frames releases HOLD or resets the module. -/
  | watchdog (cc : Fin 2)
  /-- MEMORY_UNCORRECTABLE (R571): An uncorrectable DRAM or channel-cache word releases HOLD or resets the module. -/
  | memoryUncorrectable (word : MemWord)
  /-- PATROL_SCRUB (R570): The patrol scrub reads and corrects every DRAM codeword within 8 hours. -/
  | patrolScrub (words : List MemWord)
  /-- RESET (R582): RESET_N falling or an internal reset stops the host port, HOLDO, transmission and bank drive. -/
  | reset (cause : ResetCause)
  /-- BROWN_OUT (R583): A rail below its brown-out threshold for 1 µs resets the module. -/
  | brownOut
  /-- POWER_GOOD (R580): All rails and the reference valid for 1 ms end the module's own reset hold. -/
  | powerGood
  /-- RESET_RELEASE (R584): Reset release runs the start-up steps from fuses to learned-data load. -/
  | resetRelease (x : ReleaseIn)
  /-- FIRST_CALENDS (R585): After step 5, the first Calends falls at a whole multiple of the frame length and the control plane starts. -/
  | firstCalends (holdiActive : Bool)
  /-- SECONDS_TICK (R532): SECONDS advances at every 4,000th or 8,000th Calends. -/
  | secondsTick
  /-- SECONDS_SAVE (R533): SECONDS is saved to NAND every 60 s. -/
  | secondsSave
  /-- RECORDER_FLUSH (R539): Closed records reach NAND, and the open record is copied, every 1,000 ms. -/
  | recorderFlush
  /-- RING_SERVICE (R465): After a doorbell or once per Octave, the module examines a ring's indices and copies published slots. -/
  | ringService (ring : RingId)
  /-- CHAIN_TIMEOUT (R471): A chain without a new slot for 1,000 ms is discarded with a malformed reply. -/
  | chainTimeout (src : Source)
  /-- REPLY_POST (R472): A held reply is posted slot by slot as the host frees reply slots. -/
  | replyPost (src : Source)
  /-- JOB_PROGRESS (R52): A job posts a progress reply each time its fraction advances by 16/256. -/
  | jobProgress (id fraction cycles : Nat)
  /-- HOST_STROBE_TIMEOUT (R456): A strobe still low 1,000 ns after cycle start ends the cycle and sets HOST_BUS. -/
  | hostStrobeTimeout
  /-- PROD_WRITE (R463): A host write of a ring's PROD index takes effect or sets BAD_INDEX. -/
  | prodWrite (ring : RingId) (v : BitVec 16)
  /-- CONS_WRITE (R463): A host write of a ring's CONS index takes effect or sets BAD_INDEX. -/
  | consWrite (ring : RingId) (v : BitVec 16)
  /-- DOORBELL (R465): A write to a doorbell asks the module to examine that ring in the next intercalary window. -/
  | doorbell (ring : RingId)
  /-- SLOT_WINDOW_WRITE (R464): A host write through a slot window stores ring bytes or sets BAD_INDEX. -/
  | slotWindowWrite (window : Fin 4) (offset : Nat) (v : BitVec 16)
  /-- FRAME0_READ (R458): A read of FRAME0 latches FRAME1 to FRAME3. -/
  | frame0Read
  /-- REGISTER_WRITE (R13): A host write to a register without a row of its own acts under its access code. -/
  | registerWrite (cs : BusSelect) (addr : Nat) (v : BitVec 16)
  /-- POS_LO_READ (R518): A read of POS_LO returns the low bits and latches POS_HI. -/
  | posLoRead (car : CarId)
  /-- EVENTS_READ (R519): A read of register 0x00 returns EVENTS and clears the bits it returned. -/
  | eventsRead (car : CarId)
  /-- DOOR_CMD_OPEN (R521): An OPEN bit of DOOR_CMD acts as door.open, with HOLD. -/
  | doorCmdOpen (car : CarId) (v : BitVec 16)
  /-- DOOR_CMD_CLOSE (R521): A CLOSE bit of DOOR_CMD acts as door.close, with NUDGE. -/
  | doorCmdClose (car : CarId) (v : BitVec 16)
  /-- DOOR_CMD_STOP (R521): A STOP bit of DOOR_CMD acts as door.stop. -/
  | doorCmdStop (car : CarId) (v : BitVec 16)
  /-- STOP_CMD_ADD (R521): STOP_CMD with OP ADD acts as car.stop.add with origin HOST. -/
  | stopCmdAdd (car : CarId) (v : BitVec 16)
  /-- STOP_CMD_REMOVE (R521): STOP_CMD with OP REMOVE acts as car.stop.remove of origin HOST. -/
  | stopCmdRemove (car : CarId) (v : BitVec 16)
  /-- STOP_CMD_CLEAR_TARGET (R187): STOP_CMD with OP CLEAR_TARGET withdraws the committed target. -/
  | stopCmdClearTarget (car : CarId) (v : BitVec 16)
  /-- SERVICE_CMD (R521): A write of SERVICE_CMD acts as car.service. -/
  | serviceCmd (car : CarId) (v : BitVec 16)
  /-- VMAX_CMD (R521): A write of VMAX_CMD acts as prof.limits with V_MAX alone. -/
  | vmaxCmd (car : CarId) (v : BitVec 16)
  /-- OUT_WORD (R521): A write of OUT_WORD sets the RESULT of each OUT channel. -/
  | outWord (car : CarId) (v : BitVec 16)
  /-- DWELL (R520): A write of DWELL sets DWELL_MS of both doors. -/
  | dwell (car : CarId) (v : BitVec 16)
  /-- ACCESS_DWELL (R520): A write of ACCESS_DWELL sets ACCESS_DWELL_MS of both doors. -/
  | accessDwell (car : CarId) (v : BitVec 16)
  /-- NUDGE_COUNT (R517): A write of NUDGE_COUNT sets the nudging count of both doors. -/
  | nudgeCount (car : CarId) (v : BitVec 16)
  /-- TAP_INSTRUCTION (R550): An IEEE 1149.1 instruction is obeyed as the life-cycle state and scan-hold allow. -/
  | tapInstruction (ir : TapIr)
  /-- NET_OPEN (R475): An OPEN datagram opens a network mailbox session or is refused with SESSION 0. -/
  | netOpen (d : Datagram)
  /-- NET_SLOT (R476): A SLOT datagram carrying the next expected INDEX is accepted and acknowledged. -/
  | netSlot (d : Datagram)
  /-- NET_ACK (R476): An ACK datagram acknowledges the module's sent slots. -/
  | netAck (d : Datagram)
  /-- NET_CLOSE (R475): A CLOSE datagram closes the session and discards its staged edits. -/
  | netClose (d : Datagram)
  /-- NET_RESEND (R476): Every 50 ms the module resends its oldest unacknowledged slot, closing after 20 resends. -/
  | netResend (session : CarId)
  /-- NET_SESSION_TIMEOUT (R475): A session without a valid datagram for 60 s closes. -/
  | netSessionTimeout (session : CarId)
  /-- NET_ARP_ICMP (R473): The network mailbox answers ARP and ICMP echo requests. -/
  | netArpIcmp (request : List Byte)
  /-- SYS_NOP (R496): Echoes its payload. -/
  | sysNop (c : Cmd)
  /-- SYS_INFO (R497): Returns module identification and counters. -/
  | sysInfo (c : Cmd)
  /-- SYS_JOBS (R498): Lists running jobs. -/
  | sysJobs (c : Cmd)
  /-- FRAME_STATUS (R55): Returns frame length, load and overrun figures. -/
  | frameStatus (c : Cmd)
  /-- FRAME_CONFIG (R56): Stores the frame length for the next start-up after admission at both lengths. -/
  | frameConfig (c : Cmd)
  /-- FRAME_RESUME (R57): Resumes outputs after a latched overrun or admission hold. -/
  | frameResume (c : Cmd)
  /-- ALM_WRITE (R499): Stages writes of Almanac entries for the source. -/
  | almWrite (c : Cmd)
  /-- ALM_PROMOTE (R502): Stages promotion of entries to hot. -/
  | almPromote (c : Cmd)
  /-- ALM_DEMOTE (R502): Stages demotion of hot entries. -/
  | almDemote (c : Cmd)
  /-- ALM_COMMIT (R503): Validates the staged set as one and commits it for the next Calends. -/
  | almCommit (c : Cmd)
  /-- ALM_DISCARD (R504): Empties the source's staged set. -/
  | almDiscard (c : Cmd)
  /-- ALM_READ (R505): Returns committed entries from FIRST. -/
  | almRead (c : Cmd)
  /-- ALM_SAVE (R506): Starts a job saving the Almanac to NAND. -/
  | almSave (c : Cmd)
  /-- ALM_SAVE_COMPLETE (R93): The save job completes and replaces the previous save. -/
  | almSaveComplete (interrupted : Bool)
  /-- ALM_STATUS (R507): Returns Almanac occupancy figures. -/
  | almStatus (c : Cmd)
  /-- POS_CONFIG (R133): Configures or removes a car's position tracking. -/
  | posConfig (c : Cmd)
  /-- POS_LANDING (R134): Sets one landing side's level and service. -/
  | posLanding (c : Cmd)
  /-- POS_TABLE (R135): Returns one landing-table record. -/
  | posTable (c : Cmd)
  /-- POS_STATUS (R136): Returns a car's position state. -/
  | posStatus (c : Cmd)
  /-- POS_LEARN (R137): Starts a shaft or scale learning job. -/
  | posLearn (c : Cmd)
  /-- POS_CORRECT (R138): Starts a correction run for an UNPLACED car. -/
  | posCorrect (c : Cmd)
  /-- POS_WIPE (R139): Wipes learned position data. -/
  | posWipe (c : Cmd)
  /-- PROF_CONFIG (R169): Configures a car's profile limits and drive interface. -/
  | profConfig (c : Cmd)
  /-- PROF_LIMITS (R170): Changes limits in force under R153. -/
  | profLimits (c : Cmd)
  /-- PROF_ZONE (R171): Sets a speed-cap zone. -/
  | profZone (c : Cmd)
  /-- PROF_STATUS (R172): Returns a car's reference state and phase. -/
  | profStatus (c : Cmd)
  /-- CAR_SERVICE (R206): Changes a car's service state. -/
  | carService (c : Cmd)
  /-- CAR_STOP_ADD (R207): Adds a HOST stop and replies with its disposition after the eve test. -/
  | carStopAdd (c : Cmd)
  /-- CAR_STOP_REMOVE (R208): Removes stop origins or withdraws the target. -/
  | carStopRemove (c : Cmd)
  /-- CAR_STOP_LIST (R209): Returns a car's stop list in sweep order. -/
  | carStopList (c : Cmd)
  /-- DISP_CONFIG (R210): Sets dispatch mode, cars and capacities. -/
  | dispConfig (c : Cmd)
  /-- DISP_WEIGHTS (R211): Sets the cost weights. -/
  | dispWeights (c : Cmd)
  /-- DISP_TERMINAL (R212): Configures a destination terminal. -/
  | dispTerminal (c : Cmd)
  /-- DISP_REGISTER (R213): Opens a registration from the host. -/
  | dispRegister (c : Cmd)
  /-- DISP_CANCEL (R214): Cancels an open registration. -/
  | dispCancel (c : Cmd)
  /-- DISP_STATUS (R215): Returns dispatch figures. -/
  | dispStatus (c : Cmd)
  /-- DOOR_CONFIG (R247): Configures a door. -/
  | doorConfig (c : Cmd)
  /-- DOOR_AXIS (R248): Configures a door axis. -/
  | doorAxis (c : Cmd)
  /-- DOOR_OPEN (R249): Opens doors of a car standing at a landing. -/
  | doorOpen (c : Cmd)
  /-- DOOR_CLOSE (R250): Closes doors, ending a hold or dwell. -/
  | doorClose (c : Cmd)
  /-- DOOR_STOP (R251): Stops doors at the soonest standstill. -/
  | doorStop (c : Cmd)
  /-- DOOR_LEARN (R252): Clears learned mass and friction and starts ten learning moves. -/
  | doorLearn (c : Cmd)
  /-- DOOR_STATUS (R253): Returns a door's state. -/
  | doorStatus (c : Cmd)
  /-- SAFE_CONFIG (R292): Configures a car's safety set and latches cause CONFIG. -/
  | safeConfig (c : Cmd)
  /-- SAFE_TERMINAL (R293): Sets terminal speed steps. -/
  | safeTerminal (c : Cmd)
  /-- SAFE_STATUS (R296): Returns a car's safeguard state. -/
  | safeStatus (c : Cmd)
  /-- SAFE_RESET (R294): Resets a lockout when pulse, window and cleared causes meet. -/
  | safeReset (c : Cmd)
  /-- SAFE_BRAKE_TEST (R295): Starts a brake test job. -/
  | safeBrakeTest (c : Cmd)
  /-- BANK_CONFIG (R325): Sets a bank's safe-state timer. -/
  | bankConfig (c : Cmd)
  /-- BANK_ACK (R326): Releases a bank's latched supply or timer condition. -/
  | bankAck (c : Cmd)
  /-- BANK_STATUS (R327): Returns a bank's status. -/
  | bankStatus (c : Cmd)
  /-- CAN_CONFIG (R366): Configures a CAN bus. -/
  | canConfig (c : Cmd)
  /-- CAN_SEND (R367): Queues a raw CAN frame as a job. -/
  | canSend (c : Cmd)
  /-- CAN_SEND_OUTCOME (R367): A raw send is sent, discarded or cancelled and its final reply posted. -/
  | canSendOutcome (id : Nat)
  /-- CAN_CANCEL (R368): Cancels a pending raw send. -/
  | canCancel (c : Cmd)
  /-- CAN_RECOVER (R369): Starts bus-off recovery and clears RECOVERY_HELD. -/
  | canRecover (c : Cmd)
  /-- CAN_MAP (R370): Sets a CiA 417 map entry. -/
  | canMap (c : Cmd)
  /-- CAN_STATUS (R371): Returns a bus's status. -/
  | canStatus (c : Cmd)
  /-- CL_CONFIG (R372): Configures a car link. -/
  | clConfig (c : Cmd)
  /-- CL_STATUS (R373): Returns a car link's status. -/
  | clStatus (c : Cmd)
  /-- SIG_LOAD (R409): Loads a kernel image chunk and admits the image at LAST. -/
  | sigLoad (c : Cmd)
  /-- SIG_START (R410): Makes a kernel slot RUNNING. -/
  | sigStart (c : Cmd)
  /-- SIG_STOP (R410): Returns a kernel slot to LOADED. -/
  | sigStop (c : Cmd)
  /-- SIG_UNLOAD (R410): Frees a kernel slot. -/
  | sigUnload (c : Cmd)
  /-- SIG_PARAM (R411): Writes a kernel's parameter block and raises MBX. -/
  | sigParam (c : Cmd)
  /-- SIG_STATUS (R412): Returns a kernel slot's figures. -/
  | sigStatus (c : Cmd)
  /-- SIG_SPECTRUM (R413): Returns the latest ride-quality spectrum. -/
  | sigSpectrum (c : Cmd)
  /-- PAIR_CONFIG (R447): Stores the pair configuration for the next start-up. -/
  | pairConfig (c : Cmd)
  /-- PAIR_LEAP (R448): Starts a leap drill job. -/
  | pairLeap (c : Cmd)
  /-- PAIR_STATUS (R449): Returns pair figures. -/
  | pairStatus (c : Cmd)
  /-- RING_CONFIG (R479): Configures a ring. -/
  | ringConfig (c : Cmd)
  /-- RING_STATUS (R480): Returns a ring's status. -/
  | ringStatus (c : Cmd)
  /-- RING_READ (R481): Returns and consumes DATA_OUT slots. -/
  | ringRead (c : Cmd)
  /-- NET_CONFIG (R482): Stores the network configuration. -/
  | netConfig (c : Cmd)
  /-- FW_STAGE (R508): Stages a firmware image chunk and checks it at LAST. -/
  | fwStage (c : Cmd)
  /-- FW_STAGE_COMPLETE (R508): The staging job's check ends and the copy is marked VALID or INVALID. -/
  | fwStageComplete (x : FwCheck)
  /-- FW_ACTIVATE (R509): Makes the staged copy preferred for the next start-up. -/
  | fwActivate (c : Cmd)
  /-- FW_STATUS (R510): Returns firmware copy records. -/
  | fwStatus (c : Cmd)
  /-- UL40_CONFIG (R530): Configures a car's UL-40 image. -/
  | ul40Config (c : Cmd)
  /-- UL40_STATUS (R531): Returns UL-40 image figures. -/
  | ul40Status (c : Cmd)
  /-- REC_READ (R545): Returns recorder records. -/
  | recRead (c : Cmd)
  /-- REC_ANNOTATE (R546): Writes an ANNOTATION record. -/
  | recAnnotate (c : Cmd)
  /-- REC_EXPORT (R547): Starts a job exporting records to a ring. -/
  | recExport (c : Cmd)
  /-- REC_STATUS (R548): Returns recorder figures. -/
  | recStatus (c : Cmd)
  /-- LIFE_ADVANCE (R575): Accepts a signed life-cycle transition for the next start-up. -/
  | lifeAdvance (c : Cmd)
  /-- LIFE_STATUS (R576): Returns life-cycle state and counters. -/
  | lifeStatus (c : Cmd)
  /-- LIFE_PROVISION (R577): Installs customer keys in ISSUED. -/
  | lifeProvision (c : Cmd)
  /-- LIFE_ATTEST (R578): Returns a signed attestation statement. -/
  | lifeAttest (c : Cmd)
  /-- LIFE_CERT (R579): Returns a certificate. -/
  | lifeCert (c : Cmd)
  /-- CAN_RX_ERROR (R342): A receive error on a bus raises REC under ISO 11898-1 and may change the bus's error state. -/
  | canRxError (bus : BusId) (e : RxError)
  /-- PAIR_SEL_REPORT (R422): A member receives its partner's report of PAIR_SEL and state over ETH1, which member A needs to keep holding in contention and which reveals a pair configuration mismatch. -/
  | pairSelReport (b : Bool) (x : SelReport)
  /-- POWER_STAGE_FAULT (R220): A door power stage detecting overcurrent, overtemperature or undervoltage reduces its phase currents to 0 and latches the cause in STATUS until CLEAR_FAULT. -/
  | powerStageFault (link : CarId) (stage : Fin 4) (cause : Fin 3)
  deriving DecidableEq, Repr, Inhabited

end Sys2Proof
end

