-- ==== Sys2Proof/Machine/Bits.lean ====
section
/-! DEFINITION. Byte order, sign extension, cyclic redundancy checks and saturating counters (R7–R12, R62). -/

namespace Sys2Proof.Machine

/-- The number that little-endian bytes hold (R9). -/
def leNat : List Byte → Nat
  | [] => 0
  | b :: r => b.toNat + 256 * leNat r

/-- `n` little-endian bytes of a number (R9). -/
def leBytes : Nat → Nat → List Byte
  | 0, _ => []
  | n + 1, v => BitVec.ofNat 8 v :: leBytes n (v / 256)

/-- `n` little-endian bytes of a signed number, in two's complement. -/
def leInt (n : Nat) (v : Int) : List Byte := leBytes n (v.emod (2 ^ (8 * n))).toNat

/-- The signed value of a `w`-bit field. -/
def signed (w : Nat) (v : Nat) : Int := if v < 2 ^ (w - 1) then (v : Int) else (v : Int) - 2 ^ w

/-- Bit `i` of a number. -/
def bit (v i : Nat) : Bool := v.testBit i

/-- Bits [hi:lo] of a number. -/
def bits (v hi lo : Nat) : Nat := v / 2 ^ lo % 2 ^ (hi + 1 - lo)

/-- A Bool as a bit at place `i`. -/
def flagBit (b : Bool) (i : Nat) : Nat := if b then 2 ^ i else 0

/-- One more, saturating at `w` bits (R12). -/
def satInc (w : Nat) (v : Nat) : Nat := if v + 1 < 2 ^ w then v + 1 else 2 ^ w - 1

/-- Add, saturating at `w` bits (R12). -/
def satAdd (w : Nat) (v d : Nat) : Nat := min (v + d) (2 ^ w - 1)

/-- Clamp to a range. -/
def clampInt (lo hi v : Int) : Int := max lo (min hi v)

/-- A value kept between a list's least and largest, 0 for an empty list. -/
def clampTo (l : List Int) (x : Int) : Int :=
  match l with
  | [] => 0
  | y :: r => clampInt (r.foldl min y) (r.foldl max y) x

/-- Round to nearest, ties away from zero, for a non-zero divisor. -/
def divNearest (a : Int) (d : Nat) : Int :=
  if 0 ≤ a then (2 * a + d) / (2 * d) else -((2 * -a + d) / (2 * d))

/-- `n` steps of CRC-16 on bit `15`, polynomial 0x1021. -/
def crc16Shift : Nat → BitVec 16 → BitVec 16
  | 0, c => c
  | n + 1, c => crc16Shift n (if c.msb then (c <<< 1) ^^^ 0x1021#16 else c <<< 1)

/-- CRC-16 of R62: polynomial 0x1021, initial 0xFFFF, no reflection, no final XOR. -/
def crc16From (c : BitVec 16) : List Byte → BitVec 16
  | [] => c
  | b :: r => crc16From (crc16Shift 8 (c ^^^ ((b.setWidth 16) <<< 8))) r

/-- CRC-16 of R62 over bytes in ascending order. -/
def crc16 (bs : List Byte) : Nat := (crc16From 0xFFFF#16 bs).toNat

/-- `n` steps of the reflected CRC-32. -/
def crc32Shift : Nat → BitVec 32 → BitVec 32
  | 0, c => c
  | n + 1, c => crc32Shift n (if c.getLsbD 0 then (c >>> 1) ^^^ 0xEDB88320#32 else c >>> 1)

/-- CRC-32 of IEEE 802.3, running value. -/
def crc32From (c : BitVec 32) : List Byte → BitVec 32
  | [] => c
  | b :: r => crc32From (crc32Shift 8 (c ^^^ b.setWidth 32)) r

/-- CRC-32 of IEEE 802.3 over bytes in ascending order (R357, R401). -/
def crc32 (bs : List Byte) : Nat := (crc32From 0xFFFFFFFF#32 bs ^^^ 0xFFFFFFFF#32).toNat

/-- Byte `i` of a payload, 0 where the payload ends before it. -/
def byteAt (p : List Byte) (i : Nat) : Nat := (p.getD i 0).toNat

/-- The `n`-byte little-endian field at offset `i`. -/
def fieldAt (p : List Byte) (i n : Nat) : Nat := leNat ((p.drop i).take n)

/-- The signed `n`-byte field at offset `i`. -/
def intAt (p : List Byte) (i n : Nat) : Int := signed (8 * n) (fieldAt p i n)

/-- All bytes of a range are zero. -/
def zeroAt (p : List Byte) (i n : Nat) : Bool := ((p.drop i).take n).all (· == 0)

/-- Zero bytes. -/
def zeros (n : Nat) : List Byte := List.replicate n 0

/-- One byte of a number. -/
def byte (v : Nat) : Byte := BitVec.ofNat 8 v

/-- A Fin from a Nat that is below `n`, none otherwise. -/
def finOf (n : Nat) (v : Nat) : Option (Fin n) := if h : v < n then some ⟨v, h⟩ else none

/-- Pad with zeros on the right to `n` bytes, or cut. -/
def padTo (n : Nat) (bs : List Byte) : List Byte := (bs ++ zeros (n - bs.length)).take n

end Sys2Proof.Machine
end

