-- ==== Sys2Proof/Machine/Mem.lean ====
section
/-! DEFINITION. Sparse memories in one canonical form: (address, value) pairs with strictly rising addresses and no
pair equal to what an unlisted address reads as. Used for ring bytes, engine memories and the Almanac. -/

namespace Sys2Proof.Machine

/-- Read address `a`; an unlisted address reads `d`. -/
def Mem.get {β : Type} (d : β) (m : List (Nat × β)) (a : Nat) : β :=
  match m with
  | [] => d
  | (b, v) :: r => if a = b then v else if a < b then d else Mem.get d r a

/-- Write `v` at `a`, keeping the canonical form. -/
def Mem.set {β : Type} [DecidableEq β] (d : β) (m : List (Nat × β)) (a : Nat) (v : β) : List (Nat × β) :=
  match m with
  | [] => if v = d then [] else [(a, v)]
  | (b, w) :: r =>
    if a = b then (if v = d then r else (a, v) :: r)
    else if a < b then (if v = d then (b, w) :: r else (a, v) :: (b, w) :: r)
    else (b, w) :: Mem.set d r a v

/-- Write consecutive values from `a` on. -/
def Mem.setAll {β : Type} [DecidableEq β] (d : β) (m : List (Nat × β)) (a : Nat) (vs : List β) : List (Nat × β) :=
  match vs with
  | [] => m
  | v :: r => Mem.setAll d (Mem.set d m a v) (a + 1) r

/-- Read `n` consecutive values from `a` on. -/
def Mem.slice {β : Type} (d : β) (m : List (Nat × β)) (a : Nat) (n : Nat) : List β :=
  (List.range n).map fun i => Mem.get d m (a + i)

/-- The canonical form, addresses at or above `lo`. -/
def Mem.wfFrom {β : Type} [DecidableEq β] (d : β) (lo : Nat) (m : List (Nat × β)) : Bool :=
  match m with
  | [] => true
  | (a, v) :: r => decide (lo ≤ a) && decide (v ≠ d) && Mem.wfFrom d (a + 1) r

/-- The canonical form. -/
def Mem.wf {β : Type} [DecidableEq β] (d : β) (m : List (Nat × β)) : Bool := Mem.wfFrom d 0 m

end Sys2Proof.Machine
end

