-- ==== Sys2Proof/Machine/State.lean ====
section
/-! DEFINITION. The state of the module: plain data, everything the spec gives it, and the queue of waiting commands. -/

namespace Sys2Proof.Machine

/-- Why a step stops with a fault: none of the spec's commands does. -/
inductive Fault
  /-- Raised by no command: the spec names no stop of the block. Safe. -/
  | none
  deriving DecidableEq, Repr

/-- Why a step has no meaning. -/
inductive Refusal
  /-- Raised by the arm of a command that has no meaning yet. Safe. -/
  | notModelled (mnemonic : String)
  /-- Raised by a TAP instruction of a private test mode: the spec does not say what it does (R549, R550). Safe. -/
  | privateTest
  deriving DecidableEq, Repr

/-- What survives a reset: fuses and NAND (17, 18). -/
structure Nv where
  /-- fuses read blown in groups 1–4 (R552) -/
  groups    : Vector Nat 4 := Vector.ofFn fun i => if i.val = 0 then 8 else 0
  /-- PENDING and WIPE_RECORDER of an accepted transition (R553, R556) -/
  pendingLife : Option (Life × Bool) := none
  customerRoot : Option (List Byte) := none
  netKey    : Option (List Byte) := none
  cosign    : Bool := false
  /-- the fuse counter (R563) -/
  security  : Nat := Config.fwSecurity
  /-- reservation fuses blown (R566) -/
  attestBlocks : Nat := 0
  nandCorrected : Nat := 0
  frameLen  : FrameLen := .us250
  pair      : PairCfg := {}
  net       : NetCfg := {}
  epoch     : Nat := 0
  secondsSaved : Nat := 0
  copies    : Vector FwCopy 2 := Vector.replicate 2 { state := .valid, signers := 1, version := Config.fwVersion, patch := Config.fwPatch, protocol := Config.pairProtocol }
  facts     : Vector FwFacts 2 := Vector.replicate 2 { security := Config.fwSecurity, hash := Config.fwHash }
  preferred : Fin 2 := 0
  /-- configuration records (R589), oldest first, one for each subject -/
  config    : List CfgRec := []
  /-- the last complete Almanac save (R93) -/
  saved     : Almanac := []
  /-- stored kernel images and slot states (R590) -/
  kernels   : Vector (SlotState × List Byte) 32 := Vector.replicate 32 (.empty, [])
  /-- learned data of each car (R590) -/
  learned   : Vector Learned 8 := Vector.replicate 8 {}
  /-- stored per-car lockout causes (R590) -/
  causes    : Vector Nat 8 := Vector.replicate 8 0
  recorder  : Recorder := {}
  deriving DecidableEq, Repr, Inhabited

/-- The module. -/
structure State where
  /-- commands waiting, first in first out -/
  pending : List Instr := []
  /-- the model's own counter of free values drawn (log 3) -/
  free    : Nat := 0
  nv      : Nv := {}
  boot    : Boot := {}
  mem     : Member := {}
  grp     : Group := {}
  io      : Io := {}
  host    : HostPort := {}
  deriving DecidableEq, Repr, Inhabited

/-- The module at power-on, in its own reset hold (R580), as it left Criorauri (R2). -/
def State.reset : State := {}

end Sys2Proof.Machine
end

