-- ==== Sys2Proof/Machine/Parts.lean ====
section
/-! DEFINITION. The parts of the state, and what a command may change: it acts within the parts that its meaning names,
and every other part stands by construction. -/

namespace Sys2Proof.Machine

/-- The parts into which every field of the state but the queue falls. -/
inductive Part
  /-- the model's counter of free values (log 3) -/
  | free
  /-- the frame number -/
  | number
  /-- frame length, load figures, the overrun and the group safe state -/
  | frame
  /-- SECONDS and the place in the second -/
  | clock
  /-- the Almanac as the control plane works on it -/
  | alm
  /-- the Almanac and the cars as the latest Calends committed them -/
  | shown
  /-- the eight cars: position, profile, doors, safeguard, stops, UL-40 image -/
  | cars
  /-- the dispatcher and its registrations -/
  | disp
  /-- the safety core -/
  | sg
  /-- what is accepted and takes effect at the next Calends -/
  | deferred
  /-- stream instances assembled in the frame -/
  | streams
  /-- mailbox sources: SEQUENCE, staged edits, chains -/
  | sources
  /-- the jobs and their counter -/
  | jobs
  /-- the network sessions -/
  | sessions
  /-- the kernel slots -/
  | kernels
  /-- the signal engines with their memories -/
  | engines
  /-- ride-quality windows and spectra -/
  | rides
  /-- an Almanac save under way, and the last one's frame -/
  | saves
  /-- a firmware image on its way in -/
  | staging
  /-- the pair member's own state, HOLD among it -/
  | member
  /-- phase, straps, life-cycle state and firmware in force -/
  | straps
  /-- challenge, correction counts, boundary scan -/
  | counts
  /-- the attestation leaves: reservation fuses and the next leaf -/
  | leaf
  /-- the field banks and lanes -/
  | banks
  /-- the input image and the encoder receivers -/
  | image
  /-- the CAN controllers and their queues -/
  | buses
  /-- the CiA 417 map -/
  | map
  /-- the module's side of the car links -/
  | links
  /-- the car-top endpoints -/
  | ends
  /-- rings, doorbells, replies that wait -/
  | rings
  /-- interrupt bits and masks -/
  | irq
  /-- slot-window pages, the latched frame number, bus errors -/
  | window
  /-- ETH0 and authentication failures -/
  | net
  /-- the event recorder -/
  | recorder
  /-- the life-cycle fuses and the fused security version -/
  | fuses
  /-- an accepted transition and the customer keys -/
  | life
  /-- the firmware copies -/
  | firmware
  /-- stored configuration, Almanac save, kernels, learned data, lockout causes -/
  | stored
  /-- EPOCH and NAND_CORRECTED -/
  | epoch
  /-- the saved SECONDS -/
  | saveTime
  deriving DecidableEq, Repr

/-- `u` with one part of `t`. -/
def State.take (t : State) (p : Part) (u : State) : State :=
  match p with
  | .free => { u with free := t.free }
  | .number => { u with grp := { u.grp with frame := t.grp.frame } }
  | .frame => { u with grp := { u.grp with
      frameLen := t.grp.frameLen, measuredLast := t.grp.measuredLast,
      measuredPeak := t.grp.measuredPeak, excursions := t.grp.excursions, overrun := t.grp.overrun,
      admissionHeld := t.grp.admissionHeld, safeState := t.grp.safeState } }
  | .clock => { u with grp := { u.grp with seconds := t.grp.seconds, fis := t.grp.fis } }
  | .alm => { u with grp := { u.grp with alm := t.grp.alm } }
  | .shown => { u with grp := { u.grp with shown := t.grp.shown, shownCars := t.grp.shownCars, shownDispatch := t.grp.shownDispatch } }
  | .cars => { u with grp := { u.grp with cars := t.grp.cars } }
  | .disp => { u with grp := { u.grp with disp := t.grp.disp } }
  | .sg => { u with grp := { u.grp with sg := t.grp.sg } }
  | .deferred => { u with grp := { u.grp with deferred := t.grp.deferred } }
  | .streams => { u with grp := { u.grp with streams := t.grp.streams } }
  | .sources => { u with grp := { u.grp with sources := t.grp.sources } }
  | .jobs => { u with grp := { u.grp with jobs := t.grp.jobs, jobCounter := t.grp.jobCounter } }
  | .sessions => { u with grp := { u.grp with sessions := t.grp.sessions } }
  | .kernels => { u with grp := { u.grp with kernels := t.grp.kernels } }
  | .engines => { u with grp := { u.grp with engines := t.grp.engines } }
  | .rides => { u with grp := { u.grp with rides := t.grp.rides } }
  | .saves => { u with grp := { u.grp with saving := t.grp.saving, saveFrame := t.grp.saveFrame } }
  | .staging => { u with grp := { u.grp with staging := t.grp.staging } }
  | .member => { u with mem := t.mem }
  | .straps => { u with boot := { u.boot with
      phase := t.boot.phase, mode := t.boot.mode, pairSel := t.boot.pairSel, scanEn := t.boot.scanEn, life := t.boot.life,
      lastReset := t.boot.lastReset, running := t.boot.running, fallback := t.boot.fallback,
      fwVersion := t.boot.fwVersion, fwPatch := t.boot.fwPatch, fwProtocol := t.boot.fwProtocol,
      security := t.boot.security, pair := t.boot.pair, net := t.boot.net, heldKind := t.boot.heldKind } }
  | .counts => { u with boot := { u.boot with
      challenge := t.boot.challenge, dramCorrected := t.boot.dramCorrected,
      cacheCorrected := t.boot.cacheCorrected, scrubPasses := t.boot.scrubPasses, extest := t.boot.extest } }
  | .leaf => { u with
      boot := { u.boot with nextQ := t.boot.nextQ }, nv := { u.nv with attestBlocks := t.nv.attestBlocks } }
  | .banks => { u with io := { u.io with banks := t.io.banks } }
  | .image => { u with io := { u.io with image := t.io.image, encFault := t.io.encFault, encPhase := t.io.encPhase } }
  | .buses => { u with io := { u.io with buses := t.io.buses } }
  | .map => { u with io := { u.io with map := t.io.map } }
  | .links => { u with io := { u.io with links := t.io.links } }
  | .ends => { u with io := { u.io with ends := t.io.ends } }
  | .rings => { u with host := { u.host with
      rings := t.host.rings, rung := t.host.rung, held := t.host.held } }
  | .irq => { u with host := { u.host with
      irqRing := t.host.irqRing, irqMask := t.host.irqMask, irqEvent := t.host.irqEvent,
      irqEventMask := t.host.irqEventMask } }
  | .window => { u with host := { u.host with
      pageRing := t.host.pageRing, pageSlot := t.host.pageSlot, frameLatch := t.host.frameLatch,
      busErrors := t.host.busErrors, ul40BusErrors := t.host.ul40BusErrors } }
  | .net => { u with host := { u.host with
      authFailures := t.host.authFailures, authAt := t.host.authAt, ethOut := t.host.ethOut } }
  | .recorder => { u with nv := { u.nv with recorder := t.nv.recorder } }
  | .fuses => { u with nv := { u.nv with groups := t.nv.groups, security := t.nv.security } }
  | .life => { u with nv := { u.nv with
      pendingLife := t.nv.pendingLife, customerRoot := t.nv.customerRoot, netKey := t.nv.netKey,
      cosign := t.nv.cosign } }
  | .firmware => { u with nv := { u.nv with
      copies := t.nv.copies, facts := t.nv.facts, preferred := t.nv.preferred } }
  | .stored => { u with nv := { u.nv with
      frameLen := t.nv.frameLen, pair := t.nv.pair, net := t.nv.net,
      config := t.nv.config, saved := t.nv.saved, kernels := t.nv.kernels, learned := t.nv.learned,
      causes := t.nv.causes } }
  | .epoch => { u with nv := { u.nv with epoch := t.nv.epoch, nandCorrected := t.nv.nandCorrected } }
  | .saveTime => { u with nv := { u.nv with secondsSaved := t.nv.secondsSaved } }

/-- What a command does within the parts it may change: the rest of the state, and the queue, stand. -/
def State.within (s : State) (ps : List Part) (t : State) : State := ps.foldr t.take s

/-- A part is the same in two states. -/
def Part.same (p : Part) (s t : State) : Prop :=
  match p with
  | .free => s.free = t.free
  | .number => s.grp.frame = t.grp.frame
  | .frame => s.grp.frameLen = t.grp.frameLen ∧ s.grp.measuredLast = t.grp.measuredLast
      ∧ s.grp.measuredPeak = t.grp.measuredPeak ∧ s.grp.excursions = t.grp.excursions ∧ s.grp.overrun = t.grp.overrun
      ∧ s.grp.admissionHeld = t.grp.admissionHeld ∧ s.grp.safeState = t.grp.safeState
  | .clock => s.grp.seconds = t.grp.seconds ∧ s.grp.fis = t.grp.fis
  | .alm => s.grp.alm = t.grp.alm
  | .shown => s.grp.shown = t.grp.shown ∧ s.grp.shownCars = t.grp.shownCars ∧ s.grp.shownDispatch = t.grp.shownDispatch
  | .cars => s.grp.cars = t.grp.cars
  | .disp => s.grp.disp = t.grp.disp
  | .sg => s.grp.sg = t.grp.sg
  | .deferred => s.grp.deferred = t.grp.deferred
  | .streams => s.grp.streams = t.grp.streams
  | .sources => s.grp.sources = t.grp.sources
  | .jobs => s.grp.jobs = t.grp.jobs ∧ s.grp.jobCounter = t.grp.jobCounter
  | .sessions => s.grp.sessions = t.grp.sessions
  | .kernels => s.grp.kernels = t.grp.kernels
  | .engines => s.grp.engines = t.grp.engines
  | .rides => s.grp.rides = t.grp.rides
  | .saves => s.grp.saving = t.grp.saving ∧ s.grp.saveFrame = t.grp.saveFrame
  | .staging => s.grp.staging = t.grp.staging
  | .member => s.mem = t.mem
  | .straps => s.boot.phase = t.boot.phase ∧ s.boot.mode = t.boot.mode ∧ s.boot.pairSel = t.boot.pairSel
      ∧ s.boot.scanEn = t.boot.scanEn ∧ s.boot.life = t.boot.life ∧ s.boot.lastReset = t.boot.lastReset
      ∧ s.boot.running = t.boot.running ∧ s.boot.fallback = t.boot.fallback ∧ s.boot.fwVersion = t.boot.fwVersion
      ∧ s.boot.fwPatch = t.boot.fwPatch ∧ s.boot.fwProtocol = t.boot.fwProtocol ∧ s.boot.security = t.boot.security
      ∧ s.boot.pair = t.boot.pair ∧ s.boot.net = t.boot.net ∧ s.boot.heldKind = t.boot.heldKind
  | .counts => s.boot.challenge = t.boot.challenge ∧ s.boot.dramCorrected = t.boot.dramCorrected
      ∧ s.boot.cacheCorrected = t.boot.cacheCorrected ∧ s.boot.scrubPasses = t.boot.scrubPasses
      ∧ s.boot.extest = t.boot.extest
  | .leaf => s.boot.nextQ = t.boot.nextQ ∧ s.nv.attestBlocks = t.nv.attestBlocks
  | .banks => s.io.banks = t.io.banks
  | .image => s.io.image = t.io.image ∧ s.io.encFault = t.io.encFault ∧ s.io.encPhase = t.io.encPhase
  | .buses => s.io.buses = t.io.buses
  | .map => s.io.map = t.io.map
  | .links => s.io.links = t.io.links
  | .ends => s.io.ends = t.io.ends
  | .rings => s.host.rings = t.host.rings ∧ s.host.rung = t.host.rung ∧ s.host.held = t.host.held
  | .irq => s.host.irqRing = t.host.irqRing ∧ s.host.irqMask = t.host.irqMask ∧ s.host.irqEvent = t.host.irqEvent
      ∧ s.host.irqEventMask = t.host.irqEventMask
  | .window => s.host.pageRing = t.host.pageRing ∧ s.host.pageSlot = t.host.pageSlot
      ∧ s.host.frameLatch = t.host.frameLatch ∧ s.host.busErrors = t.host.busErrors
      ∧ s.host.ul40BusErrors = t.host.ul40BusErrors
  | .net => s.host.authFailures = t.host.authFailures ∧ s.host.authAt = t.host.authAt ∧ s.host.ethOut = t.host.ethOut
  | .recorder => s.nv.recorder = t.nv.recorder
  | .fuses => s.nv.groups = t.nv.groups ∧ s.nv.security = t.nv.security
  | .life => s.nv.pendingLife = t.nv.pendingLife ∧ s.nv.customerRoot = t.nv.customerRoot ∧ s.nv.netKey = t.nv.netKey
      ∧ s.nv.cosign = t.nv.cosign
  | .firmware => s.nv.copies = t.nv.copies ∧ s.nv.facts = t.nv.facts ∧ s.nv.preferred = t.nv.preferred
  | .stored => s.nv.frameLen = t.nv.frameLen ∧ s.nv.pair = t.nv.pair
      ∧ s.nv.net = t.nv.net ∧ s.nv.config = t.nv.config ∧ s.nv.saved = t.nv.saved ∧ s.nv.kernels = t.nv.kernels
      ∧ s.nv.learned = t.nv.learned ∧ s.nv.causes = t.nv.causes
  | .epoch => s.nv.epoch = t.nv.epoch ∧ s.nv.nandCorrected = t.nv.nandCorrected
  | .saveTime => s.nv.secondsSaved = t.nv.secondsSaved

/-- The parts that a mailbox reply touches: the source, the session or the rings, and what they signal (R472, R476). -/
def mailParts : List Part := [.sources, .sessions, .rings, .irq, .net]

/-- The parts of a signal engine's instruction (R389–R402): engines and slots, what END hands over, RPUT's ring. -/
def engineParts : List Part := [.free, .alm, .deferred, .kernels, .engines, .rings, .irq, .recorder]

/-- The parts of a lockout's latch (R285): the cars, the safety core, an aborted job's reply, the stored causes. -/
def lockoutParts : List Part := [.cars, .sg, .jobs, .sessions, .rings, .irq, .net, .recorder, .stored]

/-- The replicated state of the group but its frame number and clock. -/
def bodyParts : List Part :=
  [.frame, .alm, .shown, .cars, .disp, .sg, .deferred, .streams, .sources, .jobs, .sessions, .kernels, .engines, .rides, .saves,
   .staging]

/-- The replicated state of the group. -/
def groupParts : List Part := [.number, .clock] ++ bodyParts

/-- What a frame touches beside the group (R38): the ports but the endpoints, the host port's rings and interrupts, the member,
and what NAND mirrors. -/
def portParts : List Part :=
  [.free, .member, .counts, .banks, .image, .buses, .map, .links, .rings, .irq, .net, .recorder, .stored, .saveTime]

/-- What the phases of a frame touch (R38): its number and the clock are the Calends' own. -/
def phaseParts : List Part := bodyParts ++ portParts

/-- The parts that a Calends touches (R38). -/
def frameParts : List Part := groupParts ++ portParts

/-- What the stored data restores (R590). -/
def loadParts : List Part := bodyParts ++ [.free, .banks, .buses, .map, .links, .rings, .recorder]

/-- What a reset leaves nothing of (R582): everything but fuses, NAND and the endpoints. -/
def resetParts : List Part :=
  groupParts ++ [.member, .straps, .counts, .leaf, .banks, .image, .buses, .map, .links, .rings, .irq, .window, .net, .recorder]

/-- What a standby's own results and the STATE part touch (R431, R434). -/
def standbyParts : List Part :=
  groupParts ++ [.free, .member, .banks, .image, .buses, .map, .links, .rings, .irq, .net, .recorder, .stored]

/-- What the start-up steps touch (R584). -/
def startParts : List Part :=
  groupParts ++ [.free, .straps, .counts, .banks, .buses, .map, .links, .rings, .recorder, .leaf, .fuses, .life, .firmware,
    .epoch]

/-- What the commands that a ring or a session brings can touch at once (R484). -/
def serviceParts : List Part :=
  [.free, .frame, .alm, .cars, .disp, .deferred, .sources, .jobs, .sessions, .kernels, .saves, .staging, .counts, .rings, .irq,
   .net, .recorder, .leaf, .life, .firmware, .stored]

end Sys2Proof.Machine
end

