-- ==== Sys2Proof/Machine/Ops.lean ====
section
/-! DEFINITION. The named operations over the state: free values, frames and time, records, interrupts, staging. -/

namespace Sys2Proof.Machine

/-- Sum of a list. -/
def total (l : List Nat) : Nat := l.foldl (· + ·) 0

/-- Draw a fresh natural number the spec does not state (log 3). -/
def State.drawNat (s : State) : Nat × State := (Config.freeNat s.free, { s with free := s.free + 1 })

/-- Draw a fresh integer the spec does not state (log 3). -/
def State.drawInt (s : State) : Int × State := (Config.freeInt s.free, { s with free := s.free + 1 })

/-- Draw `n` fresh bytes the spec does not state (log 3). -/
def State.drawBytes (s : State) (n : Nat) : List Byte × State :=
  (padTo n (Config.freeBytes s.free), { s with free := s.free + 1 })

/-- Frames in one millisecond at a frame length (R35). -/
def FrameLen.perMs : FrameLen → Nat
  | .us250 => 4
  | .us125 => 8

/-- Microseconds of a frame (R35). -/
def FrameLen.us : FrameLen → Nat
  | .us250 => 250
  | .us125 => 125

/-- Frames per second (R36). -/
def FrameLen.perSecond (l : FrameLen) : Nat := 1000 * l.perMs

/-- Frames of a time in ms at the running length (R36). -/
def State.msFrames (s : State) (ms : Nat) : Nat := ms * s.grp.frameLen.perMs

/-- A frame begins an Octave (R34). -/
def octaveStart (frame : Nat) : Bool := frame % 8 = 0

/-- Replace a car slot. -/
def State.setCar (s : State) (c : CarId) (x : Car) : State := { s with grp := { s.grp with cars := s.grp.cars.set c.val x } }

/-- A car slot. -/
def State.car (s : State) (c : CarId) : Car := s.grp.cars[c.val]

/-- Change a car slot. -/
def State.modCar (s : State) (c : CarId) (f : Car → Car) : State := s.setCar c (f (s.car c))

/-- Change a bank. -/
def State.modBank (s : State) (b : BankId) (f : Bank → Bank) : State :=
  { s with io := { s.io with banks := s.io.banks.set b.val (f s.io.banks[b.val]) } }

/-- Change a bus. -/
def State.modBus (s : State) (b : BusId) (f : Bus → Bus) : State :=
  { s with io := { s.io with buses := s.io.buses.set b.val (f s.io.buses[b.val]) } }

/-- Change a car link. -/
def State.modLink (s : State) (l : CarId) (f : CarLink → CarLink) : State :=
  { s with io := { s.io with links := s.io.links.set l.val (f s.io.links[l.val]) } }

/-- Change a car-top endpoint. -/
def State.modEnd (s : State) (l : CarId) (f : Endpoint → Endpoint) : State :=
  { s with io := { s.io with ends := s.io.ends.set l.val (f s.io.ends[l.val]) } }

/-- Change a kernel slot. -/
def State.modKernel (s : State) (k : SlotId) (f : Kernel → Kernel) : State :=
  { s with grp := { s.grp with kernels := s.grp.kernels.set k.val (f s.grp.kernels[k.val]) } }

/-- Change an engine. -/
def State.modEngine (s : State) (e : EngId) (f : Engine → Engine) : State :=
  { s with grp := { s.grp with engines := s.grp.engines.set e.val (f s.grp.engines[e.val]) } }

/-- Change a ring. -/
def State.modRing (s : State) (r : RingId) (f : Ring → Ring) : State :=
  { s with host := { s.host with rings := s.host.rings.set r.val (f s.host.rings[r.val]) } }

/-- Change a mailbox source. -/
def State.modSource (s : State) (x : Source) (f : SrcState → SrcState) : State :=
  { s with grp := { s.grp with sources := s.grp.sources.set x.val (f s.grp.sources[x.val]) } }

/-- Change the pair member's own state. -/
def State.modMem (s : State) (f : Member → Member) : State := { s with mem := f s.mem }

/-- An Almanac entry as the control plane works on it. -/
def State.entry (s : State) (c : Nat) : Entry := Mem.get Entry.free s.grp.alm c

/-- An Almanac entry as the latest Calends committed it (R27, R79). -/
def State.entryShown (s : State) (c : Nat) : Entry := Mem.get Entry.free s.grp.shown c

/-- Write a working entry. -/
def State.setEntry (s : State) (c : Nat) (e : Entry) : State := { s with grp := { s.grp with alm := Mem.set Entry.free s.grp.alm c e } }

/-- Change a working entry. -/
def State.modEntry (s : State) (c : Nat) (f : Entry → Entry) : State := s.setEntry c (f (s.entry c))

/-- The module acts for the group: a single module, or a pair's holder (R26, R416). -/
def State.holds (s : State) : Bool := s.mem.state == .holder

/-- The module runs its control plane. -/
def State.running (s : State) : Bool := s.boot.phase == .running

/-- The command's effect when the control plane runs; before and without it nothing changes. -/
def whenRunning (s : State) (f : State → State) : State := if s.running then f s else s

/-- Event codes that never fold (R537): ANNOTATION and RECORDS_LOST. -/
def neverFolds (code : Nat) : Bool := code == 0x1001 || code == 0x1002

/-- Two records are of one event (R537). -/
def sameEvent (a b : Rec) : Bool :=
  a.code == b.code && a.car == b.car && a.data == b.data && a.epoch == b.epoch && a.member == b.member && a.isLocal == b.isLocal

/-- Open a new record (R536, R537): the one before it is closed, and its last NAND copy stands until records reach NAND again
(R539). -/
def Recorder.push (r : Recorder) (x : Rec) : Recorder :=
  let closed := if r.isOpen then 1 else 0
  { r with recs := (x :: r.recs).take 1048576, next := r.next + 1,
           isOpen := !neverFolds x.code, unsaved := r.unsaved + closed + (if neverFolds x.code then 1 else 0) }

/-- Record an event (R537, R538, R540): fold it, open a record for it, or drop it beyond 32 new ones. -/
def Recorder.add (r : Recorder) (x : Rec) : Recorder :=
  let exempt := neverFolds x.code
  let fresh (y : Rec) : Recorder :=
    if exempt then r.push y
    else if r.fresh < 32 then { r.push y with fresh := r.fresh + 1 }
    else { r with dropped := r.dropped + 1, lost := satInc 32 r.lost }
  match r.recs with
  | top :: rest =>
    if r.isOpen && !exempt && sameEvent top x then
      if top.reps < 65535 then
        let y := { top with reps := top.reps + 1, lastDelta := min 65535 (x.seconds - top.seconds) }
        { r with recs := y :: rest, folded := satInc 32 r.folded }
      else fresh { x with cont := true }
    else fresh x
  | [] => fresh x

/-- SECONDS and FRAME_IN_SECOND of the present frame (R532, R534); 0xFFFF before the first Calends. -/
def State.time (s : State) : Nat × Nat :=
  if s.grp.fis = 0xFFFF then (s.grp.seconds, 0xFFFF)
  else (min (2 ^ 32 - 1) (s.grp.seconds + s.grp.fis / s.grp.frameLen.perSecond), s.grp.fis % s.grp.frameLen.perSecond)

/-- The record of an event of this frame (R535). -/
def State.mkRec (s : State) (code car : Nat) (data : List Byte) : Rec :=
  { seconds := s.time.1, epoch := s.nv.epoch, epochSat := decide (0xFFFFFF ≤ s.nv.epoch),
    isLocal := !s.holds && s.boot.pair.paired, member := s.boot.pairSel, fis := s.time.2,
    code := code, car := car, data := padTo 12 data }

/-- Record an event (R541). -/
def State.record (s : State) (code car : Nat) (data : List Byte) : State :=
  { s with nv := { s.nv with recorder := s.nv.recorder.add (s.mkRec code car data) } }

/-- Set an IRQ_EVENT bit (R459, R466). -/
def State.irqEvent (s : State) (i : Nat) : State :=
  { s with host := { s.host with irqEvent := s.host.irqEvent ||| (1#6 <<< i) } }

/-- Set the IRQ_RING bit of a ring (R466). -/
def State.irqRing (s : State) (r : RingId) : State :=
  { s with host := { s.host with irqRing := s.host.irqRing ||| (1#64 <<< r.val) } }

/-- The module drives the host port (R416, R438, R588): a single module does, of a pair the holder alone. Every other member keeps
HOST_D, HOST_RDY and HOST_IRQ_N at high impedance. -/
def State.drivesHost (s : State) : Bool := s.holds || !s.boot.pair.paired

/-- The levels of HOLDO_P and HOLDO_N of a member that does not hold, low and high; none while a holder's HOLDO toggles (R415,
R418). -/
def State.holdo (s : State) : Option (Bool × Bool) := if s.holds then none else some (false, true)

/-- The module drives HOST_IRQ_N[0] low (R438, R466, R516). -/
def State.irq0Low (s : State) : Bool :=
  s.drivesHost && (if s.boot.mode = 0 then decide (s.host.irqRing &&& s.host.irqMask ≠ 0)
    else (List.finRange 8).any fun c => (s.car c).ul40.events != 0)

/-- The module drives HOST_IRQ_N[1] low (R438, R466, R516). -/
def State.irq1Low (s : State) : Bool :=
  s.drivesHost && decide (s.boot.mode = 0) && decide (s.host.irqEvent &&& s.host.irqEventMask ≠ 0)

/-- Stage something for the next Calends (R6, R28). -/
def State.stage (s : State) (d : Deferred) : State := { s with grp := { s.grp with deferred := s.grp.deferred ++ [d] } }

/-- A ladder break (R31). -/
def State.ladderBreak (s : State) (kept broken car : Nat) (subject : Nat) : State :=
  s.record 0x0101 car ([byte kept, byte broken, 0, 0] ++ leBytes 4 subject)

end Sys2Proof.Machine
end

