-- ==== Sys2Proof/Machine/Bank.lean ====
section
/-! DEFINITION. Field banks and lanes (09): filters, refreshes, supplies, timers, the bank's part of the input image,
and the safety sets that assign lanes to cars (R257). -/

namespace Sys2Proof.Machine

/-- The lane that a Lane entry binds (03, Lane). -/
def Entry.lane (e : Entry) : Option (BankId × LaneId) :=
  if e.type = 1 then some (Fin.ofNat 16 (bits e.binding 3 0), Fin.ofNat 8 (bits e.binding 6 4)) else none

/-- The entry is an output Lane entry. -/
def Entry.isOutput (e : Entry) : Bool := e.type == 1 && bit e.binding 7

/-- The entry is an input Lane entry. -/
def Entry.isInput (e : Entry) : Bool := e.type == 1 && !bit e.binding 7

/-- The channel of the Lane entry that binds a lane (R75). -/
def laneChan (a : Almanac) (b : BankId) (l : LaneId) : Option Nat :=
  (a.find? fun p => p.2.lane == some (b, l)).map fun p => p.1

/-- The door-zone channels that `pos.config` names, side by side (R98). -/
def Car.zoneChans (c : Car) : List Nat := (c.pos.cfg.dz.toList.map fun v => v.toList).flatten

/-- The channels of a car's safety set (R257). -/
def Car.safetyChans (c : Car) : List Nat :=
  if c.safe.configured then (c.safe.cfg.lanes.toList ++ c.zoneChans).filter fun x => x ≠ noRef else []

/-- A lane is in the safety set that these channels make. -/
def inSet (a : Almanac) (chans : List Nat) (b : BankId) (l : LaneId) : Bool :=
  chans.any fun c => (Mem.get Entry.free a c).lane == some (b, l)

/-- The car whose safety set holds a lane (R23, R257). -/
def laneOwner (a : Almanac) (cars : Vector Car 8) (b : BankId) (l : LaneId) : Option CarId :=
  (List.finRange 8).find? fun c => inSet a cars[c.val].safetyChans b l

/-- A limit's tolerance (R300, R306, R315): mV, µA or µs. A dip of 1.9 ms is too short for the LOW time (R315). -/
def Limit.range : Limit → Nat × Nat
  | .rise1 => (10500, 14500)
  | .fall1 => (9500, 13500)
  | .rise3 => (7000, 10500)
  | .fall3 => (6000, 9500)
  | .onRise => (1600, 2000)
  | .onFall => (1400, 1800)
  | .broken => (150, 250)
  | .lowFall => (18200, 18800)
  | .lowRise => (18700, 19300)
  | .lowTime => (1901, 2100)
  | .missing => (11500, 12500)
  | .missTime => (0, 50)
  | .goodTime => (50000, 52000)

/-- A limit's number in the implementation's own figures (log 360). -/
def Limit.num : Limit → Nat
  | .rise1 => 0
  | .fall1 => 1
  | .rise3 => 2
  | .fall3 => 3
  | .onRise => 4
  | .onFall => 5
  | .broken => 6
  | .lowFall => 7
  | .lowRise => 8
  | .lowTime => 9
  | .missing => 10
  | .missTime => 11
  | .goodTime => 12

/-- Where a limit lies on a bank's lane, or on the bank itself (lane 8): within its tolerance, the spec says no more (log 360). -/
def limitAt (b : BankId) (l : Nat) (x : Limit) : Nat := max x.range.1 (min x.range.2 (Config.limit b.val l x.num))

/-- A value is at or above a limit, and above it: beyond the tolerance whatever the limit. -/
def reaches (b : BankId) (l : Nat) (x : Limit) (v : Int) : Bool :=
  decide ((x.range.2 : Int) ≤ v) || (decide ((x.range.1 : Int) ≤ v) && decide ((limitAt b l x : Int) ≤ v))
def exceedsLimit (b : BankId) (l : Nat) (x : Limit) (v : Int) : Bool :=
  decide ((x.range.2 : Int) < v) || (decide ((x.range.1 : Int) < v) && decide ((limitAt b l x : Int) < v))

/-- A value is above a rising limit, or above the falling one, which never lies above it, while the filtered state is 1 (R300,
R306). -/
def isOn (b : BankId) (l : Nat) (rise fall : Limit) (was : Bool) (v : Int) : Bool :=
  exceedsLimit b l rise v || (was && exceedsLimit b l fall v)

/-- A raw ON sample (R300, R301, R306): by current on a sinking lane with WIRE_BREAK, else by voltage by the lane's type. -/
def Lane.rawOn (b : BankId) (l : LaneId) (gate : Bool) (y : Lane) (x : Sample) : Bool :=
  if y.wireBreak && gate then isOn b l.val .onRise .onFall y.filtered x.ua
  else if y.type3 then isOn b l.val .rise3 .fall3 y.filtered x.mv
  else isOn b l.val .rise1 .fall1 y.filtered x.mv

/-- A sample below the BROKEN threshold (R306). -/
def rawBroken (b : BankId) (l : LaneId) (x : Sample) : Bool := !reaches b l.val .broken x.ua

/-- A counter of R302 and R306 after one sample: its count and its state, under a limit. -/
def countSample (limit : Nat) (up : Bool) (q : Nat × Bool) : Nat × Bool :=
  let n := if up then min (q.1 + 1) limit else q.1 - 1
  (n, if n = limit then true else if n = 0 then false else q.2)

/-- One sample of an input lane (R301, R302, R306, R307); behind a closed gate the lane listens and its counters count nothing
(R440, R588). -/
def Lane.sample (b : BankId) (l : LaneId) (gate : Bool) (y : Lane) (x : Sample) : Lane :=
  if y.use ≠ .input ∨ y.limit = 0 ∨ gate = false then y
  else
    let q := countSample y.limit (y.rawOn b l gate x) (y.count, y.filtered)
    let w := if y.wireBreak then countSample y.limit (rawBroken b l x) (y.wireCount, y.broken) else (y.wireCount, y.broken)
    { y with count := q.1, filtered := q.2, wireCount := w.1, broken := w.2, curSum := y.curSum + x.ua, curN := y.curN + 1 }

/-- Samples of one lane, oldest first. -/
def Bank.samples (n : BankId) (b : Bank) (l : LaneId) (xs : List Sample) : Bank :=
  { b with lanes := b.lanes.set l.val (xs.foldl (Lane.sample n l b.gateOpen) b.lanes[l.val]) }

/-- The banks' logic has power: step 4 of the start-up brings it up with the module's rails (R315). -/
def State.banksUp (s : State) : Bool := s.boot.phase != .off

/-- LANE_FILTER_CHANGE (R302): samples reach a lane's counter filter. -/
def execLaneFilterChange (bank : BankId) (lane : LaneId) (samples : List Sample) (s : State) : Host.Outcome State Fault Refusal :=
  .next (s.within [.banks] (if s.banksUp then s.modBank bank (Bank.samples bank · lane samples) else s))

/-- LANE_BROKEN (R306): samples reach a lane's wire-break counter. -/
def execLaneBroken (bank : BankId) (lane : LaneId) (samples : List Sample) (s : State) : Host.Outcome State Fault Refusal :=
  .next (s.within [.banks] (if s.banksUp then s.modBank bank (Bank.samples bank · lane samples) else s))

/-- Drive every lane of a bank. -/
def Bank.drive (b : Bank) (f : Lane → Bool) : Bank := { b with lanes := b.lanes.map fun l => { l with driven := f l } }

/-- The supply is MISSING (R316): the bank turns every output off by itself and latches. -/
def Bank.missing (b : Bank) : Bank := { b.drive fun _ => false with supplyMissing := true, supplyReady := false, goodUs := 0 }

/-- The supply is at or above the LOW rising threshold, hysteresis included (R315). -/
def supplyGood (n : BankId) (v : Nat) : Bool := reaches n 8 .lowRise v && reaches n 8 .lowFall v

/-- A run of the supply (R315–R317): SUPPLY_LOW by the LOW time, the detection of MISSING, and the good time. -/
def Bank.supply (n : BankId) (b : Bank) (x : SupplyRun) : Bank :=
  let low := if reaches n 8 .lowFall x.mv then 0 else b.lowUs + x.us
  let good := if supplyGood n x.mv then b.goodUs + x.us else 0
  let miss := if reaches n 8 .missing x.mv then 0 else b.missUs + x.us
  let k := { b with
    fieldMv := x.mv, lowUs := low, goodUs := good, missUs := miss, supplyReady := reaches n 8 .goodTime good,
    supplyLow := if reaches n 8 .lowTime low then true else if reaches n 8 .lowTime good then false else b.supplyLow }
  if miss ≠ 0 ∧ reaches n 8 .missTime miss then k.missing else k

/-- What a bank with power measures of its field supply (R315), over runs that bring their own time (log 363). -/
def State.supplyRuns (s : State) (b : BankId) (xs : List SupplyRun) : State :=
  if s.banksUp then s.modBank b fun k => xs.foldl (Bank.supply b) k else s

/-- SUPPLY_LOW_CHANGE (R315). -/
def execSupplyLowChange (bank : BankId) (runs : List SupplyRun) (s : State) : Host.Outcome State Fault Refusal :=
  .next (s.within [.banks] (s.supplyRuns bank runs))

/-- SUPPLY_MISSING (R316). -/
def execSupplyMissing (x : SupplyTrace) (s : State) : Host.Outcome State Fault Refusal :=
  .next (s.within [.banks] (s.supplyRuns x.bank x.runs))

/-- RELEASE_READY (R317). -/
def execReleaseReady (x : SupplyTrace) (s : State) : Host.Outcome State Fault Refusal :=
  .next (s.within [.banks] (s.supplyRuns x.bank x.runs))

/-- Some time in ms may have passed within `n` latches and the frame under way; without a running control plane no frame
counts it. -/
def State.mayHavePassed (s : State) (ms n : Nat) : Bool := !s.running || decide (1000 * ms ≤ (n + 1) * s.grp.frameLen.us)

/-- The state a lane takes when the safe-state timer expires (R319). -/
def Lane.safe (owned : Bool) (l : Lane) : Bool :=
  l.use == .output && !owned && (match l.safeState with
    | 1 => true
    | 2 => l.command
    | _ => false)

/-- The safe-state timer of a bank expires (R319); a missing supply keeps the outputs off (R324). -/
def State.timerExpires (s : State) (b : BankId) : State :=
  s.modBank b fun x =>
    { x with timerExpired := true, refreshRun := 0,
             lanes := Vector.ofFn fun l =>
               let y := x.lanes[l.val]
               { y with driven := !x.supplyMissing && x.gateOpen && !y.thermal
                                  && y.safe (laneOwner s.grp.alm s.grp.cars b l).isSome } }

/-- The time since the last valid refresh may have reached the timer's earliest expiry, 0.95 of SAFE_TIMER_MS (R319);
without a running control plane no frame counts it. -/
def State.timerMay (s : State) (b : BankId) : Bool :=
  !s.running || decide (950 * s.io.banks[b.val].safeTimerMs ≤ (s.io.banks[b.val].sinceRefresh + 1) * s.grp.frameLen.us)

/-- The timer's latest expiry, 1.05 of SAFE_TIMER_MS, has passed (R319). -/
def State.timerMust (s : State) (b : BankId) : Bool :=
  decide (1050 * s.io.banks[b.val].safeTimerMs ≤ s.io.banks[b.val].sinceRefresh * s.grp.frameLen.us)

/-- A bank's timer expires, latched or not: a latched one keeps its lanes as they are, and the 50 ms of its release begin anew
(R320, R324). -/
def State.timerEvent (s : State) (b : BankId) : State :=
  if s.io.banks[b.val].timerExpired then s.modBank b fun x => { x with refreshRun := 0 } else s.timerExpires b

/-- SAFE_TIMER_EXPIRY (R319). -/
def execSafeTimerExpiry (bank : BankId) (s : State) : Host.Outcome State Fault Refusal :=
  .next (s.within [.banks] (if s.banksUp && s.timerMay bank then s.timerEvent bank else s))

/-- Lanes of a lane's parallel group (R311). -/
def sameGroup (p : Nat) (a b : LaneId) : Bool :=
  match p with
  | 1 => a.val / 2 == b.val / 2
  | 2 => a.val / 4 == b.val / 4
  | _ => a == b

/-- A thermal shutdown of a lane, and of its whole group (R310, R312). -/
def Bank.shutdown (b : Bank) (lane : LaneId) : Bank :=
  let p := b.lanes[lane.val].parallel
  { b with thermalEvents := satInc 32 b.thermalEvents,
           lanes := Vector.ofFn fun l =>
             let y := b.lanes[l.val]
             if sameGroup p lane l && y.use == .output then
               { y with driven := false, thermal := true, thermalOff := false, thermalOn := false, holdoffEnd := false, sinceShut := 0 }
             else y }

/-- LANE_THERMAL_SHUTDOWN (R310). -/
def execLaneThermalShutdown (bank : BankId) (lane : LaneId) (s : State) : Host.Outcome State Fault Refusal :=
  .next (s.within [.banks] (if s.banksUp && s.io.banks[bank.val].lanes[lane.val].use == .output then s.modBank bank fun b => b.shutdown lane else s))

/-- A bank applies no output command while SUPPLY_MISSING or SAFE_TIMER_EXPIRED is latched, or its gate is closed
(R309, R316, R320). -/
def Bank.blocked (b : Bank) : Bool := b.supplyMissing || b.timerExpired || !b.gateOpen

/-- The 1,000 ms since a shutdown end (R310); a bank whose outputs are latched off keeps the lane's latch (R324). -/
def Lane.holdoff (blocked : Bool) (l : Lane) : Lane :=
  if !l.thermal then l
  else if l.thermalOff && l.thermalOn && l.command && !blocked then
    { l with holdoffEnd := true, thermal := false, driven := true }
  else { l with holdoffEnd := true }

/-- The 1,000 ms since a lane's shutdown end: for its whole group, which switches together (R312). -/
def Bank.endHoldoff (lane : LaneId) (b : Bank) : Bank :=
  { b with lanes := Vector.ofFn fun l =>
      if sameGroup b.lanes[lane.val].parallel lane l then b.lanes[l.val].holdoff b.blocked else b.lanes[l.val] }

/-- The 1,000 ms since a lane's shutdown may have ended, and have ended (R310). -/
def State.holdoffMay (s : State) (b : BankId) (l : LaneId) : Bool := s.mayHavePassed 1000 s.io.banks[b.val].lanes[l.val].sinceShut
def State.holdoffMust (s : State) (b : BankId) (l : LaneId) : Bool :=
  let y := s.io.banks[b.val].lanes[l.val]
  y.thermal && !y.holdoffEnd && decide (1000000 ≤ y.sinceShut * s.grp.frameLen.us)

/-- THERMAL_HOLDOFF_END (R310). -/
def execThermalHoldoffEnd (bank : BankId) (lane : LaneId) (s : State) : Host.Outcome State Fault Refusal :=
  .next (s.within [.banks] (if s.banksUp && s.holdoffMay bank lane then s.modBank bank (Bank.endHoldoff lane) else s))

/-- The hold-offs of a bank's lanes that have ended and that no row has brought. -/
def State.settleHoldoff (s : State) (b : BankId) : State :=
  (List.finRange 8).foldl (fun s l => if s.holdoffMust b l then s.modBank b (Bank.endHoldoff l) else s) s

/-- A valid refresh reaches an output lane (R309, R310, R316); a bank whose outputs are latched off keeps a THERMAL latch
(R324). -/
def Lane.refresh (blocked : Bool) (l : Lane) : Lane :=
  let c := l.use == .output && l.committed
  let l := { l with command := c }
  if l.thermal then
    if !c then { l with thermalOff := true, thermalOn := false }
    else if l.thermalOff then
      if l.holdoffEnd && !blocked then { l with thermal := false, driven := true } else { l with thermalOn := true }
    else l
  else if blocked then l
  else { l with driven := c }

/-- A refresh arrives: one whose check fails is ignored and counted (R321); a valid one restarts the timer (R319), and
a gap longer than SAFE_TIMER_MS restarts the 50 ms of R320. -/
def State.refresh (s : State) (b : BankId) (good : Bool) : State :=
  s.modBank b fun x =>
    if !good then { x with linkErrors := satInc 32 x.linkErrors }
    else { x with lanes := x.lanes.map (Lane.refresh x.blocked), sinceRefresh := 0,
                  refreshRun := (if 1000 * x.safeTimerMs < x.sinceRefresh * s.grp.frameLen.us then 0
                    else x.refreshRun + x.sinceRefresh) }

/-- BANK_REFRESH_RECEIVED (R321). -/
def execBankRefreshReceived (bank : BankId) (good : Bool) (s : State) : Host.Outcome State Fault Refusal :=
  .next (s.within [.banks] (whenRunning s fun s => s.refresh bank good))

/-- The bank's link fails (R321): its next reports fail until two consecutive images have had none. -/
def Bank.failLink (b : Bank) : Bank := { b with failing := max b.failing (2 - b.badReports) }

/-- BANK_LINK_FAULT (R321): the image of the second failed report shows it, and no image in force changes (R19). -/
def execBankLinkFault (bank : BankId) (s : State) : Host.Outcome State Fault Refusal :=
  .next (s.within [.banks] (whenRunning s fun s => s.modBank bank Bank.failLink))

/-- ENCODER_LINE_FAULT (R104): the receiver's differential lines turn bad or good. -/
def execEncoderLineFault (enc : Fin 8) (bad : Bool) (s : State) : Host.Outcome State Fault Refusal :=
  .next (s.within [.image] (whenRunning s fun s => { s with io := { s.io with encFault := s.io.encFault.set enc.val bad } }))

/-- The refreshes have arrived for 50 ms, and still do, without a gap longer than SAFE_TIMER_MS (R320). -/
def State.timerReady (s : State) (b : Bank) : Bool :=
  decide (s.msFrames 50 ≤ b.refreshRun) && decide (b.sinceRefresh * s.grp.frameLen.us ≤ 1000 * b.safeTimerMs)

/-- RELEASE_READY of `bank.status` (R317, R320, R327): what is latched is ready. -/
def State.releaseReady (s : State) (b : Bank) : Bool :=
  (b.supplyMissing || b.timerExpired) && (!b.supplyMissing || b.supplyReady) && (!b.timerExpired || s.timerReady b)

/-- STATUS of `bank.status` (R21, R327): the status bits as the latest image holds them. -/
def State.bankStatusByte (s : State) (n : BankId) : Nat :=
  let im := s.io.image.banks[n.val]
  flagBit im.supplyLow 0 + flagBit im.supplyMissing 1 + flagBit im.timerExpired 2 + flagBit im.linkFault 3
    + flagBit im.ready 4 + flagBit im.gate 5

/-- The lane's stage is on: a dark-test pulse turns it off for its length (R284). -/
def Lane.on (y : Lane) : Bool := y.driven && !y.dark

/-- The readback of a lane at the strobe: what its stage drives, unless its pin reads otherwise (R309, R323). -/
def rawReadback (x : FrameIn) (b : BankId) (l : LaneId) (y : Lane) : Bool := y.on != x.stuck.contains (b, l)

/-- The readback an output shows: of a group, the command only when every member's own readback equals it (R312). -/
def Bank.readbackOf (k : Bank) (x : FrameIn) (b : BankId) (l : LaneId) : Bool :=
  let y := k.lanes[l.val]
  if y.use ≠ .output then false
  else if y.parallel = 0 then rawReadback x b l y
  else
    let members := (List.finRange 8).filter fun m => sameGroup y.parallel l m
    if members.all fun m => rawReadback x b m k.lanes[m.val] == y.committed then y.committed else !y.committed

/-- The lane's group is unbalanced (R322, class 5): on, above 200 mA in all, and a member more than 50 % away from the members'
mean (log 361). -/
def Bank.unbalanced (k : Bank) (l : LaneId) : Bool :=
  let y := k.lanes[l.val]
  let ms := (List.finRange 8).filter fun m => sameGroup y.parallel l m
  let sum := total (ms.map fun m => k.lanes[m.val].outMa)
  y.use == .output && y.parallel != 0 && y.committed && decide (200 < sum)
    && ms.any fun m => decide (sum < 2 * ((ms.length * k.lanes[m.val].outMa : Nat) - (sum : Int)).natAbs)

/-- FAULT_CLASS of a lane in an image (R322), in frames of `us` µs. -/
def Bank.classOf (k : Bank) (x : FrameIn) (us : Nat) (b : BankId) (l : LaneId) (readback : Bool) (current : Nat) : Nat :=
  let y := k.lanes[l.val]
  match y.use with
  | .unbound => 0
  | .input => if 40 < current then 6 else 0
  | .output =>
    let limiting := x.limiting.contains (b, l)
    if y.thermal then 1
    else if limiting then 2
    else if !y.committed && readback && !y.pulsed then 3
    else if y.committed && !readback && !y.pulsed && !k.supplyMissing && !x.limitNow.contains (b, l) then 4
    else if 10000 ≤ (y.unbalRun - 1) * us then 5
    else 0

/-- CURRENT of an image (R301, R307): the mean of the frame's samples, repeated where none fell in it, 0 on lanes that do not
sink. -/
def Bank.currentOf (k : Bank) (l : LaneId) : Nat :=
  let y := k.lanes[l.val]
  if y.use ≠ .input || !k.gateOpen then 0
  else if y.curN = 0 then y.current
  else min 255 ((y.curSum + min Config.currentBias (100 * y.curN - 1)) / (100 * y.curN))

/-- The output currents at a strobe (R327), and the images in a row whose group they leave unbalanced (R322). -/
def Bank.takeCurrents (k : Bank) (x : FrameIn) (b : BankId) : Bank :=
  let k := { k with lanes := Vector.ofFn fun (l : LaneId) =>
    match x.outCurrents.find? (fun q : BankId × LaneId × Nat => q.1 == b && q.2.1 == l) with
    | some q => ({ k.lanes[l.val] with outMa := q.2.2 } : Lane)
    | none => k.lanes[l.val] }
  { k with lanes := Vector.ofFn fun (l : LaneId) =>
      { k.lanes[l.val] with unbalRun := if k.unbalanced l then k.lanes[l.val].unbalRun + 1 else 0 } }

/-- A lane after the strobe of an image. -/
def Bank.latchLane (k : Bank) (x : FrameIn) (us : Nat) (b : BankId) (l : LaneId) : Lane :=
  let rb := k.readbackOf x b l
  let cur := k.currentOf l
  { k.lanes[l.val] with readback := rb, current := cur, faultClass := k.classOf x us b l rb cur }

/-- DISSIPATION_MW by R314: quiescent, sinking inputs, outputs that are on; no clamp energy. -/
def Bank.dissipation (b : Bank) : Nat :=
  (b.lanes.toList.map fun l =>
    if l.use == .input && b.gateOpen then 15
    else if l.on then l.outMa * l.outMa * 12 / 100000
    else 0).foldl (· + ·) 45

/-- What the image shows of a lane (R19, R306). -/
def Lane.image (y : Lane) : LaneImage :=
  { use := y.use, state := y.use == .input && y.filtered && !y.broken, broken := y.use == .input && y.broken,
    readback := y.readback, current := y.current, faultClass := y.faultClass, pulsed := y.pulsed }

/-- A bank's report enters the image (R303, R321); a failed report leaves the lane values of the previous image. -/
def Bank.latch (k : Bank) (x : FrameIn) (us : Nat) (b : BankId) (old : BankImage) : Bank × BankImage :=
  if x.badReport.contains b || k.failing != 0 then
    let n := k.badReports + 1
    let k := { k with badReports := n, failing := k.failing - 1, linkErrors := satInc 32 k.linkErrors, linkFault := k.linkFault || decide (2 ≤ n) }
    (k, { old with linkFault := k.linkFault, linkErrors := k.linkErrors })
  else
    let k := k.takeCurrents x b
    let k := { k with badReports := 0, linkFault := false, lanes := Vector.ofFn fun l => k.latchLane x us b l,
                      temp := (match x.temps.find? fun q => q.1 == b with
                        | some q => q.2
                        | none => k.temp) }
    (k, { lanes := k.lanes.map Lane.image, supplyLow := k.supplyLow, supplyMissing := k.supplyMissing,
          timerExpired := k.timerExpired, linkFault := false, gate := k.gateOpen, fieldMv := k.fieldMv, temp := k.temp,
          outMa := total (k.lanes.toList.map fun l => l.outMa), dissipation := k.dissipation,
          linkErrors := k.linkErrors, thermalEvents := k.thermalEvents })

/-- The event of a lane fault's onset (R322). -/
def State.laneFaultEvent (s : State) (b : BankId) (old new : BankImage) (l : LaneId) : State :=
  let c := new.lanes[l.val].faultClass
  if c ≠ 0 ∧ c ≠ old.lanes[l.val].faultClass then
    match laneChan s.grp.alm b l with
    | some ch => s.record 0x0902 0xFF (leBytes 3 ch ++ [byte c])
    | none => s
  else s

/-- A change of the four bank status bits is recorded with the whole STATUS byte (R21, R22, R541). -/
def State.bankStatusEvent (s : State) (b : BankId) : State :=
  let k := s.io.banks[b.val]
  let v := s.bankStatusByte b
  if v % 16 = k.lastStatus % 16 then s
  else (s.modBank b fun k => { k with lastStatus := v }).record 0x0901 0xFF [byte b.val, byte v]

/-- A latch passes on the counts of a bank's times (R310, R319). -/
def Bank.tick (k : Bank) : Bank :=
  { k with sinceRefresh := k.sinceRefresh + 1,
           lanes := k.lanes.map fun l => { l with sinceShut := l.sinceShut + 1 } }

/-- Gather one bank's report (R38, R303). -/
def State.gatherBank (x : FrameIn) (s : State) (b : BankId) : State :=
  let old := s.io.image.banks[b.val]
  let (k, im) := s.io.banks[b.val].latch x s.grp.frameLen.us b old
  let im := { im with ready := s.releaseReady k }
  let k := { k.tick with lanes := k.tick.lanes.map fun l => { l with pulsed := false, curSum := 0, curN := 0 } }
  let s := { s with io := { s.io with banks := s.io.banks.set b.val k,
                                      image := { s.io.image with banks := s.io.image.banks.set b.val im } } }
  let s := (List.finRange 8).foldl (fun s l => s.laneFaultEvent b old im l) s
  s.bankStatusEvent b

/-- What a Lane entry makes of a lane when an edit takes effect (R299, R302, R305): a new input starts at 0, a new
output stays off until a command is committed, and a changed limit restarts the counter from the latched state. -/
def Lane.bind (k' k : Nat) (e : Option Entry) (y : Lane) : Lane :=
  match e with
  | none => { y with use := .unbound, driven := false, committed := false, count := 0, filtered := false, limit := 0,
                     wireBreak := false, broken := false, wireCount := 0, safeState := 0, parallel := 0, outMa := 0, unbalRun := 0, dark := false }
  | some e =>
    let limit := bits e.params 15 8
    let wb := bit e.params 1
    if bit e.binding 7 then
      if y.use = .output then { y with safeState := bits e.params 21 20, parallel := bits e.params 23 22 }
      else { y with use := .output, driven := false, dark := false, committed := false, command := false, count := 0, filtered := false,
                    broken := false, wireCount := 0, limit := 0, wireBreak := false,
                    safeState := bits e.params 21 20, parallel := bits e.params 23 22 }
    else if y.use = .input then
      let y := { y with wireBreak := wb, type3 := bit e.params 0, safeState := 0, parallel := 0,
                        broken := y.broken && wb, wireCount := if wb then y.wireCount else 0 }
      if limit = y.limit ∧ k' = k then y
      else { y with limit := limit, count := if y.filtered then limit else 0, wireCount := if y.broken then limit else 0 }
    else { y with use := .input, driven := false, dark := false, outMa := 0, unbalRun := 0, curSum := 0, curN := 0, current := 0,
                  committed := false, count := 0, filtered := false, broken := false,
                  wireCount := 0, limit := limit, wireBreak := wb, type3 := bit e.params 0, safeState := 0, parallel := 0 }

/-- Bind the banks' lanes as the Almanac's Lane entries say, after edits have taken effect (R75, R305). -/
def bindBanks (a : Almanac) (banks : Vector Bank 16) : Vector Bank 16 :=
  let ls := a.filterMap fun p => p.2.lane.map fun q => (q, p.2)
  Vector.ofFn fun (b : BankId) =>
    let k := banks[b.val]
    let mine := ls.filter fun q => q.1.1 == b
    let sk := match mine with
      | q :: _ => bits q.2.params 19 16
      | [] => k.sampleK
    { k with sampleK := sk,
             lanes := Vector.ofFn fun (l : LaneId) =>
               Lane.bind sk k.sampleK ((mine.find? fun q => q.1.2 == l).map fun q => q.2) k.lanes[l.val] }

/-- The committed command of every output lane of a bank (R20), given for each lane. -/
def Bank.commit (b : Bank) (f : LaneId → Bool) : Bank :=
  { b with lanes := Vector.ofFn fun l => { b.lanes[l.val] with committed := b.lanes[l.val].use == .output && f l } }

/-- The HOLD gate of every bank opens or closes (R301, R309): closed, its outputs are off; open, they take the commands
last refreshed (R442), unless the bank or the lane is latched off. -/
def State.setGates (s : State) (isOpen : Bool) : State :=
  { s with io := { s.io with banks := s.io.banks.map fun b =>
      { b with gateOpen := isOpen, lanes := b.lanes.map fun l =>
          { l with driven := isOpen && l.use == .output && l.command && !b.supplyMissing && !b.timerExpired && !l.thermal } } } }

/-- A bank's power-up (R315): SUPPLY_LOW starts set. -/
def Bank.powerUp : Bank := {}

end Sys2Proof.Machine
end

