-- ==== Sys2Proof/Machine/Almanac.lean ====
section
/-! DEFINITION. The Almanac (03): primary values, evaluation of an entry, edits taking effect, and the bytes of an
entry as `alm.read` shows them. -/

namespace Sys2Proof.Machine

/-- Primary value by type (R66). -/
def Entry.primary (e : Entry) : Nat :=
  match e.type with
  | 1 | 6 | 9 | 10 => e.value % 2
  | 2 | 3 | 4 | 5 | 7 | 11 => e.value % 2 ^ 32
  | 8 => e.value % 8
  | _ => 0

/-- An operand that reads as itself: neither FREE, stale nor faulty; an Annotation is never either (R66, R70). -/
def Entry.usable (e : Entry) : Bool := e.type == 12 || (e.type != 0 && !e.stale && !e.fault)

/-- Derived OP (R69). -/
def Entry.op (e : Entry) : Nat := bits e.params 55 48

/-- A Derived entry with OP SET. -/
def Entry.isSet (e : Entry) : Bool := e.type == 5 && e.op == 0

/-- The references an entry reads as operand, INPUT, RESET, SOURCE or BUTTON, without "none" (R60, R78). -/
def Entry.reads (e : Entry) : List Nat :=
  let rs : List Nat := match e.type with
    | 1 => if bit e.binding 7 then [bits e.params 63 40] else []
    | 3 | 4 => if bit e.binding 30 then [bits e.params 63 40] else []
    | 5 => if e.op = 0 then []
      else [bits e.binding 23 0] ++ (if bit e.params 59 then [] else [bits e.params 23 0]) ++ [bits e.params 47 24]
    | 6 => [bits e.binding 23 0]
    | 7 => [bits e.binding 23 0, bits e.params 31 8]
    | 9 | 10 => [bits e.params 23 0]
    | _ => []
  rs.filter fun r => r ≠ noRef

/-- The references an entry holds, the SUBJECT of an Annotation and ORIGIN_CHANNEL of a Registration among them (R88). -/
def Entry.refs (e : Entry) : List Nat :=
  match e.type with
  | 12 => [bits e.binding 23 0].filter fun r => r ≠ noRef
  | 8 => [bits e.params 23 0].filter fun r => r ≠ noRef
  | _ => e.reads

/-- A new VALUE with bits [hi:lo] replaced. -/
def putBits (v hi lo x : Nat) : Nat := v - bits v hi lo * 2 ^ lo + x % 2 ^ (hi + 1 - lo) * 2 ^ lo

/-- A logic operand: its truth after INVERT, and whether it was forced false (R69, R70). -/
def logicOperand (src : Almanac) (ref : Nat) (inv : Bool) : Bool × Bool :=
  let e := Mem.get Entry.free src ref
  if e.usable then ((e.primary != 0) != inv, false) else (false, true)

/-- Clamp to the signed 32-bit limits, and whether it clamped (R69). -/
def clamp32 (v : Int) : Int × Bool :=
  let w := clampInt (-(2 ^ 31)) (2 ^ 31 - 1) v
  (w, decide (w ≠ v))

/-- The bits of a signed 32-bit value. -/
def nat32 (v : Int) : Nat := (v.emod (2 ^ 32)).toNat

/-- A Derived entry's RESULT, SAT and FAULT (R69, R70). SET reads nothing: its RESULT stands as written, and FAULT as a kernel
that owns it has left it (R399, R400). -/
def evalDerived (src : Almanac) (e : Entry) : Entry :=
  let op := e.op
  let a := bits e.binding 23 0
  let b := bits e.params 23 0
  let c := bits e.params 47 24
  let la := logicOperand src a (bit e.params 56)
  let lb := logicOperand src b (bit e.params 57)
  let lc := logicOperand src c (bit e.params 58)
  let lg (r bad : Bool) : Entry := { e with value := putBits e.value 31 0 (flagBit r 0), sat := false, fault := bad }
  let used := ([(a, la), (b, lb), (c, lc)].filter fun q => q.1 ≠ noRef).map fun q => q.2
  let ea := Mem.get Entry.free src a
  let eb := Mem.get Entry.free src b
  let ec := Mem.get Entry.free src c
  let imm := bit e.params 59
  let na := signed 32 ea.primary
  let nb := if imm then signed 24 b else signed 32 eb.primary
  let nc := signed 32 ec.primary
  let okAB := ea.usable && (imm || eb.usable)
  let num (ok : Bool) (r : Int) (sat : Bool) : Entry :=
    if ok then { e with value := putBits e.value 31 0 (nat32 r), sat := sat, fault := false } else { e with fault := true }
  match op with
  | 1 => lg (used.all fun q => q.1) (used.any fun q => q.2)
  | 2 => lg (used.any fun q => q.1) (used.any fun q => q.2)
  | 3 => lg (la.1 != lb.1) (la.2 || lb.2)
  | 4 => lg (decide (2 ≤ la.1.toNat + lb.1.toNat + lc.1.toNat)) (la.2 || lb.2 || lc.2)
  | 5 => lg (if lb.1 then false else la.1 || e.value % 2 ^ 32 != 0) (la.2 || lb.2)
  | 6 => num okAB (if nb ≤ na then 1 else 0) false
  | 7 => num (okAB && ec.usable) (if nb ≤ na ∧ na ≤ nc then 1 else 0) false
  | 8 => num (okAB && ec.usable) (if ec.primary ≠ 0 then nb else na) false
  | 9 => let r := clamp32 (na + nb); num okAB r.1 r.2
  | 10 => let r := clamp32 (na - nb); num okAB r.1 r.2
  | _ => e

/-- OUT and ELAPSED of a Timer. -/
def Entry.timerOut (e : Entry) : Bool := bit e.value 0
def Entry.elapsed (e : Entry) : Nat := bits e.value 63 32

/-- A timer value from OUT and ELAPSED. -/
def timerValue (out : Bool) (el : Nat) : Nat := flagBit out 0 + el * 2 ^ 32

/-- ELAPSED of a timer `d` frames after its last evaluation, its input unchanged (R71, R72). -/
def Entry.elapsedAfter (e : Entry) (d : Nat) : Nat :=
  let p := bits e.params 63 32
  if !e.seen then e.elapsed else match bits e.params 1 0 with
  | 0 => if e.prev then min p (e.elapsed + d) else e.elapsed
  | 1 => if e.prev then e.elapsed else min p (e.elapsed + d)
  | 2 => if e.timerOut then min p (e.elapsed + d) else e.elapsed
  | _ => if e.prev then (e.elapsed + d) % p else e.elapsed

/-- A timer's input turned between its last evaluation and frame `k` (R72): only a cold timer is evaluated late. -/
def Entry.turned (x : Bool) (e : Entry) : Bool := decide (e.mark < e.got.at_) && e.got.input == x

/-- ELAPSED in frame `k` of a timer that has been evaluated, its INPUT being `x` (R71, R72): it counts from the frame in
which INPUT turned. The frames in which INPUT was stale, faulty or FREE do not advance it. Above a PRESET that an edit of PARAMS
alone has lowered it stays, R87 keeping VALUE, where nothing advances it: a PULSE that does not run, and a timer with FAULT
(DESIGN CHOICE, log 351). -/
def Entry.elapsedNow (k : Nat) (x : Bool) (e : Entry) : Nat :=
  let p := bits e.params 63 32
  let ran := e.elapsedAfter (k - e.mark - e.got.lost)
  let since := if e.turned x then k + 1 - e.got.at_ - (e.got.lost - e.got.lostAt) else 0
  let rise := x && (!e.prev || e.turned x)
  let fall := !x && (e.prev || e.turned x)
  match bits e.params 1 0 with
  | 0 => if !x then 0 else if rise then min p since else ran
  | 1 => if x then 0 else if fall then min p since else ran
  | 2 => if e.timerOut && decide (ran < p) then ran else if rise then min p since else if e.timerOut then p else e.elapsed
  | _ => if !x then 0 else if rise then since % p else ran

/-- OUT of a timer from INPUT, ELAPSED and, of a pulse, whether it runs or starts (R71). -/
def Entry.outOf (x runs : Bool) (el : Nat) (e : Entry) : Bool :=
  let p := bits e.params 63 32
  match bits e.params 1 0 with
  | 0 => x && decide (p ≤ el)
  | 1 => x || decide (el < p)
  | 2 => runs && decide (el < p)
  | _ => x && el == 0

/-- A Timer's evaluation in frame `k` (R71, R72): `mark` is the frame of the last one with INPUT usable. One before the first
with a usable INPUT is not counted as the first evaluation (DESIGN CHOICE, log 351). A hot timer is evaluated in every frame, so
its evaluation itself tells which frames are lost to it and what INPUT was. -/
def evalTimer (src : Almanac) (k : Nat) (e : Entry) : Entry :=
  let i := Mem.get Entry.free src (bits e.binding 23 0)
  let x := i.primary != 0
  if !i.usable then { e with fault := true, got := { e.got with lost := e.got.lost + e.hot.toNat } }
  else
    let el := if e.seen then e.elapsedNow k x else if bits e.params 1 0 = 1 && !x then bits e.params 63 32 else 0
    let runs := e.seen && (e.timerOut || (x && (!e.prev || e.turned x)))
    { e with value := timerValue (e.outOf x runs el) el, fault := false, prev := x, seen := true, mark := k,
             got := { e.got with input := x, lost := 0, lostAt := 0 } }

/-- What the values that Calends `k` committed tell of a cold timer's INPUT (R72): that it has turned, or cannot be read. -/
def noteInput (shown : Almanac) (k : Nat) (e : Entry) : Entry :=
  let i := Mem.get Entry.free shown (bits e.binding 23 0)
  let x := i.primary != 0
  if e.hot then e
  else if !i.usable then { e with got := { e.got with lost := e.got.lost + 1 } }
  else if e.got.input == x then e
  else { e with got := { e.got with input := x, at_ := k, lostAt := e.got.lost } }

/-- FULL_SCALE of a Counter. -/
def Entry.fullScale (e : Entry) : Nat := if bits e.params 63 32 = 0 then 2 ^ 32 - 1 else bits e.params 63 32

/-- One increment of a Counter: COUNT, SAT, and whether the counter-saturated event is due (R92). -/
def countUp (mode full count : Nat) (sat : Bool) : Nat × Bool × Bool :=
  if count < full then (count + 1, sat, false)
  else if mode = 2 then (0, sat, false)
  else (count, true, !sat && mode == 0)

/-- A Counter's evaluation (R73, R92), and whether its saturation event is due. The rule leaves two cases open (log 310):
RESET that is stale, faulty or FREE is not true and the counter counts on with FAULT set; RESET that is true clears COUNT
also where INPUT is stale or faulty. An evaluation before the first with a usable INPUT is not the first evaluation (DESIGN
CHOICE, log 351). -/
def evalCounter (src : Almanac) (e : Entry) : Entry × Bool :=
  let i := Mem.get Entry.free src (bits e.binding 23 0)
  let rr := bits e.params 31 8
  let r := Mem.get Entry.free src rr
  let bad := !i.usable || (rr != noRef && !r.usable)
  let reset := rr != noRef && r.usable && r.primary != 0
  let x := i.primary != 0
  let e' := if i.usable then { e with prev := x, seen := true } else e
  let e' := { e' with fault := bad }
  if reset then ({ e' with value := putBits e.value 31 0 0, sat := false }, false)
  else if i.usable && e.seen && x && !e.prev then
    let q := countUp (bits e.params 1 0) e.fullScale (e.value % 2 ^ 32) e.sat
    ({ e' with value := putBits e.value 31 0 q.1, sat := q.2.1 }, q.2.2)
  else (e', false)

/-- Payload bit `n` under a bit numbering (R616). -/
def payloadBit (msbFirst : Bool) (p : List Byte) (n : Nat) : Bool :=
  (byteAt p (n / 8)).testBit (if msbFirst then 7 - n % 8 else n % 8)

/-- The field of a payload (R616). -/
def payloadField (msbFirst : Bool) (p : List Byte) (off w : Nat) : Nat :=
  ((List.range w).map fun i =>
    flagBit (payloadBit msbFirst p (off + i)) (if msbFirst then w - 1 - i else i)).foldl (· + ·) 0

/-- A payload with bit `n` set under a bit numbering (R616); the payload's bit was 0. -/
def setPayloadBit (msbFirst : Bool) (p : List Byte) (n : Nat) : List Byte :=
  p.modify (n / 8) fun b => b ||| (1#8 <<< (if msbFirst then 7 - n % 8 else n % 8))

/-- A payload with a field written into zero bits (R74, R616). -/
def putField (msbFirst : Bool) (p : List Byte) (off w v : Nat) : List Byte :=
  (List.range w).foldl (fun p i => if v.testBit (if msbFirst then w - 1 - i else i) then setPayloadBit msbFirst p (off + i) else p) p

/-- Bytes of a payload that a field covers, which bound its length (R68, R74, R616). -/
def fieldEnd (off w : Nat) : Nat := (off + w + 7) / 8

/-- FIELD as 32 bits, sign-extended under SIGNED. -/
def extendField (sgn : Bool) (w v : Nat) : Nat := if sgn then nat32 (signed w v) else v

/-- The frames of image `k` that match a receiving point, oldest first, evaluated or not (R68). -/
def notePoint (k : Nat) (got : List (List Byte)) (e : Entry) : Entry :=
  match got.getLast? with
  | none => e
  | some p =>
    let off := bits e.params 14 4
    let w := bits e.params 20 15
    let short := decide (p.length < fieldEnd off w)
    let v := extendField (bit e.params 21) w (payloadField (bit e.params 22) p off w)
    { e with got := { e.got with heard := true, at_ := k, short := short, field := if short then e.got.field else v } }

/-- A receiving CAN point or car-link point in frame `k` (R68): AGE counts from the latest matching frame, or from the
frame before the one of effect where none has come. -/
def evalPoint (k : Nat) (e : Entry) : Entry :=
  let maxAge := bits e.params 31 24
  let age := min 65535 (if e.got.heard then k - e.got.at_ else k + 1 - e.mark)
  { e with value := e.got.field + age * 2 ^ 32, fault := e.got.heard && e.got.short && e.got.at_ == k,
           stale := decide (maxAge ≠ 0) && decide (maxAge < age), seen := true }

/-- A frame of the image is received by a CAN point: identifier and format agree, and it carries data (R332). -/
def CanFrame.matchesPoint (f : CanFrame) (e : Entry) : Bool :=
  f.ide == bit e.binding 29 && f.id == bits e.binding 28 0 && !f.rtr

/-- BANK_STATUS of an entry from the image (R21, R64). -/
def Io.bankStatus (io : Io) (e : Entry) : Nat :=
  match e.type with
  | 1 =>
    let b := io.image.banks[(Fin.ofNat 16 (bits e.binding 3 0)).val]
    flagBit b.supplyLow 0 + flagBit b.supplyMissing 1 + flagBit b.timerExpired 2 + flagBit b.linkFault 3
  | 2 => flagBit io.image.encBlock[(Fin.ofNat 8 (bits e.binding 2 0)).val] 0
  | 3 => busBits io (bits e.params 3 0)
  | 4 => linkBits io (bits e.binding 2 0)
  | 11 => if bit e.binding 30 then linkBits io (bits e.params 2 0) else busBits io (bits e.params 3 0)
  | _ => 0
where
  /-- ERROR_STATE and LONELY_BUS of a bus (R342, R343). -/
  busBits (io : Io) (n : Nat) : Nat :=
    let b := io.buses[(Fin.ofNat 16 n).val]
    (match b.shownState with
     | .active => 0
     | .passive => 1
     | .busOff => 2) + flagBit b.shownLonely 2
  /-- LINK_DOWN and PHY_DIE_FAULT of a car link (R362). -/
  linkBits (io : Io) (n : Nat) : Nat :=
    let l := io.links[(Fin.ofNat 8 n).val]
    flagBit l.shownDown 0 + flagBit l.phyFault 1

/-- The safety output that a channel carries in a car: 0 BRAKE_A to 5 STO_B (R292, R296). -/
def SafeCfg.outOf (c : SafeCfg) (chan : Nat) : Option (Fin 6) :=
  ([(6, 0), (7, 1), (12, 2), (13, 3), (14, 4), (15, 5)] : List (Fin 17 × Fin 6)).findSome? fun q =>
    if c.lanes[q.1.val] = chan then some q.2 else none

/-- SG's command for a safety lane, none when no car has the channel as an output (R18). -/
def State.sgCommand (s : State) (chan : Nat) : Option Bool :=
  (List.finRange 8).findSome? fun c =>
    let x := s.grp.cars[c.val].safe
    if x.configured then (x.cfg.outOf chan).map fun o => x.outs[o.val].want else none

/-- The command that an output lane's own SOURCE gives (R76); the second part tells that it was stale, faulty or FREE. -/
def sourceCommand (src : Almanac) (e : Entry) : Bool × Bool :=
  let r := bits e.params 63 40
  if r = noRef then (false, false)
  else
    let x := Mem.get Entry.free src r
    if x.usable then (x.primary != 0, false) else (false, true)

/-- The channel of the lowest member of an output lane's group (R311), for the other members. -/
def leadChan (src : Almanac) (e : Entry) : Option Nat :=
  match e.lane with
  | none => none
  | some (b, l) =>
    let lead : LaneId := match bits e.params 23 22 with
      | 1 => Fin.ofNat 8 (l.val / 2 * 2)
      | 2 => Fin.ofNat 8 (l.val / 4 * 4)
      | _ => l
    if lead = l then none else laneChan src b lead

/-- The command of an output lane: from its SOURCE, or its group's, which is the STATE of the member that carries SOURCE (R76,
R311, R312). -/
def laneCommand (src : Almanac) (e : Entry) : Bool × Bool :=
  match leadChan src e with
  | none => sourceCommand src e
  | some c => let x := Mem.get Entry.free src c; (bit x.value 0, (sourceCommand src x).2)

/-- A Lane entry's evaluation (R76, R309, R318, R322); `cmd` is the output's command and whether its source failed. The
first evaluation has no state before it: it counts no transition in CHANGES (R91, log 311). -/
def evalLane (im : BankImage) (l : LaneId) (cmd : Bool × Bool) (e : Entry) : Entry :=
  let y := im.lanes[l.val]
  let out := bit e.binding 7
  let st := if out then cmd.1 else y.use == .input && y.state
  let down := im.supplyMissing || im.timerExpired || im.linkFault
  let changed := e.seen && st != bit e.value 0
  let changes := (bits e.value 47 32 + changed.toNat) % 2 ^ 16
  let own := if out then y.use == .output else y.use == .input
  let cls := if own then y.faultClass else 0
  let brk := !out && own && y.broken
  { e with value := flagBit st 0 + flagBit brk 1 + flagBit (out && own && y.readback) 2 + 8 * cls
                    + 256 * (if own then y.current else 0) + 2 ^ 32 * changes,
           fault := brk || cls != 0 || (if out then cmd.2 else down), stale := false, seen := true }

/-- The count change of a run of `n` quarter periods at a receiver in line state `p`, positive for A before B (R615): every
edge under ×4, the edges of A under ×2, the rising edges of A under ×1. -/
def runCount (decode : Nat) (p : Fin 4) (n : Int) : Int :=
  let a : Int := p.val
  let b := a + n
  match decode with
  | 1 => (b + 1) / 2 - (a + 1) / 2
  | 2 => if 0 ≤ n then (b + 3) / 4 - (a + 3) / 4 else (b + 1) / 4 - (a + 1) / 4
  | _ => n

/-- The line state after a run (R615). -/
def runPhase (p : Fin 4) (n : Int) : Fin 4 := Fin.ofNat 4 ((p.val + n) % 4).toNat

/-- The count change of runs, oldest first, and the line state after them (R615). -/
def runsCount (decode : Nat) (p : Fin 4) (ns : List Int) : Int × Fin 4 :=
  ns.foldl (fun q n => (q.1 + runCount decode q.2 n, runPhase q.2 n)) (0, p)

/-- An Encoder entry's evaluation in frame `k` (R615): COUNT takes what the images since the frame of effect have brought,
DELTA shows the present image's change. -/
def evalEncoder (k : Nat) (change : Int) (bad : Bool) (e : Entry) : Entry :=
  let d := if e.mark = k then 0 else change
  let v := clampInt (-32767) 32767 d
  { e with value := nat32 (signed 32 (e.value % 2 ^ 32) + e.got.change) + 2 ^ 32 * (v.emod 65536).toNat, got := { e.got with change := 0 },
           sat := decide (v ≠ d), fault := bad, stale := false, seen := true }

/-- The receiver's count change in the image for an Encoder entry (R615). -/
def Io.encChange (io : Io) (e : Entry) : Int := io.image.enc[(Fin.ofNat 8 (bits e.binding 2 0)).val]

/-- A call's remembered button state (R183, R184). -/
def evalButton (src : Almanac) (e : Entry) : Entry :=
  let b := Mem.get Entry.free src (bits e.params 23 0)
  { e with prev := if b.usable then b.primary != 0 else e.prev, seen := e.seen || b.usable, stale := false, fault := !b.usable }

/-- A call's button has risen in this evaluation (R183, R184). -/
def buttonRose (src : Almanac) (e : Entry) : Bool :=
  let b := Mem.get Entry.free src (bits e.params 23 0)
  b.usable && b.primary != 0 && e.seen && !e.prev

/-- The evaluation of one entry in frame `k`, reading other entries from `src` (R77, R80), and whether a
counter-saturated event is due. Streams, registrations and annotations are not evaluated. -/
def State.evalEntry (s : State) (src : Almanac) (k chan : Nat) (e : Entry) : Entry × Bool :=
  match e.type with
  | 1 =>
    match e.lane with
    | some (b, l) =>
      let cmd := if e.isOutput then
          match s.sgCommand chan with
          | some v => (v, false)
          | none => laneCommand src e
        else (false, false)
      (evalLane s.io.image.banks[b.val] l cmd e, false)
    | none => (e, false)
  | 2 => (evalEncoder k (s.io.encChange e) s.io.image.encFault[(Fin.ofNat 8 (bits e.binding 2 0)).val] e, false)
  | 3 =>
    if bit e.binding 30 then (e, false) else (evalPoint k e, false)
  | 4 =>
    if bit e.binding 30 then (e, false) else (evalPoint k e, false)
  | 5 => ({ evalDerived src e with stale := false, seen := true }, false)
  | 6 => ({ evalTimer src k e with stale := false }, false)
  | 7 => let q := evalCounter src e; ({ q.1 with stale := false }, q.2)
  | 9 | 10 => (evalButton src e, false)
  | _ => (e, false)

/-- Evaluate one hot entry in the Sequence phase (R77, R92). -/
def State.sequenceHot (k : Nat) (s : State) (chan : Nat) : State :=
  let q := s.evalEntry s.grp.alm k chan (s.entry chan)
  let s := s.setEntry chan { q.1 with stamp := k % 2 ^ 32 }
  if q.2 then s.record 0x0301 0xFF (leBytes 3 chan) else s

/-- A hot output lane takes its command from a later hot entry, its group's lowest member (R312). -/
def State.waitsForLead (s : State) (chan lead : Nat) : Bool :=
  let e := s.entry chan
  e.isOutput && e.hot && leadChan s.grp.alm e == some lead && decide (chan < lead) && (s.entry lead).hot

/-- A hot entry's turn (R77): members of its group that stand before it are evaluated with it, so that every member's STATE is
the group's command (R312, log 362). -/
def State.sequenceOne (k : Nat) (s : State) (chan : Nat) : State :=
  if (leadChan s.grp.alm (s.entry chan)).any fun l => s.waitsForLead chan l then s
  else
    let s := s.sequenceHot k chan
    if bits (s.entry chan).params 23 22 = 0 ∨ !(s.entry chan).isOutput then s
    else ((s.grp.alm.filter fun q => s.waitsForLead q.1 chan).map fun q => q.1).foldl (State.sequenceHot k) s

/-- What an image brings an entry, evaluated in this frame or not: its bank's status (R21), an Encoder's count change from
the image after that of its Calends of effect on (R615), a receive point's matching frames (R68), and the turn of a cold
timer's INPUT (R72). -/
def State.noteEntry (s : State) (e : Entry) : Entry :=
  let k := s.grp.frame
  let e := { e with bank := s.io.bankStatus e }
  match e.type with
  | 3 => if bit e.binding 30 then e
    else notePoint k ((s.io.image.can[(Fin.ofNat 16 (bits e.params 3 0)).val].filter fun f => f.matchesPoint e).map fun f => f.data) e
  | 4 => if bit e.binding 30 then e
    else notePoint k (s.io.image.uplink[(Fin.ofNat 8 (bits e.binding 2 0)).val].toList.map fun u => u.bytes) e
  | 2 => if e.mark = k then e else { e with got := { e.got with change := e.got.change + s.io.encChange e } }
  | 6 => noteInput s.grp.shown k e
  | _ => e

/-- Every entry takes what the image brings it, and a cold timer as it is read what its INPUT tells (R72). -/
def State.noteImage (s : State) : State :=
  { s with grp := { s.grp with
      alm := s.grp.alm.map fun q => if q.2.type = 0 then q else (q.1, s.noteEntry q.2),
      shown := s.grp.shown.map fun q => if q.2.type = 6 then (q.1, noteInput s.grp.shown s.grp.frame q.2) else q } }

/-- The Sequence phase of a frame (R77): every hot entry once, in ascending order. -/
def State.sequence (s : State) : State :=
  let s := s.noteImage
  ((s.grp.alm.filter fun p => p.2.hot).map fun p => p.1).foldl (State.sequenceOne s.grp.frame) s

/-- The newest of two stamps relative to the present frame (R80). -/
def newerStamp (k a b : Nat) : Nat :=
  if (k + 2 ^ 32 - a % 2 ^ 32) % 2 ^ 32 ≤ (k + 2 ^ 32 - b % 2 ^ 32) % 2 ^ 32 then a else b

/-- The stamp of a cold result (R80): image `k` for what is taken from the image, else the newest stamp it read. A transmit
point keeps what its assembly left. -/
def coldStamp (src : Almanac) (k : Nat) (e : Entry) : Nat :=
  if (e.type = 3 ∨ e.type = 4) ∧ bit e.binding 30 then e.stamp
  else if e.type = 1 ∨ e.type = 2 ∨ e.type = 3 ∨ e.type = 4 then k % 2 ^ 32
  else match e.reads with
    | [] => e.stamp
    | r :: rs => rs.foldl (fun a c => newerStamp (k % 2 ^ 32) a (Mem.get Entry.free src c).stamp) (Mem.get Entry.free src r).stamp

/-- Evaluate one cold entry from the values committed at the latest Calends (R27, R80). -/
def State.coldOne (s : State) (chan : Nat) : State :=
  let e := s.entry chan
  if e.hot || e.type == 0 || e.type == 8 || e.type == 11 || e.type == 12 then s
  else
    let k := s.grp.frame
    let q := s.evalEntry s.grp.shown k chan e
    let s := s.setEntry chan { q.1 with stamp := coldStamp s.grp.shown k e }
    if q.2 then s.record 0x0301 0xFF (leBytes 3 chan) else s

/-- What PARAMS alone changes in a Counter's VALUE (R87): COUNT and SAT under the new FULL_SCALE. -/
def Entry.refit (e : Entry) : Entry :=
  if e.type ≠ 7 then e
  else
    let c := e.value % 2 ^ 32
    let f := e.fullScale
    if c ≤ f then e
    else if bits e.params 1 0 = 2 then { e with value := putBits e.value 31 0 (c % (f + 1)) }
    else { e with value := putBits e.value 31 0 f, sat := true }

/-- The values of an edited entry that a `alm.write` gives: RESULT of SET, TEXT of an Annotation (R61, R84). -/
def writtenValue (t p : Nat) (wv : Bool) (v old : Nat) : Nat :=
  if t = 12 ∧ wv then v else if t = 5 ∧ bits p 55 48 = 0 ∧ wv then v % 2 ^ 32 else old

/-- A committed edit takes effect at Calends `k` (R61, R85, R87, R88), with the VERSION of its acceptance (R86). -/
def applyEdit (k : Nat) (a : Almanac) (x : Edit) : Almanac :=
  let e := Mem.get Entry.free a x.chan
  let e := match x.write with
    | none => e
    | some (t, wv, b, p, v) =>
      if t = 0 then Entry.free
      else if t = e.type ∧ b = e.binding then ({ e with params := p, value := writtenValue t p wv v e.value }).refit
      else { e with type := t, binding := b, params := p, value := writtenValue t p wv v 0, sat := false, fault := false,
                    stale := t ≠ 12, seen := false, prev := false, mark := k, stamp := k % 2 ^ 32, bank := 0, got := {} }
  let e := match x.residency with
    | none => e
    | some h => if e.type = 0 then e else { e with hot := h }
  Mem.set Entry.free a x.chan { e with pending := false, version := if e.type = 0 then 0 else x.gives }

/-- An entry's owning car (R23, R65): by its port, or the safety set of its lane. -/
def State.entryCar (s : State) (e : Entry) : Option CarId :=
  match e.type with
  | 1 => match e.lane with
    | some (b, l) => laneOwner s.grp.alm s.grp.cars b l
    | none => none
  | 2 => finOf 8 (bits e.binding 2 0)
  | 3 => finOf 8 (bits e.params 3 0 / 2)
  | 4 => finOf 8 (bits e.binding 2 0)
  | 11 => finOf 8 (if bit e.binding 30 then bits e.params 2 0 else bits e.params 3 0 / 2)
  | _ => none

/-- FLAGS (R63–R65). -/
def State.entryFlags (s : State) (e : Entry) : Nat :=
  if e.type = 0 then 8 + flagBit e.pending 4
  else
    let car := s.entryCar e
    flagBit e.hot 0 + flagBit e.sat 1 + flagBit e.stale 2 + flagBit e.fault 3 + flagBit e.pending 4
      + flagBit (e.type == 1 && car.isSome) 5 + flagBit car.isSome 6 + 128 * (car.map fun c => c.val).getD 0 + 1024 * e.bank

/-- VALUE as a read shows it: a cold timer's ELAPSED is exact when read (R72). -/
def Entry.shownValue (k : Nat) (e : Entry) : Nat :=
  if e.type = 6 ∧ !e.hot ∧ e.seen then timerValue e.timerOut (e.elapsedNow k (if e.mark < e.got.at_ then e.got.input else e.prev)) else e.value

/-- The 32 bytes of an entry (R61, R62). -/
def State.entryBytes (s : State) (e : Entry) : List Byte :=
  let h := [byte e.type] ++ leBytes 3 (s.entryFlags e) ++ leBytes 4 e.binding ++ leBytes 8 e.params
    ++ leBytes 8 (e.shownValue s.grp.frame) ++ leBytes 4 e.stamp ++ [byte e.version, 0]
  h ++ leBytes 2 (crc16 h)

/-- Truth of a reference as control-plane logic reads it: unusable entries read false (R70). -/
def State.refTrue (s : State) (ref : Nat) : Bool :=
  let e := s.entry ref
  ref != noRef && e.usable && e.primary != 0

end Sys2Proof.Machine
end

