-- ==== Sys2Proof/Machine/Crypto.lean ====
section
/-! DEFINITION. SHA-256 (FIPS 180-4) and HMAC (RFC 2104), which R474, R558 and R565 name. -/

namespace Sys2Proof.Machine

/-- Build the greatest number below `2 ^ n` above `r` whose `k`-th power is at most `x`, bit by bit from the top. -/
def rootFrom (k x : Nat) : Nat → Nat → Nat
  | 0, r => r
  | n + 1, r => rootFrom k x n (if (r + 2 ^ n) ^ k ≤ x then r + 2 ^ n else r)

/-- The first 32 bits of the fraction of the `k`-th root of `p`, where that root is below 32. -/
def rootFraction (k p : Nat) : BitVec 32 := BitVec.ofNat 32 (rootFrom k (p * 2 ^ (32 * k)) 37 0)

/-- The first 64 primes: a number below 19 × 19 is prime when no smaller prime up to 17 divides it. -/
def firstPrimes : List Nat := (List.range 312).filter fun n => decide (2 ≤ n) && [2, 3, 5, 7, 11, 13, 17].all fun d => n == d || n % d != 0

/-- The exclusive or of some rotations of a word. -/
def turns (x : BitVec 32) (ns : List Nat) : BitVec 32 := (ns.map x.rotateRight).foldl (· ^^^ ·) 0

/-- The message words of a block in order, `n` of them, from a window of the next 16. -/
def shaWords : Nat → List (BitVec 32) → List (BitVec 32)
  | 0, _ => []
  | n + 1, win =>
    let x := win.getD 1 0
    let y := win.getD 14 0
    let next := win.getD 0 0 + (turns x [7, 18] ^^^ (x >>> 3)) + win.getD 9 0 + (turns y [17, 19] ^^^ (y >>> 10))
    win.getD 0 0 :: shaWords n (win.drop 1 ++ [next])

/-- A hash value as two histories, each newest first: what the working variables a to d and e to h run through. -/
abbrev ShaHist := List (BitVec 32) × List (BitVec 32)

/-- A round: its key is the sum of its constant and its message word. -/
def ShaHist.round (h : ShaHist) (key : BitVec 32) : ShaHist :=
  let x (i : Nat) := h.1.getD i 0
  let y (i : Nat) := h.2.getD i 0
  let t := key + y 3 + turns (y 0) [6, 11, 25] + (y 2 ^^^ (y 0 &&& (y 1 ^^^ y 2)))
  ((t + turns (x 0) [2, 13, 22] + ((x 0 &&& x 1) ||| (x 2 &&& (x 0 ||| x 1)))) :: h.1.take 3, (x 3 + t) :: h.2.take 3)

/-- The big-endian words of some bytes. -/
def bigWords : List Byte → List (BitVec 32)
  | p :: q :: r :: s :: rest => (p ++ q ++ r ++ s) :: bigWords rest
  | _ => []

/-- One block enters a hash value, with the round constants `ks`. -/
def ShaHist.absorb (ks : List (BitVec 32)) (h : ShaHist) (block : List Byte) : ShaHist :=
  let g := (ks.zipWith (· + ·) (shaWords 64 (bigWords block))).foldl ShaHist.round h
  (h.1.zipWith (· + ·) g.1, h.2.zipWith (· + ·) g.2)

/-- A message cut into blocks of 64 bytes, `n` of them. -/
def blocksOf : Nat → List Byte → List (List Byte)
  | 0, _ => []
  | n + 1, m => m.take 64 :: blocksOf n (m.drop 64)

/-- SHA-256: its round constants are fractions of cube roots of primes, its initial value those of square roots. -/
def sha256 (m : List Byte) : List Byte :=
  let pad := m ++ [0x80#8] ++ zeros ((119 - m.length % 64) % 64) ++ (leBytes 8 (8 * m.length)).reverse
  let start := (firstPrimes.take 8).map (rootFraction 2)
  let h := (blocksOf (pad.length / 64) pad).foldl (ShaHist.absorb (firstPrimes.map (rootFraction 3))) (start.take 4, start.drop 4)
  (h.1 ++ h.2).flatMap fun w => (leBytes 4 w.toNat).reverse

/-- HMAC-SHA-256 (RFC 2104). -/
def hmacSha256 (key m : List Byte) : List Byte :=
  let k := padTo 64 (if 64 < key.length then sha256 key else key)
  sha256 (k.map (· ^^^ 0x5C#8) ++ sha256 (k.map (· ^^^ 0x36#8) ++ m))

/-- Big-endian number of `n` bytes. -/
def beNat (bs : List Byte) : Nat := bs.foldl (fun a b => 256 * a + b.toNat) 0

/-- `n` big-endian bytes. -/
def be (n v : Nat) : List Byte := (leBytes n v).reverse

/-- LM-OTS parameters w, p and ls of a typecode (RFC 8554, n = 32). -/
def otsParams : Nat → Option (Nat × Nat × Nat)
  | 1 => some (1, 265, 7)
  | 2 => some (2, 133, 6)
  | 3 => some (4, 67, 4)
  | 4 => some (8, 34, 0)
  | _ => none

/-- LMS tree height of a typecode (RFC 8554, m = 32). -/
def lmsHeight : Nat → Option Nat
  | 5 => some 5
  | 6 => some 10
  | 7 => some 15
  | 8 => some 20
  | 9 => some 25
  | _ => none

/-- The `i`-th w-bit coefficient of a byte string (RFC 8554). -/
def otsCoef (bs : List Byte) (i w : Nat) : Nat :=
  byteAt bs (i * w / 8) / 2 ^ (8 - (w * (i % (8 / w)) + w)) % 2 ^ w

/-- Iterate the chain hash from step `a` for `k` steps. -/
def otsChain (pre : List Byte) : Nat → Nat → List Byte → List Byte
  | 0, _, t => t
  | k + 1, a, t => otsChain pre k (a + 1) (sha256 (pre ++ be 1 a ++ t))

/-- The LM-OTS candidate key of a signature (RFC 8554, algorithm 4b). -/
def otsCandidate (ident : List Byte) (q w p ls : Nat) (c y msg : List Byte) : List Byte :=
  let qh := sha256 (ident ++ be 4 q ++ be 2 0x8181 ++ c ++ msg)
  let sum := ((List.range (256 / w)).map fun i => 2 ^ w - 1 - otsCoef qh i w).foldl (· + ·) 0
  let qc := qh ++ be 2 (sum * 2 ^ ls)
  let z := (List.range p).flatMap fun i =>
    let a := otsCoef qc i w
    otsChain (ident ++ be 4 q ++ be 2 i) (2 ^ w - 1 - a) a ((y.drop (32 * i)).take 32)
  sha256 (ident ++ be 4 q ++ be 2 0x8080 ++ z)

/-- The root that an authentication path leads to (RFC 8554, algorithm 6a). -/
def lmsRoot (ident : List Byte) : Nat → Nat → List Byte → List Byte → List Byte
  | 0, _, t, _ => t
  | h + 1, node, t, path =>
    let sib := path.take 32
    let pair := if node % 2 = 1 then sib ++ t else t ++ sib
    lmsRoot ident h (node / 2) (sha256 (ident ++ be 4 (node / 2) ++ be 2 0x8383 ++ pair)) (path.drop 32)

/-- Length of the LMS signature at the front of some bytes, when its typecodes are known. -/
def lmsSigLen (sig : List Byte) : Option Nat :=
  match otsParams (beNat ((sig.drop 4).take 4)) with
  | none => none
  | some (_, p, _) =>
    let n := 4 + 4 + 32 + 32 * p
    (lmsHeight (beNat ((sig.drop n).take 4))).map fun h => n + 4 + 32 * h

/-- An LMS signature verifies under a 56-byte LMS public key (RFC 8554). -/
def lmsVerify (pub msg sig : List Byte) : Bool :=
  match otsParams (beNat ((pub.drop 4).take 4)), lmsHeight (beNat (pub.take 4)) with
  | some (w, p, ls), some h =>
    let q := beNat (sig.take 4)
    let n := 4 + 4 + 32 + 32 * p
    let ident := (pub.drop 8).take 16
    let kc := otsCandidate ident q w p ls ((sig.drop 8).take 32) ((sig.drop 40).take (32 * p)) msg
    decide (pub.length = 56) && decide (sig.length = n + 4 + 32 * h) && decide (q < 2 ^ h)
      && decide ((sig.drop 4).take 4 = (pub.drop 4).take 4) && decide ((sig.drop n).take 4 = pub.take 4)
      && decide (lmsRoot ident h (2 ^ h + q) (sha256 (ident ++ be 4 (2 ^ h + q) ++ be 2 0x8282 ++ kc))
          (sig.drop (n + 4)) = pub.drop 24)
  | _, _ => false

/-- The levels of an HSS signature, one signed public key after another. -/
def hssLevels : Nat → List Byte → List Byte → List Byte → Bool
  | 0, pub, msg, sig => lmsVerify pub msg sig
  | k + 1, pub, msg, sig =>
    match lmsSigLen sig with
    | none => false
    | some n =>
      let next := (sig.drop n).take 56
      lmsVerify pub next (sig.take n) && hssLevels k next msg (sig.drop (n + 56))

/-- An HSS signature verifies under a 60-byte HSS public key (R559, RFC 8554). -/
def hssVerify (pub msg sig : List Byte) : Bool :=
  let l := beNat (pub.take 4)
  decide (pub.length = 60) && decide (1 ≤ l) && decide (l ≤ 3) && decide (beNat (sig.take 4) + 1 = l)
    && hssLevels (l - 1) (pub.drop 4) msg (sig.drop 4)

/-- A customer HSS public key inside the parameter sets of R559. -/
def hssKeyOk (pub : List Byte) : Bool :=
  let l := beNat (pub.take 4)
  decide (pub.length = 60) && decide (1 ≤ l) && decide (l ≤ 3) && (lmsHeight (beNat ((pub.drop 4).take 4))).isSome
    && (otsParams (beNat ((pub.drop 8).take 4))).isSome

end Sys2Proof.Machine
end

