-- ==== Sys2Proof/Machine/Rings.lean ====
section
/-! DEFINITION. Rings, replies and network slots (13). -/

namespace Sys2Proof.Machine

/-- Slots of a ring (R460, R462). -/
def Ring.slots (r : Ring) : Nat := 2 ^ r.slotsLog2

/-- Bytes of a slot (R460, R462). -/
def Ring.size (r : Ring) : Nat := 64 * 2 ^ r.sizeCode

/-- Published and unconsumed slots (R461). -/
def Ring.used (r : Ring) : Nat := (r.prod + 2 * r.slots - r.cons) % (2 * r.slots)

/-- Free slots (R461). -/
def Ring.room (r : Ring) : Nat := r.slots - r.used

/-- The next index (R461). -/
def Ring.next (r : Ring) (i : Nat) : Nat := (i + 1) % (2 * r.slots)

/-- The bytes of the slot of an index (R461). -/
def Ring.slotBytes (r : Ring) (i : Nat) : List Byte := Mem.slice 0 r.data (i % r.slots * r.size) r.size

/-- Store a slot's bytes and publish it (R461). -/
def Ring.publish (r : Ring) (bytes : List Byte) : Ring :=
  { r with data := Mem.setAll 0 r.data (r.prod % r.slots * r.size) (padTo r.size bytes), prod := r.next r.prod }

/-- Consume the oldest slot (R461). -/
def Ring.consume (r : Ring) : Ring := { r with cons := r.next r.cons }

/-- USE code (R460). -/
def RingUse.code : RingUse → Nat
  | .off => 0
  | .command => 1
  | .reply => 2
  | .dataIn => 3
  | .dataOut => 4

/-- USE from its code. -/
def RingUse.ofCode : Nat → Option RingUse
  | 0 => some .off
  | 1 => some .command
  | 2 => some .reply
  | 3 => some .dataIn
  | 4 => some .dataOut
  | _ => none

/-- RCFG (R462). -/
def Ring.rcfg (r : Ring) : Nat :=
  r.use.code + 2 ^ 3 * r.slotsLog2 + 2 ^ 7 * r.sizeCode + 2 ^ 10 * (r.partner % 64)

/-- The module publishes a slot on a REPLY or DATA_OUT ring and raises its interrupt (R466). -/
def State.publish (s : State) (r : RingId) (bytes : List Byte) : State :=
  (s.modRing r fun x => x.publish bytes).irqRing r

/-- The module frees a slot of a COMMAND or DATA_IN ring, with its interrupt under IRQ_ON_FREE (R466). -/
def State.freeSlot (s : State) (r : RingId) : State :=
  let s := s.modRing r Ring.consume
  if s.host.rings[r.val].irqOnFree then s.irqRing r else s

/-- The mailbox source of a ring, and of a session (R498). -/
def Source.ofRing (r : RingId) : Source := ⟨r.val, by omega⟩
def Source.ofSession (n : CarId) : Source := ⟨64 + n.val, by omega⟩

/-- The session of a source, if it is one. -/
def Source.session (x : Source) : Option CarId := finOf 8 (x.val - 64) |>.filter fun _ => decide (64 ≤ x.val)

/-- The ring of a source, if it is one. -/
def Source.ring (x : Source) : Option RingId := finOf 64 x.val

/-- Change a network session. -/
def State.modSession (s : State) (n : CarId) (f : Session → Session) : State :=
  { s with grp := { s.grp with sessions := s.grp.sessions.set n.val (f s.grp.sessions[n.val]) } }

/-- Datagram bytes 0 to 11 + DATA_LEN (R473). -/
def datagramHead (kind session index : Nat) (data : List Byte) : List Byte :=
  leBytes 2 0x4758 ++ [byte kind, byte session] ++ leBytes 4 index ++ leBytes 2 data.length ++ [0, 0] ++ data

/-- A datagram with its MAC (R473, R474). -/
def datagram (key nonces : List Byte) (kind session index : Nat) (data : List Byte) : List Byte :=
  let h := datagramHead kind session index data
  h ++ hmacSha256 key (nonces ++ h)

/-- Send a frame on ETH0. -/
def State.ethSend (s : State) (f : List Byte) : State := { s with host := { s.host with ethOut := s.host.ethOut ++ [f] } }

/-- Send a datagram of an open session (R474). -/
def State.sessionSend (s : State) (n : CarId) (kind index : Nat) (data : List Byte) : State :=
  let x := s.grp.sessions[n.val]
  s.ethSend (datagram x.key (x.moduleNonce ++ x.hostNonce) kind (n.val + 1) index data)

/-- Send the next slot of a session's reply direction, kept until it is acknowledged (R475, R476). -/
def State.sendSlot (s : State) (n : CarId) (bytes : List Byte) : State :=
  let i := s.grp.sessions[n.val].txIndex
  let s := s.sessionSend n 2 i bytes
  s.modSession n fun x => { x with
    txIndex := (i + 1) % 2 ^ 32, unacked := x.unacked ++ [(i, bytes)],
    resentAt := if x.unacked.isEmpty then s.grp.frame else x.resentAt }

/-- Room for one more slot toward a reply ring or session (R461, R476), and the slot's size. -/
def State.replyRoom (s : State) (x : Source) : Bool × Nat :=
  match x.session with
  | some n => (decide (s.grp.sessions[n.val].unacked.length < 16), 1024)
  | none =>
    match x.ring with
    | some r =>
      let q := s.host.rings[r.val]
      (decide (q.use = .reply) && decide (0 < q.room), q.size)
    | none => (false, 1024)

/-- Post one slot of the oldest waiting reply (R470, R472). -/
def State.postOne (s : State) (x : Source) : State :=
  match s.host.held[x.val] with
  | [] => s
  | h :: rest =>
    let (ok, size) := s.replyRoom x
    if !ok then s
    else
      let left := h.bytes.drop size
      let held := if left.isEmpty then rest else { h with bytes := left, job := none } :: rest
      let s := { s with host := { s.host with held := s.host.held.set x.val held } }
      match x.session with
      | some n => s.sendSlot n (h.bytes.take size)
      | none =>
        match x.ring with
        | some r => s.publish r (h.bytes.take size)
        | none => s

/-- Post waiting slots, at most `n` (R472). -/
def State.postHeld : Nat → Source → State → State
  | 0, _, s => s
  | n + 1, x, s => State.postHeld n x (s.postOne x)

/-- Slots that the waiting replies of a reply ring or session need, which bounds a posting pass. -/
def State.heldSlots (s : State) (x : Source) : Nat :=
  (s.host.held[x.val].map fun h => h.bytes.length / 64 + 1).foldl (· + ·) 0

/-- A reply's bytes (R469). -/
def replyBytes (opcode tag status flags seq : Nat) (payload : List Byte) : List Byte :=
  let h := leBytes 2 opcode ++ leBytes 2 tag ++ leBytes 2 payload.length ++ [byte status, byte flags] ++ leBytes 4 seq
  h ++ leBytes 2 (crc16 h) ++ leBytes 2 (crc16 payload) ++ payload

/-- Where a command's replies go: its session, its TARGET or its ring's PARTNER (R468, R475). A TARGET that is no REPLY ring
is refused, and that refusal goes to PARTNER (log 336). -/
def State.replyDest (s : State) (src : Source) (target : Nat) : Option Source :=
  match src.session with
  | some _ => some src
  | none =>
    match src.ring with
    | none => none
    | some r =>
      let reply (t : Nat) : Option Source := match finOf 64 t with
        | some q => if s.host.rings[q.val].use = .reply then some (Source.ofRing q) else none
        | none => none
      reply target <|> reply s.host.rings[r.val].partner

/-- Queue a reply and post what fits (R472); a progress reply replaces an older one of its job that still waits. -/
def State.postReply (s : State) (dest : Option Source) (job : Option Nat) (bytes : List Byte) : State :=
  match dest with
  | none => s
  | some x =>
    let old := s.host.held[x.val]
    let kept := match job with
      | some j => old.filter fun h => h.job ≠ some j
      | none => old
    let isOpen := match x.session with
      | some n => s.grp.sessions[n.val].isOpen
      | none => true
    if !isOpen then s
    else
      let s := { s with host := { s.host with held := s.host.held.set x.val (kept ++ [{ job := job, bytes := bytes }]) } }
      State.postHeld (s.heldSlots x) x s

/-- The opening of a source's network session, 0 for a ring (R475). -/
def State.serial (s : State) (src : Source) : Nat :=
  match src.session with
  | some n => s.grp.sessions[n.val].serial
  | none => 0

/-- Where what was asked for in an earlier frame is answered (R475, R493): the replies to a session that has closed since
are discarded. -/
def State.lateDest (s : State) (src : Source) (target serial : Nat) : Option Source :=
  if s.serial src = serial then s.replyDest src target else none

/-- The final reply of a command (R491), left out under QUIET when it is a success without payload (R468). -/
def State.replyTo (s : State) (opcode : Nat) (c : Cmd) (status : Nat) (payload : List Byte) : State :=
  let s := s.modSource c.src fun x => if x.last = some c.seq then { x with lastStatus := status } else x
  if status = 0 ∧ payload = [] ∧ bit c.flags 0 then s
  else s.postReply (s.replyDest c.src c.target) none (replyBytes opcode c.tag status 2 c.seq payload)

/-- The final reply of a command that was accepted in an earlier frame (R475, R492). -/
def State.replyLate (s : State) (opcode : Nat) (c : Cmd) (serial status : Nat) (payload : List Byte) : State :=
  if s.serial c.src = serial then s.replyTo opcode c status payload else s

end Sys2Proof.Machine
end

