-- ==== Sys2Proof/Machine/Operands.lean ====
section
/-! DEFINITION. A mailbox command: its header, the form of its payload, the order of the tests and the reply
(R468, R471, R485–R491). -/

namespace Sys2Proof.Machine

/-- REASON codes of a MALFORMED payload (R490). -/
def whyReserved : Nat := 1
def whyRange : Nat := 2
def whyLength : Nat := 3
def whyCheck : Nat := 4
def whyRule : Nat := 5
def whyRef : Nat := 6
def whyRing : Nat := 7

/-- STATUS codes (R489). -/
def stOk : Nat := 0x00
def stPastEve : Nat := 0x01
def stDuplicate : Nat := 0x02
def stMalformed : Nat := 0x10
def stUnknown : Nat := 0x11
def stSequence : Nat := 0x12
def stForbidden : Nat := 0x13
def stState : Nat := 0x14
def stVersion : Nat := 0x15
def stLimit : Nat := 0x16
def stAdmission : Nat := 0x17
def stSignature : Nat := 0x18
def stJobFailed : Nat := 0x19

/-- What is wrong with a payload (R490). -/
structure Bad where
  offset  : Nat
  reason  : Nat
  subject : Nat := 0xFFFFFF
  deriving DecidableEq, Repr

/-- One test of a payload: it fails, at this offset, for this reason, concerning this channel. -/
abbrev Test := Bool × Nat × Nat × Nat

/-- The first test that fails. -/
def firstBad : List Test → Option Bad
  | [] => none
  | (bad, o, r, c) :: rest => if bad then some ⟨o, r, c⟩ else firstBad rest

/-- Reserved bytes that are not zero (R11). -/
def rsv (p : List Byte) (i n : Nat) : Test := (!zeroAt p i n, i, whyReserved, 0xFFFFFF)

/-- Reserved bits of a byte, those at or above bit `from`, that are not zero (R11). -/
def rsvFrom (p : List Byte) (i lo : Nat) : Test := (decide (2 ^ lo ≤ byteAt p i), i, whyReserved, 0xFFFFFF)

/-- A field outside its range. -/
def rng (i : Nat) (ok : Bool) : Test := (!ok, i, whyRange, 0xFFFFFF)

/-- A broken rule. -/
def rul (i : Nat) (ok : Bool) : Test := (!ok, i, whyRule, 0xFFFFFF)

/-- A reference that does not name what it must. -/
def refT (i : Nat) (ok : Bool) (c : Nat) : Test := (!ok, i, whyRef, c)

/-- A ring of another use (R460). -/
def ringT (i : Nat) (ok : Bool) : Test := (!ok, i, whyRing, 0xFFFFFF)

/-- MALFORMED payload (R490). -/
def Bad.bytes (b : Bad) : List Byte := leBytes 2 b.offset ++ [byte b.reason, 0] ++ leBytes 3 b.subject ++ [0]

/-- How an accepted or refused command ends. -/
inductive Verdict
  /-- refused: nothing changes -/
  | refuse (status : Nat) (payload : List Byte)
  /-- accepted and acted on, with this reply -/
  | done (payload : List Byte) (s : State)
  /-- acted on or not, answered with a RESULT field (R490) -/
  | result (status : Nat) (payload : List Byte) (s : State)
  /-- refused, with what was received for it discarded (R495's example) -/
  | drop (status : Nat) (payload : List Byte) (s : State)
  /-- accepted, answered later (R492) -/
  | later (s : State)

/-- The meaning of a mailbox command: its OPCODE, the test of its LENGTH, the tests of its payload's form, and the
tests 7 to 10 of R487 with its effect. Form and effect are judged on the state as it will stand after every command
already accepted (R487), given first. -/
structure CmdDef where
  opcode : Nat
  len    : Nat → Bool
  form   : State → List Byte → Option Bad
  act    : State → Cmd → State → Verdict

/-- Commands served in RETIRED (R574 and the Commands section of 17). -/
def retiredServes : List Nat := [0x0101, 0x1111, 0x1113, 0x1114, 0x1010, 0x1012, 0x1013, 0x0D10, 0x0D11, 0x0D12]

/-- The life-cycle state allows the command (R549, R574). -/
def lifeAllows (life : Life) (opcode : Nat) : Bool :=
  (life != .retired || retiredServes.contains opcode) && (opcode != 0x1112 || life == .issued)

/-- The header bytes 0–11 of a command (R468). -/
def Cmd.header (c : Cmd) (opcode : Nat) : List Byte :=
  leBytes 2 opcode ++ leBytes 2 c.tag ++ leBytes 2 (c.payload.length + c.cut) ++ [byte c.target, byte c.flags] ++ leBytes 4 c.seq

/-- The module takes commands from this source now: the holder of the group, its control plane running or RETIRED,
and the source an open COMMAND ring or session (R416, R460, R475, R587). -/
def State.takes (s : State) (src : Source) : Bool :=
  ((s.holds && s.running) || s.boot.phase == .retired) &&
  (match src.session with
   | some n => s.grp.sessions[n.val].isOpen
   | none =>
     match src.ring with
     | some r => s.host.rings[r.val].use == .command
     | none => false)

/-- A slot or chain is discarded (R471): its bytes go, CHAIN_DISCARDED and its event bit set. -/
def State.dropChain (s : State) (src : Source) : State :=
  let s := s.modSource src fun x => { x with asm := [], discarded := satInc 32 x.discarded }
  match src.ring with
  | some r => (s.modRing r fun q => { q with chainDiscarded := true }).irqEvent 5
  | none => s

/-- A discarded first slot (R471): CHAIN_DISCARDED, and a malformed reply. -/
def State.discardChain (s : State) (src : Source) (reply : List Byte) : State :=
  let s := s.dropChain src
  s.postReply (s.replyDest src 0xFF) none reply

/-- The unsolicited malformed reply of a discarded first slot (R471, R492). -/
def unsolicited (b : Bad) : List Byte := replyBytes 0 0 stMalformed 4 0 b.bytes

/-- Form of the header beyond its check: TARGET and FLAGS (R468). -/
def headerBad (s : State) (c : Cmd) : Option Bad :=
  firstBad [rsvFrom [byte c.flags] 0 1 |> fun t => (t.1, 0xFFFF, t.2.2.1, t.2.2.2),
    ((match c.src.session with
      | some _ => decide (c.target ≠ 0xFF)
      | none => decide (c.target ≠ 0xFF) && (match finOf 64 c.target with
        | some r => s.host.rings[r.val].use != .reply
        | none => true)), 0xFFFF, whyRing, 0xFFFFFF)]

/-- Judge a command in the order of R487 and answer it. `fut` gives the state after every command already accepted;
`d` is none for an OPCODE that R484 does not list. Of the two tests of R487's step 5 a LENGTH that no buffer takes fails first
(log 336). -/
def judge (fut : State → State) (opcode : Nat) (d : Option CmdDef) (c : Cmd) (s : State) : State :=
  if !s.takes c.src then s
  else if c.hdrCheck ≠ crc16 (c.header opcode) then s.discardChain c.src (unsolicited ⟨0xFFFF, whyCheck, 0xFFFFFF⟩)
  else
    let src := s.grp.sources[c.src.val]
    let reply (s : State) (status : Nat) (p : List Byte) := s.replyTo opcode c status p
    let expected := match src.last with
      | some l => (l + 1) % 2 ^ 32
      | none => c.seq
    if src.last = some c.seq ∧ src.lastHdr = c.hdrCheck ∧ src.lastPay = c.payCheck then
      s.postReply (s.replyDest c.src c.target) none
        (replyBytes opcode c.tag stDuplicate 2 c.seq [byte src.lastStatus, 0, 0, 0])
    else if c.seq ≠ expected then
      s.postReply (s.replyDest c.src c.target) none (replyBytes opcode c.tag stSequence 2 c.seq (leBytes 4 expected))
    else
      let s := s.modSource c.src fun x =>
        { x with last := some c.seq, lastHdr := c.hdrCheck, lastPay := c.payCheck, lastStatus := 0 }
      match d with
      | none => reply s stUnknown []
      | some d =>
        if !lifeAllows s.boot.life opcode then reply s stForbidden []
        else if 0 < c.cut then reply s stMalformed (Bad.bytes ⟨0xFFFF, whyLength, 0xFFFFFF⟩)
        else if c.payCheck ≠ crc16 c.payload then reply s stMalformed (Bad.bytes ⟨0xFFFF, whyCheck, 0xFFFFFF⟩)
        else if !d.len c.payload.length || decide (16368 < c.payload.length) then
          reply s stMalformed (Bad.bytes ⟨0xFFFF, whyLength, 0xFFFFFF⟩)
        else
          let f := fut s
          match headerBad s c with
          | some b => reply s stMalformed b.bytes
          | none =>
            match d.form f c.payload with
            | some b => reply s stMalformed b.bytes
            | none =>
              let ok (s : State) := s.modSource c.src fun x => { x with accepted := satInc 32 x.accepted }
              match d.act f c s with
              | .refuse st p => reply s st p
              | .done p t => reply (ok t) stOk p
              | .result st p t => reply (ok t) st p
              | .drop st p t => reply t st p
              | .later t => ok t

/-- The bytes of a JOB_ID reply (R491). -/
def jobIdBytes (id : Nat) : List Byte := leBytes 2 id ++ [0, 0]

/-- The next free JOB_ID after the module counter, 0 and every ID in use skipped (R493). -/
def nextJobId : Nat → List Job → Nat → Nat
  | 0, _, i => i
  | n + 1, jobs, i =>
    let j := if i = 65535 then 1 else i + 1
    if jobs.any fun x => x.id = j then nextJobId n jobs j else j

/-- The job table is full (R493): step 7 of R487, before the present state of what a command names. -/
def State.jobsFull (s : State) : Bool := decide (256 ≤ s.grp.jobs.length)

/-- Start a job and post its first reply (R491, R493), or refuse with LIMIT. -/
def startJob (kind : JobKind) (opcode : Nat) (c : Cmd) (s : State) : Verdict :=
  if s.jobsFull then .refuse stLimit []
  else
    let id := nextJobId 257 s.grp.jobs s.grp.jobCounter
    let j : Job := { id := id, kind := kind, opcode := opcode, src := c.src, tag := c.tag, seq := c.seq, target := c.target,
                     serial := s.serial c.src, quiet := bit c.flags 0 }
    let s := { s with grp := { s.grp with jobs := s.grp.jobs ++ [j], jobCounter := id } }
    .later (s.postReply (s.replyDest c.src c.target) none (replyBytes opcode c.tag stOk 0 c.seq (jobIdBytes id)))

/-- A job's final reply, and its end (R491). -/
def endJob (j : Job) (status : Nat) (payload : List Byte) (s : State) : State :=
  let s := { s with grp := { s.grp with jobs := s.grp.jobs.filter fun x => x.id ≠ j.id } }
  if status = 0 ∧ payload = [] ∧ j.quiet then s
  else s.postReply (s.lateDest j.src j.target j.serial) none (replyBytes j.opcode j.tag status 2 j.seq payload)

/-- The running job that meets a test. -/
def State.findJob (s : State) (p : Job → Bool) : Option Job := s.grp.jobs.find? p

/-- The meaning of a status command: its reply is computed from the state and nothing else changes. -/
def statusCmd (opcode : Nat) (len : Nat) (tests : State → List Byte → List Test) (reply : State → Cmd → List Byte) : CmdDef :=
  { opcode := opcode, len := fun n => n = len, form := fun f p => firstBad (tests f p), act := fun _ c s => .done (reply s c) s }

/-- The tests of a request whose byte 0 names a car and whose other bytes are reserved. -/
def carTests (_ : State) (p : List Byte) : List Test := [rng 0 (decide (byteAt p 0 < 8)), rsv p 1 (p.length - 1)]

/-- The car that byte 0 names. -/
def carOf (p : List Byte) : CarId := Fin.ofNat 8 (byteAt p 0)

end Sys2Proof.Machine
end

