-- ==== Sys2Proof/Machine/Admission.lean ====
section
/-! DEFINITION. Admission (R40–R43, R494, R495): the charged figures of a configuration and the lowest limit it
breaches. -/

namespace Sys2Proof.Machine

/-- Control-plane limit in cycles (R36). -/
def FrameLen.controlLimit : FrameLen → Nat
  | .us250 => 35000
  | .us125 => 17500

/-- Cycles of a frame (R33). -/
def FrameLen.cycles : FrameLen → Nat
  | .us250 => 50000
  | .us125 => 25000

/-- Cycles from a Calends to the commit guard, 2,000 ns before the next (R47). -/
def FrameLen.guard (l : FrameLen) : Nat := l.cycles - 400

/-- Hot entries allowed (R36, R82). -/
def FrameLen.hotLimit : FrameLen → Nat
  | .us250 => 4096
  | .us125 => 2048

/-- Configured door axes of a car: MASTER, and SLAVE where it is fitted (R216). -/
def Car.axisCount (c : Car) : Nat :=
  total (c.doors.toList.map fun d => d.axes[0].configured.toNat + (d.cfg.slave && d.axes[1].configured).toNat)

/-- Hot entries. -/
def State.hotCount (s : State) : Nat := (s.grp.alm.filter fun q => q.2.hot).length

/-- CHARGED of a kernel slot (R395, R396). -/
def Kernel.charged (k : Kernel) : Nat := if k.state = .empty then 0 else k.hdr.frameCycles + 4 + k.hdr.latency

/-- The customer slots of an engine with their kernels (R395). -/
def State.slotsOf (s : State) (e : EngId) : List Kernel :=
  ((List.finRange 32).filter fun k => k.val / 8 == e.val).map fun k => s.grp.kernels[k.val]

/-- The cars hosted by an engine (R41). -/
def State.carsOf (s : State) (e : EngId) : List Car :=
  ((List.finRange 8).filter fun c => c.val % 4 == e.val && (s.car c).configured).map fun c => s.car c

/-- The engine total of R40. -/
def State.engineTotal (s : State) (e : EngId) : Nat :=
  total ((s.carsOf e).map fun c => 550 + 120 * c.axisCount) + total ((s.slotsOf e).map Kernel.charged)

/-- The largest engine total. -/
def State.largestTotal (s : State) : Nat := ((List.finRange 4).map s.engineTotal).foldl max 0

/-- Configured cars. -/
def State.carsUp (s : State) : List Car := s.grp.cars.toList.filter fun c => c.configured

/-- Streams of the Almanac. -/
def State.streamCount (s : State) : Nat := (s.grp.alm.filter fun q => q.2.type == 11).length

/-- The declared load (R40, R41, R347). -/
def State.declared (s : State) : Nat :=
  2000 + 2 * s.hotCount + s.largestTotal + total (s.carsUp.map fun c => 600 + 150 * c.axisCount) + 40 * s.streamCount
    + 160 * (s.io.buses.toList.filter fun b => b.cfg.mode == .canopen).length + (if s.boot.pair.paired then 400 else 0) + 1000

/-- A CAN stream's PAIR_DUP and LENGTH (03, Stream). -/
def Entry.pairDup (e : Entry) : Bool := e.type == 11 && !bit e.binding 30 && bit e.params 29
def Entry.streamLength (e : Entry) : Nat := bits e.params 12 6

/-- Fixed bytes of the DECISION part (R429, R526). -/
def State.decisionBytes (s : State) (mode : Nat) : Nat :=
  16 + 64 + 32 * s.carsUp.length + 120 * (s.io.links.toList.filter fun l => l.cfg.enabled).length
    + total ((s.grp.alm.filter fun q => q.2.pairDup).map fun q => q.2.streamLength + 8)
    + (if mode = 0 then 0 else 1024)

/-- The fixed total of the pair delta (R429). -/
def State.deltaBytes (s : State) (mode : Nat) : Nat :=
  (16 + 624) + s.decisionBytes mode + 16 + 256 * s.carsUp.length + 32 * total (s.carsUp.map Car.axisCount)
    + 4 * total (s.grp.kernels.toList.map fun k => if k.state = .empty then 0 else k.hdr.outputs.length)

/-- Limits of R428 and R429. -/
def FrameLen.decisionLimit : FrameLen → Nat
  | .us250 => 6144
  | .us125 => 3072
def FrameLen.deltaLimit : FrameLen → Nat
  | .us250 => 12288
  | .us125 => 6144

/-- DRAM held by rings (R460, R479). -/
def State.ringBytes (s : State) : Nat :=
  total (s.host.rings.toList.map fun r => if r.use = .off then 0 else 2 ^ r.slotsLog2 * (64 * 2 ^ r.sizeCode))

/-- Handlers that a kernel declares (R397, R401). -/
def KernelHeader.handlers (h : KernelHeader) : Nat := (bit h.flags 1).toNat + (bit h.flags 2).toNat

/-- Background load and capacity of an engine per Octave (R397). -/
def State.backLoad (s : State) (e : EngId) : Nat :=
  39500 * (s.carsOf e).length +
    total ((s.slotsOf e).map fun k => if k.state = .empty then 0 else k.hdr.bgCycles + 8 * k.hdr.handlerCycles * k.hdr.handlers)
def State.backCapacity (s : State) (len : FrameLen) (e : EngId) : Nat := 8 * (len.cycles - s.engineTotal e)

/-- A hot entry that reads a cold, free or higher entry (R78). -/
def orderBad (a : Almanac) : Option Nat :=
  (a.find? fun q => q.2.hot && q.2.reads.any fun r => decide (q.1 ≤ r) || !(Mem.get Entry.free a r).hot).map fun q => q.1

/-- An entry that a loaded kernel reads and that is not hot (R83, R398). -/
def State.readerBad (s : State) : Option Nat :=
  s.grp.kernels.toList.findSome? fun k =>
    if k.state = .empty then none else k.hdr.inputs.find? fun c => !(s.entry c).hot

/-- A named point that is not hot: a terminal's REQUEST_POINT (R194), a door's CURTAIN_POINT and EDGE_POINT (R233). -/
def State.notHot (s : State) : Option Nat :=
  let terms := s.grp.disp.terminals.filterMap fun t => if t.2.enabled then some t.2.point else none
  let doors := s.carsUp.flatMap fun c => c.doors.toList.flatMap fun d => if d.configured then [d.cfg.curtain, d.cfg.edge] else []
  (terms ++ doors).find? fun c => c != noRef && !(s.entry c).hot

/-- A safety-set channel whose lane is in another car's set (R23, R257). -/
def State.setClash (s : State) : Option Nat :=
  (List.finRange 8).findSome? fun c =>
    (s.car c).safetyChans.find? fun ch => match (s.entry ch).lane with
      | some (b, l) => (List.finRange 8).any fun d => d != c && inSet s.grp.alm (s.car d).safetyChans b l
      | none => false

/-- Two ranges overlap. -/
def overlaps (a n b m : Nat) : Bool := decide (0 < n) && decide (0 < m) && decide (a < b + m) && decide (b < a + n)

/-- A kernel's regions overlap another's on its engine, or an output is owned by another kernel or a map entry
(R399, R402). -/
def State.kernelClash (s : State) : Option Nat :=
  (List.finRange 32).findSome? fun i =>
    let k := s.grp.kernels[i.val]
    if k.state = .empty then none
    else
      let others := ((List.finRange 32).filter fun j => j != i).filterMap fun j =>
        let o := s.grp.kernels[j.val]
        if o.state = .empty then none else some (j, o)
      let lap := others.any fun q => q.1.val / 8 == i.val / 8 &&
        (overlaps k.hdr.progBase k.hdr.progWords q.2.hdr.progBase q.2.hdr.progWords
          || overlaps k.hdr.xBase k.hdr.xWords q.2.hdr.xBase q.2.hdr.xWords
          || overlaps k.hdr.yBase k.hdr.yWords q.2.hdr.yBase q.2.hdr.yWords)
      let owned := k.hdr.outputs.find? fun c => !(s.entry c).isSet || (others.any fun q => q.2.hdr.outputs.contains c)
        || s.io.map.toList.any fun m => m.enabled && m.kind == 0 && m.chan == c
      match owned with
      | some c => some c
      | none => if lap then some noRef else none

/-- A breached limit (R494, R495). -/
structure Breach where
  kind   : Nat
  engine : Nat := 0xFF
  limit  : Nat := 0
  before : Nat := 0
  after  : Nat := 0
  subject : Nat := noRef
  deriving DecidableEq, Repr

/-- A figure beyond its limit. -/
def overLimit (kind limit before after : Nat) : Option Breach :=
  if limit < after then some { kind := kind, limit := limit, before := before, after := after } else none

/-- A rule without a figure. -/
def ruleBreach (kind : Nat) (x : Option Nat) : Option Breach := x.map fun c => { kind := kind, subject := c }

/-- The engine that R495 names for KIND 1. -/
def loadEngine (f a : State) : Nat :=
  if f.largestTotal < a.largestTotal then
    (((List.finRange 4).find? fun e => a.engineTotal e == a.largestTotal).map fun e => e.val).getD 0xFF
  else 0xFF

/-- The lowest KIND that configuration `a` breaches at a frame length; `f` is the one before; `bg` asks for the
background limit, on whose grounds car configuration is not refused (R397). -/
def breachAt (f a : State) (len : FrameLen) (mode : Nat) (bg : Bool) : Option Breach :=
  let pair := a.boot.pair.paired
  let tests : List (Option Breach) :=
    [(overLimit 1 len.controlLimit f.declared a.declared).map fun b => { b with engine := loadEngine f a },
     overLimit 2 len.hotLimit f.hotCount a.hotCount,
     ruleBreach 3 (orderBad a.grp.alm), ruleBreach 4 a.readerBad, ruleBreach 5 a.notHot, ruleBreach 6 a.setClash,
     ruleBreach 7 a.kernelClash,
     if bg then (List.finRange 4).findSome? fun e =>
         (overLimit 8 (a.backCapacity len e) (f.backLoad e) (a.backLoad e)).map fun b => { b with engine := e.val }
       else none,
     if pair then overLimit 9 len.decisionLimit (f.decisionBytes mode) (a.decisionBytes mode) else none,
     if pair then overLimit 10 len.deltaLimit (f.deltaBytes mode) (a.deltaBytes mode) else none,
     overLimit 11 16777216 f.ringBytes a.ringBytes]
  tests.findSome? id

/-- The figures that admission charges. -/
def State.figures (s : State) : List Nat :=
  [s.declared, s.hotCount, s.decisionBytes s.boot.mode, s.deltaBytes s.boot.mode, s.ringBytes] ++ (List.finRange 4).map s.backLoad

/-- Some charged figure is higher in `a` than in `f`. -/
def raisesFigure (f a : State) : Bool := (f.figures.zip a.figures).any fun q => decide (q.1 < q.2)

/-- The lower of two breaches. -/
def lowerBreach : Option Breach → Option Breach → Option Breach
  | some a, some b => if b.kind < a.kind then some b else some a
  | some a, none => some a
  | none, b => b

/-- The state as the next start-up will charge it: under the stored pair configuration (R447). -/
def State.nextStart (s : State) : State := { s with boot := { s.boot with pair := s.nv.pair } }

/-- The breach of a configuration under every frame length and pair configuration that counts (R37, R447). -/
def breachOf (f a : State) (bg : Bool) : Option Breach :=
  let mode := a.boot.mode
  let now := breachAt f a f.grp.frameLen mode bg
  if a.nv.frameLen = f.grp.frameLen ∧ a.nv.pair.paired = a.boot.pair.paired then now
  else lowerBreach now (breachAt f.nextStart a.nextStart a.nv.frameLen mode bg)

/-- The ADMISSION payload (R495). -/
def Breach.bytes (b : Breach) (slot : Nat) : List Byte :=
  [byte b.kind, byte b.engine, 0, 0] ++ leBytes 4 b.limit ++ leBytes 4 b.before ++ leBytes 4 b.after
    ++ leBytes 3 b.subject ++ [byte slot] ++ zeros 4

/-- Admission of the configuration `a` in place of `f` (R43, R494, R591): the payload of the refusal. Under an
admission hold a command that raises no charged figure is accepted although a limit stays breached: one that leaves a hot reader
of a cold entry is refused only where no KIND 1 or 2 stays breached, since the lowest KIND is the one judged (DESIGN CHOICE, log
359). -/
def admitOf (f a : State) (bg : Bool) (slot : Nat) : Option (List Byte) :=
  let b := breachOf f a bg
  if f.grp.admissionHeld then
    if raisesFigure f a then some (((b.getD { kind := 1, limit := f.grp.frameLen.controlLimit, before := f.declared, after := a.declared })).bytes slot)
    else match b with
      | some x => if decide (3 ≤ x.kind) && decide (x.kind ≤ 7) && (breachOf f f bg).map (fun y => y.kind) != some x.kind then some (x.bytes slot) else none
      | none => none
  else b.map fun x => x.bytes slot

/-- Judge an Admission command whose accepted effect is `after`, staged as `d`. -/
def admitStage (f : State) (after : State → State) (bg : Bool) (slot : Nat) (d : Deferred) (reply : List Byte) (s : State) : Verdict :=
  match admitOf f (after f) bg slot with
  | some p => .refuse stAdmission p
  | none => .done reply (s.stage d)

/-- The car is out of service as R199 counts it: states 0, 3 and 4. -/
def Car.out (c : Car) : Bool := c.service == .outOfService || c.service == .faulted || c.service == .lockedOut

end Sys2Proof.Machine
end

