-- ==== Sys2Proof/Machine/Plan.lean ====
section
/-! DEFINITION. Kinematics of reference states, the stopping distance, and the planner (R140–R146, R150, R155, R156).
Segment durations are whole µs and every duration is rounded down to one, so a state at a segment's end may miss its
ideal value by what one µs carries; the snaps of R142 take up the rest (log 316). -/

namespace Sys2Proof.Machine

/-- One unit of position, speed and acceleration in the exact scales of `Ref`. -/
def unitS : Int := 6 * 10 ^ 18
def unitV : Int := 2 * 10 ^ 12
def unitA : Int := 10 ^ 6

/-- The position of a target in 1/65,536 unit, exactly. -/
def targetS (q : Int) : Int := q * 91552734375000

/-- The state `t` µs later at jerk `j`, exactly (R142). -/
def Ref.after (r : Ref) (j : Int) (t : Nat) : Ref :=
  let t : Int := t
  { s := r.s + 3 * r.v * t + 3 * r.a * t * t + j * t * t * t,
    v := r.v + 2 * r.a * t + j * t * t,
    a := r.a + j * t, j := j }

/-- The state as a segment begins (R142). -/
def Seg.enter (g : Seg) (r : Ref) : Ref :=
  match g.snap with
  | .free => { r with j := g.jerk }
  | .hold a => { r with a := a, j := g.jerk }
  | .stand none => { r with v := 0, a := 0, j := 0 }
  | .stand (some t) => { s := targetS t }

/-- The state `us` µs on along a plan, and what is left of it; past its end the speed stands. -/
def runPlan : List Seg → Nat → Ref → Ref × List Seg
  | [], us, r => ({ r with s := r.s + 3 * r.v * us, a := 0, j := 0 }, [])
  | g :: rest, us, r =>
    let r := g.enter r
    if us < g.us then (r.after g.jerk us, { g with us := g.us - us, snap := .free } :: rest)
    else runPlan rest (us - g.us) (r.after g.jerk g.us)

/-- The state at a plan's end. -/
def endOf (p : List Seg) (r : Ref) : Ref := p.foldl (fun r g => (g.enter r).after g.jerk g.us) r

/-- A whole unit nearest, ties away from zero (R145). -/
def Ref.pos (r : Ref) : Int := divNearest r.s (6 * 10 ^ 18)
def Ref.speed (r : Ref) : Int := divNearest r.v (2 * 10 ^ 12)
def Ref.accel (r : Ref) : Int := divNearest r.a (10 ^ 6)


/-- REF_POSITION at the internal resolution of R140, 1/65,536 unit: what comparisons use (R145). -/
def Ref.posQ (r : Ref) : Int := divNearest r.s 91552734375000

/-- The jerk with which a plan begins. -/
def planJerk (p : List Seg) : Int := ((p.find? fun g => decide (0 < g.us)).map fun g => g.jerk).getD 0

/-- The reference never passes its target (R143): what whole µs carry beyond it is not committed. -/
def Ref.notPast (target : Option Int) (r : Ref) : Ref :=
  match target with
  | some t => if 0 < r.v.sign * (r.s - targetS t) then { r with s := targetS t } else r
  | none => r

/-- A position and a speed in the scales of `Ref` at internal resolution, 1/65,536 unit: what comparisons use (R145). -/
def atQ (x : Int) : Int := divNearest x 91552734375000
def speedQ (v : Int) : Int := divNearest (v * 65536) (2 * 10 ^ 12)

/-- Direction of travel (R143): the sign of the speed, and at zero speed of the acceleration. -/
def Ref.dir (r : Ref) : Int := if r.v ≠ 0 then r.v.sign else r.a.sign

/-- The integer square root, bit by bit. -/
def isqrt (n : Nat) : Nat :=
  (List.range 128).foldr (fun i r => if (r + 2 ^ i) * (r + 2 ^ i) ≤ n then r + 2 ^ i else r) 0

/-- c + √r for a speed `v` ≥ 0 with zero acceleration (R146). -/
def stopFromCruise (v D J : Rat) : Rat × Rat :=
  if D * D / J ≤ v then (v * v / (2 * D) + v * D / (2 * J), 0) else (0, v * v * v / J)

/-- The minimum stopping distance S_MIN of R146, as c + √r, for upward travel. -/
def stopDistanceUp (v a D J : Rat) : Rat × Rat :=
  if 0 < a then
    let b := stopFromCruise (v + a * a / (2 * J)) D J
    (v * a / J + a * a * a / (3 * J * J) + b.1, b.2)
  else if a < 0 then
    let t := -a / J
    let v0 := v + a * a / (2 * J)
    let b := stopFromCruise v0 (max D (-a)) J
    (b.1 - (v0 * t - J * t * t * t / 6), b.2)
  else stopFromCruise v D J

/-- S_MIN of a reference state under D and J, in units (R146). -/
def Ref.stopDistance (r : Ref) (d j : Nat) : Rat × Rat :=
  let g : Rat := r.dir
  stopDistanceUp (g * r.v / unitV) (g * r.a / unitA) d j

/-- A distance c + √r at internal resolution, 1/65,536 unit, nearest (R145). -/
def distQ (q : Rat × Rat) : Int :=
  let x := (q.1 + (isqrt (q.2 * 2 ^ 64).floor.toNat : Rat) / 2 ^ 32) * 65536
  divNearest x.num x.den

/-- A distance in whole units, nearest (R145). -/
def distUnits (q : Rat × Rat) : Nat := (divNearest (distQ q) 65536).toNat

/-- S_MIN of a reference state in 1/65,536 unit (R146). -/
def Ref.stopQ (r : Ref) (d j : Nat) : Int := distQ (r.stopDistance d j)

/-- The distance from a reference to a target in 1/65,536 unit, forward in its direction of travel. -/
def Ref.aheadQ (r : Ref) (t : Int) : Int := r.dir * (t - r.posQ)

/-- What a plan is asked for: a move to a target in 1/65,536 unit, the soonest standstill, or a speed to run at. -/
inductive PlanGoal
  | move (target : Int)
  | halt
  | cruise (v : Int)
  deriving DecidableEq, Repr

/-- A planning problem: start, goal, limits, and caps on speed by position (R141, R156). -/
structure PlanReq where
  ref  : Ref
  goal : PlanGoal
  v    : Nat
  a    : Nat
  d    : Nat
  j    : Nat
  caps : List CapZone := []
  /-- a door's reversal: the plan passes through zero speed (R236) -/
  through : Bool := false

/-- What a plan is made for: all but the state it starts from (R140). -/
def PlanReq.args (q : PlanReq) : List Int :=
  (match q.goal with
    | .move t => [0, t]
    | .halt => [1, 0]
    | .cruise v => [2, v]) ++ [(q.v : Int), q.a, q.d, q.j, q.through.toNat]
    ++ (q.caps.map fun z => [(z.up.toNat : Int), z.down.toNat, z.low, z.high, z.cap]).flatten

/-- A state seen in the direction of travel. -/
def Ref.turn (g : Int) (r : Ref) : Ref := { s := g * r.s, v := g * r.v, a := g * r.a, j := g * r.j }

/-- A segment seen in the direction of travel. -/
def Seg.turn (g : Int) (x : Seg) : Seg :=
  { x with jerk := g * x.jerk, snap := match x.snap with
    | .hold a => .hold (g * a)
    | y => y }

/-- One change of speed with the acceleration `p` ≥ 0 held in the sense `sgn` (R142): a ramp to it, the hold, the ramp out.
The hold lasts until the ramp out ends at speed `w`: not above it, and not below standstill. -/
def hump (sgn : Int) (p j : Nat) (w : Int) (r : Ref) : List Seg :=
  let a := sgn * r.a
  let up := decide (a ≤ p)
  let ramp : Seg := { jerk := if up then sgn * j else -(sgn * j), us := ((p : Int) - a).natAbs / j }
  let r1 := r.after ramp.jerk ramp.us
  let out := p / j
  let left := sgn * (w - r1.v) - (2 * (p : Int) * out - (j : Int) * out * out)
  let n := if p = 0 then 0 else if sgn < 0 ∧ 0 < w then (left + (2 * p - 1)) / (2 * p) else left / (2 * p)
  [ramp, { us := n.toNat, snap := .hold (sgn * p) }, { jerk := -(sgn * j), us := out }, { snap := .hold 0 }]

/-- The speed at which the acceleration comes to 0 if it is ramped out now. -/
def Ref.rampOut (r : Ref) (j : Nat) : Int := r.v + r.a * r.a.natAbs / j

/-- The largest acceleration of a change of speed from `r` to `w`, where nothing bounds it. -/
def peakFor (sgn : Int) (j : Nat) (w : Int) (r : Ref) : Nat := isqrt (((j : Int) * (sgn * (w - r.v)) + r.a * r.a) / 2).toNat

/-- From a state in the direction of travel to speed `w` and acceleration 0, soonest (R143, R146, R155); a steady speed less
than a unit below it stays. A stop holds a deceleration above D_MAX, as S_MIN has it (R146); any other change of speed ramps
it down to D_MAX (R155). -/
def toSpeed (A D j : Nat) (w : Int) (r : Ref) : List Seg :=
  if r.a = 0 ∧ r.v ≤ w ∧ w < r.v + unitV ∧ 0 < w then []
  else if r.rampOut j < w then hump 1 (min (A * 1000000) (peakFor 1 j w r)) j w r
  else hump (-1) (min (if w = 0 then max (D * 1000000) (-r.a).toNat else D * 1000000) (peakFor (-1) j w r)) j w r

/-- The largest integer from `lo` up that passes, `lo` passing and `hi` not, by halving. -/
def search (ok : Int → Bool) : Nat → Int → Int → Int
  | 0, lo, _ => lo
  | n + 1, lo, hi =>
    let m := (lo + hi) / 2
    if m ≤ lo then lo else if ok m then search ok n m hi else search ok n lo m

/-- Up to a peak speed and from it to speed `w`, with a cruise between that ends the leg at or short of `x`. -/
def viaPeak (A D j : Nat) (x w peak : Int) (r : Ref) : List Seg :=
  let up := toSpeed A D j peak r
  let r1 := endOf up r
  let dn := toSpeed A D j w r1
  let slack := x - (endOf dn r1).s
  let n : Int := if 0 < slack ∧ 0 < r1.v then slack / (3 * r1.v) else 0
  up ++ [{ us := n.toNat, snap := .hold 0 }] ++ dn

/-- A leg from a state in the direction of travel to position `x` at speed `w`, as fast as speed `V` and the accelerations
allow: through a peak speed; else one deceleration held as low as the distance allows; else the soonest change of speed. -/
def leg (A D j : Nat) (x w V : Int) (r : Ref) : List Seg :=
  let fits (p : List Seg) : Bool := decide ((endOf p r).posQ ≤ atQ x)
  let v0 := max (r.rampOut j) w
  if fits (viaPeak A D j x w V r) && decide (w ≤ V) then viaPeak A D j x w V r
  else if v0 ≤ V ∧ fits (viaPeak A D j x w v0 r) then
    viaPeak A D j x w (search (fun m => fits (viaPeak A D j x w m r)) 64 v0 V) r
  else if w ≤ r.rampOut j then
    let top := min (max (D * 1000000) (-r.a).toNat) (peakFor (-1) j w r)
    hump (-1) (top - (search (fun q => fits (hump (-1) (top - q.toNat) j w r)) 64 0 top).toNat) j w r
  else toSpeed A D j (search (fun m => fits (toSpeed A D j m r)) 64 (r.rampOut j) w) r

/-- A cap zone in the direction of travel `g`, in the scale of `Ref` (R156), none when it does not apply. -/
def CapZone.along (g : Int) (z : CapZone) : Option (Int × Int × Int) :=
  if g < 0 then (if z.down then some (-(z.high * unitS), -(z.low * unitS), z.cap * unitV) else none)
  else if z.up then some (z.low * unitS, z.high * unitS, z.cap * unitV) else none

/-- The last µs of a segment at which the position has not passed `x`. -/
def crossing (r : Ref) (j : Int) (n : Nat) (x : Int) : Nat :=
  (search (fun t => decide ((r.after j t.toNat).s ≤ x)) 64 0 ((n : Int) + 1)).toNat

/-- A plan runs faster than a zone allows somewhere in it (R156), its entry point among them. -/
def exceeds (z : Int × Int × Int) : List Seg → Ref → Bool
  | [], r => decide (r.posQ < atQ z.2.1) && decide (speedQ z.2.2 < speedQ r.v)
  | g :: rest, r =>
    let r := g.enter r
    let e := r.after g.jerk g.us
    let here := if e.posQ ≤ atQ z.1 ∨ atQ z.2.1 ≤ r.posQ then false
      else
        let t0 := if r.s ≤ z.1 then crossing r g.jerk g.us z.1 else 0
        let t1 := if z.2.1 ≤ e.s then crossing r g.jerk g.us (z.2.1 - 1) else g.us
        let top := if 0 < r.a ∧ g.jerk < 0 then r.a.toNat / g.jerk.natAbs else t1
        [t0, t1, max t0 (min t1 top)].any fun t => decide (speedQ z.2.2 < speedQ (r.after g.jerk t).v)
    here || exceeds z rest e

/-- The speed at which a deceleration to `w` within `l` may begin, at most `m` (R156). -/
def entrySpeed (A D j : Nat) (w l m : Int) : Int :=
  let fits (u : Int) : Bool := decide ((endOf (toSpeed A D j w { v := u }) { v := u }).posQ ≤ atQ l)
  if m ≤ w ∨ fits m then m else search fits 64 w m

/-- The cap in force just beyond position `x` under V_MAX `V` (R156). -/
def capAt (zs : List (Int × Int × Int)) (V x : Int) : Int :=
  zs.foldl (fun m z => if atQ z.1 ≤ atQ x ∧ atQ x < atQ z.2.1 then min m z.2.2 else m) V

/-- Where the caps of some zones change between a start and an end, ascending, with the cap before each. -/
def capBounds (zs : List (Int × Int × Int)) (V from_ : Int) (fin : Option Int) : List (Int × Int) :=
  let xs := (zs.flatMap fun z => [z.1, z.2.1]).filter fun x => decide (from_ < x) && fin.all fun t => decide (x < t)
  let xs := xs.foldl (fun l x => (l.filter fun y => decide (y < x)) ++ [x] ++ l.filter fun y => decide (x < y)) []
  (xs.zip (from_ :: xs)).map fun q => (q.1, capAt zs V q.2)

/-- The speeds at the bounds from which what follows can be kept (R156), from the last bound back. -/
def boundSpeeds (A D j : Nat) (zs : List (Int × Int × Int)) (V : Int) (fin : Option Int) (bs : List (Int × Int)) : List (Int × Int × Int) :=
  (bs.foldr (fun b acc =>
    let m := min b.2 (capAt zs V b.1)
    let u := match acc.1 with
      | some (x, w) => entrySpeed A D j w (x - b.1) m
      | none => m
    (some (b.1, u), (b.1, u, b.2) :: acc.2)) (fin.map fun t => (t, (0 : Int)), [])).2

/-- The plan along the zones that bind it: a leg to each bound, then the last one. -/
def capLegs (A D j : Nat) (zs : List (Int × Int × Int)) (V : Int) (fin : Option Int) (r : Ref) : List Seg :=
  let bs := boundSpeeds A D j zs V fin (capBounds zs V r.s fin)
  let p := bs.foldl (fun (acc : List Seg × Ref) b =>
    let l := leg A D j b.1 b.2.1 b.2.2 acc.2
    (acc.1 ++ l, endOf l acc.2)) ([], r)
  let V' := capAt zs V (match bs.getLast? with
    | some b => b.1
    | none => r.s)
  p.1 ++ (match fin with
    | some t => leg A D j t 0 V' p.2
    | none => toSpeed A D j V' p.2)

/-- Add the zones that a plan would break, one at a time, until it breaks none (R156); whether any binds it. -/
def capPlan (A D j : Nat) (all : List (Int × Int × Int)) (V : Int) (fin : Option Int) (r : Ref) :
    Nat → List (Int × Int × Int) → List Seg × Bool
  | 0, zs => (capLegs A D j zs V fin r, !zs.isEmpty)
  | n + 1, zs =>
    let p := capLegs A D j zs V fin r
    match all.find? fun z => !zs.contains z && exceeds z p r with
    | some z => capPlan A D j all V fin r n (z :: zs)
    | none => (p, !zs.isEmpty)

/-- A plan to a position or, without one, at speed `V` on, in the direction `g` (R142, R156). -/
def PlanReq.run (q : PlanReq) (g : Int) (V : Int) (fin : Option Int) (r : Ref) : List Seg × Bool :=
  let p := capPlan q.a q.d q.j (q.caps.filterMap (CapZone.along g)) V (fin.map fun t => g * targetS t) (r.turn g) 17 []
  (p.1.map (Seg.turn g) ++ (match fin with
    | some t => [{ snap := .stand (some t) }]
    | none => []), p.2)

/-- The soonest standstill (R146, R157). -/
def PlanReq.stop (q : PlanReq) : List Seg :=
  let g := q.ref.dir
  if g = 0 then [] else (toSpeed q.a q.d q.j 0 (q.ref.turn g)).map (Seg.turn g) ++ [{ snap := .stand none }]

/-- A reversal's part before zero speed (R236): the acceleration against the travel ramps to D, holds there, and the
speed comes to 0; in the sense of the new travel, where the speed is negative. -/
def turnSegs (D j : Nat) (r : Ref) : List Seg :=
  let d : Int := D * 1000000
  let ramp : Seg := { jerk := if r.a ≤ d then j else -(j : Int), us := (d - r.a).natAbs / j }
  let r1 := r.after ramp.jerk ramp.us
  if 0 ≤ r1.v then
    let n := (search (fun t => decide ((r.after ramp.jerk t.toNat).v < 0)) 64 0 ((ramp.us : Int) + 1)).toNat + 1
    [{ ramp with us := min n ramp.us }]
  else [ramp, { us := ((-r1.v + 2 * d - 1) / (2 * d)).toNat, snap := .hold d }]

/-- The plan for a planning problem (R142, R143), and whether a zone caps it. A move against the present travel turns as
R236 has it where it is a door's reversal, and stands first otherwise. -/
def PlanReq.make (q : PlanReq) : List Seg × Bool :=
  match q.goal with
  | .halt => (q.stop, false)
  | .cruise w =>
    if q.ref.dir * w < 0 then (q.stop, false) else q.run w.sign (min w.natAbs q.v * unitV) none q.ref
  | .move t =>
    let g : Int := if targetS t < q.ref.s then -1 else 1
    let V := q.v * unitV
    if targetS t = q.ref.s ∧ q.ref.dir = 0 then ([{ snap := .stand (some t) }], false)
    else if q.ref.dir * g < 0 then
      let first := if q.through then (turnSegs q.d q.j (q.ref.turn g)).map (Seg.turn g) else q.stop
      let r := endOf first q.ref
      let g' : Int := if targetS t < r.s then -1 else 1
      let p := q.run g' V (some t) r
      (first ++ p.1, p.2)
    else q.run g V (some t) q.ref

/-- A plan to a target that this state can no longer reach without passing it (R146, R147). -/
def PlanReq.beyondReach (q : PlanReq) : Bool :=
  match q.goal with
  | .move t => decide (q.ref.dir ≠ 0) && !q.through && decide (q.ref.aheadQ t < q.ref.stopQ q.d q.j)
  | _ => false

/-- SEGMENT of R142 for the present state; at a standstill in the direction of the travel that follows (R143). -/
def Ref.segment (r : Ref) : Nat :=
  let g := if r.dir = 0 then r.j.sign else r.dir
  let a := (g * r.a).sign
  match (g * r.j).sign, a with
  | 1, -1 => 6
  | 1, _ => 0
  | 0, 1 => 1
  | 0, 0 => 3
  | 0, _ => 5
  | _, 1 => 2
  | _, _ => 4

end Sys2Proof.Machine
end

