-- ==== Sys2Proof/Machine/Stops.lean ====
section
/-! DEFINITION. The landing table as stops read it, the stop list and its sweep, service states, and the calls and
registrations that break, register and are served (06, R121, R125). -/

namespace Sys2Proof.Machine

/-- A landing side's record. -/
def Pos.record (p : Pos) (landing side : Nat) : LandingRec := Mem.get {} p.table (landing * 2 + side)

/-- LEVEL in force (R121). -/
def LandingRec.levelNow (r : LandingRec) : Int :=
  match r.learned with
  | some (lo, hi) => (lo + hi + 2 * r.vane).tdiv 2
  | none => r.level

/-- Zone edges in force (R121). -/
def LandingRec.zone (half : Nat) (r : LandingRec) : Int × Int :=
  match r.learned with
  | some z => z
  | none => (r.level - half, r.level + half)

/-- A landing side is served (R97). -/
def Pos.serves (p : Pos) (landing side : Nat) : Bool := (p.record landing side).written && (p.record landing side).served

/-- A landing is served on some side. -/
def Pos.servesAny (p : Pos) (landing : Nat) : Bool := p.serves landing 0 || p.serves landing 1

/-- A landing is served on every side of a set: bit 0 FRONT, bit 1 REAR. -/
def Pos.servesAll (p : Pos) (landing sides : Nat) : Bool := (!bit sides 0 || p.serves landing 0) && (!bit sides 1 || p.serves landing 1)

/-- LEVEL − STRETCH of a load band (R125), none where the side is not served. -/
def Pos.stopTarget (p : Pos) (landing side : Nat) : Option Int :=
  if p.serves landing side then
    let r := p.record landing side
    some (r.levelNow - r.stretch[(Fin.ofNat 8 p.band).val])
  else none

/-- The side whose level a stop targets (R175). -/
def Stop.side (x : Stop) : Nat := if bit x.sides 0 then 0 else 1

/-- An entry that keeps its direction when it is refused past eve (R179): it holds more than CAR_CALL and HOST stops added
with DIR_AUTO. -/
def Stop.fixed (x : Stop) : Bool := x.origins &&& 0x0E != 0 || (bit x.origins 4 && x.hostDir)

/-- An entry is listed (R173). -/
def Stop.listed (x : Stop) : Bool := x.origins != 0 || x.target

/-- The entry of a landing and direction. -/
def Car.stop (c : Car) (key : Nat) : Stop := Mem.get {} c.stops key

/-- Write an entry; one without origin and TARGET is empty. -/
def Car.putStop (c : Car) (key : Nat) (x : Stop) : Car :=
  { c with stops := Mem.set {} c.stops key (if x.listed then x else {}) }

/-- Stop target of an entry in units (R125, R175). -/
def Car.stopAt (c : Car) (key : Nat) (x : Stop) : Option Int := c.pos.stopTarget (key / 2) x.side

/-- STOP_WINDOW, 0 without a profile. -/
def Car.window (c : Car) : Nat := if c.motion.present then c.motion.cfg.stopWindow else 0

/-- Distance from REF_POSITION to a target in units, in 1/65,536 unit (R145). -/
def Car.gap (c : Car) (t : Int) : Int := t * 65536 - c.motion.ref.posQ

/-- A target lies within STOP_WINDOW of REF_POSITION (R174). -/
def Car.within (c : Car) (t : Int) : Bool := decide ((c.gap t).natAbs ≤ c.window * 65536)

/-- Sign of a direction. -/
def Dir.sign : Dir → Int
  | .none => 0
  | .up => 1
  | .down => -1

/-- The direction of an entry's key. -/
def keyDir (key : Nat) : Dir := if key % 2 = 0 then .up else .down

/-- The rank of an entry in a sweep of R177, smaller first; one exactly at REF_POSITION counts as ahead (log 323). -/
def Car.rank (c : Car) (dir : Dir) (q : Nat × Int) : Nat × Int :=
  let d := dir.sign * c.gap q.2
  if keyDir q.1 ≠ dir then (1, -d) else if 0 ≤ d then (0, d) else (2, d)

/-- The entry nearest to REF_POSITION, ties to UP (R177). -/
def Car.nearest (c : Car) (l : List (Nat × Int)) : Option (Nat × Int) :=
  let far (q : Nat × Int) : Nat := 2 * (c.gap q.2).natAbs + q.1 % 2
  l.foldl (fun b x => match b with
    | some y => if far x < far y then some x else some y
    | none => some x) none

/-- Insert by rank, after equal ranks. -/
def insertRank (r : Nat × Int → Nat × Int) (x : Nat × Int) : List (Nat × Int) → List (Nat × Int)
  | [] => [x]
  | y :: rest =>
    if (r x).1 < (r y).1 ∨ ((r x).1 = (r y).1 ∧ (r x).2 < (r y).2) then x :: y :: rest else y :: insertRank r x rest

/-- Entries in the order of a sweep (R177). -/
def Car.sweep (c : Car) (dir : Dir) (l : List (Nat × Int)) : List (Nat × Int) := l.foldl (fun l x => insertRank (c.rank dir) x l) []

/-- The listed entries with their stop targets, in the order of R177; entries without a level come last. With DIRECTION NONE
the nearest entry comes first, and the others in the sweep of its direction (log 323). -/
def Car.order (c : Car) : List (Nat × Option Int) :=
  let known := c.stops.filterMap fun q => (c.stopAt q.1 q.2).map fun t => (q.1, t)
  let unknown := c.stops.filterMap fun q => if (c.stopAt q.1 q.2).isNone then some (q.1, (none : Option Int)) else none
  let sorted := match c.dir, c.nearest known with
    | .none, some x => x :: c.sweep (keyDir x.1) (known.filter fun q => q.1 != x.1)
    | dir, _ => c.sweep dir known
  (sorted.map fun q => (q.1, some q.2)) ++ unknown

/-- A stop enters an entry and merges there (R173). -/
def Car.mergeStop (c : Car) (key : Nat) (x : Stop) : Car :=
  let o := c.stop key
  c.putStop key { o with sides := o.sides ||| x.sides, origins := o.origins ||| x.origins, hostDir := o.hostDir || x.hostDir,
                         pastEve := o.pastEve || x.pastEve, fresh := o.fresh || x.fresh }

/-- The direction that DIR_AUTO and a car call take (R174). -/
def Car.autoDir (c : Car) (landing sides : Nat) : Nat :=
  match c.pos.stopTarget landing (if bit sides 0 then 0 else 1) with
  | some t => if c.within t then (if c.dir = .down then 1 else 0) else if 0 < c.gap t then 0 else 1
  | none => if c.dir = .down then 1 else 0

/-- The car stands at a landing in IDLE with its doors not closed and locked (R176, R183). -/
def Car.standsOpen (c : Car) (sg : Safe) (landing sides : Nat) : Bool :=
  c.motion.phase == .idle && c.pos.state == .placed && !sg.closedLocked &&
  (match c.pos.stopTarget landing (if bit sides 0 then 0 else 1) with
   | some t => c.within t
   | none => false)

/-- A stop is served at once, not listed (R176); one for an ACCESSIBLE passenger lengthens the dwell (R240). -/
def Car.serveAtOnce (c : Car) (landing dir sides : Nat) (access : Bool) : Car :=
  let was := match c.servedAt with
    | some (l, m, a) => if l = landing then (m, a) else (0, false)
    | none => (0, false)
  { c with atOnce := (landing * 2 + dir, sides) :: c.atOnce, servedAt := some (landing, sides ||| was.1, access || was.2) }

/-- A stop comes into force: served at once where the car stands open, else listed (R173, R176). -/
def Car.addStop (c : Car) (sg : Safe) (landing dir : Nat) (x : Stop) (access : Bool) : Car × Bool :=
  if c.standsOpen sg landing x.sides then (c.serveAtOnce landing dir x.sides access, true)
  else (c.mergeStop (landing * 2 + dir) { x with fresh := true }, false)

/-- Take origins away from an entry; one left with none becomes empty unless it carries TARGET (R204). -/
def Car.dropOrigins (c : Car) (key mask : Nat) : Car :=
  let x := c.stop key
  let rest := x.origins - (x.origins &&& mask)
  c.putStop key { x with origins := rest, hostDir := x.hostDir && bit rest 4 }

/-- The safeguard's reports on a car as CC0 reads them: committed at the latest Calends (R159). -/
def State.sgOf (s : State) (c : CarId) : Safe := s.grp.shownCars[c.val].safe

/-- ORIGIN, DESTINATION and sides of a Registration (03). -/
def Entry.regOrigin (e : Entry) : Nat := bits e.binding 7 0
def Entry.regDest (e : Entry) : Nat := bits e.binding 15 8
def Entry.regOriginSide (e : Entry) : Nat := bits e.binding 16 16
def Entry.regDestSide (e : Entry) : Nat := bits e.binding 17 17
def Entry.regProfile (e : Entry) : Nat := bits e.binding 23 18
def Entry.regState (e : Entry) : Nat := bits e.value 2 0
def Entry.regCar (e : Entry) : CarId := Fin.ofNat 8 (bits e.value 6 4)
/-- Trip direction: 0 UP, 1 DOWN (R188). -/
def Entry.regDir (e : Entry) : Nat := if e.regOrigin < e.regDest then 0 else 1
/-- An open registration (R188). -/
def Entry.regOpen (e : Entry) : Bool := e.type == 8 && decide (1 ≤ e.regState) && decide (e.regState ≤ 4)

/-- The registrations of the Almanac. -/
def State.registrations (s : State) : List (Nat × Entry) := s.grp.alm.filter fun q => q.2.type == 8

/-- A registration closes: SERVED 5 or CANCELLED 6, its car no longer valid (R188, R192). -/
def State.closeReg (s : State) (chan st : Nat) : State :=
  s.modEntry chan fun e => { e with value := putBits (putBits e.value 2 0 st) 3 3 0, mark := s.grp.frame, stamp := s.grp.frame % 2 ^ 32 }

/-- The stops of a registration leave its car's list (R190, R214): the pickup of an announced one, the drop of a
boarded one; another registration's stop at the same entry keeps the origin. -/
def State.dropRegStops (s : State) (chan : Nat) : State :=
  let e := s.entry chan
  let boarded := e.regState == 3
  let landing := if boarded then e.regDest else e.regOrigin
  let others := s.registrations.any fun q => q.1 ≠ chan && q.2.regCar == e.regCar && q.2.regDir == e.regDir &&
    (if boarded then q.2.regState == 3 && q.2.regDest == landing else q.2.regState == 2 && q.2.regOrigin == landing)
  if (e.regState = 2 ∨ e.regState = 3) ∧ !others then
    s.modCar e.regCar fun c => c.dropOrigins (landing * 2 + e.regDir) (if boarded then 8 else 4)
  else s

/-- BREAKS of `disp.status` counts an announcement broken (R215). -/
def State.countBreak (s : State) : State :=
  { s with grp := { s.grp with disp := { s.grp.disp with breaks := satInc 32 s.grp.disp.breaks } } }

/-- One registration of a car breaks (R190): REASSIGNING when announced, CANCELLED when boarded, with its ladder break. -/
def State.breakReg (rung : Nat) (car : CarId) (s : State) (chan : Nat) : State :=
  let e := s.entry chan
  if e.regOpen && e.regCar == car && (e.regState == 2 || e.regState == 3) then
    let s := s.dropRegStops chan
    let s := if e.regState = 2 then
        s.modEntry chan fun e => { e with value := putBits (putBits e.value 2 0 4) 3 3 0, stamp := s.grp.frame % 2 ^ 32 }
      else s.closeReg chan 6
    (s.countBreak).ladderBreak rung 8 car.val chan
  else s

/-- A hall call assigned to a car returns to the dispatcher (R185, R200); under HALL_ANNOUNCE that is a break. -/
def State.breakHall (rung : Nat) (car : CarId) (s : State) (chan : Nat) : State :=
  let e := s.entry chan
  if e.type = 9 ∧ bit e.value 1 ∧ bits e.value 4 2 = car.val then
    let s := s.modEntry chan fun e => { e with value := e.value % 2, stamp := s.grp.frame % 2 ^ 32 }
    if s.grp.disp.cfg.hallAnnounce then (s.countBreak).ladderBreak rung 8 car.val chan else s
  else s

/-- Announcements, hall calls and boarded registrations of a car break (R190); its committed target is served as it is
(R148, R200). -/
def State.breakCar (s : State) (car : CarId) (rung : Nat) : State :=
  let chans := s.grp.alm.map fun q => q.1
  let s := chans.foldl (State.breakReg rung car) s
  let s := chans.foldl (State.breakHall rung car) s
  s.modCar car fun c => { c.stops.foldl (fun c q => if q.2.target then c else c.dropOrigins q.1 2) c with broke := true }

/-- The car's call channels clear REGISTERED (R200). -/
def State.clearCarCalls (s : State) (car : CarId) : State :=
  let clear (q : Nat × Entry) : Nat × Entry :=
    if q.2.type = 10 ∧ bits q.2.binding 10 8 = car.val ∧ q.2.value % 2 = 1 then
      (q.1, { q.2 with value := 0, stamp := s.grp.frame % 2 ^ 32 }) else q
  { s with grp := { s.grp with alm := s.grp.alm.map clear } }

/-- The stops of a car after it has entered a state (R199, R200): HOST stops alone in OUT_OF_SERVICE and INDEPENDENT,
none in FAULTED and LOCKED_OUT; a committed target stays under a state entered by command. -/
def Car.strip (c : Car) : Car :=
  match c.service with
  | .normal => c
  | .faulted | .lockedOut => { c with stops := [] }
  | _ => c.stops.foldl (fun c q => if q.2.target then c else c.dropOrigins q.1 0x0F) c

/-- At a Calends, a car that has left service loses its calls and stops (R190, R200). -/
def State.leaveService (s : State) (car : CarId) : State :=
  match (s.car car).leaving with
  | none => s
  | some rung =>
    let s := s.breakCar car rung
    let s := s.clearCarCalls car
    s.modCar car fun c => { c.strip with leaving := none }

/-- The module puts a car in a service state (R200); its departure acts at the next Calends. -/
def State.enterService (s : State) (car : CarId) (st : Service) (rung : Nat) (byModule : Bool) : State :=
  s.modCar car fun c => { c with
    service := st, forced := c.forced || byModule,
    leaving := if st = .normal then c.leaving else some (match c.leaving with
      | some r => min r rung
      | none => rung) }

/-- FAULTED from states 0 to 3 (R200); a locked-out car stays. -/
def State.faultService (s : State) (car : CarId) : State :=
  if (s.car car).service = .lockedOut then s
  else s.enterService car .faulted (if s.mem.sinceLeap.isSome then 2 else 1) true

/-- LOCKED_OUT (R200): rung 1, 2 in the first frames after a leap, 3 for the group safe state (R190). -/
def State.lockService (s : State) (car : CarId) (overrun : Bool) : State :=
  s.enterService car .lockedOut (if s.mem.sinceLeap.isSome then 2 else if overrun then 3 else 1) true

/-- A trip's commitments end: the target is dropped. -/
def Motion.noTarget (m : Motion) : Motion :=
  { m with target := none, targetLanding := none, committed := false, reversal := false, nowhere := false }

/-- DIRECTION on departure from a landing (R180). The entries that remain are those of other landings, and from NONE the
direction is that of the nearest (log 323). -/
def Car.departure (c : Car) (landing : Nat) : Dir :=
  let others := c.stops.filterMap fun q => if q.1 / 2 ≠ landing then (c.stopAt q.1 q.2).map fun t => c.gap t else none
  let beyond := others.any fun d => decide (0 < c.dir.sign * d)
  if c.dir ≠ .none ∧ beyond then c.dir
  else match others with
    | [] => .none
    | d :: ds =>
      match c.dir with
      | .up => .down
      | .down => .up
      | .none => if 0 < ds.foldl (fun a b => if b.natAbs < a.natAbs then b else a) d then .up else .down

/-- PAST_EVE clears on the entries that lie behind the car where it stops (R179). -/
def Car.clearBehind (c : Car) : Car :=
  { c with stops := c.stops.map fun q =>
      match c.stopAt q.1 q.2 with
      | some t => if c.motion.lastDir * c.gap t < 0 then (q.1, { q.2 with pastEve := false }) else q
      | none => q }

/-- The keys that a completed stop serves (R180). -/
def servedKeys (landing : Nat) : Dir → List Nat
  | .none => [landing * 2, landing * 2 + 1]
  | .up => [landing * 2]
  | .down => [landing * 2 + 1]

/-- A side of a key is among those served (R182, R188): the sides of each served entry count for its own direction. -/
def sideServed (keys : List (Nat × Nat)) (key side : Nat) : Bool := keys.any fun k => k.1 == key && bit k.2 side

/-- A registration whose pickup or drop a completed stop serves (R188), on its side. -/
def Entry.regServed (e : Entry) (car : CarId) (keys : List (Nat × Nat)) : Bool :=
  e.type == 8 && e.regCar == car &&
  ((e.regState == 2 && sideServed keys (e.regOrigin * 2 + e.regDir) e.regOriginSide)
   || (e.regState == 3 && sideServed keys (e.regDest * 2 + e.regDir) e.regDestSide))

/-- The entries among some keys that are listed, with their sides: one that TARGET alone keeps is served too (R190, R204). -/
def Car.listedSides (c : Car) (keys : List Nat) : List (Nat × Nat) :=
  (keys.filter fun k => (c.stop k).listed).map fun k => (k, (c.stop k).sides)

/-- A car completes a stop at a landing (R180, R181): departure direction, served entries, doors to open, PAST_EVE of
what lies behind. An entry whose car call is served from the other direction is served for its doors too. A served entry
that TARGET alone keeps carries it until it leaves the list at the next Calends. -/
def State.completeStop (s : State) (car : CarId) (landing : Nat) : State :=
  let c := s.car car
  let dir := c.departure landing
  let mine := c.listedSides (servedKeys landing dir)
  let calls := [landing * 2, landing * 2 + 1].filter fun k => bit (c.stop k).origins 0
  let sides := (mine ++ c.listedSides calls).foldl (fun m k => m ||| k.2) 0
  let access := s.registrations.any fun q => bit q.2.regProfile 0 && q.2.regServed car mine
  s.modCar car fun c => { c.clearBehind with
    dir := dir, served := ((servedKeys landing dir).filter fun k => (c.stop k).listed) ++ calls,
    servedAt := some (landing, sides, access), stoppedAt := some landing,
    stops := c.clearBehind.stops.map fun q =>
      (q.1, { q.2 with target := q.2.target && q.2.origins == 0 && (servedKeys landing dir).contains q.1 }),
    motion := c.motion.noTarget }

/-- A stop that is reached clears TARGET from entries that hold nothing else (R173). -/
def Car.tidyStops (c : Car) : Car := { c with stops := c.stops.filter fun q => q.2.listed }

/-- An assigned hall call no longer asks its car for a stop (R173): another hall call of the car at the same entry keeps the
origin there. -/
def State.dropHall (s : State) (chan : Nat) : State :=
  let e := s.entry chan
  let car : CarId := Fin.ofNat 8 (bits e.value 4 2)
  let shared := s.grp.alm.any fun q => q.1 != chan && q.2.type == 9 && bit q.2.value 1 && bits q.2.value 4 2 == car.val
    && bits q.2.binding 8 0 == bits e.binding 8 0
  if bit e.value 1 && !shared then s.modCar car fun c => c.dropOrigins (bits e.binding 7 0 * 2 + bits e.binding 8 8) 2 else s

/-- One call or registration after a car's served stop, at the Calends after it (R180, R182, R183, R188, R189). -/
def State.serveChannel (car : CarId) (landing : Nat) (keys : List (Nat × Nat)) (s : State) (chan : Nat) : State :=
  let e := s.entry chan
  let stampNow (e : Entry) : Entry := { e with stamp := s.grp.frame % 2 ^ 32 }
  if e.type = 10 ∧ bits e.binding 10 8 = car.val ∧ bits e.binding 7 0 = landing ∧ e.value % 2 = 1 then
    s.setEntry chan (stampNow { e with value := 0 })
  else if e.type = 9 ∧ sideServed keys (bits e.binding 7 0 * 2 + bits e.binding 8 8) (bits e.binding 9 9) ∧ e.value % 2 = 1 then
    (s.dropHall chan).setEntry chan (stampNow { e with value := 0 })
  else if e.regServed car keys then
    if e.regState = 2 then
      let s := s.setEntry chan (stampNow { e with value := putBits e.value 2 0 3 })
      s.modCar car fun c => c.mergeStop (e.regDest * 2 + e.regDir) { sides := 2 ^ e.regDestSide, origins := 8, fresh := true }
    else s.closeReg chan 5
  else s

/-- What a served stop has served leaves the list and the calls (R180): a completed stop at the Calends after it, a stop
served at once where it comes into force (R176). -/
def State.applyServed (s : State) (car : CarId) : State :=
  let c := s.car car
  match c.servedAt with
  | none => s.modCar car fun c => { c with served := [], atOnce := [] }
  | some (landing, _, _) =>
    let own := if c.served.isEmpty then [] else servedKeys landing c.dir
    let keys := c.listedSides own ++ c.atOnce
    let s := s.modCar car fun c =>
      (c.served.foldl (fun c k => if own.contains k then c.putStop k {} else c.dropOrigins k 1)
        { c with served := [], atOnce := [], servedAt := none })
    if own.isEmpty && keys.isEmpty then s
    else (s.grp.alm.map fun q => q.1).foldl (State.serveChannel car landing keys) s

/-- The car is to learn its shaft before it accepts any call (R124). -/
def Car.learnsFirst (c : Car) : Bool := c.pos.cfg.autoLearn && !c.pos.everLearned

/-- Cars in group dispatch that take calls now (R124, R184, R187, R201). -/
def State.dispatches (s : State) (car : CarId) : Bool :=
  let c := s.car car
  c.configured && c.service == .normal && c.leaving.isNone && s.grp.disp.cfg.cars.getLsbD car.val && c.pos.state == .placed && !c.learnsFirst

/-- A car outside DISPATCH_CARS is host-dispatched (R187). -/
def State.inGroup (s : State) (car : CarId) : Bool := (s.car car).configured && s.grp.disp.cfg.cars.getLsbD car.val

/-- The car serves a registration's landings on their sides, and SERVICE allows it (R191, R193). -/
def State.canServe (s : State) (car : CarId) (e : Entry) : Bool :=
  let p := (s.car car).pos
  p.serves e.regOrigin e.regOriginSide && p.serves e.regDest e.regDestSide
    && (!bit e.regProfile 2 || s.grp.disp.cfg.serviceCars.getLsbD car.val)

/-- Open registrations of a car, announced or boarded, with those that passes of this frame announce to it. -/
def State.carRegs (s : State) (car : CarId) : List Entry :=
  ((s.registrations.map fun q => q.2).filter fun e => e.regCar == car && (e.regState == 2 || e.regState == 3)) ++
  s.grp.deferred.filterMap fun d => match d with
    | .announce chan c => if c = car then some (s.entry chan) else none
    | _ => none

/-- EXCLUSIVE (R193): a car is not shared with an exclusive registration. -/
def State.exclusiveOk (s : State) (car : CarId) (e : Entry) : Bool :=
  let others := s.carRegs car
  if bit e.regProfile 3 then others.isEmpty else !(others.any fun o => bit o.regProfile 3)

/-- A call of a kind that the dispatch mode accepts (R186). -/
def State.hallMode (s : State) : Bool := s.grp.disp.cfg.mode != 1
def State.regMode (s : State) : Bool := s.grp.disp.cfg.mode != 0
def State.carCallMode (s : State) : Bool := s.grp.disp.cfg.mode != 1 || s.grp.disp.cfg.destCarCalls

/-- A registered call comes into force (R174, R183, R184): a car call at the landing where its car has just completed a stop
is served at once (R203), one of a car that has left service or group dispatch in the frame does not register (R187, R200). -/
def State.applyCall (s : State) (chan : Nat) : State :=
  let e := s.entry chan
  let on (s : State) := s.modEntry chan fun e => { e with value := putBits e.value 0 0 1, stamp := s.grp.frame % 2 ^ 32 }
  if e.type = 9 then on s
  else if e.type = 10 then
    let car : CarId := Fin.ofNat 8 (bits e.binding 10 8)
    let landing := bits e.binding 7 0
    let sides := 2 ^ bits e.binding 11 11
    let c := s.car car
    let dir := c.autoDir landing sides
    if (c.service ≠ .normal ∧ c.service ≠ .independent) ∨ !s.inGroup car then s
    else if c.stoppedAt = some landing then s.setCar car (c.serveAtOnce landing dir sides false)
    else
      let q := c.addStop (s.sgOf car) landing dir { sides := sides, origins := 1 } false
      let s := s.setCar car q.1
      if q.2 then s else on s
  else s

/-- An announcement comes into force (R189), unless the registration was cancelled or the car has left (R203). ANNOUNCE_COUNT
is STICK+EVENT (R91, R92). -/
def State.applyAnnounce (s : State) (chan : Nat) (car : CarId) : State :=
  let e := s.entry chan
  if e.type = 8 ∧ (e.regState = 1 ∨ e.regState = 4) ∧ s.dispatches car ∧ !(s.car car).broke then
    let n := bits e.value 15 8
    let lost := n = 255 ∧ !e.sat
    let s := s.setEntry chan { e with value := 2 + 8 + 16 * car.val + 256 * satInc 8 n, sat := e.sat || n == 255,
                                      stamp := s.grp.frame % 2 ^ 32 }
    let s := if lost then s.record 0x0301 0xFF (leBytes 3 chan) else s
    let ms := min 65535 ((s.grp.frame + 2 ^ 32 - bits e.params 63 32) % 2 ^ 32 / s.grp.frameLen.perMs)
    let s := { s with grp := { s.grp with disp := { s.grp.disp with lastAssign := ms, peakAssign := max s.grp.disp.peakAssign ms } } }
    s.setCar car ((s.car car).addStop (s.sgOf car) e.regOrigin e.regDir { sides := 2 ^ e.regOriginSide, origins := 4 } (bit e.regProfile 0)).1
  else s

/-- A hall call's assignment or move comes into force (R184, R185, R203); a committed target keeps its origin. -/
def State.applyAssign (s : State) (chan : Nat) (car : CarId) : State :=
  let e := s.entry chan
  if e.type = 9 ∧ e.value % 2 = 1 ∧ s.dispatches car then
    let key := bits e.binding 7 0 * 2 + bits e.binding 8 8
    let old : CarId := Fin.ofNat 8 (bits e.value 4 2)
    let s := if old ≠ car ∧ !((s.car old).stop key).target then s.dropHall chan else s
    let s := s.setEntry chan { e with value := 1 + 2 + 4 * car.val, stamp := s.grp.frame % 2 ^ 32 }
    s.setCar car ((s.car car).addStop (s.sgOf car) (bits e.binding 7 0) (bits e.binding 8 8)
      { sides := 2 ^ bits e.binding 9 9, origins := 2 } false).1
  else s

/-- A registration comes into force, ACKNOWLEDGED (R188, R191, R195). -/
def State.applyRegister (s : State) (chan origin dest flags fixture : Nat) : State :=
  s.setEntry chan { type := 8, fault := false, binding := origin + 256 * dest + 65536 * flags,
                    params := fixture + 2 ^ 32 * (s.grp.frame % 2 ^ 32), value := 1, stamp := s.grp.frame % 2 ^ 32, version := 1,
                    seen := true }

end Sys2Proof.Machine
end

