-- ==== Sys2Proof/Machine/Motion.lean ====
section
/-! DEFINITION. The motion planner of a car: phases, targets, plans, faults, and the drive reference (05). -/

namespace Sys2Proof.Machine

/-- Change a car's motion. -/
def State.modMotion (s : State) (c : CarId) (f : Motion → Motion) : State :=
  s.modCar c fun x => { x with motion := f x.motion }

/-- The car takes another coordinate (R96): POSITION and with it the reference, which keeps its distance from it on a run
(R118, R119) and begins at it at rest (log 317). -/
def Car.recoordinate (c : Car) (posQ : Int) : Car :=
  let rest := c.motion.phase == .idle || c.motion.phase == .starting
  let s := if rest then targetS posQ else c.motion.ref.s + targetS (posQ - c.pos.posQ)
  { c with pos := { c.pos with posQ := posQ },
           motion := { c.motion with ref := { c.motion.ref with s := s }, before := c.motion.before + (s - c.motion.ref.s) } }

/-- POSITION in the exact scale of `Ref`. -/
def Pos.refS (p : Pos) : Int := targetS p.posQ

/-- POSITION in units. -/
def Pos.units (p : Pos) : Int := divNearest p.posQ 65536

/-- The limits of the present trip (R157): V_MAX is lowered on special trips. -/
def Car.limits (c : Car) : Limits :=
  let l := c.motion.limits
  match c.motion.kind with
  | .normal => l
  | .correction => { l with v := min l.v c.pos.cfg.corrSpeed }
  | .learning => { l with v := min l.v ((c.pos.learn.map fun x => x.speed).getD l.v) }
  | .relevel => { l with v := min l.v 4800 }

/-- Sides that the committed target's stop opens, with door bridging (R157, R266). -/
def Car.bridgeSides (c : Car) : List Side :=
  match c.motion.targetLanding with
  | none => []
  | some l =>
    let sides := (c.stop (l * 2)).sides * ((c.stop (l * 2)).target.toNat) ||| (c.stop (l * 2 + 1)).sides * ((c.stop (l * 2 + 1)).target.toNat)
    (List.finRange 2).filter fun f => bit sides f.val && c.doors[f.val].configured && c.safe.cfg.bridge

/-- Speed caps in force: the zones of R156, and 12,800 inside the door zone of a levelling approach with bridging
(R157). -/
def Car.caps (c : Car) : List CapZone :=
  let zs := c.motion.zones.toList.filter fun z => z.up || z.down
  match c.motion.kind, c.motion.targetLanding with
  | .normal, some l =>
    zs ++ c.bridgeSides.map fun f =>
      let z := (c.pos.record l f.val).zone c.pos.cfg.zoneHalf
      { up := true, down := true, low := z.1, high := z.2, cap := 12800 }
  | _, _ => zs

/-- The planning problem of a car from a reference state. -/
def Car.planReq (c : Car) (r : Ref) : PlanReq :=
  let l := c.limits
  let goal : PlanGoal :=
    if c.motion.posStop || c.motion.nowhere then .halt
    else match c.motion.target with
      | some t => .move t
      | none => if c.motion.kind = .correction then .cruise (if c.motion.down then -(l.v : Int) else l.v) else .halt
  { ref := r, goal := goal, v := l.v, a := l.a, d := l.d, j := l.j, caps := c.caps }

/-- Plan from the reference state at the next Calends (R140, R144). The plan in force stays while what it was made for
stays, and where its own target lies short of S_MIN only by the whole µs of R142 (log 316). -/
def Car.replan (c : Car) : Car :=
  let q := c.planReq c.motion.ref
  let same := c.motion.planFor.any fun a => a.take 2 == q.args.take 2
  if c.motion.planFor = some q.args ∨ (same ∧ q.beyondReach) then c
  else
    let p := q.make
    { c with motion := { c.motion with plan := p.1, capped := p.2, planFor := some q.args } }

/-- The reference frame shows a standing reference at its target (R158): RUNNING is over. -/
def Motion.arrived (m : Motion) : Bool :=
  m.rolling && m.ref.v == 0 && m.ref.a == 0 &&
  (m.posStop || m.nowhere || (match m.target with
    | some t => m.ref.s == targetS t
    | none => m.kind != .correction))

/-- The brakes are requested set (R158): the brake-set frame of R115, R125 and R126. -/
def State.setBrakes (s : State) (car : CarId) : State :=
  s.modCar car fun c =>
    let sample : Option Settle := match c.motion.targetLanding with
      | some l => if c.motion.kind = .normal ∨ c.motion.kind = .correction then
          some { at_ := s.grp.frame, pos := c.pos.units, landing := l, side := c.motion.targetSide, band := c.pos.band,
                 good := c.pos.bandGood && c.pos.state == .placed }
        else none
      | none => none
    { c with
      motion := { c.motion with phase := .stopping, since := s.grp.frame },
      safe := { c.safe with req := { c.safe.req with lift := false, set := true } },
      pos := { c.pos with trackQ := c.pos.posQ, anchored := true, settle := sample,
                          peakError := if c.motion.kind = .relevel then c.pos.peakError else 0 } }

/-- A trip ends in IDLE with ENABLE 0 (R158); the committed target stays (R268), and the reference stands where it is: the
fused position sets it at the first commit of RUNNING alone (R140). -/
def Car.endTrip (c : Car) : Car :=
  let m := { c.motion with phase := .idle, plan := [], planFor := none, capped := false, posStop := false, nowhere := false, rolling := false,
                           ref := { s := c.motion.ref.s } }
  let m := if m.kind = .normal then m else { m.noTarget with kind := .normal }
  { c.clearBehind with motion := m, safe := { c.safe with req := { c.safe.req with run := false, lift := false, set := false } } }

/-- A position stop (R130): the soonest stop to zero speed, no landing; the correction of R160 is zero. It is planned in the
frame's Plan phase, from the state at the next Calends (R140). -/
def State.positionStop (s : State) (car : CarId) : State :=
  let s := s.modMotion car fun m => m.noTarget
  match (s.car car).motion.phase with
  | .idle => s
  | .starting => s.setBrakes car
  | _ => s.modMotion car fun m => { m with posStop := true }

/-- A profile fault is raised (R132, R162): recorded, its code kept for the frame, its effect applied. -/
def State.profileFault (s : State) (car : CarId) (code : Nat) : State :=
  let m := (s.car car).motion
  if bit m.raised code then s
  else
    let s := s.record 0x0501 car.val [byte code, byte (if code = 2 then m.status.code else 0)]
    let s := s.modMotion car fun m => { m with raised := m.raised + 2 ^ code, fault := max m.fault code }
    match code with
    | 1 => (s.positionStop car).faultService car
    | 3 => if m.phase = .running then s.positionStop car else s
    | 4 => (s.modCar car Car.endTrip).faultService car
    | _ => (s.modMotion car fun m => { m with tellDrop := m.tellDrop ||| (if code = 5 then 4 else 2) }).faultService car

/-- FOLLOWING is due (R161): the count reaches FOLLOW_FRAMES in this frame. -/
def Motion.followingDue (m : Motion) : Bool := m.present && m.followRun == m.cfg.followFrames && !bit m.raised 1

/-- REFERENCE_LOST is due (R165): the fourth consecutive miss shows in this frame's image. -/
def Motion.referenceLostDue (m : Motion) : Bool := m.present && m.missed == 4 && !bit m.raised 5

/-- DRIVE_STATUS_LOST is due (R162). -/
def Motion.statusLostDue (m : Motion) : Bool := m.present && m.statusAge == m.cfg.maxAge + 1 && !bit m.raised 3

/-- DRIVE_START_TIMEOUT is due (R158): READY has not come within ENABLE_MS. -/
def State.startTimeoutDue (s : State) (c : Car) : Bool :=
  c.motion.phase == .starting && !c.safe.req.lift && decide (c.motion.since + s.msFrames c.motion.cfg.enableMs ≤ s.grp.frame)
    && !bit c.motion.raised 4 && c.safe.test.isNone

/-- SETTLE_TIMEOUT is due (R158). -/
def State.settleTimeoutDue (s : State) (c : Car) : Bool :=
  c.motion.phase == .settling && decide (c.motion.since + s.msFrames c.motion.cfg.settleMs ≤ s.grp.frame)

/-- The settling time is over (R158): the brakes are requested with a SETTLE_TIMEOUT event. -/
def State.settleTimeout (s : State) (car : CarId) : State :=
  (s.record 0x0503 car.val [byte ((s.car car).motion.targetLanding.getD 0xFF)]).setBrakes car

/-- STOP_COMPLETE is due (R158, R180): STOPPING, and SG reports both brake channels set. -/
def State.stopCompleteDue (s : State) (car : CarId) : Bool :=
  (s.car car).motion.phase == .stopping && (s.sgOf car).set && !(s.car car).safe.req.set

/-- The limits that waited for the brakes come into force (R153). -/
def Motion.undefer (m : Motion) : Motion :=
  let l := m.limits
  { m with limits := { v := m.waiting[0].getD l.v, a := m.waiting[1].getD l.a, d := m.waiting[2].getD l.d, j := m.waiting[3].getD l.j },
           waiting := Vector.replicate 4 none }

/-- The car returns to IDLE and completes its stop (R151, R153, R158, R180). -/
def State.stopComplete (s : State) (car : CarId) : State :=
  let m := (s.car car).motion
  let s := s.modMotion car Motion.undefer
  let s := s.modMotion car fun x => if m.reversal then { x with dwellFrom := some s.grp.frame } else x
  let s := match m.kind, m.targetLanding with
    | .normal, some l => s.completeStop car l
    | .correction, some l => s.completeStop car l
    | _, _ => s
  let s := if m.kind = .learning then
      s.modCar car fun c => { c with pos := { c.pos with learn := c.pos.learn.map fun x =>
        if x.down then { x with done := true } else { x with down := true } } }
    else s
  s.modCar car fun c => ({ c with motion := { c.motion.noTarget with kind := .normal } }).endTrip

/-- REVERSAL_DWELL_MS has passed (R151). -/
def State.dwellOverDue (s : State) (c : Car) : Bool :=
  match c.motion.dwellFrom with
  | some f => decide (f + s.msFrames c.motion.cfg.dwellMs ≤ s.grp.frame)
  | none => false

/-- A profile event of a car that is due takes place when the control plane runs. -/
def carEvent (s : State) (due : Bool) (f : State → State) : State := if s.running && due then f s else s

/-- FOLLOWING (R161). -/
def execFollowing (car : CarId) (s : State) : Host.Outcome State Fault Refusal :=
  .next (s.within [.cars, .recorder] (carEvent s (s.car car).motion.followingDue fun s => s.profileFault car 1))

/-- REFERENCE_LOST (R165). -/
def execReferenceLost (car : CarId) (s : State) : Host.Outcome State Fault Refusal :=
  .next (s.within [.cars, .recorder] (carEvent s (s.car car).motion.referenceLostDue fun s => s.profileFault car 5))

/-- DRIVE_STATUS_LOST (R162). -/
def execDriveStatusLost (car : CarId) (s : State) : Host.Outcome State Fault Refusal :=
  .next (s.within [.cars, .recorder] (carEvent s (s.car car).motion.statusLostDue fun s => s.profileFault car 3))

/-- DRIVE_START_TIMEOUT (R158). -/
def execDriveStartTimeout (car : CarId) (s : State) : Host.Outcome State Fault Refusal :=
  .next (s.within [.cars, .recorder] (carEvent s (s.startTimeoutDue (s.car car)) fun s => s.profileFault car 4))

/-- SETTLE_TIMEOUT (R158). -/
def execSettleTimeout (car : CarId) (s : State) : Host.Outcome State Fault Refusal :=
  .next (s.within [.cars, .recorder] (carEvent s (s.settleTimeoutDue (s.car car)) fun s => s.settleTimeout car))

/-- STOP_COMPLETE (R180). -/
def execStopComplete (car : CarId) (s : State) : Host.Outcome State Fault Refusal :=
  .next (s.within [.cars] (carEvent s (s.stopCompleteDue car) fun s => s.stopComplete car))

/-- REVERSAL_DWELL_END (R151). -/
def execReversalDwellEnd (car : CarId) (s : State) : Host.Outcome State Fault Refusal :=
  .next (s.within [.cars] (carEvent s (s.dwellOverDue (s.car car)) fun s => s.modMotion car fun m => { m with dwellFrom := none }))

/-- The profile events of a car that are due and have not come in their frame. -/
def State.settleMotion (s : State) (car : CarId) : State :=
  let go (s : State) (due : State → Bool) (f : State → State) := if due s then f s else s
  let s := go s (fun s => (s.car car).motion.followingDue) fun s => s.profileFault car 1
  let s := go s (fun s => (s.car car).motion.statusLostDue) fun s => s.profileFault car 3
  let s := go s (fun s => s.startTimeoutDue (s.car car)) fun s => s.profileFault car 4
  let s := go s (fun s => (s.car car).motion.referenceLostDue) fun s => s.profileFault car 5
  let s := go s (fun s => s.settleTimeoutDue (s.car car)) fun s => s.settleTimeout car
  let s := go s (fun s => s.stopCompleteDue car) fun s => s.stopComplete car
  go s (fun s => s.dwellOverDue (s.car car)) fun s => s.modMotion car fun m => { m with dwellFrom := none }

/-- PAST_EVE clears when the car passes the landing (R179). -/
def Car.passing (c : Car) : Car :=
  let a := c.motion.before
  let b := c.motion.ref.s
  let pass (q : Nat × Stop) : Nat × Stop :=
    match c.stopAt q.1 q.2 with
    | some t => if (a < t * unitS ∧ t * unitS ≤ b) ∨ (b ≤ t * unitS ∧ t * unitS < a) then (q.1, { q.2 with pastEve := false }) else q
    | none => q
  { c with stops := (if a = b then c.stops else c.stops.map pass),
           motion := { c.motion with before := b, lastDir := if c.motion.ref.dir = 0 then c.motion.lastDir else c.motion.ref.dir } }

/-- A stop becomes the committed target and carries TARGET (R147, R148, R178). -/
def Car.commitStop (c : Car) (key : Nat) (t : Int) : Car :=
  let x := c.stop key
  let clear (q : Nat × Stop) : Nat × Stop := (q.1, { q.2 with target := false })
  let c := { c with stops := c.stops.map clear }
  let c := c.putStop key { x with target := true }
  { c.tidyStops with motion := { c.motion with
      target := some (t * 65536), targetLanding := some (key / 2), targetSide := x.side, committed := true,
      reversal := false, nowhere := false, withdrawn := false } }

/-- A stop is refused past eve and kept for the next pass (R179); its key afterwards. -/
def Car.refusePastEve (c : Car) (key : Nat) : Car × Nat :=
  let x := c.stop key
  let c := { c with motion := { c.motion with pastEve := satInc 32 c.motion.pastEve } }
  if x.fixed then (c.putStop key { x with pastEve := true, fresh := false }, key)
  else
    let other := key / 2 * 2 + (1 - key % 2)
    ((c.putStop key {}).mergeStop other { x with fresh := false, target := false }, other)

/-- Answer the asks of an entry whose test has been made. -/
def Car.answer (c : Car) (key disp dir : Nat) : Car :=
  { c with asks := c.asks.map fun a => if a.key = key ∧ a.result = none then { a with result := some (disp, dir) } else a }

/-- Test the candidates nearest first from the reference state at the next Calends (R147, R178); at standstill the first
passes, as S_MIN is then 0. -/
def Car.testStops (r : Ref) (c : Car) : List (Nat × Int) → Car
  | [] => c
  | (key, t) :: rest =>
    if r.stopQ c.motion.limits.d c.motion.limits.j ≤ r.aheadQ (t * 65536) then (c.commitStop key t).answer key 1 (key % 2)
    else
      let q := c.refusePastEve key
      Car.testStops r (q.1.answer key 2 (q.2 % 2)) rest

/-- The direction in which a car travels: its reference's, or at standstill the one to its target (R143). -/
def Car.travel (c : Car) (r : Ref) : Int :=
  if r.dir ≠ 0 then r.dir
  else match c.motion.target with
    | some t => (t - r.posQ).sign
    | none => 0

/-- Candidates of a car on a trip (R147, R178): stops ahead and nearer than the target that come before it in the order,
in their first frame in force, or all of them after a withdrawal; in IDLE also the one at which the car stands (R174, R176). -/
def Car.candidates (c : Car) (r : Ref) : List (Nat × Int) :=
  let w := c.motion.withdrawn
  let before := if w then c.order else c.order.takeWhile fun q => !(c.stop q.1).target
  before.filterMap fun q =>
    match q.2 with
    | some t =>
      let g := c.travel r
      let nearer := match c.motion.target with
        | some t0 => w || decide (g * (t * 65536 - t0) < 0)
        | none => true
      let ahead := decide (0 < g * (t * 65536 - r.posQ)) || (c.motion.phase == .idle && c.within t)
      if ((c.stop q.1).fresh || w) && ahead && nearer then some (q.1, t) else none
    | none => none

/-- Round the stopping point forward to the first served landing (R150); none when there is none (R152). -/
def Car.roundStop (c : Car) (r : Ref) : Option (Nat × Nat × Int) :=
  let q := r.stopQ c.motion.limits.d c.motion.limits.j
  let ts := (List.range (c.pos.cfg.landingsM1 + 1)).flatMap fun l =>
    [0, 1].filterMap fun f => (c.pos.stopTarget l f).bind fun t =>
      if q ≤ r.aheadQ (t * 65536) then some (l, f, t) else none
  ts.foldl (fun best x => match best with
    | some y => if r.dir * x.2.2 < r.dir * y.2.2 then some x else some y
    | none => some x) none

/-- A moving car left without a stop ahead makes the soonest stop, at the first served landing beyond it (R150–R152). -/
def State.reverse (s : State) (car : CarId) : State :=
  let c := s.car car
  let r := c.motion.ref
  match c.roundStop r with
  | some (l, f, t) =>
    s.setCar car { c with motion := { c.motion with target := some (t * 65536), targetLanding := some l, targetSide := f,
                                                    committed := true, reversal := true, nowhere := false, withdrawn := false } }
  | none =>
    let point := divNearest (r.posQ + r.dir * r.stopQ c.motion.limits.d c.motion.limits.j) 65536
    let s := s.setCar car { c with motion := { c.motion.noTarget with nowhere := true, reversal := true, withdrawn := false } }
    let s := s.record 0x0502 car.val (leInt 4 point)
    if c.service = .normal ∨ c.service = .independent then s.enterService car .outOfService 1 true else s

/-- The first entry of the order becomes the target of a standing car (R147, R177, R178). -/
def Car.firstStop (c : Car) : Car :=
  match c.order with
  | (key, some t) :: _ =>
    let c := c.commitStop key t
    let c := c.answer key 1 (key % 2)
    if c.dir = .none then { c with dir := keyDir key } else c
  | _ => c

/-- Stops leave their first frame; the asks left unanswered are LISTED (R207). -/
def Car.settleAsks (c : Car) : Car :=
  let aged (q : Nat × Stop) : Nat × Stop := (q.1, { q.2 with fresh := false })
  { c with stops := c.stops.map aged,
           asks := c.asks.map fun a => match a.result with
             | some _ => a
             | none => { a with result := some (if a.atOnce then 3 else if (c.stop a.key).target then 1 else 0, a.key % 2) } }

/-- A target at which the car stands in IDLE needs no trip: the stop is complete (R176). -/
def State.stopHere (s : State) (car : CarId) : State :=
  let c := s.car car
  match c.motion.target, c.motion.targetLanding with
  | some t, some l => if c.motion.phase == .idle && c.within (t / 65536) then s.completeStop car l else s
  | _, _ => s

/-- The choice of a car's target in the Plan phase, from the reference state at the next Calends (R147–R150, R176). -/
def State.chooseTarget (s : State) (car : CarId) : State :=
  let c := s.car car
  let may := c.motion.present && c.pos.state == .placed && c.motion.kind == .normal && !c.motion.posStop
    && (c.service == .outOfService || c.service == .normal || c.service == .independent)
  if !may then s
  else
    let under := c.motion.phase == .idle || c.motion.phase == .starting || c.motion.phase == .running
    if under && (c.motion.committed || (c.motion.withdrawn && c.motion.phase != .idle)) then
      let c0 := c.motion.target
      let c := c.testStops c.motion.ref (c.candidates c.motion.ref)
      let s := s.setCar car c
      if c.motion.withdrawn && c.motion.phase == .running && c.motion.ref.dir != 0 then s.reverse car
      else if c.motion.target != c0 then s.stopHere car else s
    else if c.motion.phase == .idle && !c.motion.committed then (s.setCar car c.firstStop).stopHere car
    else s

/-- A drive status in the image (R166): the last whose CHECK matches. -/
def Motion.statusIn (m : Motion) (fs : List CanFrame) : Option DriveStatus :=
  ((fs.filter fun f => !f.ide && !f.rtr && f.id == m.cfg.statusId && f.data.length == 16
      && crc16 (f.data.take 14) == fieldAt f.data 14 2).getLast?).map fun f =>
    { speed := intAt f.data 0 3, seqEcho := byteAt f.data 3, flags := byteAt f.data 4, code := byteAt f.data 5,
      torque := intAt f.data 6 2, dcBus := fieldAt f.data 8 2 }

/-- Gather a car's drive status and its reference's outcome (R165, R166), and raise the faults that they show (R162): SG
reads a lost reference and a drive fault in this frame. -/
def State.gatherDrive (s : State) (car : CarId) : State :=
  let m := (s.car car).motion
  if !m.present then s
  else
    let missed := if s.grp.safeState || m.refWas then 0 else min 255 (m.missed + 1)
    let new := m.statusIn s.io.image.can[2 * car.val]
    let s := s.modMotion car fun m => { m with
      status := new.getD m.status, statusSeen := m.statusSeen || new.isSome,
      statusAge := if new.isSome then 0 else min 65535 (m.statusAge + 1), missed := missed, raised := 0, fault := 0 }
    let s := if new.any fun st => bit st.flags 1 then s.profileFault car 2 else s
    let s := if (s.car car).motion.statusLostDue then s.profileFault car 3 else s
    if (s.car car).motion.referenceLostDue then s.profileFault car 5 else s

/-- A status has been accepted within DRIVE_STATUS_MAX_AGE (R158). -/
def Motion.statusGood (m : Motion) : Bool := m.statusSeen && decide (m.statusAge ≤ m.cfg.maxAge)

/-- A trip starts: STARTING, with RUN requested (R158, R266). -/
def State.beginTrip (s : State) (car : CarId) : State :=
  s.modCar car fun c => { c with
    motion := { c.motion with phase := .starting, since := s.grp.frame, settleRun := 0, rolling := false },
    safe := { c.safe with req := { c.safe.req with run := true, lift := false, set := false } } }

/-- The terminal landings: lowest and highest served (R110, R122). -/
def Pos.terminal (p : Pos) (top : Bool) : Option Nat :=
  let ls := (List.range (p.cfg.landingsM1 + 1)).filter p.servesAny
  if top then ls.getLast? else ls.head?

/-- A learning trip's next leg aims at a terminal landing (R122). -/
def Car.aimLearning (c : Car) : Car :=
  match c.pos.learn, c.pos.terminal (!(c.pos.learn.map fun x => x.down).getD false) with
  | some _, some l =>
    let f := if c.pos.serves l 0 then 0 else 1
    { c with motion := { c.motion with kind := .learning, target := (c.pos.stopTarget l f).map fun t => t * 65536,
                                       targetLanding := some l, targetSide := f } }
  | _, _ => c

/-- The car stands at the bottom terminal landing (R122): in its door zone, or within STOP_WINDOW of its stop target. -/
def Car.atBottom (c : Car) : Bool :=
  c.motion.phase == .idle && c.pos.terminal false == some c.pos.landing &&
  (c.pos.zones[0] || c.pos.zones[1] || (c.pos.stopTarget c.pos.landing (if c.pos.serves c.pos.landing 0 then 0 else 1)).any c.within)

/-- A car that is to learn its shaft first runs to the bottom terminal landing, as a trip without a listed stop (R122,
R124, log 319). -/
def Car.aimBottom (c : Car) : Car :=
  match c.pos.terminal false with
  | some l =>
    let f := if c.pos.serves l 0 then 0 else 1
    { c with motion := { c.motion with target := (c.pos.stopTarget l f).map fun t => t * 65536, targetLanding := some l,
                                       targetSide := f, committed := true } }
  | none => c

/-- What a car in IDLE starts (R119, R122, R124, R129, R151, R158, R268); a re-levelling move spoils a settling sample still
awaited (R126). -/
def State.idle (s : State) (car : CarId) : State :=
  let c := s.car car
  let sg := s.sgOf car
  let s := if c.motion.committed && (c.service == .faulted || c.service == .lockedOut) then s.modMotion car Motion.noTarget else s
  let c := s.car car
  let s := if sg.permitted then s.modMotion car fun m => { m with waitPermit := false } else s
  let ready := sg.causes == 0 && c.motion.statusGood && c.motion.dwellFrom.isNone && !s.grp.safeState && c.safe.test.isNone
    && (sg.permitted || !c.motion.waitPermit)
  if !ready then s
  else if c.pos.state == .placed && c.pos.relevel && !c.motion.committed then
    let f := if c.pos.serves c.pos.landing 0 then 0 else 1
    if sg.permitted && c.pos.serves c.pos.landing f then
      let s := s.modCar car fun c => { c with pos := { c.pos with settle := c.pos.settle.map fun x => { x with good := false } } }
      (s.modMotion car fun m => { m with kind := .relevel, target := some ((c.pos.record c.pos.landing f).levelNow * 65536),
                                         targetLanding := none, targetSide := f }).beginTrip car
    else s
  else if !sg.closedLocked then s
  else if c.pos.state == .correcting then
    (s.modMotion car fun m => { m with kind := .correction, target := none, targetLanding := none, down := !c.pos.cfg.corrUp }).beginTrip car
  else if c.pos.state == .learning then
    match c.pos.learn with
    | some l => if l.done || l.failed then s else (s.modCar car Car.aimLearning).beginTrip car
    | none => s
  else if c.pos.state == .placed && c.motion.committed then s.beginTrip car
  else if c.pos.state == .placed && c.learnsFirst && c.pos.learn.isNone && (c.pos.terminal false).isSome
      && !c.atBottom && c.service != .faulted && c.service != .lockedOut then
    (s.modCar car Car.aimBottom).beginTrip car
  else s

/-- A placed correction run stops at the landing's LEVEL (R119). -/
def Car.placedRun (c : Car) : Car :=
  if c.motion.kind = .correction ∧ c.motion.target = none ∧ c.pos.state = .placed ∧ !c.motion.posStop ∧ !c.motion.nowhere then
    let l := c.pos.landing
    let f := if c.pos.serves l 0 then 0 else 1
    match c.pos.stopTarget l f with
    | some t => { c with motion := { c.motion with target := some (t * 65536), targetLanding := some l, targetSide := f } }
    | none => c
  else c

/-- A correction run placed too near its landing to stop there makes the soonest stop, as R150 has it (log 318). -/
def State.overrun (s : State) (car : CarId) : State :=
  let c := s.car car
  if c.motion.kind = .correction ∧ (c.planReq c.motion.ref).beyondReach
      ∧ !(c.motion.planFor.any fun a => a.take 2 == (c.planReq c.motion.ref).args.take 2) then s.reverse car else s

/-- RUNNING in a frame (R140, R158): the first commit takes POSITION, later ones the plan; then the target is chosen
and planned from the state at the next Calends. -/
def State.runTrip (s : State) (car : CarId) : State :=
  let us := s.grp.frameLen.us
  let s := s.modCar car fun c =>
    if !c.motion.rolling then
      { c with motion := { c.motion with ref := { s := c.pos.refS }, plan := [], planFor := none, rolling := true } }
    else
      let q := runPlan c.motion.plan us c.motion.ref
      { c with motion := { c.motion with ref := q.1.notPast c.motion.target, plan := q.2 } }.placedRun
  let s := (s.chooseTarget car).overrun car
  let s := s.modCar car fun c => let c := c.replan; { c with motion := { c.motion with ref := { c.motion.ref with j := planJerk c.motion.plan } } }
  s.modMotion car fun m => if m.arrived then { m with phase := .settling, since := s.grp.frame, settleRun := 0 } else m

/-- FOLLOW_ERR at internal resolution, 1/65,536 unit (R145, R160). -/
def Car.followErrNow (c : Car) : Int := c.motion.ref.posQ - c.pos.posQ

/-- FOLLOW_ERR and its count of frames beyond FOLLOW_LIMIT (R160, R161): frames in which the drive follows the reference, from
the first commit of RUNNING to the end of the trip (log 317). -/
def Car.follow (c : Car) : Car :=
  let e := c.followErrNow
  let far := c.motion.rolling && decide ((c.motion.cfg.followLimit : Int) * 65536 < e.natAbs)
  { c with motion := { c.motion with
      followErr := clampInt (-(2 ^ 31)) (2 ^ 31 - 1) (divNearest e 65536), followErrQ := e,
      followRun := if far then c.motion.followRun + 1 else 0 } }

/-- SG has dropped the brakes, or a lockout or the group safe state forbids the trip (R48, R268, R278, R285). -/
def State.tripLost (s : State) (car : CarId) : Bool :=
  let c := s.car car
  let sg := s.sgOf car
  c.motion.phase != .idle && (sg.causes != 0 || s.grp.safeState || sg.dropped)

/-- The request bits of CC0 in a frame (R266). The levelling approach of a stop is taken to begin with the door zone of its
landing (log 328). -/
def State.makeRequests (s : State) (car : CarId) : State :=
  s.modCar car fun c =>
    let near (f : Side) : Bool := c.pos.zones[f.val] && c.motion.targetLanding == some c.pos.landing
    let going : Bool := c.motion.phase == .running || c.motion.phase == .settling || c.motion.phase == .stopping
    let level (f : Side) : Bool := going && c.motion.kind == TripKind.normal && (c.bridgeSides.contains f) && near f
    let rel (f : Side) : Bool := c.pos.relevel && c.pos.zones[f.val]
    { c with safe := { c.safe with req := { c.safe.req with
        level := Vector.ofFn fun f => level f || (going && c.safe.req.level[f.val]), relevel := Vector.ofFn rel } } }

/-- One car's profile in the Plan phase of a frame (R140–R162). -/
def State.planCar (s : State) (car : CarId) : State :=
  let c := s.car car
  if !c.configured then s
  else if !c.motion.present then s
  else
    let s := s.modCar car fun c => { c.follow.passing with
      safe := { c.safe with req := { c.safe.req with set := false } } }
    let s := if (s.car car).motion.followingDue then s.profileFault car 1 else s
    let lost := s.tripLost car
    let s := if lost then s.modCar car fun c => let c := c.endTrip; { c with motion := { c.motion with waitPermit := true } } else s
    let s := if !lost && (s.car car).motion.phase == .starting then s.chooseTarget car else s
    let c := s.car car
    let sg := s.sgOf car
    let s := if lost then s else match c.motion.phase with
      | .idle => (s.chooseTarget car).idle car
      | .starting =>
        if c.safe.test.isSome then s
        else if c.safe.req.lift && sg.lifted then (s.modMotion car fun m => { m with phase := .running, since := s.grp.frame }).runTrip car
        else if c.motion.kind == TripKind.normal && !c.motion.committed then s.setBrakes car
        else if bit c.motion.status.flags 0 && c.motion.statusAge == 0 then
          s.modCar car fun c => { c with safe := { c.safe with req := { c.safe.req with lift := true } } }
        else s
      | .running => s.runTrip car
      | .settling =>
        let ok := decide (c.motion.followErrQ.natAbs ≤ c.motion.cfg.stopWindow * 65536)
        let n := if ok then c.motion.settleRun + 1 else 0
        let s := s.modMotion car fun m => { m with settleRun := n }
        if 2 ≤ n then s.setBrakes car else s
      | .stopping => s
    let s := s.makeRequests car
    s.modCar car fun c => { c.settleAsks with motion := { c.motion with withdrawn := false } }

/-- COMMAND of the drive reference (R158, R163, R280). -/
def Car.refCommand (c : Car) : Nat :=
  match c.safe.test with
  | some t => if t.step < 6 then 7 else 0
  | none =>
    match c.motion.phase with
    | .idle => 0
    | .running => 1
    | _ => 3

/-- SPEED_CMD (R160): the correction acts while PLACED, in RUNNING, SETTLING and STOPPING, but not in a position stop. -/
def Car.speedCmd (c : Car) : Int :=
  let m := c.motion
  match m.phase with
  | .idle | .starting => 0
  | _ =>
    let e : Rat := (c.pos.state == .placed && !m.posStop).toNat * (m.cfg.kp : Rat) * m.followErrQ / (256 * 65536)
    let corr := max (-(m.cfg.corrMax : Rat)) (min (m.cfg.corrMax : Rat) e)
    let x := (m.ref.v : Rat) / unitV + corr
    divNearest x.num x.den

/-- TEST_TORQUE (R280): the requested value in steps 3 and 4. -/
def Car.testTorque (c : Car) : Int :=
  match c.safe.test with
  | some t => if t.step = 3 ∨ t.step = 4 then t.torque else 0
  | none => 0

/-- The 16 bytes of the drive reference (R163, R145). -/
def Car.refBytes (c : Car) : List Byte :=
  let h := leInt 4 c.motion.ref.pos ++ leInt 3 c.speedCmd ++ leInt 3 c.motion.ref.accel ++ [byte c.motion.refSeq, byte c.refCommand]
    ++ leInt 2 c.testTorque
  h ++ leBytes 2 (crc16 h)

end Sys2Proof.Machine
end

