-- ==== Sys2Proof/Machine/Can.lean ====
section
/-! DEFINITION. CAN controllers, transmit queues, streams and the CANopen master (10, R74). -/

namespace Sys2Proof.Machine

/-- A transmit point writes into this stream (R68, R354). -/
def Entry.feeds (e st : Entry) : Bool :=
  st.type == 11 && bit e.binding 30 &&
  (if e.type = 3 then !bit st.binding 30 && bits st.params 3 0 == bits e.params 3 0 && bits st.binding 29 0 == bits e.binding 29 0
   else e.type == 4 && bit st.binding 30 && bits st.params 2 0 == bits e.binding 2 0)

/-- PERIOD and MAX_AGE of a stream. -/
def Entry.period (e : Entry) : Nat := bits e.params 20 13
def Entry.maxAge (e : Entry) : Nat := bits e.params 28 21

/-- Fill one transmit point's field into a stream's payload (R68, R74). The point's STAMP is the frame of the assembly, whatever
STAMP its source carries (DESIGN CHOICE, log 354). -/
def State.fillPoint (k : Nat) (q : State × List Byte) (chan : Nat) : State × List Byte :=
  let s := q.1
  let e := s.entry chan
  let w := bits e.params 20 15
  let x := s.entry (bits e.params 63 40)
  let v := if x.usable then x.primary % 2 ^ w else 0
  (s.setEntry chan { e with value := extendField (bit e.params 21) w v, fault := !x.usable, stale := false, seen := true, stamp := k % 2 ^ 32 },
   putField (bit e.params 22) q.2 (bits e.params 14 4) w v)

/-- Assemble one stream in its frame (R74). -/
def State.assemble (k : Nat) (s : State) (chan : Nat) : State :=
  let st := s.entry chan
  let points := (s.grp.alm.filter fun q => q.2.feeds st).map fun q => q.1
  let q := points.foldl (State.fillPoint k) (s, zeros st.streamLength)
  let s := q.1.modEntry chan fun e => { e with stale := false, fault := false, seen := true, stamp := k % 2 ^ 32 }
  { s with grp := { s.grp with streams := s.grp.streams ++ [(chan, q.2)] } }

/-- A transmit point carries FAULT only in a frame whose assembly found it (R68): the frame's Plan phase begins without. -/
def State.calmPoints (s : State) : State :=
  let calm (q : Nat × Entry) : Nat × Entry :=
    if (q.2.type = 3 ∨ q.2.type = 4) ∧ bit q.2.binding 30 then (q.1, { q.2 with fault := false }) else q
  { s with grp := { s.grp with alm := s.grp.alm.map calm, streams := [] } }

/-- The Plan phase of the streams (R74): those whose PERIOD divides the frame number. -/
def State.planStreams (s : State) : State :=
  let k := s.grp.frame
  let s := s.calmPoints
  ((s.grp.alm.filter fun q => q.2.type == 11 && q.2.period != 0 && k % q.2.period == 0).map fun q => q.1).foldl (State.assemble k) s

/-- The error state of a controller's counters (R342). -/
def errorStateOf (tec recv : Nat) : ErrorState := if 127 < tec ∨ 127 < recv then .passive else .active

/-- A controller that takes part in its bus (R24, R331, R344, R366). -/
def Bus.live (b : Bus) : Bool := b.cfg.mode != .off && !b.idle && !b.integrating && b.errorState != .busOff

/-- The owning slot's bus becomes idle, or leaves idleness and integrates anew (R24, R331). -/
def Bus.setIdle (idle : Bool) (b : Bus) : Bus :=
  if b.idle = idle then b
  else { b with idle := idle, integrating := b.cfg.mode != .off, modeStarted := false, waiting := [],
                queue := b.queue.map fun t => { t with started := false } }

/-- The two buses and the link of a slot follow its configuration (R24). -/
def State.syncIdle (s : State) (c : CarId) : State :=
  let idle := !(s.car c).configured
  ((s.modBus (Fin.ofNat 16 (2 * c.val)) (Bus.setIdle idle)).modBus (Fin.ofNat 16 (2 * c.val + 1)) (Bus.setIdle idle)).modLink c
    fun x => { x with idle := idle }

/-- The place of a frame in arbitration (R338): the 11 most significant bits, base format first, then the rest. Frames of
one identifier and format go in the order of the queue. -/
def CanFrame.rank (f : CanFrame) : Nat :=
  if f.ide then f.id / 2 ^ 18 * 2 ^ 19 + 2 ^ 18 + f.id % 2 ^ 18 else f.id * 2 ^ 19

/-- A pending frame has reached its age limit (R339). -/
def TxEntry.due (frame : Nat) (t : TxEntry) : Bool := decide (t.queuedAt + t.maxAge ≤ frame)

/-- The member may send the frame (R416, R435): the holder every frame, a member in VIGIL its PAIR_DUP copies. -/
def State.maySend (s : State) (t : TxEntry) : Bool :=
  s.holds || (s.mem.state == .vigil &&
    (match t.kind with
     | .stream c => (s.entry c).pairDup
     | .reference c => (s.car c).motion.cfg.refDup
     | _ => false))

/-- A lonely bus under LONELY_THROTTLE has offered the frame in this interval (R343). -/
def Bus.throttles (b : Bus) (t : TxEntry) : Bool := b.cfg.lonelyThrottle && b.shownLonely && t.offered

/-- The index of the pending frame that the queue offers (R338, R343): one in an attempt, else the lowest in arbitration. -/
def State.offered (s : State) (b : Bus) : Option Nat :=
  let qs := b.queue.zipIdx.filter fun q => s.maySend q.1 && (q.1.started || !(q.1.due s.grp.frame || b.throttles q.1))
  match qs.find? fun q => q.1.started with
  | some q => some q.2
  | none => (qs.foldl (fun best q => match best with
      | some p => if q.1.frame.rank < p.1.frame.rank then some q else some p
      | none => some q) none).map fun q => q.2

/-- The final payload of a `can.send` (R367). -/
def sendReply (job outcome frame : Nat) : List Byte := leBytes 2 job ++ [byte outcome, 0] ++ leBytes 8 frame

/-- A raw send ends (R367): 0 SENT, 1 DISCARDED, 2 CANCELLED. -/
def State.endSend (s : State) (job outcome : Nat) : State :=
  match s.findJob fun j => j.id == job with
  | some j => endJob j stOk (sendReply job outcome s.grp.frame) s
  | none => s

/-- DISCARDED of a stream advances (R91, R339). -/
def State.countDiscard (s : State) (chan : Nat) : State :=
  let e := s.entry chan
  if e.type ≠ 11 then s
  else if bits e.value 47 32 < 65535 then s.setEntry chan { e with value := e.value + 2 ^ 32 }
  else if e.sat then s
  else (s.setEntry chan { e with sat := true }).record 0x0301 0xFF (leBytes 3 chan)

/-- What a discarded transmission leaves behind (R339, R367). -/
def State.discarded (b : BusId) (s : State) (t : TxEntry) : State :=
  match t.kind with
  | .stream c => s.countDiscard c
  | .raw j => (s.modBus b fun x => { x with txDiscarded := satInc 32 x.txDiscarded }).endSend j 1
  | _ => s.modBus b fun x => { x with txDiscarded := satInc 32 x.txDiscarded }

/-- Take pending frames that meet a test off a bus (R339, R340): one in an attempt only loses its further attempts. -/
def State.dropTx (s : State) (b : BusId) (p : TxEntry → Bool) : State :=
  let q := s.io.buses[b.val].queue
  let gone := q.filter fun t => p t && !t.started
  let kept := (q.filter fun t => !(p t && !t.started)).map fun t => if p t then { t with last := true } else t
  gone.foldl (State.discarded b) (s.modBus b fun x => { x with queue := kept })

/-- An attempt of the bus ends without its frame's acknowledgement (R338, R340): the frame stays pending, or leaves. -/
def State.endAttempt (s : State) (b : BusId) (i : Nat) : State :=
  let q := s.io.buses[b.val].queue
  let t := q.getD i {}
  if t.last then (s.modBus b fun x => { x with queue := q.eraseIdx i }).discarded b t
  else s.modBus b fun x => { x with queue := q.modify i fun t => { t with started := false, offered := true } }

/-- The frames of a bus at their age limit are discarded (R339). -/
def State.expireBus (s : State) (b : BusId) : State := s.dropTx b (TxEntry.due s.grp.frame)

/-- CAN_FRAME_DISCARD (R339). -/
def execCanFrameDiscard (bus : BusId) (s : State) : Host.Outcome State Fault Refusal :=
  .next (s.within [.alm, .jobs, .sessions, .buses, .rings, .irq, .net, .recorder] (whenRunning s fun s => s.expireBus bus))

/-- A protocol exception is counted (R329). -/
def countException (b : BusId) (s : State) : State :=
  if s.io.buses[b.val].live then s.modBus b fun x => { x with protocolExceptions := satInc 16 x.protocolExceptions } else s

/-- PROTOCOL_EXCEPTION (R329). -/
def execProtocolException (bus : BusId) (s : State) : Host.Outcome State Fault Refusal :=
  .next (s.within [.buses] (whenRunning s fun s => countException bus s))

/-- REC after a frame received without error (R342): from above 127 to a value of 119 to 127 that ISO 11898-1 leaves
open. -/
def Bus.recvDown (b : Bus) (n : Nat) : Nat := if 127 < b.recv then 119 + n % 9 else b.recv - 1

/-- The identifier of a PAIR_DUP frame of the group, in either form (R436, R437). -/
def State.ownDup (s : State) (b : BusId) (f : CanFrame) : Bool :=
  let same (id : Nat) (ide : Bool) : Bool := f.ide == ide && f.id / 2 == id / 2
  (s.grp.alm.any fun q => q.2.pairDup && bits q.2.params 3 0 == b.val && same (bits q.2.binding 28 0) (bit q.2.binding 29))
  || (List.finRange 8).any fun c =>
    let m := (s.car c).motion
    m.present && m.cfg.refDup && 2 * c.val == b.val && same m.cfg.refId false

/-- A partner's copy of a drive reference has completed (R437). -/
def State.partnerRef (s : State) (b : BusId) (f : CanFrame) : State :=
  (List.finRange 8).foldl (fun s c =>
    let m := (s.car c).motion
    if m.present && m.cfg.refDup && 2 * c.val == b.val && !f.ide && f.id / 2 == m.cfg.refId / 2
        && fieldAt f.data 16 2 == s.grp.frame % 65536 then
      s.modMotion c fun m => { m with refDone := true }
    else s) s

/-- A frame that completes without error on a bus (R332, R343, R436). -/
def State.receive (s : State) (b : BusId) (f : CanFrame) : State :=
  let x := s.io.buses[b.val]
  if !x.live then s
  else if f.fd && !x.cfg.fdEnable then countException b s
  else
    let q := s.drawNat
    let s := q.2
    let own := s.ownDup b f
    let s := if own then s.partnerRef b f else s
    s.modBus b fun x =>
      let r := x.recvDown q.1
      { x with recv := r, errorState := errorStateOf x.tec r, lonely := false, ackRun := 0, rxFrames := satInc 32 x.rxFrames,
               received := if own then x.received else (x.received ++ [{ f with data := f.data.take 64 }]).take 8,
               echoed := if own && x.cfg.echoOwn then x.echoed ++ [f] else x.echoed }

/-- CAN_FRAME_RECEIVED (R332). -/
def execCanFrameReceived (bus : BusId) (f : CanFrame) (s : State) : Host.Outcome State Fault Refusal :=
  .next (s.within [.free, .cars, .buses] (whenRunning s fun s => s.receive bus f))

/-- What a completed transmission leaves behind: SENT of a stream, a reference completed in its own frame, a raw send's reply (R165, R338,
R367). -/
def State.completed (s : State) (t : TxEntry) : State :=
  match t.kind with
  | .stream c => s.modEntry c fun e => { e with value := putBits e.value 31 0 (e.value % 2 ^ 32 + 1) }
  | .reference c => if t.queuedAt = s.grp.frame then s.modMotion c fun m => { m with refDone := true } else s
  | .raw j => s.endSend j 0
  | .system => s

/-- The bus may make an attempt now (R331, R344). -/
def Bus.mayTry (b : Bus) : Bool := b.live

/-- The offered frame is acknowledged (R338, R343). -/
def State.sent (s : State) (b : BusId) (timeUs : Nat) : State :=
  let x := s.io.buses[b.val]
  match s.offered x with
  | none => s
  | some i =>
    if !x.mayTry then s
    else
      let t := x.queue.getD i {}
      let s := s.modBus b fun x =>
        { x with queue := x.queue.eraseIdx i, txFrames := satInc 32 x.txFrames, tec := x.tec - 1,
                 errorState := errorStateOf (x.tec - 1) x.recv, lonely := false, ackRun := 0,
                 echoed := if x.cfg.echoOwn then
                     x.echoed ++ [{ t.frame with timeUs := timeUs, esi := t.frame.fd && x.errorState == .passive }]
                   else x.echoed }
      s.completed t

/-- CAN_FRAME_SENT (R338). -/
def execCanFrameSent (bus : BusId) (timeUs : Nat) (s : State) : Host.Outcome State Fault Refusal :=
  .next (s.within [.alm, .cars, .jobs, .sessions, .buses, .rings, .irq, .net] (whenRunning s fun s => s.sent bus timeUs))

/-- A controller enters bus-off (R344, R345): an attempt under way ends. -/
def State.busOff (s : State) (b : BusId) : State :=
  let s := match s.io.buses[b.val].queue.findIdx? fun t => t.started with
    | some i => s.endAttempt b i
    | none => s
  let x := s.io.buses[b.val]
  let k := s.grp.frame
  let recent := k :: x.busOffAt.filter fun f => decide (k < f + 10 * s.grp.frameLen.perSecond)
  let held := x.recoveryHeld || decide (8 ≤ recent.length)
  let s := s.modBus b fun x =>
    { x with errorState := .busOff, busOffCount := satInc 16 x.busOffCount, busOffAt := recent.take 8, recoveryHeld := held,
             recovering := x.cfg.autoRecover && !held, recoverAt := k, tec := 256 }
  if held && !x.recoveryHeld then s.record 0x0A02 0xFF [byte b.val] else s

/-- CAN_BUS_OFF (R344). -/
def execCanBusOff (bus : BusId) (s : State) : Host.Outcome State Fault Refusal :=
  .next (s.within [.alm, .jobs, .sessions, .buses, .rings, .irq, .net, .recorder] (whenRunning s fun s =>
    if s.io.buses[bus.val].live then s.busOff bus else s))

/-- What an attempt without acknowledgement adds to TEC (R342): nothing for lost arbitration, nor for an ACK error of an
error-passive sender that sees no dominant bit; the further steps are those of ISO 11898-1 (PRESUMED, log 30). -/
def TxError.rise (x : ErrorState) : TxError → Nat
  | .arbitration => 0
  | .ack dominant => if x = .passive ∧ dominant = false then 0 else 8
  | .other more => 8 + 8 * more

/-- An attempt that does not end in an acknowledgement (R338, R340, R342, R343). Only the holder counts toward LONELY_BUS
(R435). -/
def State.txError (s : State) (b : BusId) (cause : TxError) : State :=
  let x := s.io.buses[b.val]
  match s.offered x with
  | none => s
  | some i =>
    if !x.mayTry then s
    else
      let rise := cause.rise x.errorState
      let run := match cause with
        | .ack _ => x.ackRun + 1
        | _ => 0
      let s := (s.endAttempt b i).modBus b fun x =>
        { x with tec := x.tec + rise, errorState := errorStateOf (x.tec + rise) x.recv, ackRun := run,
                 lonely := x.lonely || (s.holds && decide (16 ≤ run)) }
      if 255 < x.tec + rise then s.busOff b else s

/-- CAN_TX_ERROR (R338). -/
def execCanTxError (bus : BusId) (cause : TxError) (s : State) : Host.Outcome State Fault Refusal :=
  .next (s.within [.alm, .jobs, .sessions, .buses, .rings, .irq, .net, .recorder] (whenRunning s fun s => s.txError bus cause))

/-- 128 occurrences of 11 recessive bits may have passed since the recovery began (R344): 1.408 ms at 1,000 kbit/s, and
longer at a lower nominal rate. -/
def State.mayRecover (s : State) (b : Bus) : Bool :=
  decide (1408000 ≤ b.cfg.nominalKbps * ((s.grp.frame + 1 - b.recoverAt) * s.grp.frameLen.us))

/-- Recovery from bus-off is complete (R344). -/
def Bus.recovered (b : Bus) : Bus :=
  if b.errorState = .busOff ∧ b.recovering then { b with errorState := .active, tec := 0, recv := 0, recovering := false, ackRun := 0 } else b

/-- CAN_RECOVERY_COMPLETE (R344). -/
def execCanRecoveryComplete (bus : BusId) (s : State) : Host.Outcome State Fault Refusal :=
  .next (s.within [.buses] (whenRunning s fun s => if s.mayRecover s.io.buses[bus.val] then s.modBus bus Bus.recovered else s))

/-- A receive error raises REC by 1, by 8 more when the receiver is the first to see it, and by 8 for each further 8
dominant bits (R342; the steps are those of ISO 11898-1, PRESUMED, log 30). -/
def Bus.recvUp (b : Bus) (primary : Bool) (more : Nat) : Bus :=
  let r := min 255 (b.recv + (if primary then 9 else 1) + 8 * more)
  { b with recv := r, errorState := errorStateOf b.tec r }

/-- CAN_RX_ERROR (R342). -/
def execCanRxError (bus : BusId) (e : RxError) (s : State) : Host.Outcome State Fault Refusal :=
  .next (s.within [.buses] (whenRunning s fun s => if s.io.buses[bus.val].live then s.modBus bus fun x => x.recvUp e.primary e.more else s))

/-- CAN_INTEGRATED (R331). -/
def execCanIntegrated (bus : BusId) (s : State) : Host.Outcome State Fault Refusal :=
  .next (s.within [.buses] (whenRunning s fun s => s.modBus bus fun x => { x with integrating := false }))

/-- A CANopen frame of the module with an 11-bit identifier (R346). -/
def coFrame (id : Nat) (data : List Byte) : CanFrame := { id := id, data := data }

/-- Queue a CANopen frame for the next Calends. -/
def Bus.wait (b : Bus) (f : CanFrame) : Bus := { b with waiting := b.waiting ++ [f] }

/-- A bus that acts in CANOPEN mode (R24, R346). -/
def Bus.canopen (b : Bus) : Bool := b.cfg.mode == .canopen && !b.idle

/-- The heartbeat is due (R346). -/
def State.heartbeatDue (s : State) (b : Bus) : Bool :=
  b.canopen && b.modeStarted && decide (b.heartbeatAt + s.msFrames b.cfg.heartbeatMs ≤ s.grp.frame)

/-- The module's heartbeat: state Operational (R346). -/
def State.heartbeat (s : State) (b : BusId) : State :=
  s.modBus b fun x => { x.wait (coFrame (0x700 + x.cfg.nodeId) [5]) with heartbeatAt := s.grp.frame }

/-- HEARTBEAT_PRODUCER (R346). -/
def execHeartbeatProducer (bus : BusId) (s : State) : Host.Outcome State Fault Refusal :=
  .next (s.within [.buses] (whenRunning s fun s => if s.heartbeatDue s.io.buses[bus.val] then s.heartbeat bus else s))

/-- SYNC is due (R346). -/
def State.syncDue (s : State) (b : Bus) : Bool :=
  b.canopen && b.modeStarted && b.cfg.syncFrames != 0 && decide (b.syncAt + b.cfg.syncFrames ≤ s.grp.frame)

/-- SYNC (R346). -/
def State.sendSync (s : State) (b : BusId) : State :=
  s.modBus b fun x => { x.wait (coFrame 0x080 []) with syncAt := s.grp.frame }

/-- CANOPEN_SYNC (R346). -/
def execCanopenSync (bus : BusId) (s : State) : Host.Outcome State Fault Refusal :=
  .next (s.within [.buses] (whenRunning s fun s => if s.syncDue s.io.buses[bus.val] then s.sendSync bus else s))

/-- Frame in which a node was last heard; the first frame of the mode before that. -/
def Bus.heardAt (b : Bus) (node : Nat) : Nat := ((b.heard.find? fun q => q.1 == node).map fun q => q.2).getD 0

/-- A listed node has been silent for 2 × HEARTBEAT_MS (R346). -/
def State.nodeLostDue (s : State) (b : Bus) (node : Nat) : Bool :=
  b.canopen && b.modeStarted && decide (node < 128) && b.cfg.nodes.getLsbD node && !b.nodesLost.getLsbD node
    && decide (b.heardAt node + 2 * s.msFrames b.cfg.heartbeatMs ≤ s.grp.frame)

/-- A node is recorded as lost (R346). -/
def State.nodeLost (s : State) (b : BusId) (node : Nat) : State :=
  (s.modBus b fun x => { x with nodesLost := x.nodesLost ||| (1#128 <<< node) }).record 0x0A03 0xFF ([byte b.val, byte node, 0] ++ zeros 8)

/-- CANOPEN_NODE_LOST (R346). -/
def execCanopenNodeLost (bus : BusId) (node : Nat) (s : State) : Host.Outcome State Fault Refusal :=
  .next (s.within [.buses, .recorder] (whenRunning s fun s => if s.nodeLostDue s.io.buses[bus.val] node then s.nodeLost bus node else s))

/-- The bus of a map entry. -/
def MapEntry.busId (m : MapEntry) : BusId := Fin.ofNat 16 m.bus

/-- A virtual PDO (R348): function, lift number, floor, door, state, in the byte layout of CiA 417 (PRESUMED, log 31). -/
def virtualPdo (function lift floor door state : Nat) : List Byte :=
  leBytes 2 function ++ [byte lift, byte floor, byte door, byte state]

/-- The PDO that an output entry sends for a value (R348). -/
def MapEntry.pdo (m : MapEntry) (cob : Nat) (v : Int) : CanFrame :=
  coFrame cob (if m.kind = 1 then virtualPdo m.function m.lift m.floor m.door (decide (v ≠ 0)).toNat
    else virtualPdo m.function m.lift (v.emod 256).toNat m.door 1)

/-- An output entry sends (R348). -/
def State.sendMap (s : State) (i : Fin 512) (v : Int) : State :=
  let m := s.io.map[i.val]
  let s := s.modBus m.busId fun x => x.wait (m.pdo x.cfg.voutCobId v)
  { s with io := { s.io with map := s.io.map.set i.val { m with lastSent := some v, sentAt := s.grp.frame } } }

/-- An output entry that is in force: enabled, of an output kind, on a bus in CANOPEN mode. -/
def State.mapOut (s : State) (m : MapEntry) : Bool :=
  m.enabled && (m.kind == 1 || m.kind == 2) && s.io.buses[m.busId.val].canopen && s.io.buses[m.busId.val].modeStarted

/-- The value an output entry sends now. -/
def State.mapValue (s : State) (m : MapEntry) : Int :=
  let e := s.entry m.chan
  if e.usable then (e.primary : Int) else 0

/-- An output entry's refresh is due (R348): "that value" is OUT_REFRESH_MS (DEDUCED, log 349). -/
def State.outRefreshDue (s : State) (m : MapEntry) : Bool :=
  let x := s.io.buses[m.busId.val]
  s.mapOut m && x.cfg.outRefreshMs != 0 && m.lastSent.isSome
    && decide (m.sentAt + s.msFrames x.cfg.outRefreshMs ≤ s.grp.frame)

/-- An output entry resends its value (R348). -/
def State.outRefresh (s : State) (i : Fin 512) : State :=
  let m := s.io.map[i.val]
  if s.outRefreshDue m then s.sendMap i (m.lastSent.getD 0) else s

/-- CANOPEN_OUT_REFRESH (R348). -/
def execCanopenOutRefresh (i : Nat) (s : State) : Host.Outcome State Fault Refusal :=
  .next (s.within [.buses, .map] (whenRunning s fun s => match finOf 512 i with
    | some i => s.outRefresh i
    | none => s))

/-- The Plan phase of the output map (R348): an entry sends at the first Calends of the mode and after a change. -/
def State.planMap (s : State) : State :=
  (List.finRange 512).foldl (fun s i =>
    let m := s.io.map[i.val]
    if s.mapOut m && m.lastSent != some (s.mapValue m) then s.sendMap i (s.mapValue m) else s) s

/-- A node is heard (R346). -/
def Bus.hear (b : Bus) (node frame : Nat) : Bus :=
  { b with heard := (node, frame) :: b.heard.filter fun q => q.1 != node, nodesLost := b.nodesLost &&& ~~~(1#128 <<< node) }

/-- What the CANopen master makes of a frame of the image (R331, R346, R348), under the configuration it completed under. What
follows from it acts at the next Calends. -/
def State.masterFrame (b : BusId) (s : State) (f : CanFrame) : State :=
  let x := s.io.buses[b.val]
  let cfg := x.imageCfg
  if f.ide || f.rtr then s
  else
    let node := f.id % 128
    let listed := cfg.nodes.getLsbD node
    let s :=
      if f.id / 128 = 14 ∧ node ≠ 0 ∧ listed then
        let s := if x.canopen then s.modBus b fun x => x.hear node s.grp.frame else s
        if x.canopen ∧ f.data = [0] then s.modBus b fun x => x.wait (coFrame 0 [1, byte node]) else s
      else if f.id / 128 = 1 ∧ node ≠ 0 ∧ listed then s.record 0x0A03 0xFF ([byte b.val, byte node, 1] ++ padTo 8 f.data)
      else s
    if f.id = cfg.vinCobId then
      (s.io.map.toList.filter fun m => m.enabled && m.kind == 0 && m.bus == b.val && f.data.length ≥ 6
          && m.function == fieldAt f.data 0 2 && m.lift == byteAt f.data 2 && m.floor == byteAt f.data 3 && m.door == byteAt f.data 4).foldl
        (fun s m => s.stage (.result m.chan (decide (byteAt f.data 5 ≠ 0)).toNat (s.grp.frame + 1))) s
    else s

/-- The first Calends of CANOPEN mode (R346, R348): Start Remote Node goes to all nodes and every output entry of the bus
sends; the producer and consumer times run from here. -/
def State.startMode (s : State) (b : BusId) : State :=
  let x := s.io.buses[b.val]
  if !x.canopen || x.modeStarted then s
  else
    let k := s.grp.frame
    let s := s.modBus b fun x =>
      { x.wait (coFrame 0 [1, 0]) with modeStarted := true, heartbeatAt := k, syncAt := k, heard := (List.range 128).map fun n => (n, k) }
    (List.finRange 512).foldl (fun s i =>
      let m := s.io.map[i.val]
      if m.busId == b && s.mapOut m then s.sendMap i (s.mapValue m) else s) s

/-- The CANopen master's Gather phase on a bus (R331, R346): the frames that completed under the mode. -/
def State.gatherMaster (s : State) (b : BusId) : State :=
  if (s.io.buses[b.val]).imageCfg.mode = .canopen then s.io.image.can[b.val].foldl (State.masterFrame b) s else s

/-- A receive-ring record (R334). -/
def rxRecord (b : BusId) (f : CanFrame) (own gap : Bool) (frame seq : Nat) : List Byte :=
  leBytes 4 (f.id + flagBit f.ide 29 + flagBit f.rtr 30) ++
    [byte b.val, byte (flagBit f.fd 0 + flagBit f.brs 1 + flagBit f.esi 2 + flagBit own 3 + flagBit gap 4), byte f.data.length, 0]
    ++ leBytes 4 (frame % 2 ^ 32) ++ leBytes 2 f.timeUs ++ leBytes 2 seq ++ padTo ((f.data.length + 3) / 4 * 4) f.data

/-- Write one record of a bus to the receive ring of the configuration it completed under, or drop it (R331, R334, R335). -/
def State.ringRecord (b : BusId) (s : State) (f : CanFrame × Bool) : State :=
  let x := s.io.buses[b.val]
  match finOf 64 x.imageCfg.rxRing with
  | none => s
  | some r =>
    let q := s.host.rings[r.val]
    let seq := x.rxSeq
    if q.use = .dataOut ∧ 0 < q.room then
      (s.publish r (rxRecord b f.1 f.2 x.gapPending s.grp.frame seq)).modBus b fun x => { x with rxSeq := (seq + 1) % 65536, gapPending := false }
    else s.modBus b fun x => { x with rxSeq := (seq + 1) % 65536, gapPending := true, rxDropped := satInc 32 x.rxDropped }

/-- Insert an own frame in end-of-frame order, after frames of the same time. -/
def insertFrame (o : CanFrame) : List (CanFrame × Bool) → List (CanFrame × Bool)
  | [] => [(o, true)]
  | r :: rs => if o.timeUs < r.1.timeUs then (o, true) :: r :: rs else r :: insertFrame o rs

/-- Received and own frames in end-of-frame order (R334). -/
def mergeFrames (rs os : List CanFrame) : List (CanFrame × Bool) :=
  os.foldl (fun l o => insertFrame o l) (rs.map fun f => (f, false))

/-- A frame of the bus is in an attempt at the Calends (R340). -/
def State.markAttempt (s : State) (b : BusId) : State :=
  if !(s.io.buses[b.val]).live then s
  else match s.offered s.io.buses[b.val] with
  | some i => s.modBus b fun y => { y with queue := y.queue.modify i fun t => { t with started := true } }
  | none => s

/-- The latch of a bus (R19, R332, R342, R343): its frames enter the image, ERROR_STATE and LONELY_BUS show. -/
def State.latchBus (s : State) (b : BusId) : State :=
  let y := s.io.buses[b.val]
  let s := { s with io := { s.io with image := { s.io.image with can := s.io.image.can.set b.val y.received } } }
  let s := s.modBus b fun y =>
    { y with servedState := y.shownState, shownState := y.errorState, shownLonely := y.lonely, imageCfg := y.cfg,
             imageOwn := y.echoed, received := [], echoed := [], queue := y.queue.map fun t => { t with offered := false } }
  if y.errorState = y.shownState then s
  else s.record 0x0A01 0xFF [byte b.val, byte (match y.errorState with
    | .active => 0
    | .passive => 1
    | .busOff => 2), byte (min 255 y.tec), byte (min 255 y.recv)]

/-- The image's frames of a bus, received and own, go to its receive ring (R334). -/
def State.ringFrames (s : State) (b : BusId) : State :=
  (mergeFrames s.io.image.can[b.val] (s.io.buses[b.val]).imageOwn).foldl (State.ringRecord b) s

/-- The Gather phase of a bus (R334, R346): receive-ring records, then the CANopen master. -/
def State.gatherBus (s : State) (b : BusId) : State := (s.ringFrames b).gatherMaster b

/-- The identifier of a PAIR_DUP frame as this member sends it (R436). -/
def State.dupId (s : State) (id : Nat) : Nat := if s.boot.pair.paired && s.boot.pairSel then id / 2 * 2 + 1 else id

/-- A stream's instance enters its bus's queue at a Calends (R336, R339, R436): an older one that waits is superseded. -/
def State.queueStream (s : State) (chan : Nat) (payload : List Byte) : State :=
  let e := s.entry chan
  let b : BusId := Fin.ofNat 16 (bits e.params 3 0)
  let k := s.grp.frame
  let mine (t : TxEntry) : Bool := match t.kind with
    | .stream c => c == chan
    | _ => false
  let s := s.dropTx b mine
  let data := if e.pairDup then payload.take (e.streamLength - 2) ++ leBytes 2 (k % 65536) else payload
  let f : CanFrame := { id := if e.pairDup then s.dupId (bits e.binding 28 0) else bits e.binding 28 0, ide := bit e.binding 29,
                        fd := bit e.params 4, brs := bit e.params 5, data := data }
  s.modBus b fun x => { x with queue := x.queue ++ [{ kind := .stream chan, frame := f, queuedAt := k, maxAge := e.maxAge }] }

/-- CANopen frames that wait enter the system share while it holds fewer than 8 (R336). -/
def Bus.admitWaiting (k : Nat) (b : Bus) : Bus :=
  let system (t : TxEntry) : Bool := match t.kind with
    | .system => true
    | .reference _ => true
    | _ => false
  let room := 8 - (b.queue.filter fun t => system t && !t.due k).length
  { b with queue := b.queue ++ (b.waiting.take room).map fun f => { kind := .system, frame := f, queuedAt := k, maxAge := 8 },
           waiting := b.waiting.drop room }

/-- A car's drive reference enters the queue at a Calends (R163, R336, R437). -/
def State.queueReference (s : State) (car : CarId) : State :=
  let c := s.car car
  let m := c.motion
  if !m.present then s
  else
    let k := s.grp.frame
    let h := c.refBytes
    let data := if m.cfg.refDup then h ++ leBytes 2 (k % 65536) ++ [0, 0] else h
    let f : CanFrame := { id := if m.cfg.refDup then s.dupId m.cfg.refId else m.cfg.refId, fd := true, brs := m.cfg.brs, data := data }
    let s := s.modBus (Fin.ofNat 16 (2 * car.val)) fun x =>
      { x with queue := x.queue ++ [{ kind := .reference car, frame := f, queuedAt := k, maxAge := 1 }] }
    s.modMotion car fun m => { m with refWas := m.refDone, refDone := false, refSeq := (m.refSeq + 1) % 256 }

/-- The bus events that are due and have not come in their frame. -/
def State.settleBus (s : State) (b : BusId) : State :=
  let s := if s.heartbeatDue s.io.buses[b.val] then s.heartbeat b else s
  let s := if s.syncDue s.io.buses[b.val] then s.sendSync b else s
  if s.io.buses[b.val].canopen then
    (List.range 128).foldl (fun s n => if s.nodeLostDue s.io.buses[b.val] n then s.nodeLost b n else s) s
  else s

/-- The output refreshes that are due and have not come in their frame (R348). -/
def State.settleMap (s : State) : State := (List.finRange 512).foldl (fun s i => s.outRefresh i) s

end Sys2Proof.Machine
end

