-- ==== Sys2Proof/Machine/LoadAngle.lean ====
section
/-! DEFINITION. The load-angle estimator of a door axis (R223): back-EMF, rotor angle, load angle and force, from the reports of
its power stage. Sines and angles are computed in integers to the last place that the results show (log 320). -/

namespace Sys2Proof.Machine

/-- The sine of `k`/4,096 of a period within the first quarter, × 2^30, from its series. -/
def quarterSin (k : Nat) : Int :=
  let x : Int := k * 3454217652358 / 2048
  let x2 := x * x / 2 ^ 40
  ((List.range 8).foldl (fun (acc : Int × Int) (i : Nat) =>
    let t := -(acc.2 * x2 / 2 ^ 40) / ((2 * i + 2) * (2 * i + 3) : Nat)
    (acc.1 + t, t)) (x, x)).1 / 2 ^ 10

/-- The sine of an electrical angle in 1/4,096 of a period, × 2^30 (R220). -/
def sinQ (n : Int) : Int :=
  let m := (n.emod 4096).toNat
  let r := m % 1024
  match m / 1024 with
  | 0 => quarterSin r
  | 1 => quarterSin (1024 - r)
  | 2 => -quarterSin r
  | _ => -quarterSin (1024 - r)

/-- The angle of a vector in 1/4,096 of a period, nearest; 0 for no vector. -/
def angleOfVec (x y : Int) : Int :=
  let (q, u, v) : Int × Int × Int :=
    if 0 < x ∧ 0 ≤ y then (0, x, y) else if x ≤ 0 ∧ 0 < y then (1, y, -x) else if x < 0 ∧ y ≤ 0 then (2, -x, -y) else (3, -y, x)
  if x = 0 ∧ y = 0 then 0
  else
    let n := search (fun n => decide (u * sinQ n ≤ v * sinQ (n + 1024))) 11 0 1024
    let past := decide (u * (sinQ n + sinQ (n + 1)) ≤ v * (sinQ (n + 1024) + sinQ (n + 1025)))
    1024 * q + n + past.toNat

/-- An electrical angle within half a period of 0. -/
def wrapAngle (n : Int) : Int := (n + 2048).emod 4096 - 2048

/-- A report's signed vector at an offset: two 16-bit components (R221). -/
def reportVec (b : List Byte) (o : Nat) : Int × Int := (intAt b o 2, intAt b (o + 2) 2)

/-- The back-EMF vector in µV (R223): V − R·I − L·dI/dt over one car-link period of 250 µs. Before a second report dI/dt is
taken as 0 (log 320). -/
def backEmf (c : AxisCfg) (v i i0 : Int × Int) : Int × Int :=
  (v.1 * 10000 - c.rPhase * i.1 - 4 * c.lPhase * (i.1 - i0.1), v.2 * 10000 - c.rPhase * i.2 - 4 * c.lPhase * (i.2 - i0.2))

/-- ANGLE as commanded `us` before the latest commit, moved linearly from one command to the next over one period; a
command is taken to apply at its Calends (log 320). -/
def angleBack (angles : List Int) (us : Nat) : Int :=
  let i := (us + 249) / 250
  let f : Int := 250 * i - us
  let a := angles.getD i (angles.getLastD 0)
  let z := angles.getD (i + 1) a
  z + divNearest ((a - z) * f) 250

/-- |I| in mA. -/
def ampOf (i : Int × Int) : Nat := isqrt (i.1 * i.1 + i.2 * i.2).toNat

/-- The motor force at the panel, N × 10^4 × 2^30, positive in the direction of motion (R223). -/
def motorForce (c : AxisCfg) (amp : Nat) (delta : Int) : Int := c.kf * amp * sinQ delta

/-- The rotor angle of the back-EMF (R223): its angle, less one full step in the direction of motion `dir` of ANGLE. -/
def rotorOf (e : Int × Int) (dir : Int) : Int := angleOfVec e.1 e.2 - 1024 * dir

/-- The load angle δ in 1/1024 full step (R223): positive when the rotor lags in the direction of motion. -/
def loadAngle (commanded rotor dir : Int) : Int := dir * wrapAngle (commanded - rotor)

end Sys2Proof.Machine
end

