-- ==== Sys2Proof/Machine/Position.lean ====
section
/-! DEFINITION. Position tracking of a car (04): the sources, fusion, placement, correction and learning trips, and the
position faults. The fusion filter is not disclosed: what it does not fix is a free value (log 3). -/

namespace Sys2Proof.Machine

/-- One of two: the second where the condition holds. -/
def pick {α : Type} (v : Vector α 2) (b : Bool) : α := if b then v[1] else v[0]

/-- Change a car's position tracking. -/
def State.modPos (s : State) (c : CarId) (f : Pos → Pos) : State := s.modCar c fun x => { x with pos := f x.pos }

/-- A safety or position lane as R259 reads it: 0 when it carries BROKEN or FAULT or its bank has failed, otherwise its
STATE, inverted in ANTIVALENT mode. -/
def State.laneReads (s : State) (chan : Nat) (inv : Bool) : Bool :=
  let e := s.entry chan
  match e.lane with
  | some (b, l) =>
    let im := s.io.image.banks[b.val]
    let y := im.lanes[l.val]
    if y.broken || y.faultClass != 0 || im.supplyMissing || im.timerExpired || im.linkFault || y.use != .input then false
    else y.state != inv
  | none => false

/-- The filter delay D of a lane in µs (R107). -/
def State.laneDelay (s : State) (chan : Nat) : Nat :=
  let e := s.entry chan
  bits e.params 15 8 * 2 ^ bits e.params 19 16

/-- APS readings of an image (R99): POSITION, SEQ, STATUS and end of frame in µs, CHECK matching. -/
def apsFrames (id : Nat) (fs : List CanFrame) : List (Int × Nat × Nat × Nat) :=
  (fs.filter fun f => !f.ide && !f.rtr && f.id == id && f.data.length == 8 && crc16 (f.data.take 6) == fieldAt f.data 6 2).map
    fun f => (intAt f.data 0 4, byteAt f.data 4, byteAt f.data 5, f.timeUs)

/-- The reading that R100 accepts: valid, faultless, of a SEQ other than the last accepted one's, the last received. -/
def apsAccept (last : Option Nat) (fs : List (Int × Nat × Nat × Nat)) : Option (Int × Nat × Nat) :=
  ((fs.filter fun r => bit r.2.2.1 0 && !bit r.2.2.1 2 && last != some r.2.1).getLast?).map fun r => (r.1, r.2.1, r.2.2.2)

/-- The Encoder entry that binds a car's encoder (R105). -/
def State.encChan (s : State) (n : CarId) : Option Nat :=
  (s.grp.alm.find? fun q => q.2.type == 2 && bits q.2.binding 2 0 == n.val).map fun q => q.1

/-- ENC_SCALE in force (R123). -/
def Pos.encScale (p : Pos) : Nat := p.scale.getD p.cfg.encScale

/-- The APS and the encoder are in use (R130, R131). -/
def Pos.apsUse (p : Pos) : Bool := p.cfg.aps && !p.apsOut
def Pos.encUse (p : Pos) : Bool := p.cfg.enc && !p.encOut

/-- The car stands still (R118): its SPEED is 0. -/
def Car.still (c : Car) : Bool := c.pos.speed == 0

/-- A position fault is raised (R130, R132): recorded and counted, with its effect. A car that it leaves UNPLACED has no
anchored encoder track (log 321); after APS_LOST no reading accepted before begins a pair (R131, log 322). -/
def State.positionFault (s : State) (car : CarId) (code : Nat) : State :=
  let p := (s.car car).pos
  if bit p.raised code then s
  else
    let s := s.record 0x0401 car.val [byte code]
    let s := s.modPos car fun p => { p with raised := p.raised + 2 ^ code, fault := max p.fault code, faults := satInc 32 p.faults,
                                            settle := p.settle.map fun x => { x with good := false },
                                            learn := p.learn.map fun l => { l with failed := true } }
    let unplaced (s : State) := s.modPos car fun p =>
      { p with state := if p.state = .unconfigured then .unconfigured else .unplaced, anchored := false,
               rejectRun := if code = 1 then 0 else p.rejectRun }
    match code with
    | 2 => s.modPos car fun p => { p with apsOut := true, apsPair := none }
    | 3 => s.modPos car fun p => { p with encOut := true, encGood := 0, anchored := false }
    | 7 => ((unplaced (s.modPos car fun p => { p with corrBlocked := true })).positionStop car).faultService car
    | _ => ((unplaced s).positionStop car).faultService car

/-- SOURCES_LOST follows a fault that leaves no source in use (R130). -/
def State.sourcesLost (s : State) (car : CarId) : State :=
  let p := (s.car car).pos
  if !p.apsUse && !p.encUse && p.state != .unconfigured then s.positionFault car 8 else s

/-- APS_LOST is due (R103). -/
def Pos.apsLostDue (p : Pos) : Bool := p.apsUse && p.apsAge == p.cfg.apsMaxAge + 1 && !bit p.raised 2

/-- APS_DISAGREE is due (R102). -/
def Pos.apsDisagreeDue (p : Pos) : Bool := p.apsUse && decide (p.rejectRun = p.cfg.apsReject) && !bit p.raised 1

/-- CORRECTION_LIMIT in 1/65,536 unit (R133). -/
def Pos.corrLimitQ (p : Pos) : Int :=
  65536 * (if p.cfg.corrLimit = 0 then p.cfg.shaftMax - p.cfg.shaftMin + 32000 else p.cfg.corrLimit)

/-- A correction run has come to stand against the terminal input in its direction without a zone (R120). -/
def State.againstTerminal (s : State) (c : Car) : Bool :=
  c.motion.phase == .running && c.pos.speed == 0 && c.pos.corrMoved && !c.pos.zones[0] && !c.pos.zones[1]
    && s.laneReads (pick c.pos.cfg.term c.pos.cfg.corrUp) false

/-- CORRECTION_FAILED is due (R120). -/
def State.correctionFailedDue (s : State) (c : Car) : Bool :=
  c.pos.state == .correcting && (decide (c.pos.corrLimitQ ≤ c.pos.corrTravel.natAbs) || s.againstTerminal c) && !bit c.pos.raised 7

/-- A position fault that forbids movement arises in this frame (R119, R130): any but APS_LOST and ENC_LINE, which leave the
car degraded while another source is in use. -/
def Pos.faultBars (p : Pos) : Bool := [1, 4, 5, 6, 7, 8].any fun code => bit p.raised code

/-- An automatic correction run may start (R119). -/
def Car.autoCorrectDue (c : Car) : Bool :=
  c.configured && c.pos.cfg.autoCorrect && c.pos.state == .unplaced && !c.pos.corrBlocked && (c.pos.apsUse || c.pos.encUse)
    && !c.pos.faultBars && c.motion.phase == .idle && c.motion.present

/-- A correction run starts at standstill (R119, log 356): no trip, and so no position stop, is moving the car. -/
def Car.mayCorrect (c : Car) : Bool :=
  c.configured && c.pos.state == .unplaced && c.motion.phase == .idle && (c.pos.apsUse || c.pos.encUse)

/-- An automatic shaft learning trip may start (R122, R124). -/
def Car.autoLearnDue (c : Car) : Bool :=
  c.configured && c.learnsFirst && c.pos.state == .placed && c.atBottom && !c.motion.committed && c.motion.present

/-- A correction run begins (R119); a zone that is on then was turned on by no edge of the run (R118). -/
def Pos.startCorrection (p : Pos) : Pos :=
  { p with state := .correcting, corrTravel := 0, corrMoved := false, onEdge := Vector.replicate 2 none }

/-- A learning trip begins (R122–R124). -/
def Pos.startLearning (p : Pos) (shaft scale : Bool) (speed : Nat) : Pos :=
  { p with state := .learning, learn := some { shaft := shaft, scale := scale, speed := speed } }

/-- Insertion into an ascending list of positions. -/
def insertInt (x : Int) : List Int → List Int
  | [] => [x]
  | y :: r => if x < y then x :: y :: r else y :: insertInt x r

/-- The found positions of one kind of edge, ascending (R122). -/
def Learn.found (l : Learn) (side : Nat) (upper up : Bool) : List Int :=
  ((l.edges.filter fun e => e.side == side && e.upper == upper && e.up == up).map fun e => e.pos).foldl (fun a x => insertInt x a) []

/-- Served landings of a side, ascending. -/
def Pos.servedOn (p : Pos) (side : Nat) : List Nat := (List.range (p.cfg.landingsM1 + 1)).filter fun l => p.serves l side

/-- The zones found on a side equal the served landings in each direction (R122): each leg starts in one terminal
landing's zone and ends in the other's, so it crosses every lower edge but the bottom's, and every upper edge but the top's. -/
def Pos.zonesAgree (p : Pos) (l : Learn) (side : Nat) : Bool :=
  let n := (p.servedOn side).length
  let at_ (top : Bool) : Nat := ((p.terminal top).map fun b => (p.serves b side).toNat).getD 0
  [true, false].all fun up =>
    (l.found side false up).length + at_ false == n && (l.found side true up).length + at_ true == n

/-- The mean of an edge's upward and downward estimates (R122), none where the trip did not cross it. -/
def meanEdge (ups downs : List Int) (i : Nat) : Option Int :=
  match ups[i]?, downs[i]? with
  | some a, some b => some ((a + b).tdiv 2)
  | _, _ => none

/-- The learned edges of one landing side: the `i`-th served of its side; an edge that the trip did not cross keeps
its value in force. -/
def Pos.learnSide (p : Pos) (l : Learn) (side i landing : Nat) : LandingRec :=
  let r := p.record landing side
  let z := r.zone p.cfg.zoneHalf
  let lo0 := ((p.terminal false).map fun b => (p.serves b side).toNat).getD 0
  let lo := if i < lo0 then none else meanEdge (l.found side false true) (l.found side false false) (i - lo0)
  let hi := meanEdge (l.found side true true) (l.found side true false) i
  { r with learned := some (lo.getD z.1, hi.getD z.2) }

/-- The landing table after a successful shaft learning trip (R122). -/
def Pos.learnTable (p : Pos) (l : Learn) : List (Nat × LandingRec) :=
  [0, 1].foldl (fun t side =>
    ((p.servedOn side).zipIdx).foldl (fun t q => Mem.set {} t (q.1 * 2 + side) (p.learnSide l side q.2 q.1)) t) p.table

/-- The learned ENC_SCALE between the trip's first point and the one farthest from it (R123), rounded down (log 315); none
when they lie less than 10 m apart or the scale is more than 2% off the configured. -/
def Pos.learnScale (p : Pos) (l : Learn) : Option Nat :=
  match l.apsFrom with
  | none => none
  | some a =>
    let d := (l.apsFar - a).natAbs
    if d < 160000 ∨ l.encFar = 0 then none
    else
      let q := d * 65536 / l.encFar.natAbs
      if (100 * ((q : Int) - p.cfg.encScale)).natAbs ≤ 2 * p.cfg.encScale then some q else none

/-- SHAFT_LEARN_COMPLETE is due (R122): the trip has returned and stands, or has failed, or the car has left LEARNING. -/
def Car.learnDue (c : Car) : Bool :=
  match c.pos.learn with
  | some l => (l.done || l.failed || c.pos.state != .learning) && c.motion.phase == .idle
  | none => false

/-- The learning trip ends (R122, R123): the job's final reply, and on success the records and the scale for the next
Calends. -/
def State.learnComplete (s : State) (car : CarId) : State :=
  let p := (s.car car).pos
  match p.learn with
  | none => s
  | some l =>
    let ok := l.done && !l.failed && p.state == .learning && (!l.shaft || (p.zonesAgree l 0 && p.zonesAgree l 1))
      && (!l.scale || (p.learnScale l).isSome)
    let s := s.modPos car fun p =>
      { p with learn := none, state := if p.state = .learning then .placed else p.state,
               learnt := if ok then some (if l.shaft then some (p.learnTable l) else none, if l.scale then p.learnScale l else none) else p.learnt }
    match s.findJob fun j => j.kind == .posLearn car with
    | some j => endJob j (if ok then stOk else stJobFailed) [] s
    | none => s

/-- The records and the scale of a successful learning trip take effect (R122); without an APS the change of the LEVEL at
which the car stands is slewed in (R112). -/
def Pos.takeLearnt (p : Pos) : Pos :=
  match p.learnt with
  | none => p
  | some (t, k) =>
    let lvl (x : Pos) := (x.record x.landing (if x.serves x.landing 0 then 0 else 1)).levelNow
    let n := { p with table := t.getD p.table, everLearned := p.everLearned || t.isSome, scale := if k.isSome then k else p.scale, learnt := none }
    { n with pendingQ := if p.cfg.aps then p.pendingQ else p.pendingQ + 65536 * (lvl n - lvl p) }

/-- A settling sample is due (R126): 500 ms after the brakes were commanded set. -/
def State.sampleDue (s : State) (p : Pos) : Bool :=
  match p.settle with
  | some x => decide (x.at_ + s.msFrames 500 ≤ s.grp.frame)
  | none => false

/-- Take the settling sample (R126): STRETCH moves by an eighth, toward zero; a bad one is discarded with its event. -/
def State.takeSample (s : State) (car : CarId) : State :=
  let p := (s.car car).pos
  match p.settle with
  | none => s
  | some x =>
    let s := s.modPos car fun p => { p with settle := none }
    if x.good && p.state == .placed then
      let r := p.record x.landing x.side
      let b : Fin 8 := Fin.ofNat 8 x.band
      let st := r.stretch[b.val]
      let d := p.units - x.pos
      let r := { r with stretch := r.stretch.set b.val (st + (d - st).tdiv 8), samples := r.samples.set b.val (min 15 (r.samples[b.val] + 1)) }
      s.modPos car fun p => { p with table := Mem.set {} p.table (x.landing * 2 + x.side) r }
    else s.record 0x0403 car.val [byte x.landing, byte x.band]

/-- RELEVEL_DEMAND is due (R129): the error has exceeded the threshold in 4 consecutive frames. -/
def Pos.relevelDue (p : Pos) : Bool := decide (4 ≤ p.relevelRun) && !p.relevel

/-- Re-levelling is demanded (R129). -/
def State.demandRelevel (s : State) (car : CarId) : State := s.modPos car fun p => { p with relevel := true }

/-- APS_DISAGREE (R102). -/
def execApsDisagree (car : CarId) (s : State) : Host.Outcome State Fault Refusal :=
  .next (s.within [.cars, .recorder] (carEvent s (s.car car).pos.apsDisagreeDue fun s => s.positionFault car 1))

/-- APS_LOST (R103). -/
def execApsLost (car : CarId) (s : State) : Host.Outcome State Fault Refusal :=
  .next (s.within [.cars, .recorder] (carEvent s (s.car car).pos.apsLostDue fun s => (s.positionFault car 2).sourcesLost car))

/-- CORRECTION_FAILED (R120). -/
def execCorrectionFailed (car : CarId) (s : State) : Host.Outcome State Fault Refusal :=
  .next (s.within [.cars, .recorder] (carEvent s (s.correctionFailedDue (s.car car)) fun s => s.positionFault car 7))

/-- AUTO_CORRECT (R119). -/
def execAutoCorrect (car : CarId) (s : State) : Host.Outcome State Fault Refusal :=
  .next (s.within [.cars] (carEvent s (s.car car).autoCorrectDue fun s => s.modPos car Pos.startCorrection))

/-- AUTO_LEARN (R124): at 16,000, or the rated speed if that is lower. -/
def execAutoLearn (car : CarId) (s : State) : Host.Outcome State Fault Refusal :=
  .next (s.within [.cars] (carEvent s (s.car car).autoLearnDue fun s =>
    s.modPos car fun p => p.startLearning true false (min 16000 (s.car car).motion.cfg.rated)))

/-- SHAFT_LEARN_COMPLETE (R122). -/
def execShaftLearnComplete (car : CarId) (s : State) : Host.Outcome State Fault Refusal :=
  .next (s.within [.cars, .jobs, .sessions, .rings, .irq, .net] (carEvent s (s.car car).learnDue fun s => s.learnComplete car))

/-- STRETCH_SAMPLE (R126). -/
def execStretchSample (car : CarId) (s : State) : Host.Outcome State Fault Refusal :=
  .next (s.within [.cars, .recorder] (carEvent s (s.sampleDue (s.car car).pos) fun s => s.takeSample car))

/-- RELEVEL_DEMAND (R129). -/
def execRelevelDemand (car : CarId) (s : State) : Host.Outcome State Fault Refusal :=
  .next (s.within [.cars] (carEvent s (s.car car).pos.relevelDue fun s => s.demandRelevel car))

/-- The position events of a car that are due and have not come in their frame. -/
def State.settlePosition (s : State) (car : CarId) : State :=
  let go (s : State) (due : State → Bool) (f : State → State) := if due s then f s else s
  let s := go s (fun s => (s.car car).pos.apsDisagreeDue) fun s => s.positionFault car 1
  let s := go s (fun s => (s.car car).pos.apsLostDue) fun s => (s.positionFault car 2).sourcesLost car
  let s := go s (fun s => s.correctionFailedDue (s.car car)) fun s => s.positionFault car 7
  let s := go s (fun s => s.sampleDue (s.car car).pos) fun s => s.takeSample car
  let s := go s (fun s => (s.car car).pos.relevelDue) fun s => s.demandRelevel car
  let s := go s (fun s => (s.car car).learnDue) fun s => s.learnComplete car
  let s := go s (fun s => (s.car car).autoCorrectDue) fun s => s.modPos car Pos.startCorrection
  go s (fun s => (s.car car).autoLearnDue) fun s =>
    s.modPos car fun p => p.startLearning true false (min 16000 (s.car car).motion.cfg.rated)

/-- Encoder travel of the image in 1/65,536 unit (R105). -/
def State.encTravel (s : State) (car : CarId) : Int := s.io.image.enc[car.val] * (s.car car).pos.encScale

/-- The encoder's line state (R105, R131). -/
def State.fuseLine (s : State) (car : CarId) : State :=
  let p := (s.car car).pos
  if !p.cfg.enc then s
  else if s.io.image.encFault[car.val] then (s.positionFault car 3).sourcesLost car
  else s.modPos car fun p =>
    let n := p.encGood + 1
    { p with encGood := n, encOut := p.encOut && decide (n < 8) }

/-- An APS WARNING change is recorded (R100). -/
def State.apsWarning (s : State) (car : CarId) (fs : List (Int × Nat × Nat × Nat)) : State :=
  fs.foldl (fun s r =>
    let w := bit r.2.2.1 1
    if w = (s.car car).pos.warning then s
    else (s.modPos car fun p => { p with warning := w }).record 0x0402 car.val [byte w.toNat]) s

/-- A reading carried forward to the Calends, in 1/65,536 unit (R101): SPEED is that of the frame before (log 313). -/
def carried (speed reading : Int) (lenUs latency at_ : Nat) : Int :=
  reading * 65536 + divNearest (speed * 65536 * ((lenUs - at_ : Nat) + latency)) 1000000

/-- The car's travel of this frame in 1/65,536 unit (R102): the encoder's, else SPEED of the frame before × one frame. -/
def State.travelQ (s : State) (car : CarId) : Int :=
  let p := (s.car car).pos
  if p.encUse then s.encTravel car else divNearest (p.speed * 65536 * s.grp.frameLen.us) 1000000

/-- POSITION belongs to a placed car (R108, R116). -/
def Placement.known (p : Placement) : Bool := p == .placed || p == .learning

/-- A frame without a used reading (R103). -/
def Pos.apsMiss (p : Pos) : Pos := { p with apsAge := min 65535 (p.apsAge + 1), apsFwd := none, usedAps := false }

/-- A used reading, carried forward (R102, R103). -/
def Pos.apsTake (p : Pos) (fwd : Int) : Pos := { p with apsAge := 0, rejectRun := 0, apsFwd := some fwd, usedAps := true }

/-- Place a car at a position (R117, R118): nothing is left to slew, and the encoder track begins there (log 321). A fault
in the frame leaves the car UNPLACED (R132). -/
def Car.placeNow (c : Car) (posQ : Int) : Car :=
  if c.pos.raised ≠ 0 then c
  else
    let c := c.recoordinate posQ
    { c with pos := { c.pos with state := .placed, pendingQ := 0, trackQ := posQ, anchored := true } }

/-- One frame of the APS source: acceptance, prediction, rejects, age, placement and return (R100–R103, R117, R131). -/
def State.fuseAps (s : State) (car : CarId) : State :=
  let p := (s.car car).pos
  if !p.cfg.aps then s
  else
    let fs := apsFrames p.cfg.apsId s.io.image.can[2 * car.val]
    let s := s.apsWarning car fs
    match apsAccept p.apsSeq fs with
    | none => s.modPos car Pos.apsMiss
    | some (v, seq, at_) =>
      let fwd := carried p.speed v s.grp.frameLen.us p.cfg.apsLatency at_
      let jump := p.apsSeq.any fun q => decide (1 < (seq + 256 - q) % 256)
      let pair := p.apsPair.any fun q => seq == (q.1 + 1) % 256 && decide ((v - q.2).natAbs ≤ p.cfg.agree)
      let off := fwd - (p.posQ + s.travelQ car)
      let s := s.modPos car fun p =>
        { p with apsSeq := some seq, apsPair := some (seq, v), seqJumps := if jump then satInc 32 p.seqJumps else p.seqJumps }
      if !p.state.known then
        let s := s.modPos car fun p => { p.apsTake fwd with apsOut := p.apsOut && !pair }
        if pair ∧ p.state ≠ .unconfigured then s.modCar car fun c => c.placeNow fwd else s
      else if p.apsOut then
        if !pair then s.modPos car Pos.apsMiss
        else
          let s := s.modPos car fun p => { p.apsTake fwd with apsOut := false }
          if off.natAbs ≤ 65536 * p.cfg.slipLimit then s.modPos car fun p => { p with pendingQ := off } else s.positionFault car 4
      else if off.natAbs ≤ 65536 * p.cfg.apsWindow then s.modPos car fun p => p.apsTake fwd
      else s.modPos car fun p => { p.apsMiss with rejectRun := p.rejectRun + 1, apsRejects := satInc 32 p.apsRejects }

/-- The travel of this frame as the sources measured it, in 1/65,536 unit (R95): the encoder's, else that between the latest
two used readings; none without a measure. -/
def State.measuredRate (s : State) (car : CarId) : Option Int :=
  let p := (s.car car).pos
  if p.encUse then some (s.encTravel car)
  else match p.apsFwd, p.apsPrev with
    | some f, some q => some (divNearest (f - q.1) (s.grp.frame - q.2))
    | _, _ => none

/-- SPEED and ACCEL at the Calends: the derivatives of POSITION as the sources measured them (R95). The filter is not
disclosed: SPEED is a free value between the least and the largest rate of the latest 16 frames, ACCEL one between the
least and the largest change of SPEED in them (log 3). Slewing alters neither (R112). Under SOURCES_LOST SPEED is the drive's, or
REF_SPEED (R130). -/
def State.fuseSpeed (s : State) (car : CarId) : State :=
  let us := s.grp.frameLen.us
  let rate := s.measuredRate car
  let (d1, s) := s.drawInt
  let (d2, s) := s.drawInt
  let m := (s.car car).motion
  s.modPos car fun p =>
    let rates := match rate with
      | some r => (r :: p.rates).take 16
      | none => p.rates
    let speed := if p.apsUse || p.encUse then
        (if rates.isEmpty then p.speed else clampTo (rates.map fun r => divNearest (r * 1000000) (65536 * us)) d1)
      else if m.statusGood then m.status.speed else m.ref.speed
    let speed := clampInt (-(2 ^ 31)) (2 ^ 31 - 1) speed
    let speeds := (speed :: p.speeds).take 17
    let changes := (speeds.zip (speeds.drop 1)).map fun q => divNearest ((q.1 - q.2) * 1000000) us
    { p with rates := rates, speed := speed, speeds := speeds, accel := clampInt (-(2 ^ 31)) (2 ^ 31 - 1) (clampTo changes d2),
             corrMoved := p.corrMoved || speed != 0 }

/-- POSITION at the Calends (R111, R112). A placed car's moves by the frame's travel and at most 1 unit beside it: toward
what is left of a correction, else toward a used reading, how far being the undisclosed filter's, a free value (log 3). Before
placement it is the used reading, or goes on by the travel. A car that its APS has placed in this frame stands at
that reading (R117). -/
def State.fuseState (s : State) (car : CarId) (was : Placement) : State :=
  let (d0, s) := s.drawInt
  let travel := s.travelQ car
  let enc := if (s.car car).pos.encUse then s.encTravel car else 0
  let k := s.grp.frame
  let s := s.modPos car fun p =>
    let fixed := !was.known && p.state.known
    let base := p.posQ + travel
    let pull := match p.usedAps, p.apsFwd with
      | true, some f => clampInt (min 0 (f - base)) (max 0 (f - base)) d0
      | _, _ => 0
    let slew := clampInt (-65536) 65536 (if p.pendingQ ≠ 0 then p.pendingQ else pull)
    let pos := if fixed then p.posQ
      else if was.known then base + slew
      else if p.usedAps then p.apsFwd.getD base else base
    { p with posQ := clampInt (-(2 ^ 47)) (2 ^ 47 - 1) pos,
             pendingQ := if p.pendingQ ≠ 0 && !fixed then p.pendingQ - slew else p.pendingQ,
             trackQ := if fixed then p.trackQ else p.trackQ + enc, corrTravel := p.corrTravel + enc,
             learn := p.learn.map fun l => { l with encNow := l.encNow + s.io.image.enc[car.val] } }
  let s := s.fuseSpeed car
  s.modPos car fun p => { p with apsPrev := match p.apsFwd with
    | some f => some (f, k)
    | none => p.apsPrev }

/-- A scale learning trip's points (R123): its first used reading, and the one farthest from it. -/
def Learn.mark (l : Learn) (aps : Int) : Learn :=
  match l.apsFrom with
  | none => { l with apsFrom := some aps, apsFar := aps, encNow := 0, encFar := 0 }
  | some a => if (l.apsFar - a).natAbs < (aps - a).natAbs then { l with apsFar := aps, encFar := l.encNow } else l

/-- SLIP against a used APS reading, 0 without an encoder (R115). -/
def State.fuseSlip (s : State) (car : CarId) : State :=
  let p := (s.car car).pos
  if !p.encUse then s.modPos car fun p => { p with slip := 0 }
  else match p.usedAps, p.apsFwd with
    | true, some f =>
      let s := s.modPos car fun p => { p with learn := p.learn.map fun l => l.mark (divNearest f 65536) }
      if p.anchored then
        let slip := divNearest (p.trackQ - f) 65536
        let s := s.modPos car fun p => { p with slip := slip }
        if p.cfg.slipLimit < slip.natAbs then s.positionFault car 4 else s
      else s
    | _, _ => s

/-- The edge of a landing side that a zone's edge at a speed belongs to (R108): lower when turning on upward or off
downward, upper the other way; either at standstill. -/
def zoneEdges (z : Int × Int) (on : Bool) (speed : Int) : List Int :=
  if speed = 0 then [z.1, z.2] else if (0 < speed) = on then [z.1] else [z.2]

/-- The served landing edge nearest to an edge position (R108), of one landing alone where a terminal input names it
(R110): the edge and its landing. -/
def Pos.nearestEdge (p : Pos) (side : Nat) (on : Bool) (named : Option Nat) (edgeQ : Int) : Option (Int × Nat) :=
  let ls := match named with
    | some l => [l]
    | none => p.servedOn side
  let cands := ls.flatMap fun l => (zoneEdges ((p.record l side).zone p.cfg.zoneHalf) on p.speed).map fun e => (e, l)
  cands.foldl (fun best x => match best with
    | some y => if (x.1 * 65536 - edgeQ).natAbs < (y.1 * 65536 - edgeQ).natAbs then some x else some y
    | none => some x) none

/-- The landing that a zone turning on belongs to (R110); with both terminal inputs at 1 the bottom one's (log 314). -/
def State.terminalLanding (s : State) (p : Pos) (side : Nat) : Option Nat :=
  if s.laneReads p.cfg.term[0] false then (p.servedOn side).head?
  else if s.laneReads p.cfg.term[1] false then (p.servedOn side).getLast?
  else none

/-- A car without an APS is placed at a landing (R118): at LEVEL when it stands, else by shifting POSITION so that the
edge lies where the landing's edge is. -/
def Car.placeAt (c : Car) (landing side : Nat) (on : Bool) (edge : Option Int) : Car :=
  let r := c.pos.record landing side
  let z := r.zone c.pos.cfg.zoneHalf
  let posQ :=
    if c.still then some (r.levelNow * 65536)
    else match edge with
      | some e => (zoneEdges z on c.pos.speed).head?.map fun x => c.pos.posQ + (x * 65536 - e)
      | none => none
  match posQ with
  | some q => c.placeNow q
  | none => c

/-- What an edge does to a placed car (R108, R110, R115, R132): a fix, a check, or ZONE_MISMATCH. Fixes of both sides in one
frame are averaged (log 314). -/
def State.edgeFix (s : State) (car : CarId) (side : Nat) (on : Bool) (edge track : Int) : State :=
  let p := (s.car car).pos
  let slow := decide (p.speed.natAbs ≤ 12800)
  let window : Int := 65536 * p.cfg.zoneWindow + (if slow then 0 else (p.speed.natAbs * 65536 * s.grp.frameLen.us / 1000000 : Nat))
  match p.nearestEdge side on (if on then s.terminalLanding p side else none) edge with
  | some (e, _) =>
    let d := e * 65536 - edge
    if window < d.natAbs then s.positionFault car 5
    else if slow && !p.usedAps then
      let s := s.modPos car fun p =>
        { p with pendingQ := if p.fixed then (p.pendingQ + d).tdiv 2 else d, fixed := true }
      if p.apsUse || !p.encUse then s
      else
        let slip := divNearest (track - e * 65536) 65536
        let s := s.modPos car fun p => { p with slip := if p.anchored then slip else p.slip, trackQ := p.posQ + d, anchored := true }
        if p.anchored && decide (p.cfg.slipLimit < slip.natAbs) then s.positionFault car 4 else s
    else s
  | none => s.positionFault car 5

/-- An edge formed on a side in this frame (R107–R110, R118, R122): zone now on or off, its position on POSITION and on
the encoder track. A fault of the same frame does not keep another from being raised (R132): `was` is the frame's first state. -/
def State.edgeSeen (s : State) (car : CarId) (was : Placement) (side : Fin 2) (on : Bool) (edge track : Int) : State :=
  let p := (s.car car).pos
  let old := p.onEdge[side.val]
  let s := s.modPos car fun p => { p with onEdge := p.onEdge.set side.val (if on then some edge else none) }
  match if was.known then was else p.state with
  | .placed => s.edgeFix car side.val on edge track
  | .learning => s.modPos car fun p => { p with learn := p.learn.map fun l =>
      { l with edges := l.edges ++ [{ side := side.val, upper := (decide (0 < p.speed)) != on, up := decide (0 < p.speed),
                                      pos := divNearest edge 65536 }] } }
  | .unconfigured => s
  | _ =>
    if p.cfg.aps then s
    else if on then
      match s.terminalLanding p side.val with
      | some l => s.modCar car fun c => c.placeAt l side.val true (some edge)
      | none => s
    else
      match old, p.zoneCode with
      | none, some l => if p.serves l side.val then s.modCar car fun c => c.placeAt l side.val false (some edge) else s
      | _, _ => s

/-- One side's sensors, zone and edge in a frame (R106, R107). Sensors and zones are off before the first image, so a zone
that it shows on turns on there (R118, log 314). -/
def State.fuseSide (s : State) (car : CarId) (was : Placement) (side : Fin 2) : State :=
  let c := s.car car
  let p := c.pos
  let chans := p.cfg.dz[side.val]
  if chans[0] = noRef then s
  else
    let anti := c.safe.configured && c.safe.cfg.antiZone
    let a := s.laneReads chans[0] false
    let b := s.laneReads chans[1] anti
    let old := p.sensors[side.val]
    let est (i : Nat) : Int × Int :=
      let dt : Int := s.grp.frameLen.us + 2 * s.laneDelay i
      let back := divNearest (p.speed * 65536 * dt) 2000000
      (p.posQ - back, p.trackQ - back)
    let e0 := if a != old[0] then some (est chans[0]) else p.edges[side.val][0]
    let e1 := if b != old[1] then some (est chans[1]) else p.edges[side.val][1]
    let agree := a == b
    let zone := if agree then a else p.zones[side.val]
    let edge := if agree then
        match e0, e1 with
        | some x, some y => some ((x.1 + y.1).tdiv 2, (x.2 + y.2).tdiv 2)
        | _, _ => none
      else none
    let before := p.zones[side.val]
    let s := s.modPos car fun p => { p with
      sensors := p.sensors.set side.val #v[a, b], zones := p.zones.set side.val zone,
      edges := p.edges.set side.val (if agree then #v[none, none] else #v[e0, e1]) }
    match edge with
    | some (q, t) => if zone != before then s.edgeSeen car was side zone q t else s
    | none => s

/-- The code that an image gives (R109), none when a code channel is unusable. -/
def State.codeRead (s : State) (p : Pos) : Option Nat :=
  let chans := (List.range p.cfg.codeBits).map fun i => p.cfg.codeBase + i
  let bad := chans.any fun ch =>
    let e := s.entry ch
    e.stale || e.fault || bit e.value 1 || (match e.lane with
      | some (b, _) =>
        let im := s.io.image.banks[b.val]
        im.supplyMissing || im.timerExpired || im.linkFault
      | none => true)
  if p.cfg.codeBits = 0 ∨ bad then none
  else some ((chans.zipIdx.map fun q => flagBit (s.laneReads q.1 false) q.2).foldl (· + ·) 0)

/-- The landing code in a frame (R109, R118): read identically in two images while a zone is on. A code that names another
served landing raises ZONE_MISMATCH in PLACED alone; in LEARNING the car expects no landing (DESIGN CHOICE, log 357). -/
def State.fuseCode (s : State) (car : CarId) (was : Placement) : State :=
  let p := (s.car car).pos
  let on := p.zones[0] || p.zones[1]
  let code := if on then s.codeRead p else none
  let s := s.modPos car fun p => { p with codePrev := code, zoneCode := if on then p.zoneCode else none }
  match code with
  | some v =>
    if v = 0 ∨ p.codePrev ≠ some v then s
    else
      let l := v - 1
      let side := if p.zones[0] then 0 else 1
      let fits := decide (l ≤ p.cfg.landingsM1) && (!p.zones[0] || p.serves l 0) && (!p.zones[1] || p.serves l 1)
      if !fits then s.positionFault car 5
      else
        let s := s.modPos car fun p => { p with zoneCode := some l }
        match if was.known then was else p.state with
        | .placed => if l = p.landing then s else s.positionFault car 5
        | .unplaced | .correcting =>
          if p.cfg.aps then s else s.modCar car fun c => c.placeAt l side true (pick c.pos.onEdge (!p.zones[0]))
        | _ => s
  | none => s

/-- The nearest landing to POSITION (R111). -/
def Pos.nearestLanding (p : Pos) : Nat :=
  let ls := (List.range (p.cfg.landingsM1 + 1)).filterMap fun l =>
    let f := if p.serves l 0 then 0 else 1
    if p.serves l f then some ((65536 * (p.record l f).levelNow - p.posQ).natAbs, l) else none
  match ls with
  | [] => p.landing
  | x :: xs => (xs.foldl (fun a b => if b.1 < a.1 then b else a) x).2

/-- The load band in a frame (R125): floor(8 × load ÷ RATED_LOAD) within 0–7, a negative load giving 0. -/
def State.fuseBand (s : State) (car : CarId) : State :=
  let p := (s.car car).pos
  if p.cfg.ratedLoad = 0 then s.modPos car fun p => { p with band := 0, bandGood := true }
  else
    let e := s.entry p.cfg.loadChan
    if e.usable then
      s.modPos car fun p => { p with band := min 7 (8 * (signed 32 e.primary).toNat / p.cfg.ratedLoad), bandGood := true }
    else s.modPos car fun p => { p with bandGood := false }

/-- The levelling error against the landing at which the car stands (R129, R136), judged on its FRONT side where that is
served (log 315). -/
def Pos.levelError (p : Pos) : Nat :=
  let f := if p.serves p.landing 0 then 0 else 1
  (p.units - (p.record p.landing f).levelNow).natAbs

/-- The car is in the door zone of its nearest landing (R129). -/
def Pos.inZone (p : Pos) : Bool := (p.zones[0] && p.serves p.landing 0) || (p.zones[1] && p.serves p.landing 1)

/-- Re-levelling (R129): frames beyond the threshold while the car stands at a landing with its doors not closed and
locked, the demand at the fourth, and its end; and the peak of the error at the last stop (R136), which begins when the
brakes are set and counts the frames in IDLE or on a re-levelling move (DESIGN CHOICE, log 357). -/
def State.fuseLevel (s : State) (car : CarId) : State :=
  let c := s.car car
  let stop := (c.motion.phase == .idle || c.motion.kind == .relevel) && c.pos.state == .placed
  let stands := stop && c.pos.inZone && !(s.sgOf car).closedLocked
  let e := c.pos.levelError
  let s := s.modPos car fun p => { p with
    relevelRun := if stands && decide (p.cfg.relevel < e) then p.relevelRun + 1 else 0,
    relevel := p.relevel && stands && decide (4 < e),
    peakError := if stop then max p.peakError (min 65535 e) else p.peakError }
  if (s.car car).pos.relevelDue then s.demandRelevel car else s

/-- POSITION outside the shaft raises OUT_OF_SHAFT (R130). -/
def State.fuseShaft (s : State) (car : CarId) (was : Placement) : State :=
  let p := (s.car car).pos
  if (was.known ∨ p.state.known) ∧ (p.posQ < 65536 * p.cfg.shaftMin ∨ 65536 * p.cfg.shaftMax < p.posQ) then s.positionFault car 6 else s

/-- The faults that a count of the frame brings (R102, R103, R120), in the frame, before its Plan phase reads them (R111). -/
def State.fuseFaults (s : State) (car : CarId) : State :=
  let s := if (s.car car).pos.apsDisagreeDue then s.positionFault car 1 else s
  let s := if (s.car car).pos.apsLostDue then (s.positionFault car 2).sourcesLost car else s
  if s.correctionFailedDue (s.car car) then s.positionFault car 7 else s

/-- QUALITY (R136); a landing with two sides is learned when either is (DESIGN CHOICE, log 357). -/
def State.fuseQuality (s : State) (car : CarId) : State :=
  s.modPos car fun p =>
    let learned := (p.record p.landing 0).learned.isSome || (p.record p.landing 1).learned.isSome
    { p with quality := flagBit p.usedAps 0 + flagBit p.encUse 1 + flagBit p.fixed 2
        + flagBit ((p.cfg.aps && p.apsOut) || (p.cfg.enc && p.encOut)) 3 + flagBit learned 4 }

/-- The fusion kernel of a car in a frame (R111). -/
def State.fuseCar (s : State) (car : CarId) : State :=
  if !(s.car car).configured then s
  else
    let was := (s.car car).pos.state
    let s := s.modPos car fun p => { p with raised := 0, fault := 0, fixed := false }
    let s := s.fuseLine car
    let s := s.fuseAps car
    let s := s.fuseState car was
    let s := s.fuseSlip car
    let s := s.fuseSide car was 0
    let s := s.fuseSide car was 1
    let s := s.modPos car fun p => { p with landing := p.nearestLanding }
    let s := s.fuseCode car was
    let s := s.modPos car fun p => { p with landing := p.nearestLanding }
    let s := s.fuseBand car
    let s := s.fuseShaft car was
    let s := s.fuseFaults car
    let s := s.fuseLevel car
    s.fuseQuality car

end Sys2Proof.Machine
end

