-- ==== Sys2Proof/Machine/Safeguard.lean ====
section
/-! DEFINITION. The safety core SG (08): dual inputs, its own position and speed, requests and grants, safe brake
control, readback and dark tests, lockouts and their reset, and the brake test. -/

namespace Sys2Proof.Machine

/-- Change a car's safeguard. -/
def State.modSafe (s : State) (c : CarId) (f : Safe → Safe) : State := s.modCar c fun x => { x with safe := f x.safe }

/-- The role of a safety output in the lane list of R292. -/
def outLane (o : Fin 6) : Fin 17 :=
  match o with
  | 0 => 6
  | 1 => 7
  | 2 => 12
  | 3 => 13
  | 4 => 14
  | _ => 15

/-- The channel of a safety output. -/
def SafeCfg.outChan (c : SafeCfg) (o : Fin 6) : Nat := c.lanes[(outLane o).val]

/-- Every safety output commanded off (R285), and every grant withdrawn. -/
def Safe.allOff (x : Safe) : Safe :=
  { x with outs := x.outs.map fun o => { o with want := false }, liftGranted := false, runGranted := false,
           bridge := Vector.replicate 2 false, bridgeLevel := Vector.replicate 2 false, stoHold := false }

/-- Either brake channel is commanded on, or about to be. -/
def Safe.brakesOn (x : Safe) : Bool := x.outs[0].want || x.outs[1].want || x.outs[0].cmd || x.outs[1].cmd

/-- Either brake channel is lifted: on at the latest Calends (R264). -/
def Safe.brakesUp (x : Safe) : Bool := x.outs[0].cmd || x.outs[1].cmd

/-- The module counter of LOCKOUT_ID advances, skipping 0 (R286). -/
def nextLockId (n : Nat) : Nat := if n = 65535 then 1 else n + 1

/-- The final payload of a brake test (R295). -/
def BrakeTest.bytes (t : BrakeTest) : List Byte :=
  [byte t.result[0], 0] ++ leBytes 2 (min 65535 t.move[0]) ++ [byte t.result[1], 0] ++ leBytes 2 (min 65535 t.move[1])

/-- A brake test ends (R281, R295): its job posts the results, and its requests end. -/
def State.finishTest (s : State) (car : CarId) : State :=
  match (s.car car).safe.test with
  | none => s
  | some t =>
    let s := s.modSafe car fun x => { x with test := none, req := { x.req with run := false, test := Vector.replicate 2 false } }
    match s.findJob fun j => j.kind == .brakeTest car with
    | some j => endJob j stOk t.bytes s
    | none => s

/-- A brake test is aborted (R281). -/
def State.abortTest (s : State) (car : CarId) : State :=
  (s.modSafe car fun x => { x with test := x.test.map fun t => { t with result := t.result.set t.set.val 2 } }).finishTest car

/-- A cause adds to a car's set under a LOCKOUT_ID, and its outputs go off at the next Calends (R285, R286). -/
def State.latchCause (s : State) (car : CarId) (code chan id : Nat) : State :=
  let s := s.abortTest car
  let s := s.modSafe car fun x => { x.allOff with
    causes := x.causes ||| 2 ^ code, raised := x.raised ||| 2 ^ code, lockId := id,
    latchedAt := if x.causes = 0 then s.grp.frame + 1 else x.latchedAt }
  let s := s.record 0x0801 car.val ([byte code] ++ leBytes 2 id ++ leBytes 3 chan)
  let s := { s with nv := { s.nv with causes := s.nv.causes.set car.val (s.car car).safe.causes } }
  (s.irqEvent 3).lockService car (code == 16)

/-- A car lockout cause is raised (R285, R286): one new ID for the causes of a frame, whether a lockout is latched already or
not. -/
def State.raise (s : State) (car : CarId) (code chan : Nat) : State :=
  let x := (s.car car).safe
  if x.raised ≠ 0 then s.latchCause car code chan x.lockId
  else
    let id := nextLockId s.grp.sg.counter
    ({ s with grp := { s.grp with sg := { s.grp.sg with counter := id } } } : State).latchCause car code chan id

/-- The ID of a module cause (R286): that of the frame's other module causes, else the last one that a car's cause has taken in
the frame, else a new one. -/
def State.moduleId (s : State) : Nat :=
  match s.grp.sg.frameId with
  | some i => i
  | none =>
    if (List.finRange 8).any fun c => (s.car c).configured && (s.car c).safe.raised != 0 then s.grp.sg.counter
    else nextLockId s.grp.sg.counter

/-- A module lockout (R285, R286): one ID for every configured car, and one event where none is. -/
def State.raiseModule (s : State) (code : Nat) : State :=
  let id := s.moduleId
  let s := { s with grp := { s.grp with sg := { s.grp.sg with
    causes := s.grp.sg.causes ||| 2 ^ code, counter := id, frameId := some id } } }
  if (List.finRange 8).any fun c => (s.car c).configured then
    (List.finRange 8).foldl (fun s c => if (s.car c).configured then s.latchCause c code noRef id else s) s
  else s.record 0x0801 0xFF ([byte code] ++ leBytes 2 id ++ leBytes 3 noRef)

/-- A finding of the image raises its cause, once while it stands (log 4). -/
def State.find (s : State) (car : CarId) (n code chan : Nat) : State :=
  (s.modSafe car fun x => { x with told := x.told ||| 2 ^ n }).raise car code chan

/-- The lanes of INPUTS as this chapter reads them (R259, R296). -/
def State.sgInputs (s : State) (x : SafeCfg) : Nat :=
  let rd (i : Fin 17) (inv : Bool) (at_ : Nat) : Nat := flagBit (s.laneReads x.lanes[i.val] inv) at_
  rd 0 false 0 + rd 1 x.antiChain 1 + rd 2 false 2 + rd 3 x.antiLock[0] 3 + rd 4 false 4 + rd 5 x.antiLock[1] 5
    + rd 8 false 6 + rd 9 false 7 + rd 10 false 8 + rd 11 false 9 + rd 16 false 10

/-- Both mirrors, and both lift switches, read so (R275, R276). -/
def Safe.mirror (x : Safe) (ch : Side) : Bool := bit x.inputs (6 + ch.val)
def Safe.liftIn (x : Safe) (ch : Side) : Bool := bit x.inputs (8 + ch.val)
def Safe.mirrorsUp (x : Safe) : Bool := x.mirror 0 && x.mirror 1
def Safe.liftsAre (x : Safe) (b : Bool) : Bool := !x.cfg.lift || (x.liftIn 0 == b && x.liftIn 1 == b)

/-- The door-zone pair of a side as SG reads it (R259). -/
def State.sgZone (s : State) (c : Car) (f : Side) : Bool × Bool :=
  (s.laneReads c.pos.cfg.dz[f.val][0] false, s.laneReads c.pos.cfg.dz[f.val][1] c.safe.cfg.antiZone)

/-- A side has a lock pair. -/
def SafeCfg.hasLock (x : SafeCfg) (f : Side) : Bool := (pick #v[x.lanes[2], x.lanes[4]] (f == 1)) != noRef

/-- The discrepancy time of a pair (R261, R292). -/
def SafeCfg.discLimit (x : SafeCfg) (i : Fin 5) : Nat :=
  match i with
  | 0 => x.discChain
  | 1 => x.discLock
  | 2 => x.discLock
  | _ => x.discZone

/-- Channel A of a pair. -/
def Car.pairChan (c : Car) (i : Fin 5) : Nat :=
  match i with
  | 0 => c.safe.cfg.lanes[0]
  | 1 => c.safe.cfg.lanes[2]
  | 2 => c.safe.cfg.lanes[4]
  | 3 => c.pos.cfg.dz[0][0]
  | _ => c.pos.cfg.dz[1][0]

/-- Judge the dual inputs of an image (R259–R261, R267). -/
def State.sgJudge (s : State) (car : CarId) : State :=
  s.modCar car fun c =>
    let x := c.safe
    let n := s.sgInputs x.cfg
    let zf := s.sgZone c 0
    let zr := s.sgZone c 1
    let pairs : Vector (Bool × Bool) 5 := #v[(bit n 0, bit n 1), (bit n 2, bit n 3), (bit n 4, bit n 5), zf, zr]
    let closed (f : Side) : Bool := !x.cfg.hasLock f || (bit n (2 + 2 * f.val) && bit n (3 + 2 * f.val))
    { c with safe := { x with
        inputs := n, disc := Vector.ofFn fun (i : Fin 5) => if pairs[i.val].1 = pairs[i.val].2 then 0 else x.disc[i.val] + 1,
        chain := bit n 0 && bit n 1, locks := Vector.ofFn closed, zones := #v[zf.1 && zf.2, zr.1 && zr.2],
        closedLocked := closed 0 && closed 1 } }

/-- The encoder is SG's source (R263). -/
def State.sgEncoder (s : State) (car : CarId) : Bool := (s.car car).safe.cfg.encScale != 0 && !s.io.image.encFault[car.val]

/-- SG_POSITION in units (R263). -/
def Safe.position (x : Safe) : Int := divNearest x.posQ 65536

/-- Compare SG's figures of the frame before with the fusion's (R265), in units. -/
def State.sgCompare (s : State) (car : CarId) : State :=
  s.modCar car fun c =>
    let x := c.safe
    let fast := decide (x.cfg.xSpeed < (x.speed - c.pos.speed).natAbs)
    let far := c.pos.state == .placed && x.anchored && decide (x.cfg.xPosition < (x.position - c.pos.units).natAbs)
    { c with safe := { x with xSpeedRun := if fast then x.xSpeedRun + 1 else 0, xPosRun := if far then x.xPosRun + 1 else 0 } }

/-- The terminal whose input shows 1 while the FRONT zone has turned on (R263), the bottom one first (log 314). -/
def State.sgAnchor (s : State) (c : Car) (was : Bool) : Option Int :=
  if c.safe.zones[0] && !was then
    if s.laneReads c.pos.cfg.term[0] false && c.safe.terms[0].configured then some (c.safe.terms[0].level * 65536)
    else if s.laneReads c.pos.cfg.term[1] false && c.safe.terms[1].configured then some (c.safe.terms[1].level * 65536)
    else none
  else none

/-- SG_SPEED, SG_POSITION, ANCHORED and the count without a source (R263, R264), from the DELTA that the Encoder entry shows
(R67); `was` is the FRONT zone before. -/
def State.sgMove (s : State) (car : CarId) (was : Bool) : State :=
  let us := s.grp.frameLen.us
  let enc := s.sgEncoder car
  s.modCar car fun c =>
    let x := c.safe
    let p := c.pos.cfg
    let travel : Int := if enc then clampInt (-32767) 32767 s.io.image.enc[car.val] * x.cfg.encScale else 0
    let reading := if p.aps then apsAccept (x.readings.head?.map fun r => r.1) (apsFrames p.apsId s.io.image.can[2 * car.val])
      else none
    let n := if enc || reading.isSome then 0 else x.noSource + 1
    let lost := decide (4 < n)
    let speed := if enc then divNearest (travel * 1000000) (65536 * us)
      else match reading, x.readings.head? with
        | some (v, _, t), some (_, v0, t0) =>
          let t1 := s.grp.frame * us + t
          if t0 < t1 then divNearest ((v - v0) * 1000000) (t1 - t0) else x.speed
        | _, _ => x.speed
    let anchor := if p.aps then none else s.sgAnchor c was
    let posQ := match reading, anchor with
      | some (v, _, t), _ => v * 65536 + travel * ((us - t : Nat) : Int) / us
      | none, some q => q
      | none, none => x.posQ + travel
    let readings := match reading with
      | some (v, q, t) => ((q, v, s.grp.frame * us + t) :: x.readings).take 2
      | none => x.readings
    { c with safe := { x with
        speed := clampInt (-(2 ^ 31)) (2 ^ 31 - 1) speed, posQ := clampInt (-(2 ^ 47)) (2 ^ 47 - 1) posQ, readings := readings, noSource := n,
        anchored := !lost && (x.anchored || reading.isSome || anchor.isSome) } }

/-- The steps of an end. -/
def Safe.limits (x : Safe) : List Nat := (x.terms.toList.flatMap fun t => t.steps).map fun q => q.2

/-- The lowest of some limits. -/
def lowest : List Nat → Option Nat
  | [] => none
  | a :: r => some (r.foldl min a)

/-- The terminal LIMIT that applies (R272, R273). -/
def Safe.termLimit (x : Safe) : Option Nat :=
  if !x.anchored then lowest x.limits
  else
    let within (t : TermEnd) : List Nat :=
      (t.steps.filter fun q => decide ((x.position - t.level).natAbs ≤ q.1)).map fun q => q.2
    if x.speed < 0 then lowest (within x.terms[0])
    else if 0 < x.speed then lowest (within x.terms[1])
    else none

/-- Consecutive frames beyond the terminal LIMIT (R272). -/
def Safe.terminal (x : Safe) : Safe :=
  { x with termRun := match x.termLimit with
      | some l => if l < x.speed.natAbs then x.termRun + 1 else 0
      | none => 0 }

/-- Mirrors and lift switches against their channels (R275, R276): judged from `M` frames after a change on. -/
def Safe.judgeFollow (x : Safe) (frame mirrorFrames liftFrames : Nat) : Safe :=
  let due (ch : Side) (m : Nat) : Bool := match (pick #v[x.outs[0], x.outs[1]] (ch == 1)).changed with
    | some c => decide (c + m ≤ frame)
    | none => false
  let cmd (ch : Side) : Bool := (pick #v[x.outs[0], x.outs[1]] (ch == 1)).cmd
  { x with
    mirrorBad := Vector.ofFn fun (ch : Side) => due ch mirrorFrames && (x.mirror ch == cmd ch),
    liftBad := Vector.ofFn fun (ch : Side) => x.cfg.lift && due ch liftFrames && (x.liftIn ch != cmd ch),
    lifted := !x.mirror 0 && !x.mirror 1 && x.liftsAre true,
    set := !x.outs[0].cmd && !x.outs[1].cmd && x.mirrorsUp && x.liftsAre false }

/-- The first lane of the car's safety set in a bank that has failed in the image (R285, SUPPLY). -/
def State.bankBad (s : State) (c : Car) (b : BankId) : Option Nat :=
  let im := s.io.image.banks[b.val]
  if im.supplyMissing || im.timerExpired || im.linkFault then
    c.safetyChans.find? fun ch => (s.entry ch).lane.any fun q => q.1 == b
  else none

/-- No bank holding a lane of the car's safety set has failed in the image (R285). -/
def State.supplyGood (s : State) (c : Car) : Bool := (List.finRange 16).all fun b => (s.bankBad c b).isNone

/-- The image's lane of a safety output. -/
def State.outImage (s : State) (c : Car) (o : Fin 6) : Option LaneImage :=
  match (s.entry (c.safe.cfg.outChan o)).lane with
  | some (b, l) => if c.safe.cfg.outChan o = noRef then none else some s.io.image.banks[b.val].lanes[l.val]
  | none => none

/-- A safety output's readback differs from the command of the Calends before (R283), its pulsed images apart. -/
def State.readbackBad (s : State) (c : Car) (o : Fin 6) : Bool :=
  match s.outImage c o with
  | some y => y.use == .output && !y.pulsed && y.readback != c.safe.outs[o.val].before
  | none => false

/-- A dark-test pulse is still under way in the image (R284): it ends 5 µs and DARK_PULSE_US after the refresh has
crossed, taken as 5 µs after the Calends. -/
def State.inPulse (s : State) (x : Safe) (o : SafeOut) : Bool :=
  match o.pulsed with
  | some j => decide ((s.grp.frame - j) * s.grp.frameLen.us < 10 + x.cfg.pulseUs)
  | none => false

/-- Mark the lanes that an image finds under a dark-test pulse (R283); the others are on again. -/
def State.markPulses (s : State) (car : CarId) : State :=
  let c := s.car car
  (List.finRange 6).foldl (fun s o =>
    match (s.entry (c.safe.cfg.outChan o)).lane with
    | some (b, l) =>
      if c.safe.configured && c.safe.outs[o.val].testing then
        let on := s.inPulse c.safe c.safe.outs[o.val]
        s.modBank b fun k => { k with lanes := k.lanes.set l.val { k.lanes[l.val] with pulsed := on, dark := on } }
      else s
    | none => s) s

/-- The result of a dark-test pulse (R284). -/
def State.darkResult (s : State) (car : CarId) (o : Fin 6) (passed : Bool) : State :=
  let y := (s.car car).safe.outs[o.val]
  if !y.testing then s
  else
    let y : SafeOut := { y with testing := false, onSince := if passed then y.pulsed.getD y.onSince else y.onSince }
    let s := s.modSafe car fun x => { x with outs := x.outs.set o.val y }
    if passed then s else s.raise car 3 ((s.car car).safe.cfg.outChan o)

/-- Pulses whose result no DARK_TEST has brought: the bank reports it in the first image after the pulse (R284), passed when
the lane, off for its length, has read off. -/
def State.darkReports (s : State) (x : FrameIn) (car : CarId) : State :=
  (List.finRange 6).foldl (fun s o =>
    let c := s.car car
    let y := c.safe.outs[o.val]
    if y.testing && !s.inPulse c.safe y then
      match (s.entry (c.safe.cfg.outChan o)).lane with
      | some q => s.darkResult car o (!x.stuck.contains q)
      | none => s
    else s) s

/-- The bank of a lane has turned its outputs off, or the lane has: no pulse is run on it (R324). -/
def State.laneLatched (s : State) (chan : Nat) : Bool :=
  match (s.entry chan).lane with
  | some (b, l) => s.io.banks[b.val].supplyMissing || s.io.banks[b.val].timerExpired || s.io.banks[b.val].lanes[l.val].thermal
  | none => true

/-- The dark-test schedule at an Octave start (R284), from the commands just committed: the bank turns the lane off. -/
def State.darkSchedule (s : State) (car : CarId) : State :=
  let k := s.grp.frame
  let x := (s.car car).safe
  let free := match x.pulseAt with
    | some j => decide (j + 8 ≤ k)
    | none => true
  if !(octaveStart k && x.configured && free && s.holds) then s
  else
    match (List.finRange 6).find? fun o =>
      x.outs[o.val].cmd && !x.outs[o.val].testing && !s.laneLatched (x.cfg.outChan o)
        && decide (x.outs[o.val].onSince + x.cfg.periodS * s.grp.frameLen.perSecond ≤ k) with
    | some o =>
      let s := match (s.entry (x.cfg.outChan o)).lane with
        | some (b, l) => s.modBank b fun y => { y with lanes := y.lanes.set l.val { y.lanes[l.val] with dark := true } }
        | none => s
      s.modSafe car fun x =>
        { x with pulseAt := some k, outs := x.outs.set o.val { x.outs[o.val] with pulsed := some k, testing := true } }
    | none => s

/-- A safety output's command is committed at Calends `k` (R274, R275, R284). -/
def SafeOut.commit (k : Nat) (o : SafeOut) : SafeOut :=
  { o with before := o.cmd, cmd := o.want, changed := if o.want = o.cmd then o.changed else some k,
           onSince := if o.want && !o.cmd then k else o.onSince }

/-- Commit a car's safety outputs at Calends `k` (R20). -/
def Safe.commit (k : Nat) (x : Safe) : Safe := { x with outs := x.outs.map (SafeOut.commit k) }

/-- What the image shows of a pair's discrepancy (R261), the missing source (R264), the cross-check (R265) and the terminal
speed (R272). -/
def Safe.discNow (x : Safe) (i : Fin 5) : Bool := x.configured && decide (x.cfg.discLimit i < x.disc[i.val])
def Safe.sourceNow (x : Safe) : Bool := x.configured && decide (4 < x.noSource) && x.brakesUp
def Safe.xcheckNow (x : Safe) : Bool :=
  x.configured && (decide (x.cfg.xFrames ≤ x.xSpeedRun) || decide (x.cfg.xFrames ≤ x.xPosRun))
def Safe.terminalNow (x : Safe) : Bool := x.configured && decide (2 ≤ x.termRun)

/-- DISCREPANCY is due on a pair (R261). -/
def Safe.discDue (x : Safe) (i : Fin 5) : Bool := x.discNow i && !bit x.told i.val

/-- SOURCE is due (R264). -/
def Safe.sourceDue (x : Safe) : Bool := x.sourceNow && !bit x.told 5

/-- XCHECK is due (R265). -/
def Safe.xcheckDue (x : Safe) : Bool := x.xcheckNow && !bit x.told 6

/-- TERMINAL_SPEED is due (R272). -/
def Safe.terminalDue (x : Safe) : Bool := x.terminalNow && !bit x.told 7

/-- MIRROR and LIFT are due on a channel (R275, R276). -/
def Safe.mirrorDue (x : Safe) (ch : Side) : Bool := x.configured && x.mirrorBad[ch.val] && !bit x.told (8 + ch.val)
def Safe.liftDue (x : Safe) (ch : Side) : Bool := x.configured && x.liftBad[ch.val] && !bit x.told (10 + ch.val)

/-- The findings that stand in the present image, as `told` numbers them (log 4). -/
def State.standing (s : State) (c : Car) : Nat :=
  let x := c.safe
  total ((List.finRange 5).map fun i => flagBit (x.discNow i) i.val)
    + flagBit x.sourceNow 5 + flagBit x.xcheckNow 6 + flagBit x.terminalNow 7
    + total ((List.finRange 2).map fun ch => flagBit x.mirrorBad[ch.val] (8 + ch.val) + flagBit x.liftBad[ch.val] (10 + ch.val))
    + total ((List.finRange 6).map fun o => flagBit (s.readbackBad c o) (12 + o.val))
    + total ((List.finRange 16).map fun b => flagBit (s.bankBad c b).isSome (18 + b.val))

/-- Some cause of the image is due and not yet raised. -/
def Safe.anyDue (x : Safe) : Bool :=
  ((List.finRange 5).any x.discDue) || x.sourceDue || x.xcheckDue || x.terminalDue
    || ((List.finRange 2).any fun ch => x.mirrorDue ch || x.liftDue ch)

/-- DISCREPANCY is raised (R261). -/
def State.raiseDisc (s : State) (car : CarId) (i : Fin 5) : State :=
  (s.modSafe car fun x => { x with pairs := x.pairs ||| 2 ^ i.val }).find car i.val 2 ((s.car car).pairChan i)

/-- DISCREPANCY (R261). -/
def execDiscrepancy (car : CarId) (pair : Fin 5) (s : State) : Host.Outcome State Fault Refusal :=
  .next (s.within lockoutParts (carEvent s ((s.car car).safe.discDue pair) fun s => s.raiseDisc car pair))

/-- SOURCE (R264), XCHECK (R265) and TERMINAL_SPEED (R272) are raised. -/
def State.raiseSource (s : State) (car : CarId) : State := s.find car 5 11 noRef
def State.raiseXcheck (s : State) (car : CarId) : State := s.find car 6 10 noRef
def State.raiseTerminal (s : State) (car : CarId) : State := s.find car 7 9 noRef

/-- SOURCE (R264). -/
def execSource (car : CarId) (s : State) : Host.Outcome State Fault Refusal :=
  .next (s.within lockoutParts (carEvent s (s.car car).safe.sourceDue fun s => s.raiseSource car))

/-- XCHECK (R265). -/
def execXcheck (car : CarId) (s : State) : Host.Outcome State Fault Refusal :=
  .next (s.within lockoutParts (carEvent s (s.car car).safe.xcheckDue fun s => s.raiseXcheck car))

/-- TERMINAL_SPEED (R272). -/
def execTerminalSpeed (car : CarId) (s : State) : Host.Outcome State Fault Refusal :=
  .next (s.within lockoutParts (carEvent s (s.car car).safe.terminalDue fun s => s.raiseTerminal car))

/-- MIRROR is raised on a channel (R275). -/
def State.raiseMirror (s : State) (car : CarId) (ch : Side) : State :=
  s.find car (8 + ch.val) 4 (pick #v[(s.car car).safe.cfg.lanes[8], (s.car car).safe.cfg.lanes[9]] (ch == 1))

/-- LIFT is raised on a channel (R276). -/
def State.raiseLift (s : State) (car : CarId) (ch : Side) : State :=
  s.find car (10 + ch.val) 5 (pick #v[(s.car car).safe.cfg.lanes[10], (s.car car).safe.cfg.lanes[11]] (ch == 1))

/-- MIRROR (R275). -/
def execMirror (car : CarId) (ch : Side) (s : State) : Host.Outcome State Fault Refusal :=
  .next (s.within lockoutParts (carEvent s ((s.car car).safe.mirrorDue ch) fun s => s.raiseMirror car ch))

/-- LIFT (R276). -/
def execLift (car : CarId) (ch : Side) (s : State) : Host.Outcome State Fault Refusal :=
  .next (s.within lockoutParts (carEvent s ((s.car car).safe.liftDue ch) fun s => s.raiseLift car ch))

/-- DARK_TEST (R284): the bank's report on a pulse under way. -/
def execDarkTest (car : CarId) (out : Fin 6) (passed : Bool) (s : State) : Host.Outcome State Fault Refusal :=
  .next (s.within lockoutParts (carEvent s (s.car car).safe.outs[out.val].testing fun s => s.darkResult car out passed))

/-- Frames of a reset window, 10 s (R287). -/
def State.windowFrames (s : State) : Nat := 10 * s.grp.frameLen.perSecond

/-- The window's time has run out (R287): frame `e` + 10 s is still in time. -/
def State.windowOver (s : State) (x : Safe) : Bool :=
  match x.window with
  | some e => decide (e + s.windowFrames < s.grp.frame)
  | none => false

/-- A reset window closes by time (R287). -/
def Safe.closeWindow (x : Safe) : Safe := { x with window := none, windowExpired := true }

/-- RESET_WINDOW_EXPIRY (R287). -/
def execResetWindowExpiry (car : CarId) (s : State) : Host.Outcome State Fault Refusal :=
  .next (s.within [.cars] (carEvent s (s.windowOver (s.car car).safe) fun s => s.modSafe car Safe.closeWindow))

/-- An event of a brake-test step's limit (R280): its time has run out. -/
def State.testTimeoutDue (s : State) (c : Car) : Bool :=
  match c.safe.test with
  | some t =>
    let past (ms : Nat) : Bool := decide (t.since + s.msFrames ms ≤ s.grp.frame)
    match t.step with
    | 1 => past c.motion.cfg.enableMs
    | 3 => past 2000
    | 4 => past t.testMs
    | _ => false
  | none => false

/-- A brake-test limit expires (R280): TEST_MS ends step 4, the others abort with both channels off. -/
def State.testTimeout (s : State) (car : CarId) : State :=
  match (s.car car).safe.test with
  | some t =>
    if t.step = 4 then s.modSafe car fun x => { x with test := some { t with step := 5, since := s.grp.frame } }
    else
      let s := s.record 0x0802 car.val [3]
      (s.modSafe car fun x => { x.allOff with ended := true }).abortTest car
  | none => s

/-- BRAKE_TEST_TIMEOUT (R280). -/
def execBrakeTestTimeout (car : CarId) (s : State) : Host.Outcome State Fault Refusal :=
  .next (s.within [.cars, .jobs, .sessions, .rings, .irq, .net, .recorder] (carEvent s (s.testTimeoutDue (s.car car)) fun s => s.testTimeout car))

/-- The safeguard events of a car that are due and have not come in their frame. -/
def State.settleSafe (s : State) (car : CarId) : State :=
  let go (s : State) (due : Safe → Bool) (f : State → State) := if due (s.car car).safe then f s else s
  let s := (List.finRange 5).foldl (fun s i => go s (fun x => x.discDue i) fun s => s.raiseDisc car i) s
  let s := go s Safe.sourceDue fun s => s.raiseSource car
  let s := go s Safe.xcheckDue fun s => s.raiseXcheck car
  let s := go s Safe.terminalDue fun s => s.raiseTerminal car
  let s := (List.finRange 2).foldl (fun s ch =>
    go (go s (fun x => x.mirrorDue ch) fun s => s.raiseMirror car ch) (fun x => x.liftDue ch) fun s => s.raiseLift car ch) s
  let s := if s.testTimeoutDue (s.car car) then s.testTimeout car else s
  if s.windowOver (s.car car).safe then s.modSafe car Safe.closeWindow else s

/-- A granted or requested bridging in an image (R269–R271): the causes, then what stands granted. -/
def State.sgBridge (s : State) (car : CarId) (was : Vector Bool 2) (f : Side) : State :=
  let x := (s.car car).safe
  let zone := x.zones[f.val]
  let off := was[f.val] && !zone
  let lv := x.req.level[f.val]
  let rl := x.req.relevel[f.val]
  let granted := x.bridge[f.val]
  let inForce := granted && (if x.bridgeLevel[f.val] then lv else rl)
  let bound := if x.bridgeLevel[f.val] then 12800 else 4800
  let chan := (s.car car).pos.cfg.dz[f.val][0]
  let s := if inForce && zone && decide (bound < x.speed.natAbs) then s.raise car 8 chan else s
  let open_ := x.cfg.hasLock f && !x.locks[f.val]
  let s := if off && (granted || (open_ && x.liftGranted)) then s.raise car 7 chan else s
  let s := if off && open_ && !x.liftGranted && (!x.liftSince || x.set) then s.raise car 6 chan else s
  s.modSafe car fun y =>
    let hold := inForce && zone
    let grant := x.cfg.bridge && (lv || rl) && zone && x.chain
      && decide (x.speed.natAbs ≤ (if lv then 12800 else 4800))
    { y with bridge := y.bridge.set f.val (y.causes == 0 && (hold || grant)),
             bridgeLevel := y.bridgeLevel.set f.val (if hold then x.bridgeLevel[f.val] else lv) }

/-- A cause is cleared in the image (R285, R290). -/
def State.causeCleared (s : State) (c : Car) (code : Nat) : Bool :=
  let x := c.safe
  let still := x.closedLocked && decide (x.speed.natAbs < 160)
  match code with
  | 1 => true
  | 2 => (List.finRange 5).all fun i => !bit x.pairs i.val || x.disc[i.val] == 0
  | 3 => (List.finRange 6).all fun o => match s.outImage c o with
    | some y => !y.readback
    | none => true
  | 4 => x.mirrorsUp
  | 5 => !x.liftIn 0 && !x.liftIn 1
  | 6 | 7 | 8 => still
  | 9 | 10 => decide (x.speed.natAbs < 160)
  | 11 => decide (x.noSource ≤ 4)
  | 12 => x.set
  | 13 => s.supplyGood c
  | _ => !bit s.grp.sg.causes code

/-- The lockout of a car clears and it enters OUT_OF_SERVICE (R201, R287). -/
def State.unlock (s : State) (car : CarId) : State :=
  let s := s.modCar car fun c => { c with
    service := .outOfService, forced := true,
    safe := { c.safe with causes := 0, lockId := 0, pairs := 0, told := 0, window := none, windowExpired := false, latchedAt := 0 } }
  { s with nv := { s.nv with causes := s.nv.causes.set car.val 0 } }

/-- The reply of `safe.reset` (R294). -/
def resetReply (result : Nat) : List Byte := [byte result, 0, 0, 0]

/-- No cause has been raised since a `safe.reset` was accepted: none in the present frame, and the ID it names still stands
(R286, R288). -/
def Safe.noNewCause (x : Safe) (c : Cmd) : Bool := x.raised == 0 && fieldAt c.payload 2 2 == x.lockId

/-- The test of an accepted `safe.reset` in the frame after its acceptance (R287, R289): a pass waits for the frame's end. -/
def State.sgReset (s : State) (car : CarId) : State :=
  let c := s.car car
  match c.safe.resetCmd with
  | none => s
  | some (_, cmd, serial) =>
    let s := s.modSafe car fun x => { x with resetCmd := none }
    let ok := c.safe.noNewCause cmd && !c.safe.anyDue
      && (List.range 32).all fun code => !bit c.safe.causes code || s.causeCleared c code
    if ok then s.modSafe car fun x => { x with resetPass := some (cmd, serial) }
    else s.replyLate 0x0813 cmd serial stState (resetReply 4)

/-- The Calends after a test that passed clears the lockout (R287), unless the frame has still raised a cause or accepted a
`safe.config` of the car, which raises one (R285, R289). -/
def State.endReset (s : State) (car : CarId) : State :=
  let x := (s.car car).safe
  match x.resetPass with
  | none => s
  | some (cmd, serial) =>
    let s := s.modSafe car fun x => { x with resetPass := none }
    let coming := s.grp.deferred.any fun d => match d with
      | .cmd op p => op == 0x0810 && carOf p == car
      | _ => false
    if x.noNewCause cmd && !coming then (s.unlock car).replyLate 0x0813 cmd serial stOk (resetReply 0)
    else s.replyLate 0x0813 cmd serial stState (resetReply 4)

/-- A lane carries STALE or FAULT in the image (R19, R64, R287): it or its bank has failed. -/
def State.laneDown (s : State) (chan : Nat) : Bool :=
  match (s.entry chan).lane with
  | some (b, l) =>
    let im := s.io.image.banks[b.val]
    im.lanes[l.val].broken || im.lanes[l.val].faultClass != 0 || im.supplyMissing || im.timerExpired || im.linkFault
  | none => true

/-- The RESET lane in an image (R287). -/
def State.sgPulse (s : State) (car : CarId) : State :=
  let c := s.car car
  let x := c.safe
  let down := s.laneDown x.cfg.lanes[16]
  let r := !down && bit x.inputs 10
  let k := s.grp.frame
  let note (s : State) (why n : Nat) : State := s.record 0x0803 car.val ([byte why] ++ leBytes 4 n)
  if down then s.modSafe car fun x => { x with resetPrev := false, resetRise := none }
  else if r && !x.resetPrev then s.modSafe car fun x => { x with resetPrev := true, resetRise := some k }
  else if !r && x.resetPrev then
    let s := s.modSafe car fun x => { x with resetPrev := false, resetRise := none }
    match x.resetRise with
    | none => s
    | some a =>
      let n := k - a
      if x.causes = 0 then note s 2 n
      else if a ≤ x.latchedAt then note s 1 n
      else if n < s.msFrames 200 ∨ s.msFrames 3000 < n then note s 0 n
      else s.modSafe car fun x => { x with window := some k, windowExpired := false }
  else s

/-- MOVE of a brake test in an image (R280, R281): step 4 begins with TEST_TORQUE_APPLIED and fails beyond MOVE_LIMIT. -/
def State.sgTest (s : State) (car : CarId) : State :=
  let c := s.car car
  let pos := divNearest c.safe.posQ 65536
  let applied := match c.motion.statusIn s.io.image.can[2 * car.val] with
    | some st => bit st.flags 3
    | none => false
  match c.safe.test with
  | some t =>
    if t.step == 3 && applied then
      s.modSafe car fun x => { x with test := some { t with step := 4, since := s.grp.frame, p0 := some pos } }
    else if t.step = 4 then
      let n := (pos - t.p0.getD pos).natAbs
      let t := { t with move := t.move.set t.set.val (max t.move[t.set.val] n) }
      if t.limit < n then
        let s := s.modSafe car fun x => { x with needTest := x.needTest ||| 2 ^ t.set.val, ended := true,
                                                  test := some { t with result := t.result.set t.set.val 1 } }
        (s.finishTest car).raise car 12 (pick #v[c.safe.cfg.lanes[6], c.safe.cfg.lanes[7]] (t.set == 1))
      else s.modSafe car fun x => { x with test := some t }
    else s
  | none => s

/-- Motion is permitted (R267). -/
def Safe.permits (x : Safe) : Bool :=
  x.chain && (List.finRange 2).all fun f => !x.cfg.hasLock f || x.locks[f.val] || x.bridge[f.val]

/-- SG drops the brakes without a lockout, and records the event (R278): the brake channels and STO go off, and the present
requests lift them no more (log 358). -/
def State.sgDrop (s : State) (car : CarId) (why : Nat) : State :=
  let s := (s.record 0x0802 car.val [byte why]).abortTest car
  s.modSafe car fun x => { x with dropped := x.req.run, ended := true, liftGranted := false, stoHold := false }

/-- What SG grants of RUN, LIFT, SET and TEST in an image, and every output's command (R266, R274, R280). A LIFT request that a
SET or a drop has ended starts no second lift (DEDUCED from 'the car's start command', log 358). -/
def Safe.grant (x : Safe) : Safe :=
  let dropped := x.dropped && x.req.run
  let ended := (x.ended && x.req.run) || x.req.set
  let run := x.req.run && x.chain
  let asked := x.req.lift && !x.liftGranted && !ended && x.test.isNone
  let now := asked && run && x.permitted && x.mirrorsUp && x.liftsAre false
  let lifting := (x.liftGranted && x.req.lift && !x.req.set) || now
  let hold := (x.stoHold || (x.req.set && x.liftGranted)) && !x.set
  let testY : Option Side := match x.test with
    | some t => if (t.step = 2 ∨ t.step = 3 ∨ t.step = 4) ∧ x.req.test[t.set.val] ∧ run ∧ x.permitted then some (if t.set = 0 then 1 else 0) else none
    | none => none
  let sto := (run && !ended) || hold
  let bridged := x.bridge[0] || x.bridge[1]
  let want (o : Fin 6) : Bool := x.cfg.outChan o != noRef && (match o with
    | 0 => lifting || testY == some 0
    | 1 => lifting || testY == some 1
    | 2 => bridged
    | 3 => bridged
    | _ => sto)
  { x with dropped := dropped, ended := ended, runGranted := run, liftGranted := lifting,
           liftSince := (x.liftSince && !x.set) || now, stoHold := hold,
           outs := Vector.ofFn fun o => { x.outs[o.val] with want := want o } }

/-- The decisions of a frame (R267, R268, R274, R278). -/
def State.sgDecide (s : State) (car : CarId) : State :=
  let s := s.modSafe car fun x => { x with permitted := x.permits }
  let c := s.car car
  let x := c.safe
  let tell := c.motion.tellDrop
  let s := s.modMotion car fun m => { m with tellDrop := 0 }
  let stop := x.brakesOn && !x.permitted
  let s := if stop then s.sgDrop car 0 else s
  let s := if bit tell 1 then s.sgDrop car 1 else s
  let s := if bit tell 2 then s.sgDrop car 2 else s
  let x := (s.car car).safe
  if x.causes ≠ 0 then s.modSafe car fun x => { x.allOff with liftSince := x.liftSince && !x.set }
  else if stop then s.modSafe car Safe.allOff
  else if x.req.lift && !x.liftGranted && !x.ended && x.test.isNone && !x.mirrorsUp then
    s.raise car 4 (pick #v[x.cfg.lanes[8], x.cfg.lanes[9]] (x.mirror 0))
  else s.modSafe car Safe.grant

/-- SG's work for one car in a frame (R39, R254–R296). -/
def State.sgCar (x : FrameIn) (s : State) (car : CarId) : State :=
  let c := s.car car
  if !(c.configured && c.safe.configured) then s
  else
    let was := c.safe.zones
    let s := s.sgCompare car
    let s := s.sgJudge car
    let s := s.sgMove car was[0]
    let s := s.modSafe car fun y => y.terminal.judgeFollow s.grp.frame (s.msFrames y.cfg.mirrorMs) (s.msFrames y.cfg.liftMs)
    let n := s.standing (s.car car)
    let s := s.modSafe car fun y => { y with told := y.told &&& n }
    let s := (List.finRange 16).foldl (fun s b =>
      match s.bankBad (s.car car) b with
      | some ch => if bit (s.car car).safe.told (18 + b.val) then s else s.find car (18 + b.val) 13 ch
      | none => s) s
    let s := (List.finRange 6).foldl (fun s o =>
      if s.readbackBad (s.car car) o && !bit (s.car car).safe.told (12 + o.val) then
        s.find car (12 + o.val) 3 ((s.car car).safe.cfg.outChan o)
      else s) s
    let s := s.darkReports x car
    let s := s.sgBridge car was 0
    let s := s.sgBridge car was 1
    let s := s.sgTest car
    let s := s.sgPulse car
    let s := s.sgReset car
    s.sgDecide car

/-- A module cause that the frame's work finds (R256): once while it stands (log 4). -/
def State.findModule (s : State) (code : Nat) : State := if bit s.grp.sg.causes code then s else s.raiseModule code

/-- The safety core's frame (R39, R256): its self-test slice and memory code, then every car. -/
def State.sgFrame (x : FrameIn) (s : State) : State :=
  let k := s.grp.frame
  let sg := s.grp.sg
  let s := { s with grp := { s.grp with sg := { sg with
    frameId := none, eccCorrected := satAdd 32 sg.eccCorrected x.eccCorrected,
    selfTestPasses := if k % 8 = 7 ∧ !x.selfTestBad then satInc 32 sg.selfTestPasses else sg.selfTestPasses } } }
  let s := (List.finRange 8).foldl (fun s c => s.modSafe c fun y => { y with raised := 0 }) s
  let s := if x.selfTestBad then s.findModule 17 else s
  let s := if x.sgMemoryBad then s.findModule 20 else s
  (List.finRange 8).foldl (State.sgCar x) s

/-- CC0's part of a brake test in the Plan phase (R280): its requests, READY, the lifted set, the set brakes. Step 6 lasts a
frame, whose commit sends ENABLE 0. -/
def State.planTest (s : State) (car : CarId) : State :=
  let c := s.car car
  let sg := s.sgOf car
  match c.safe.test with
  | none => s
  | some t =>
    let k := s.grp.frame
    let yLifted := !sg.mirror (if t.set = 0 then 1 else 0) && (!c.safe.cfg.lift || sg.liftIn (if t.set = 0 then 1 else 0))
    let go (n : Nat) (t : BrakeTest) : BrakeTest := { t with step := n, since := k }
    let t := match t.step with
      | 1 => if bit c.motion.status.flags 0 && c.motion.statusAge == 0 && sg.runGranted then go 2 t else t
      | 2 => if yLifted then go 3 t else t
      | 5 => if sg.set && !c.safe.outs[0].cmd && !c.safe.outs[1].cmd then go 6 t else t
      | _ => t
    let s := s.modSafe car fun x => { x with test := some t, req := { x.req with
      run := decide (t.step < 6), test := Vector.ofFn fun f => f == t.set && (t.step == 2 || t.step == 3 || t.step == 4) } }
    if t.step = 6 ∧ t.since = k then
      s.modSafe car fun x => { x with test := some { t with result := t.result.set t.set.val 0 },
                                      needTest := x.needTest &&& (3 - 2 ^ t.set.val) }
    else if t.step = 6 then
      if t.set = 0 ∧ bit t.sets 1 then
        s.modSafe car fun x => { x with test := some { t with set := 1, step := 1, since := k, p0 := none } }
      else s.finishTest car
    else s

end Sys2Proof.Machine
end

