-- ==== Sys2Proof/Machine/Door.lean ====
section
/-! DEFINITION. The door drive (07): gearing, energy and force limits, reports, obstruction, reversals, referencing,
dwell, faults, and the records for the power stages. -/

namespace Sys2Proof.Machine

/-- Change a door. -/
def State.modDoor (s : State) (c : CarId) (d : Side) (f : Door → Door) : State :=
  s.modCar c fun x => { x with doors := x.doors.set d.val (f x.doors[d.val]) }

/-- A door of a car. -/
def State.door (s : State) (c : CarId) (d : Side) : Door := (s.car c).doors[d.val]

/-- Replace a door. -/
def State.setDoor (s : State) (c : CarId) (d : Side) (x : Door) : State := s.modDoor c d fun _ => x

/-- The fitted axes of a door (R216). -/
def Door.fitted (d : Door) : List Side := if d.cfg.slave then [0, 1] else [0]

/-- Door and axes are configured. -/
def Door.ready (d : Door) : Bool := d.configured && d.fitted.all fun a => d.axes[a.val].configured

/-- The larger gear ratio, Q8.8 (R229). -/
def DoorCfg.ratioMax (c : DoorCfg) : Nat := max c.ratio1 c.ratio2

/-- The integral of the gear ratio, up to a constant, in 1/16 mm (R227). -/
def DoorCfg.gearSum (c : DoorCfg) (x : Rat) : Rat :=
  let r1 : Rat := c.ratio1 / 256
  let r2 : Rat := c.ratio2 / 256
  let lo : Rat := c.gearPos - (c.blend : Rat) / 2
  let hi : Rat := c.gearPos + (c.blend : Rat) / 2
  if x ≤ lo then r1 * x
  else if x < hi then r1 * x + (r2 - r1) * (x - lo) * (x - lo) / (2 * c.blend)
  else r1 * lo + c.blend * (r1 + r2) / 2 + r2 * (x - hi)

/-- g(x): the SLAVE panel position at MASTER position `x` (R227). -/
def DoorCfg.gear (c : DoorCfg) (x : Rat) : Rat := c.gearSum x - c.gearSum 0

/-- The gear ratio and its slope at `x` (R227). -/
def DoorCfg.ratioAt (c : DoorCfg) (x : Rat) : Rat × Rat :=
  let r1 : Rat := c.ratio1 / 256
  let r2 : Rat := c.ratio2 / 256
  let lo : Rat := c.gearPos - (c.blend : Rat) / 2
  let hi : Rat := c.gearPos + (c.blend : Rat) / 2
  if x ≤ lo then (r1, 0)
  else if x < hi then (r1 + (r2 - r1) * (x - lo) / c.blend, (r2 - r1) / c.blend)
  else (r2, 0)

/-- Exact position, speed and acceleration of the door in 1/16 mm. -/
def Door.x (d : Door) : Rat := (d.ref.s : Rat) / unitS
def Door.v (d : Door) : Rat := (d.ref.v : Rat) / unitV
def Door.acc (d : Door) : Rat := (d.ref.a : Rat) / unitA

/-- The acceleration of an axis in the closing direction, in 1/16 mm/s² (R231). -/
def Door.closingAccel (d : Door) (a : Side) : Rat :=
  if a = 0 then -d.acc
  else let q := d.cfg.ratioAt d.x; -(q.1 * d.acc + q.2 * d.v * d.v)

/-- The position of an axis's panel (R222, R228). -/
def Door.panel (d : Door) (a : Side) : Rat :=
  if a = 0 then d.x
  else d.cfg.gear (match d.followX with
    | some q => (q : Rat) / 65536
    | none => d.x)

/-- An axis's ANGLE without sign and offset, nearest (R222). -/
def Door.stepsOf (d : Door) (a : Side) : Int :=
  let y := d.panel a * 1024 * 65536 / (d.axes[a.val].cfg.linPerStep : Rat)
  divNearest y.num y.den

/-- An axis's ANGLE (R222). -/
def Door.angleOf (d : Door) (a : Side) : Int :=
  let x := d.axes[a.val]
  let n := d.stepsOf a + x.offset
  if x.cfg.invert then -n else n

/-- Give the door coordinate another origin with every ANGLE as it stands (R242). -/
def Door.rebase (d : Door) (r : Ref) : Door :=
  let e := { d with ref := r, followX := none, plan := [], planFor := none }
  { e with axes := Vector.ofFn fun (a : Side) =>
      let x := d.axes[a.val]
      { x with offset := (if x.cfg.invert then -x.angle else x.angle) - (if x.configured then e.stepsOf a else 0),
               encZero := if x.lastEnc.isSome then some x.encCount else none, encBase := x.angle } }

/-- The mass in use, 0.1 kg (R230, R243). -/
def Door.mass (d : Door) (a : Side) : Nat :=
  let x := d.axes[a.val]
  let nominal := d.cfg.mNominal[a.val]
  if x.learned then (match x.samples with
    | [] => nominal
    | m :: r => r.foldl max m) else nominal

/-- The closing friction in use, N (R231, R243): none is learned yet before learning completes. -/
def Door.fric (d : Door) (a : Side) : Nat := if d.axes[a.val].learned then d.axes[a.val].friction else 0

/-- E_MAX_MJ or E_NUDGE_MJ in force (R229, R247). -/
def Door.energy (d : Door) : Nat := if d.nudging then d.cfg.eNudge else d.cfg.eMax

/-- The energy cap on the speed (R229). -/
def Door.capNow (d : Door) : Nat :=
  let mS := if d.cfg.slave then d.mass 1 else 0
  Nat.sqrt (5120000 * d.energy * 65536 / (65536 * d.mass 0 + d.cfg.ratioMax * d.cfg.ratioMax * mS))

/-- Halved in the learning moves (R226, R243). -/
def Door.halve (d : Door) (v : Nat) : Nat := if 0 < d.learnMoves then v / 2 else v

/-- The speed limit in force (R226, R229, R236, R242). -/
def Door.speedLimit (d : Door) : Nat :=
  if d.refMove then min d.cfg.refSpeed d.capNow
  else match d.phase with
    | .closing => d.halve (min (min d.cfg.vClose d.capNow) (if d.nudging then d.cfg.nudgeSpeed else d.cfg.vClose))
    | .reversing => d.halve (min d.cfg.vOpen d.capNow)
    | _ => d.halve d.cfg.vOpen

/-- Where the plan ends, in 1/16 mm. -/
def Door.targetX (d : Door) : Option Int :=
  match d.goal with
  | .toClosed => some 0
  | .toOpen => some (if d.backOff then d.backTo else (d.cfg.width : Int))
  | _ => none

/-- The door's planning problem from its reference at the next commit (R225, R236). -/
def Door.planReq (d : Door) : PlanReq :=
  { ref := d.ref, goal := (match d.targetX with
      | some t => .move (t * 65536)
      | none => .halt),
    v := d.speedLimit, a := d.cfg.a, d := d.decel, j := d.jerk, through := d.phase == .reversing }

/-- Plan again (R225): the plan in force stays while what it was made for stays, as a car's does (log 316). -/
def Door.replan (d : Door) : Door :=
  let q := d.planReq
  let same := d.planFor.any fun a => a.take 2 == q.args.take 2
  if d.goal = .stay then { d with plan := [], planFor := none }
  else if d.planFor = some q.args ∨ (same ∧ q.beyondReach) then d
  else { d with plan := q.make.1, planFor := some q.args }

/-- The reference one exchange period on (R225). -/
def Door.advance (d : Door) : Door :=
  if d.goal = .stay then { d with ref := { s := d.ref.s }, plan := [] }
  else
    let q := runPlan d.plan 250 d.ref
    { d with ref := q.1, plan := q.2 }

/-- The deceleration of a reversal (R232): the lower of D_REV and what KF × I_RUN_MA × 0.866 carries on every axis. -/
def Door.reversalDecel (d : Door) : Nat :=
  let axis (a : Side) : Nat :=
    let x := d.axes[a.val].cfg
    let f : Int := (x.kf * x.iRun * 866 : Nat) - (d.fric a * 10000000 : Nat)
    let m := d.mass a * (if a = 0 then 256 else d.cfg.ratioMax)
    if m = 0 then d.cfg.dRev else (f * 160000 * 256 / (10000000 * (m : Int))).toNat
  d.fitted.foldl (fun v a => min v (axis a)) d.cfg.dRev

/-- A door stands still. -/
def Door.stands (d : Door) : Bool := d.ref.v == 0 && d.ref.a == 0

/-- A move toward a goal begins, or its goal changes (R226). It is planned in the frame's Plan phase, from the reference at
the next commit (R225). -/
def Door.goTo (d : Door) (g : DoorGoal) (p : DoorPhase) : Door :=
  { d with goal := g, phase := p, decel := d.cfg.d, jerk := d.cfg.j, dwellFrom := none, dwellMs := none, zeroAt := none,
           suspended := false, clean := d.stands || d.clean }

/-- The soonest standstill (R226, R237, R244, R251). -/
def Door.halt (d : Door) (decel jerk : Nat) : Door :=
  { d with goal := .standstill, decel := decel, jerk := jerk, backOff := false }

/-- DWELL_MS, or ACCESS_DWELL_MS at a stop that has served an ACCESSIBLE registration (R240). -/
def Door.dwellTime (d : Door) : Nat := if d.access then d.cfg.accessMs else d.cfg.dwellMs

/-- A reference move begins (R242): the coordinate starts OPEN_WIDTH + 1,600 units from CLOSED. -/
def Door.startRef (d : Door) : Door :=
  let d := d.rebase { s := ((d.cfg.width + 1600 : Nat) : Int) * unitS }
  ({ d with enabled := true, refMove := true, backOff := false, referenced := false, nudging := false } : Door).goTo .toClosed .closing

/-- A close begins (R238, R241, R250); an unreferenced door makes its reference move (R242). -/
def Door.startClose (d : Door) : Door :=
  if !d.referenced then d.startRef
  else
    let n := d.nudgeAsk || decide (d.cfg.nudgeCount ≤ d.reversals)
    ({ d with nudging := n, nudgeAsk := false, hold := false } : Door).goTo .toClosed .closing

/-- A re-opening by the plan of R236, not counted (R245). A nudging close that it reverses makes the next one nudge (R238), and
was not one that failed to close (R244). -/
def Door.reopen (d : Door) : Door :=
  { d with goal := .toOpen, phase := .reversing, decel := d.reversalDecel, jerk := d.cfg.jRev, dwellFrom := none, dwellMs := none,
           zeroAt := none, suspended := false, clean := false, nudgeAsk := d.nudgeAsk || d.nudging, notClosedRun := 0 }

/-- An opening begins (R239); a closing door turns by the plan of R236, an unreferenced one opens after its reference
move. -/
def Door.startOpen (d : Door) : Door :=
  if !d.referenced then { (if d.refMove then d else d.startRef) with openAfter := true }
  else if d.phase = .closing then d.reopen
  else if d.phase = .opened then { d with dwellFrom := none, dwellMs := some d.dwellTime }
  else if d.phase = .opening || d.phase = .reversing then d
  else d.goTo .toOpen .opening

/-- A frame plans door commands (R217): every frame at 250 µs, and at 125 µs the frame before an even Calends. -/
def State.doorFrame (s : State) : Bool := s.grp.frameLen == .us250 || s.grp.frame % 2 == 1

/-- A door fault is raised (R244): recorded, the door stops, and the car enters FAULTED. -/
def State.doorFault (s : State) (car : CarId) (side : Side) (code : Nat) : State :=
  let s := s.record 0x0702 car.val [byte side.val, byte code]
  let s := s.modDoor car side fun d =>
    (({ d with phase := .faulted, fault := code, hold := false, clearing := none, clearSent := none, refMove := false, openAfter := false,
                 dwellMs := none, dwellFrom := none, nudging := false } : Door).halt d.cfg.dRev d.cfg.jRev).replan
  s.faultService car

/-- CURTAIN_POINT or EDGE_POINT shows obstructed (R233). -/
def State.obstructed (s : State) (ref : Nat) : Bool := ref != noRef && !s.refTrue ref

/-- The commanded step rate of an axis is at least 20 full steps/s (R224). -/
def Door.stepping (d : Door) (a : Side) : Bool :=
  let q := if a = 0 then 1 else (d.cfg.ratioAt d.x).1
  decide (20 * (d.axes[a.val].cfg.linPerStep : Rat) ≤ |q * d.v| * 65536)

/-- 120 ms have passed since the first commit of the move (R224), and it is still one move. -/
def State.loadAngleDue (s : State) (d : Door) : Bool :=
  d.ready && d.goal != .stay && !d.laValid && !d.still && decide (d.moveAt + s.msFrames 120 ≤ s.grp.frame)

/-- The load-angle estimate of an axis is valid (R224). -/
def State.laOk (s : State) (d : Door) (a : Side) : Bool := (d.laValid || s.loadAngleDue d) && d.stepping a

/-- Sources 1 and 2 are disarmed (R234). -/
def Door.inEndZone (d : Door) : Bool := decide (d.x ≤ d.cfg.endZone)

/-- The acceleration of an axis in the direction of its motion, in 1/16 mm/s² (R223, R231). -/
def Door.motionAccel (d : Door) (a : Side) : Rat := if d.ref.v ≤ 0 ∧ d.phase ≠ .opening then d.closingAccel a else -d.closingAccel a

/-- The direction of motion of a door (R223): that of its reference, at standstill that of its move. -/
def Door.motionDir (d : Door) : Int := if d.ref.v ≠ 0 then d.ref.v.sign else if d.phase = .closing then -1 else 1

/-- An axis has an encoder that it may take the rotor angle from (R223). -/
def Axis.hasEnc (x : Axis) (st : Nat) : Bool := x.cfg.encoder && bit st 4 && x.cfg.encPerStep != 0

/-- The rotor angle from ENC_COUNT in the middle of the averaging interval, in the scale of ANGLE (R223): the mean of the
counts at its two ends (log 320), from the ANGLE at which the coordinate was fixed. -/
def Axis.encRotor (x : Axis) (count : Int) : Int :=
  let since (c : Int) : Int := signed 32 ((c - x.encZero.getD count).emod (2 ^ 32)).toNat
  divNearest ((since count + since (x.lastEnc.getD count)) * 1024 * 65536) (2 * x.cfg.encPerStep) + x.encBase

/-- δ by the back-EMF, and the closing force by the encoder's rotor angle where there is one, else by the same δ (R223). `back`
is the time from the middle of the averaging interval to the latest commit. -/
def Door.estimate (d : Door) (a : Side) (b : List Byte) (back : Nat) : Int × Int :=
  let x := d.axes[a.val]
  let dir := if x.cfg.invert then -d.motionDir else d.motionDir
  let i := reportVec b 4
  let commanded := angleBack x.angles back
  let delta := loadAngle commanded (rotorOf (backEmf x.cfg (reportVec b 0) i (x.lastI.getD i)) dir) dir
  let byEnc := if x.hasEnc (byteAt b 10) then loadAngle commanded (x.encRotor (intAt b 12 4)) dir else delta
  let force : Rat := (motorForce x.cfg (ampOf i) byEnc : Rat) / (10000 * 2 ^ 30) - d.mass a * d.motionAccel a / 160000 - d.fric a
  (delta, divNearest force.num force.den)

/-- A new estimate of δ and F_CLOSE, smoothed (R223). The filter is not disclosed: each is a free value between the least and
the largest that the formulas have given from the latest 16 reports (log 3). -/
def Axis.smooth (x : Axis) (est free : Int × Int) : Axis :=
  let l := (est :: x.estimates).take 16
  let of (f : Int × Int → Int) (v : Int) : Int := clampInt (-32768) 32767 (clampTo (l.map f) v)
  { x with estimates := l, delta := of (fun q => q.1) free.1, force := of (fun q => q.2) free.2 }

/-- One axis takes its report from the image, or misses it (R221, R223, R233). -/
def Axis.report (x : Axis) (bytes : Option (List Byte)) (est free : Int × Int) (laOk armed nudging : Bool) (c : DoorCfg) : Axis :=
  match bytes with
  | none => { x with missRun := min 255 (x.missRun + 1) }
  | some b =>
    let st := byteAt b 10
    let fOk := laOk || x.hasEnc st
    let x := x.smooth est free
    { x with
      missRun := 0, status := st, encCount := intAt b 12 4, encZero := some (x.encZero.getD (intAt b 12 4)), lastI := some (reportVec b 4), lastEnc := some (intAt b 12 4),
      laRun := if armed && laOk && decide ((c.laTrip : Int) ≤ x.delta) then x.laRun + 1 else 0,
      forceRun := if armed && fOk && !nudging && decide ((c.forceTrip : Int) < x.force) then x.forceRun + 1 else 0 }

/-- The master's encoder position in 1/65,536 unit (R228), when it has one. -/
def Door.encPos (d : Door) : Option Int :=
  let x := d.axes[0]
  if x.cfg.encoder && bit x.status 4 && x.cfg.encPerStep != 0 && x.missRun == 0 then
    let n := signed 32 ((x.encCount - x.encZero.getD x.encCount).emod (2 ^ 32)).toNat
    let q := divNearest (n * 65536 * x.cfg.linPerStep) x.cfg.encPerStep
    some (if x.cfg.invert then -q else q)
  else none

/-- The master's encoder (R228): its position carried forward to the commit, which the slave follows where it is to, and the
count of consecutive reports in which it differs from the reference by more than GEAR_SYNC_LIMIT. -/
def Door.follow (d : Door) (leadUs : Nat) : Door :=
  match d.encPos with
  | some q =>
    let carried := d.v * 65536 * leadUs / 1000000
    let at_ := q + divNearest carried.num carried.den
    let far := d.referenced && decide (65536 * (d.cfg.gearLimit : Rat) < |(at_ : Rat) - d.x * 65536|)
    { d with followX := if d.cfg.slave && d.cfg.followEnc && d.referenced then some at_ else none,
             gearRun := if far then min 255 (d.gearRun + 1) else 0 }
  | none => if d.referenced then d else { d with followX := none, gearRun := 0 }

/-- The reports of a door in the image (R217, R221, R351): the averaging interval ends LEAD_US before the latch, which at 125 µs
frames is 125 µs after the latest commit. -/
def State.readReports (s : State) (car : CarId) (side : Side) : State :=
  let up := s.io.image.uplink[car.val]
  let lead := s.io.links[car.val].cfg.leadUs
  let back := if s.grp.frameLen = .us250 then lead + 125 else lead
  let d := s.door car side
  let armed := d.goal != .stay && !d.inEndZone && (d.phase == .closing || d.phase == .opening)
  let s := d.fitted.foldl (fun s a =>
    let b := up.map fun u => (u.bytes.drop (16 + 16 * (2 * side.val + a.val))).take 16
    let (f1, s) := s.drawInt
    let (f2, s) := s.drawInt
    let x := d.axes[a.val].report b (d.estimate a (b.getD []) back) (f1, f2) (s.laOk d a) armed d.nudging d.cfg
    s.modDoor car side fun d => { d with axes := d.axes.set a.val x }) s
  s.modDoor car side fun d => d.follow (lead + s.grp.frameLen.us)

/-- An axis's report shows a stage fault (R244, code 1). -/
def Door.stageFault (d : Door) : Bool := d.fitted.any fun a => d.axes[a.val].missRun == 0 && d.axes[a.val].status &&& 0x2E != 0

/-- The sources that trip now, as bits 1–5 (R233, R234). -/
def State.tripsOf (s : State) (d : Door) : Nat :=
  let any (f : Axis → Bool) : Bool := d.fitted.any fun a => f d.axes[a.val]
  flagBit (any fun x => decide (d.cfg.laFrames ≤ x.laRun)) 1 + flagBit (any fun x => decide (d.cfg.forceFrames ≤ x.forceRun)) 2
    + flagBit (s.obstructed d.cfg.curtain && !(d.nudging && d.cfg.nudgeIgnore)) 3 + flagBit (s.obstructed d.cfg.edge) 4
    + flagBit (any fun x => decide (2 ≤ x.missRun)) 5

/-- The lowest source code of a set of bits (R245). -/
def lowSource (t : Nat) : Nat := ((List.range 6).find? fun i => bit t i).getD 0

/-- DOOR_OBSTRUCTION is due: sources have tripped in this frame's Plan phase. -/
def Door.obstructionDue (d : Door) : Bool := d.tripped != 0

/-- The clamp of R232 reduces D_REV: recorded once. -/
def State.noteClamp (s : State) (car : CarId) (side : Side) : State :=
  let d := s.door car side
  if d.reversalDecel < d.cfg.dRev ∧ !d.clampNoted then
    (s.record 0x0703 car.val ([byte side.val] ++ leBytes 4 d.reversalDecel)).modDoor car side fun d => { d with clampNoted := true }
  else s

/-- A door re-opens by the plan of R236; a clamp that first reduces D_REV is recorded (R232). -/
def State.reopenDoor (s : State) (car : CarId) (side : Side) : State :=
  (s.noteClamp car side).modDoor car side Door.reopen

/-- An opening begins (R239); of a closing door it is a reversal (R232, R236, R245). -/
def State.openDoor (s : State) (car : CarId) (side : Side) : State :=
  let d := s.door car side
  if d.referenced && d.phase == .closing then s.reopenDoor car side else s.modDoor car side Door.startOpen

/-- REVERSALS and the total advance (R236); a nudging close leaves REVERSALS, and the next close nudges again (R238). -/
def Door.countReversal (d : Door) : Door :=
  { d with reversals := if d.nudging then d.reversals else min 255 (d.reversals + 1), nudgeAsk := d.nudgeAsk || d.nudging,
           total := d.total + 1 }

/-- The tripped sources act (R235–R237, R242, R245). -/
def State.obstruct (s : State) (car : CarId) (side : Side) : State :=
  let d := s.door car side
  let src := lowSource d.tripped
  let opening := d.phase == .opening
  let s := s.record 0x0701 car.val [byte side.val, byte src, byte opening.toNat]
  let s := s.modDoor car side fun d => { d with tripped := 0, lastSource := src, clean := false }
  let k := s.grp.frame
  let s := if d.phase = .opening then s.modDoor car side fun d => d.halt d.cfg.dRev d.cfg.jRev
    else if d.phase = .closing then
      (if d.refMove then s.modDoor car side fun d => d.halt d.cfg.dRev d.cfg.jRev
        else (s.modDoor car side Door.countReversal).reopenDoor car side).modDoor car side fun d => { d with revAt := some k }
    else s
  s.modDoor car side Door.replan

/-- The door's reference and CLOSED_POINT show the end of its move (R241, R242). -/
def State.moveCompleteDue (s : State) (d : Door) : Bool :=
  d.ready &&
  (match d.goal with
   | .toOpen => d.stands && d.targetX.any fun t => d.ref.s == t * unitS
   | .toClosed => s.refTrue d.cfg.closedPoint && (d.refMove || (d.stands && d.ref.s == 0))
   | _ => false)

/-- A move's mass sample and friction of one axis (R243): undisclosed, so free; a sample outside 50 % to 200 % of
M_NOMINAL is discarded. -/
def State.sampleAxis (s : State) (car : CarId) (side a : Side) : State :=
  let (m, s) := s.drawNat
  let (f, s) := s.drawNat
  let d := s.door car side
  let nom := d.cfg.mNominal[a.val]
  let s := s.modDoor car side fun d => { d with axes := d.axes.set a.val { d.axes[a.val] with friction := f % 65536 } }
  if nom ≤ 2 * m ∧ m ≤ 2 * nom then
    s.modDoor car side fun d => { d with axes := d.axes.set a.val { d.axes[a.val] with samples := (m :: d.axes[a.val].samples).take 16 } }
  else s.record 0x0704 car.val ([byte (4 * car.val + 2 * side.val + a.val)] ++ leBytes 2 m)

/-- Learning from a completed move (R243). -/
def State.learnMove (s : State) (car : CarId) (side : Side) : State :=
  let d := s.door car side
  let s := if d.clean && !d.refMove then d.fitted.foldl (fun s a => s.sampleAxis car side a) s else s
  s.modDoor car side fun d =>
    let n := d.learnMoves - 1
    { d with learnMoves := n, axes := if n = 0 then d.axes.map fun x => { x with learned := true } else d.axes }

/-- A door's move completes (R240–R243). -/
def State.moveComplete (s : State) (car : CarId) (side : Side) : State :=
  let d := s.door car side
  let s := if d.referenced then s.learnMove car side else s
  match d.goal with
  | .toOpen =>
    if d.backOff then s.modDoor car side fun d => { d with goal := .stay, plan := [], phase := .unreferenced, dwellMs := some d.dwellTime, dwellFrom := none }
    else s.modDoor car side fun d => { d with
      goal := .stay, plan := [], phase := .opened, nudging := false, dwellFrom := none, dwellMs := some (d.dwellMs.getD d.dwellTime) }
  | .toClosed => s.modDoor car side fun d =>
      let d := if d.refMove then { d.rebase {} with referenced := true } else d
      let d := { d with goal := .stay, plan := [], phase := .closed, reversals := 0, nudging := false, notClosedRun := 0, refMove := false, zeroAt := none }
      (if d.openAfter then ({ d with openAfter := false } : Door).startOpen else d).replan
  | _ => s

/-- A door closes by itself now (R241, R245, R251): the car has a target, or it does not park open. -/
def Car.mayClose (c : Car) (d : Door) : Bool :=
  !d.autoOff && !d.suspended && !d.hold && (c.motion.committed || c.stops.any (fun q => q.2.listed) || !d.cfg.parkOpen)

/-- A dwell ends (R240, R241), that of a back-off too (R242), where the door may close by itself (R245, R251). -/
def State.dwellEndDue (s : State) (c : Car) (d : Door) : Bool :=
  d.ready &&
  (match d.dwellMs, d.dwellFrom with
   | some ms, some f => decide (f + s.msFrames ms ≤ s.grp.frame)
       && ((d.phase == .opened && d.goal == .stay && c.mayClose d) || (d.backOff && d.phase == .unreferenced && !d.autoOff && !d.suspended))
   | _, _ => false)

/-- A dwell's end closes the door (R241), or repeats its reference move (R242). -/
def State.dwellEnd (s : State) (car : CarId) (side : Side) : State := s.modDoor car side fun d => d.startClose.replan

/-- NOT_CLOSED is due (R241): CLOSED_POINT shows 0 for 500 ms after the reference reached 0. -/
def State.notClosedDue (s : State) (d : Door) : Bool :=
  d.ready && d.phase == .closing && !d.refMove && !s.refTrue d.cfg.closedPoint &&
  (match d.zeroAt with
   | some z => decide (z + s.msFrames 500 ≤ s.grp.frame)
   | none => false)

/-- NOT_CLOSED (R241, R244): the door re-opens and the close counts toward nudging, or the fault is raised. -/
def State.notClosed (s : State) (car : CarId) (side : Side) : State :=
  let d := s.door car side
  let n := if d.nudging then d.notClosedRun + 1 else 0
  let s := s.modDoor car side Door.countReversal
  if d.nudging && decide (d.cfg.nudgeCount ≤ n) then (s.doorFault car side 5).modDoor car side fun d => { d with notClosedRun := n }
  else (s.reopenDoor car side).modDoor car side fun d => ({ d with notClosedRun := n } : Door).replan

/-- GEAR_SYNC, REPORT_LOST and REFERENCE_FAILED are due (R228, R242, R244). -/
def Door.gearSyncDue (d : Door) : Bool := d.ready && d.phase != .faulted && decide (2 ≤ d.gearRun)
def Door.reportLostDue (d : Door) : Bool := d.ready && d.phase != .faulted && d.fitted.any fun a => decide (4 < d.axes[a.val].missRun)
def State.referenceFailedDue (s : State) (d : Door) : Bool :=
  d.ready && d.refMove && d.goal == .toClosed && d.stands && d.ref.s == 0 && !s.refTrue d.cfg.closedPoint

/-- GEAR_SYNC (R228). -/
def State.gearSync (s : State) (car : CarId) (side : Side) : State :=
  (s.modDoor car side fun d => { d with gearRun := 0 }).doorFault car side 3

/-- A door event that is due takes place when the control plane runs its Plan phase (R48). -/
def State.doorEvent (s : State) (car : CarId) (side : Side) (due : State → Door → Bool) (f : State → State) : State :=
  if s.running && !s.grp.safeState && due s (s.door car side) then f s else s

/-- DOOR_OBSTRUCTION (R235). -/
def execDoorObstruction (car : CarId) (side : Side) (s : State) : Host.Outcome State Fault Refusal :=
  .next (s.within [.cars, .recorder] (s.doorEvent car side (fun _ d => d.obstructionDue) fun s => s.obstruct car side))

/-- DOOR_MOVE_COMPLETE (R241). -/
def execDoorMoveComplete (car : CarId) (side : Side) (s : State) : Host.Outcome State Fault Refusal :=
  .next (s.within [.free, .cars, .recorder] (s.doorEvent car side State.moveCompleteDue fun s => s.moveComplete car side))

/-- DWELL_END (R240). -/
def execDwellEnd (car : CarId) (side : Side) (s : State) : Host.Outcome State Fault Refusal :=
  .next (s.within [.cars] (s.doorEvent car side (fun s d => s.dwellEndDue (s.car car) d) fun s => s.dwellEnd car side))

/-- NOT_CLOSED (R241). -/
def execNotClosed (car : CarId) (side : Side) (s : State) : Host.Outcome State Fault Refusal :=
  .next (s.within [.cars, .recorder] (s.doorEvent car side State.notClosedDue fun s => s.notClosed car side))

/-- GEAR_SYNC (R228). -/
def execGearSync (car : CarId) (side : Side) (s : State) : Host.Outcome State Fault Refusal :=
  .next (s.within [.cars, .recorder] (s.doorEvent car side (fun _ d => d.gearSyncDue) fun s => s.gearSync car side))

/-- REPORT_LOST (R244). -/
def execReportLost (car : CarId) (side : Side) (s : State) : Host.Outcome State Fault Refusal :=
  .next (s.within [.cars, .recorder] (s.doorEvent car side (fun _ d => d.reportLostDue) fun s => s.doorFault car side 2))

/-- LOAD_ANGLE_VALID (R224). -/
def execLoadAngleValid (car : CarId) (side : Side) (s : State) : Host.Outcome State Fault Refusal :=
  .next (s.within [.cars] (s.doorEvent car side State.loadAngleDue fun s => s.modDoor car side fun d => { d with laValid := true }))

/-- REFERENCE_FAILED (R242). -/
def execReferenceFailed (car : CarId) (side : Side) (s : State) : Host.Outcome State Fault Refusal :=
  .next (s.within [.cars, .recorder] (s.doorEvent car side State.referenceFailedDue fun s => s.doorFault car side 4))

/-- The events of a door that are due and have not come in their frame. -/
def State.settleDoor (car : CarId) (s : State) (side : Side) : State :=
  let go (s : State) (due : State → Door → Bool) (f : State → State) := if !s.grp.safeState && due s (s.door car side) then f s else s
  let s := go s State.loadAngleDue fun s => s.modDoor car side fun d => { d with laValid := true }
  let s := go s (fun _ d => d.obstructionDue) fun s => s.obstruct car side
  let s := go s State.moveCompleteDue fun s => s.moveComplete car side
  let s := go s State.notClosedDue fun s => s.notClosed car side
  let s := go s (fun _ d => d.gearSyncDue) fun s => s.gearSync car side
  let s := go s (fun _ d => d.reportLostDue) fun s => s.doorFault car side 2
  let s := go s State.referenceFailedDue fun s => s.doorFault car side 4
  go s (fun s d => s.dwellEndDue (s.car car) d) fun s => s.dwellEnd car side

/-- An accepted CLEAR_FAULT after its exchange (R244): the door moves once every report is clean, or its fault stands. -/
def State.clearFault (s : State) (car : CarId) (side : Side) : State :=
  let d := s.door car side
  let k := s.grp.frame
  let lossHeld := match s.io.image.uplink[car.val] with
    | some u => bit (byteAt u.bytes 8) 1
    | none => true
  match d.clearing, d.clearSent with
  | some g, some c =>
    if k ≤ c then s
    else if !d.stageFault && !lossHeld && d.fitted.all (fun a => d.axes[a.val].missRun == 0) then
      let s := s.modDoor car side fun d => { d with fault := 0, clearing := none, clearSent := none, phase := .stopped }
      if g = .toOpen then s.openDoor car side else s.modDoor car side Door.startClose
    else if c + 2 * (250 / s.grp.frameLen.us) ≤ k then s.doorFault car side (if d.stageFault then 1 else 2)
    else s
  | _, _ => s

/-- A car whose state is FAULTED or LOCKED_OUT opens and closes no door by itself until NORMAL or INDEPENDENT (R245). -/
def Car.doorsOff (c : Car) (d : Door) : Bool :=
  match c.service with
  | .faulted | .lockedOut => true
  | .normal | .independent => false
  | .outOfService => d.autoOff

/-- The car leaves the landing at which it stood: a trip runs, other than a re-levelling move. -/
def Car.departs (c : Car) : Bool := c.motion.phase == .running && c.motion.kind != .relevel

/-- The dwell's start (R240): held while CURTAIN or EDGE shows obstructed. -/
def State.dwellStart (s : State) (d : Door) : Door :=
  if d.dwellMs.isSome && !d.hold && d.goal == .stay then
    if s.obstructed d.cfg.curtain || s.obstructed d.cfg.edge then { d with dwellFrom := none }
    else { d with dwellFrom := some (d.dwellFrom.getD s.grp.frame) }
  else d

/-- Image 0 with CLOSED_POINT at 1 references the door at position 0 (R242): enabled, and CLOSED. -/
def State.firstImage (s : State) (car : CarId) (side : Side) : State :=
  if s.grp.frame = 0 ∧ s.refTrue (s.door car side).cfg.closedPoint ∧ (s.door car side).phase = .unreferenced then
    s.modDoor car side fun d => { d.rebase {} with referenced := true, enabled := true, phase := .closed }
  else s

/-- A halt that has come to a stand (R226, R237, R242): an opening door stands OPEN, an obstructed reference move backs off. -/
def Door.afterHalt (d : Door) : Door :=
  if d.goal = .standstill ∧ d.stands then
    match d.phase with
    | .opening => { d with phase := .opened, goal := .stay, dwellMs := some (d.dwellMs.getD d.dwellTime), dwellFrom := none }
    | .closing => ({ d with backOff := true, backTo := divNearest d.ref.s (6 * 10 ^ 18) + 1600 } : Door).goTo .toOpen .opening
    | _ => { d with goal := .stay }
  else d

/-- A link loss raises REPORT_LOST and leaves the door UNREFERENCED (R363), also one whose configuration is not complete. -/
def State.doorLoss (s : State) (car : CarId) (side : Side) : State :=
  let loss := match s.io.image.uplink[car.val] with
    | some u => bit (byteAt u.bytes 8) 1
    | none => false
  if !loss then s
  else (if (s.door car side).phase = .faulted then s else s.doorFault car side 2).modDoor car side fun d => { d with referenced := false }

/-- The door opens in advance in the first frame of bridging for levelling on its side (R239), unless it is suspended (R251). -/
def State.opensAhead (s : State) (car : CarId) (side : Side) : Bool :=
  let c := s.car car
  let d := s.door car side
  c.safe.cfg.bridge && (s.sgOf car).bridge[side.val] && (s.sgOf car).bridgeLevel[side.val] && d.cfg.advance
    && c.bridgeSides.contains side && d.phase == .closed && !d.autoOff && !d.suspended

/-- The sources that trip in this frame, by what the door does (R233, R236, R237, R242, R245). -/
def Door.tripping (d : Door) (now : Nat) : Nat :=
  if d.goal = .standstill ∨ d.goal = .stay then 0
  else match d.phase with
    | .closing => now
    | .opening => if d.backOff then 0 else now &&& 6
    | .reversing => now - (now &&& d.tripPrev)
    | _ => 0

/-- One door in an exchange's Plan phase (R217, R225, R233–R245). -/
def State.planDoor (car : CarId) (s : State) (side : Side) : State :=
  let s := s.modDoor car side fun d => { d with autoOff := (s.car car).doorsOff d, access := d.access && !(s.car car).departs }
  if s.grp.safeState then s
  else if !(s.door car side).ready then
    (if s.doorFrame && (s.door car side).axes.any fun x => x.configured then s.doorLoss car side else s)
  else
    let s := s.firstImage car side
    if !s.doorFrame then s.modDoor car side s.dwellStart
    else
      let k := s.grp.frame
      let s := s.modDoor car side Door.advance
      let s := s.readReports car side
      let s := s.doorLoss car side
      let s := if (s.door car side).stageFault && (s.door car side).phase != .faulted then s.doorFault car side 1 else s
      let s := s.clearFault car side
      let s := s.modDoor car side fun d =>
        if d.phase = .unreferenced && !d.backOff && d.goal == .stay && !d.suspended && !d.autoOff && (s.car car).pos.state == .placed then d.startRef else d
      let s := s.modDoor car side Door.afterHalt
      let s := if s.opensAhead car side then s.openDoor car side else s
      s.modDoor car side fun d =>
        let now := s.tripsOf d
        let d := { d with tripped := d.tripping now, tripPrev := now, vCap := d.capNow,
                          zeroAt := if d.phase == DoorPhase.closing && d.goal == DoorGoal.toClosed && d.stands && d.ref.s == 0 then
                            some (d.zeroAt.getD (k + 1)) else none }
        s.dwellStart d.replan

/-- CURRENT of an axis while closing (R231), mA. -/
def Door.closingCurrent (d : Door) (a : Side) : Nat :=
  let x := d.axes[a.val].cfg
  let f : Rat := (d.cfg.fLimit + d.fric a : Nat) + d.mass a * max (d.closingAccel a) 0 / 160000
  min x.iRun (f * 10000 / x.kf).floor.toNat

/-- CURRENT of an axis (R219, R231, R242): limited while the door closes, a stop or a fault notwithstanding, until a
reversal begins. -/
def Door.currentOf (d : Door) (a : Side) : Nat :=
  let x := d.axes[a.val].cfg
  if !d.enabled then 0
  else if d.phase = .closing ∨ (d.ref.v < 0 ∧ d.phase ≠ .reversing) then d.closingCurrent a
  else if d.goal = .stay then x.iHold
  else x.iRun

/-- Commit a door's records at Calends `k` (R219, R222, R238): the first with a speed after a standstill begins a move, for
which the load angle is blind again (R224). -/
def Door.commit (k : Nat) (d : Door) : Door :=
  if !d.ready then d
  else
    let begins := d.still && d.ref.v != 0
    { d with
      moveAt := if begins then k else d.moveAt, laValid := d.laValid && !begins, still := d.stands,
      axes := Vector.ofFn fun (a : Side) =>
        let x := d.axes[a.val]
        if d.fitted.contains a then
          let angle := if d.enabled then d.angleOf a else x.angle
          { x with angle := angle, angles := (angle :: x.angles).take 4, current := d.currentOf a,
                   control := flagBit d.enabled 0 + flagBit (a == 0 && d.nudging && d.phase == .closing) 2 }
        else { x with angle := 0, angles := [], current := 0, control := 0 } }

/-- An accepted CLEAR_FAULT goes out in every axis record at the commit after its acceptance, for one exchange (R244). -/
def Door.sendClear (k : Nat) (d : Door) : Door :=
  if d.ready && d.clearing.isSome && d.clearSent.isNone then
    { d with clearSent := some k, axes := Vector.ofFn fun (a : Side) =>
        if d.fitted.contains a then { d.axes[a.val] with control := d.axes[a.val].control + 2 } else d.axes[a.val] }
  else d

/-- The group safe state (R48, R245): every axis holds its last ANGLE at I_HOLD_MA. -/
def Door.freeze (d : Door) : Door :=
  { d with
    goal := .stay, plan := [], planFor := none, ref := { s := d.ref.s }, tripped := 0,
    phase := if d.phase = .closing ∨ d.phase = .opening ∨ d.phase = .reversing then .stopped else d.phase,
    axes := d.axes.map fun x => { x with current := if x.configured then x.cfg.iHold else 0, control := x.control % 2 } }

/-- The 8-byte command record of an axis (R219); zeros for one that is not configured (R352). -/
def Door.axisRecord (d : Door) (a : Side) : List Byte :=
  let x := d.axes[a.val]
  if d.ready && d.fitted.contains a then leInt 4 x.angle ++ leBytes 2 x.current ++ [byte x.control, 0] else zeros 8

/-- The doors that a served stop names open (R180, R239, R240), at the Calends after it; one opened with HOLD stays so, and a
suspended one is left as it is (R251). -/
def State.openServed (s : State) (car : CarId) : State :=
  match (s.car car).servedAt with
  | none => s
  | some (_, sides, access) =>
    (List.finRange 2).foldl (fun s side =>
      let d := s.door car side
      if bit sides side.val && d.ready && d.phase != .faulted && !d.autoOff && !d.suspended then
        (s.openDoor car side).modDoor car side fun e =>
          let e := { e with access := e.access || access }
          { e with dwellMs := some e.dwellTime, dwellFrom := none }
      else s) s

end Sys2Proof.Machine
end

