-- ==== Sys2Proof/Machine/CarLink.lean ====
section
/-! DEFINITION. Car links: the exchange, the module's side and the car-top endpoint's (10, R349–R363). -/

namespace Sys2Proof.Machine

/-- The link's exchange commits a downlink at this Calends (R350). -/
def exchangeAt (l : FrameLen) (k : Nat) : Bool := l == .us250 || k % 2 == 0

/-- An image latches uplinks (R351): every one at 250 µs frames, the odd-numbered at 125 µs. -/
def latchAt (l : FrameLen) (k : Nat) : Bool := l == .us250 || k % 2 == 1

/-- Frames from a downlink's Calends to its uplink's latch (R351). -/
def latchFrames : FrameLen → Nat
  | .us250 => 2
  | .us125 => 3

/-- SAMPLE_AT in 0.1 µs (R353): from the end of the downlink's reception, which began `start` ns after its Calends and
took 116.8 µs and the one-way delay, to LEAD_US before the latch. -/
def sampleAt (l : FrameLen) (x : CarLink) (start : Nat) : Nat :=
  let latch := latchFrames l * l.us * 1000
  (latch - x.cfg.leadUs * 1000 - start - 116800 - x.delayNs) / 100 % 2500

/-- LOSS_RAMP_MS (R353): the time the car's fastest moving door needs to stop under its D_DOOR, rounded up, at least 10 ms
and at most the field's 2,000 ms. FRONT counts as the faster of two doors of one speed (log 331). -/
def Car.lossRamp (c : Car) : Nat :=
  let speed (d : Door) : Rat := if d.ready then |d.v| else 0
  let d := if speed c.doors[0] < speed c.doors[1] then c.doors[1] else c.doors[0]
  min 2000 (max 10 (if d.cfg.d = 0 then 0 else (speed d * 1000 / d.cfg.d).ceil.toNat))

/-- Destination and EtherType of a car-link frame (R349): no VLAN tag stands between them and the source address. -/
def LinkCfg.destination (x : LinkCfg) : List Byte := if x.mac = [] then List.replicate 6 0xFF#8 else x.mac
def carLinkType : Nat := 0x88B5

/-- A downlink's 120 bytes (R352). -/
def State.downlinkBytes (s : State) (link : CarId) (start : Nat) : List Byte :=
  let c := s.car link
  let x := s.io.links[link.val]
  let pair := s.boot.pair.paired
  let flags := flagBit (pair && s.boot.pairSel) 0 + flagBit pair 1 + flagBit x.userArea.isSome 2 + flagBit s.grp.safeState 3
  let axes := (List.finRange 2).flatMap fun d => (List.finRange 2).flatMap fun a => (c.doors[d.val]).axisRecord a
  let h := leBytes 4 (s.grp.frame % 2 ^ 32) ++ [byte flags, byte link.val] ++ leBytes 2 (sampleAt s.grp.frameLen x start)
    ++ axes ++ padTo 64 (x.userArea.getD []) ++ leBytes 2 c.lossRamp ++ zeros 12
  h ++ leBytes 2 (crc16 h)

/-- The car-link stream of a link (R354). -/
def State.linkStream (s : State) (link : CarId) : Option Nat :=
  (s.grp.alm.find? fun q => q.2.type == 11 && bit q.2.binding 30 && bits q.2.params 2 0 == link.val).map fun q => q.1

/-- A link whose exchange runs (R24, R372). -/
def CarLink.active (x : CarLink) : Bool := x.cfg.enabled && !x.idle

/-- A downlink leaves (R349, R350): its frame, and what the round trip and the first exchange are measured from. -/
def CarLink.sendDown (frame : Nat) (bytes : List Byte) (start : Nat) (x : CarLink) : CarLink :=
  { x with downlink := bytes, header := x.cfg.destination ++ [byte (carLinkType / 256), byte carLinkType], userArea := none,
           starts := ((frame % 2 ^ 32, start) :: x.starts).take 16, firstAt := some (x.firstAt.getD frame) }

/-- A downlink is committed at an exchange's Calends (R350, R352, R354). An assembly that its exchange does not carry is
dropped with it: MAX_AGE of a car-link stream is 1. -/
def State.commitDownlink (s : State) (link : CarId) : State :=
  let x := s.io.links[link.val]
  if !exchangeAt s.grp.frameLen s.grp.frame then s
  else if !(x.active && (s.holds || s.mem.state == .vigil)) then s.modLink link fun x => { x with userArea := none }
  else
    let q := s.drawNat
    let s := q.2
    let start := 2000 + q.1 % 3001
    let bytes := s.downlinkBytes link start
    let s := match x.userArea, s.linkStream link with
      | some _, some c => s.modEntry c fun e => { e with value := putBits e.value 31 0 (e.value % 2 ^ 32 + 1) }
      | _, _ => s
    s.modLink link (CarLink.sendDown s.grp.frame bytes start)

/-- (a − b) modulo 2^32 lies between 1 and 2^31 − 1 (R357, R361). -/
def seqAdvances (a b : Nat) : Bool := between1 ((a + 2 ^ 32 - b % 2 ^ 32) % 2 ^ 32)
where
  between1 (d : Nat) : Bool := decide (1 ≤ d) && decide (d < 2 ^ 31)

/-- The newer of a waiting uplink and another (R361): the higher UP_SEQ is used. -/
def newerUplink (old : Option Uplink) (bytes : List Byte) : Option Uplink :=
  match old with
  | some u => if seqAdvances (fieldAt bytes 4 4) (fieldAt u.bytes 4 4) then some ⟨bytes⟩ else some u
  | none => some ⟨bytes⟩

/-- The start of the downlink that a SEQ_ECHO names; the earliest, 2 µs, for one older than the 16 kept (R351, R353, log 350). -/
def CarLink.startOf (x : CarLink) (echo : Nat) : Nat := ((x.starts.find? fun q => q.1 == echo).map fun q => q.2).getD 2000

/-- An uplink that was under way at the latest latch has missed it (R353, R361): its last bit came less than its own 164.8 µs
and the one-way delay after that latch, which lies a whole number of exchange periods after the downlink's Calends, or half a
period more at 125 µs frames (DEDUCED, log 332). -/
def CarLink.lateBy (x : CarLink) (l : FrameLen) (echo rtNs delay : Nat) : Bool :=
  let latch := match l with
    | .us250 => 0
    | .us125 => 125000
  decide ((x.startOf echo + rtNs + latch) % 250000 < 164800 + delay)

/-- An uplink whose last bit has arrived, `rtNs` after the start of the downlink that its SEQ_ECHO names (R353, R361). -/
def State.uplink (s : State) (link : CarId) (f : LinkFrame) (rtNs : Nat) : State :=
  let x := s.io.links[link.val]
  let bytes := f.payload
  if !(x.active && x.phyUp) then s
  else
    let bad := !(f.fcsGood && f.etherType == carLinkType && bytes.length == 180 && crc16 (bytes.take 178) == fieldAt bytes 178 2)
    let echo := byteAt bytes 15
    let reject (s : State) := s.modLink link fun x => { x with rejected := satInc 32 x.rejected }
    if bad then reject s
    else if echo ≠ link.val then
      let s := if x.echoWrong = some echo then s else s.record 0x0A04 link.val [byte link.val, byte echo]
      reject (s.modLink link fun x => { x with echoWrong := some echo })
    else if !(x.fresh || seqAdvances (fieldAt bytes 4 4) x.upSeq) then reject (s.modLink link fun x => { x with echoWrong := none })
    else
      let delay := (rtNs - (116800 + 164800 + 100 * fieldAt bytes 10 2)) / 2
      let late := x.lateBy s.grp.frameLen (fieldAt bytes 0 4) rtNs delay
      s.modLink link fun x =>
        { x with
          echoWrong := none, fresh := false, accepted := satInc 32 x.accepted, late := if late then satInc 32 x.late else x.late,
          health := byteAt bytes 8, ports := byteAt bytes 9, seqEcho := fieldAt bytes 0 4, upSeq := fieldAt bytes 4 4,
          vSupply := fieldAt bytes 12 2, delayNs := delay, pendingUp := newerUplink x.pendingUp bytes }

/-- UPLINK_RECEIVED (R361). -/
def execUplinkReceived (link : CarId) (f : LinkFrame) (rtNs : Nat) (s : State) : Host.Outcome State Fault Refusal :=
  .next (s.within [.links, .recorder] (whenRunning s fun s => s.uplink link f rtNs))

/-- CL_PHY_LINK_CHANGE (R362): LINK_DOWN follows in the next image. -/
def execClPhyLinkChange (link : CarId) (up : Bool) (s : State) : Host.Outcome State Fault Refusal :=
  .next (s.within [.links] (s.modLink link fun x => { x with phyUp := up }))

/-- An exchange of the link ends with the latch of frame `k` (R351, R362). -/
def CarLink.ends (x : CarLink) (l : FrameLen) (k : Nat) : Bool :=
  latchAt l k && x.firstAt.any fun f => decide (f + latchFrames l ≤ k)

/-- The eighth consecutive exchange without an accepted uplink ends with the latch of frame `k` (R362). -/
def CarLink.downDue (x : CarLink) (l : FrameLen) (k : Nat) : Bool :=
  x.active && !x.linkDown && decide (7 ≤ x.missRun) && x.pendingUp.isNone && x.ends l k

/-- LINK_DOWN is set: the next uplink is the first after it (R361, R362). -/
def CarLink.goDown (x : CarLink) : CarLink := { x with linkDown := true, fresh := true }

/-- CL_LINK_DOWN (R362). -/
def execClLinkDown (link : CarId) (s : State) : Host.Outcome State Fault Refusal :=
  .next (s.within [.links] (whenRunning s fun s => s.modLink link fun x =>
    if x.downDue s.grp.frameLen (s.grp.frame + 1) then x.goDown else x))

/-- The latch of a car link (R19, R361–R363). -/
def State.latchLink (s : State) (link : CarId) : State :=
  let x := s.io.links[link.val]
  let put (s : State) (u : Option Uplink) : State :=
    { s with io := { s.io with image := { s.io.image with uplink := s.io.image.uplink.set link.val u } } }
  let show_ (x : CarLink) : CarLink := { x with servedDown := x.shownDown, shownDown := x.linkDown }
  if !x.active || !latchAt s.grp.frameLen s.grp.frame then
    put (s.modLink link fun x => show_ (if x.active && !x.phyUp then x.goDown else x)) none
  else
    let got := x.pendingUp.isSome
    let s := put s x.pendingUp
    s.modLink link fun x =>
      let missed := !got && x.ends s.grp.frameLen s.grp.frame
      let x := if x.downDue s.grp.frameLen s.grp.frame then x.goDown else x
      let x := { x with pendingUp := none, missRun := if got then 0 else if missed then min 255 (x.missRun + 1) else x.missRun,
                        missing := if missed then satInc 32 x.missing else x.missing,
                        linkDown := if got && x.phyUp then false else x.linkDown }
      show_ (if x.phyUp then x else x.goDown)

/-- Change a stage of an endpoint. -/
def Endpoint.modStage (e : Endpoint) (i : Fin 4) (f : Stage → Stage) : Endpoint := { e with stages := e.stages.set i.val (f e.stages[i.val]) }

/-- A downlink without FLAGS bit 0 and SAMPLE_AT, as duplicates are compared (R357). -/
def dupForm (b : List Byte) : List Byte :=
  let b := b.take 118
  b.take 4 ++ [byte (byteAt b 4 / 2 * 2)] ++ (b.drop 5).take 1 ++ b.drop 8

/-- One stage takes its command record (R219, R220, R359, R360): the new ANGLE is reached over one period. -/
def Stage.command (latched : Bool) (r : List Byte) (x : Stage) : Stage :=
  let ctl := byteAt r 6
  let clear := bit ctl 1
  let angle := intAt r 0 4
  let x := if clear then { x with overcurrent := false, overtemp := false, undervolt := false, fault := false } else x
  let x := { x with enabled := bit ctl 0 }
  if latched && x.lossHeld then
    if clear then { x with lossHeld := false, angle := angle, rate := 0, current := if x.enabled then fieldAt r 4 2 else 0 }
    else { x with current := if x.enabled then x.current else 0 }
  else { x with current := if !x.enabled || x.overcurrent || x.overtemp || x.undervolt then 0 else fieldAt r 4 2, rate := signed 32 ((angle - x.angle).emod (2 ^ 32)).toNat, angle := angle }

/-- The endpoint accepts or discards a downlink (R357, R358, R360). With the latch no stage holds on: an enabled one by its
CLEAR_FAULT, a disabled one with it. -/
def Endpoint.downlink (e : Endpoint) (port : Side) (f : LinkFrame) : Endpoint :=
  let b := f.payload
  let seq := fieldAt b 0 4
  if !(f.fcsGood && f.etherType == carLinkType && b.length == 120 && crc16 (b.take 118) == fieldAt b 118 2) then e
  else if e.started && seq == e.lastSeq then
    if dupForm b = dupForm e.last then e else { e with dupMismatch := true, dupCount := e.dupCount + 1 }
  else if e.started && !seqAdvances seq e.lastSeq then e
  else
    let user := bit (byteAt b 4) 2
    let stages := Vector.ofFn fun (i : Fin 4) => e.stages[i.val].command e.lossLatched ((b.drop (8 + 8 * i.val)).take 8)
    let latched := e.lossLatched && stages.toList.any fun x => x.enabled && x.lossHeld
    { e with
      started := true, lastSeq := seq, last := b, car := byteAt b 5, got := true, port1Used := port == 1,
      stages := if latched then stages else stages.map fun x => { x with lossHeld := false },
      lossLatched := latched, outputs := if user then BitVec.ofNat 32 (fieldAt b 40 4) else e.outputs,
      buzzer := bit (byteAt b 14) 2 || bit (byteAt b 30) 2, sampleAt := fieldAt b 6 2, lossRampMs := fieldAt b 104 2 }

/-- ENDPOINT_DOWNLINK (R357). -/
def execEndpointDownlink (link : CarId) (port : Side) (f : LinkFrame) (_ : Nat) (s : State) : Host.Outcome State Fault Refusal :=
  .next (s.within [.ends] (s.modEnd link fun e => e.downlink port f))

/-- Exchange periods in LOSS_RAMP_MS (R359). -/
def Endpoint.rampPeriods (e : Endpoint) : Nat := e.lossRampMs * 4

/-- The loss latch (R359): every stage that follows the link begins its ramp down, outputs and buzzer go off. A stage that
an earlier loss still holds goes on with its own ramp. -/
def Endpoint.latchLoss (e : Endpoint) : Endpoint :=
  { e with lossLatched := true, outputs := 0, buzzer := false,
           stages := e.stages.map fun x => if x.lossHeld then x else { x with lossHeld := true, rampFor := e.rampPeriods, rampAt := 0 } }

/-- The fourth period without an accepted downlink ends at the next sample instant (R359). -/
def Endpoint.lossDue (e : Endpoint) : Bool :=
  e.started && !e.got && (e.missed == 3 || (decide (3 < e.missed) && !e.lossLatched))

/-- ENDPOINT_LOSS_LATCH (R359). -/
def execEndpointLossLatch (link : CarId) (s : State) : Host.Outcome State Fault Refusal :=
  .next (s.within [.ends] (s.modEnd link fun e => if e.lossDue then e.latchLoss else e))

/-- Every stage goes to ENABLE 0 (R359). -/
def Endpoint.disable (e : Endpoint) : Endpoint := { e with stages := e.stages.map fun x => { x with enabled := false, current := 0, rate := 0 } }

/-- 4 periods and 1 s have passed without an accepted downlink at the next sample instant (R359). -/
def Endpoint.disableDue (e : Endpoint) : Bool := e.started && !e.got && decide (4003 ≤ e.missed)

/-- ENDPOINT_DISABLE (R359). -/
def execEndpointDisable (link : CarId) (s : State) : Host.Outcome State Fault Refusal :=
  .next (s.within [.ends] (s.modEnd link fun e => if e.disableDue then e.disable else e))

/-- One period of a stage (R359): a held stage ramps its rate linearly to zero, others run on without a downlink. -/
def Stage.period (missed : Nat) (x : Stage) : Stage :=
  if !x.enabled then x
  else if x.lossHeld then
    if x.rampAt < x.rampFor then
      { x with angle := x.angle + x.rate * (2 * (x.rampFor - x.rampAt : Nat) - 1 : Int) / (2 * x.rampFor : Nat), rampAt := x.rampAt + 1 }
    else x
  else if 0 < missed then { x with angle := x.angle + x.rate }
  else x

/-- A stage detects overcurrent, overtemperature or undervoltage (R220): its current goes to 0 and the cause is
latched. -/
def Stage.trip (cause : Fin 3) (x : Stage) : Stage :=
  let x := { x with current := 0 }
  match cause with
  | 0 => { x with overcurrent := true }
  | 1 => { x with overtemp := true }
  | 2 => { x with undervolt := true }

/-- POWER_STAGE_FAULT (R220). -/
def execPowerStageFault (link : CarId) (stage : Fin 4) (cause : Fin 3) (s : State) : Host.Outcome State Fault Refusal :=
  .next (s.within [.ends] (s.modEnd link fun e => e.modStage stage (Stage.trip cause)))

/-- A stage latches the causes of its report, and its current goes to 0 (R220, R221). -/
def Stage.latch (r : List Byte) (x : Stage) : Stage :=
  let st := byteAt r 10
  { x with current := if bit st 1 || bit st 2 || bit st 3 then 0 else x.current, overcurrent := x.overcurrent || bit st 1, overtemp := x.overtemp || bit st 2, undervolt := x.undervolt || bit st 3,
           fault := x.fault || bit st 5 }

/-- STATUS of a stage's report (R221). -/
def Stage.status (x : Stage) (encValid : Bool) : Nat :=
  flagBit x.enabled 0 + flagBit x.overcurrent 1 + flagBit x.overtemp 2 + flagBit x.undervolt 3 + flagBit encValid 4 + flagBit x.fault 5

/-- A stage's 16-byte report from what it measured (R221). -/
def Stage.report (x : Stage) (r : List Byte) : List Byte :=
  (padTo 16 r).take 10 ++ [byte (x.status (bit (byteAt r 10) 4))] ++ (padTo 16 r).drop 11

/-- The uplink of a sample (R355). -/
def Endpoint.uplinkBytes (e : Endpoint) (x : EndpointIn) : List Byte :=
  let health := flagBit x.ready 0 + flagBit e.lossLatched 1 + flagBit x.accelValid 2 + flagBit e.dupMismatch 3 + flagBit e.port1Used 4
  let axes := (List.finRange 4).flatMap fun i => match x.axes[i.val]? with
    | some r => e.stages[i.val].report r
    | none => zeros 16
  let h := leBytes 4 e.lastSeq ++ leBytes 4 e.upSeq ++ [byte health, byte x.ports] ++ leBytes 2 x.downToUp ++ leBytes 2 x.vSupply
    ++ [byte x.temp, byte e.car] ++ axes ++ leBytes 4 x.inputs.toNat ++ padTo 6 x.accel ++ zeros 2 ++ padTo 84 x.user ++ zeros 2
  h ++ leBytes 2 (crc16 h)

/-- A sample instant (R358, R359): the missed periods are counted and act, then the uplink leaves. -/
def Endpoint.sample (e : Endpoint) (x : EndpointIn) : Endpoint :=
  if !e.started then e
  else
    let e := if e.lossDue then e.latchLoss else e
    let e := if e.disableDue then e.disable else e
    let missed := if e.got then 0 else min 65535 (e.missed + 1)
    let stages := Vector.ofFn fun (i : Fin 4) =>
      let y := e.stages[i.val].period missed
      match x.axes[i.val]? with
      | some r => y.latch r
      | none => y
    let e := { e with got := false, missed := missed, stages := stages, upSeq := (e.upSeq + 1) % 2 ^ 32 }
    { e with uplink := e.uplinkBytes x, dupMismatch := false }

/-- ENDPOINT_SAMPLE (R358). -/
def execEndpointSample (link : CarId) (x : EndpointIn) (s : State) : Host.Outcome State Fault Refusal :=
  .next (s.within [.ends] (s.modEnd link fun e => e.sample x))

end Sys2Proof.Machine
end

