-- ==== Sys2Proof/Machine/Flags.lean ====
section
/-! DEFINITION. The engine status register and every flag computation (R377, R389–R392). -/

namespace Sys2Proof.Machine

/-- ST fields (R377). -/
def stZ (st : BitVec 16) : Bool := st.getLsbD 0
def stN (st : BitVec 16) : Bool := st.getLsbD 1
def stC (st : BitVec 16) : Bool := st.getLsbD 2
def stV (st : BitVec 16) : Bool := st.getLsbD 3
def stOv (st : BitVec 16) : Bool := st.getLsbD 4
def stSat (st : BitVec 16) : Bool := st.getLsbD 5
def stFrac (st : BitVec 16) : Bool := st.getLsbD 6
def stRnd (st : BitVec 16) : Bool := st.getLsbD 7

/-- Replace bit `i` of a status word. -/
def stPut (st : BitVec 16) (i : Nat) (b : Bool) : BitVec 16 :=
  if b then st ||| (1#16 <<< i) else st &&& ~~~(1#16 <<< i)

/-- ST with Z, N, C, V replaced. -/
def stFlags (st : BitVec 16) (z n c v : Bool) : BitVec 16 :=
  stPut (stPut (stPut (stPut st 0 z) 1 n) 2 c) 3 v

/-- A write of ST by MOVS: RF and LVL are read-only and bits [15:11] reserved (R377). -/
def stWrite (old v : BitVec 16) : BitVec 16 := (v &&& 0x04FF#16) ||| (old &&& 0x0300#16)

/-- Whether a condition holds (R388); none for the reserved codes 11–15. -/
def condHolds (st : BitVec 16) (c : Fin 16) : Option Bool :=
  match c.val with
  | 0 => some true
  | 1 => some (stZ st)
  | 2 => some (!stZ st)
  | 3 => some (stN st != stV st)
  | 4 => some (stN st == stV st)
  | 5 => some (!stZ st && (stN st == stV st))
  | 6 => some (stZ st || (stN st != stV st))
  | 7 => some (stC st)
  | 8 => some (!stC st)
  | 9 => some (stV st)
  | 10 => some (stOv st)
  | _ => none

/-- A 32-bit ALU result with its flags Z, N, C, V. -/
structure AluRes where
  val : BitVec 32
  z   : Bool
  n   : Bool
  c   : Bool
  v   : Bool
  deriving DecidableEq, Repr

/-- The result of a signed sum: wrapped, or with SAT saturated when it overflows (R377). -/
def satWrap (sat : Bool) (exact : Int) : BitVec 32 :=
  if sat then BitVec.ofInt 32 (clampInt (-2147483648) 2147483647 exact) else BitVec.ofInt 32 exact

/-- The exact value overflows 32 signed bits. -/
def overflow32 (exact : Int) : Bool := decide (exact < -2147483648) || decide (2147483647 < exact)

/-- Flags of a value and its carry and overflow. -/
def aluRes (v : BitVec 32) (c ov : Bool) : AluRes := ⟨v, v == 0, v.msb, c, ov⟩

/-- GA op GB with Z, N, C, V (R389); a logical result has no carry and no overflow. -/
def aluOp (sat : Bool) (op : Alu) (a b : BitVec 32) : AluRes :=
  match op with
  | .add => aluRes (satWrap sat (a.toInt + b.toInt)) (decide (2 ^ 32 ≤ a.toNat + b.toNat)) (overflow32 (a.toInt + b.toInt))
  | .sub => aluRes (satWrap sat (a.toInt - b.toInt)) (decide (b.toNat ≤ a.toNat)) (overflow32 (a.toInt - b.toInt))
  | .and => aluRes (a &&& b) false false
  | .or => aluRes (a ||| b) false false
  | .xor => aluRes (a ^^^ b) false false

/-- GA shifted by SHAMT (R389). -/
def shiftOp (op : Shift) (a : BitVec 32) (n : Nat) : BitVec 32 :=
  match op with
  | .asr => a.sshiftRight n
  | .lsr => a >>> n
  | .shl => a <<< n

/-- Leading bits equal to the sign bit, minus 1, of a `w`-bit value: the headroom of R379 and of CLSA. -/
def headroomGo (w : Nat) (x : BitVec w) : Nat → Nat
  | 0 => w - 1
  | k + 1 => if x.getLsbD k = x.msb then headroomGo w x k else w - 1 - (k + 1)

/-- h(w) of R379 for 16 bits, the CLSA figure of R389 for 40. -/
def headroom (w : Nat) (x : BitVec w) : Nat := headroomGo w x (w - 1)

/-- Fit an exact accumulator result to 40 bits, and whether OV is set (R391). -/
def fit40 (sat : Bool) (v : Int) : BitVec 40 × Bool :=
  let lost := decide (v < -549755813888) || decide (549755813887 < v)
  if sat then (BitVec.ofInt 40 (clampInt (-549755813888) 549755813887 v), lost) else (BitVec.ofInt 40 v, lost)

/-- The product of two low halves, and whether OV is set (R390). -/
def product (frac : Bool) (gm gn : BitVec 32) : Int × Bool :=
  let p := (gm.setWidth 16).toInt * (gn.setWidth 16).toInt
  if frac then (if p = 1073741824 then (2147483647, true) else (2 * p, false)) else (p, false)

/-- The word of SAC and SACG, and whether OV is set (R392). -/
def sacWord (st : BitVec 16) (a : BitVec 40) (shift : Nat) : BitVec 16 × Bool :=
  let r := if stRnd st && decide (0 < shift) then a.toInt + 2 ^ (shift - 1) else a.toInt
  let q := r / 2 ^ shift
  let lost := decide (q < -32768) || decide (32767 < q)
  if lost && stSat st then (BitVec.ofInt 16 (clampInt (-32768) 32767 q), true) else (BitVec.ofInt 16 q, lost)

end Sys2Proof.Machine
end

