-- ==== Sys2Proof/Machine/Engine.lean ====
section
/-! DEFINITION. A signal engine issues one instruction (R374–R394): register access, addressing, the pipeline's
visibility, delay slots and REP. Kernel faults are the codes of R400. -/

namespace Sys2Proof.Machine

/-- Faults that an instruction can raise (R400). -/
def faultIllegal : Nat := 4
def faultMemory : Nat := 5
def faultStack : Nat := 6
def faultRep : Nat := 7

/-- The regions of the running kernel as its image declares them; none for vendor code (R375). -/
abbrev Regions := Option KernelHeader

/-- The register bank in use (R382). -/
def Engine.bank (e : Engine) : RegBank := if e.interrupt then e.shadow else e.main

/-- Replace a register bank. -/
def Engine.setBank (e : Engine) (shadow : Bool) (b : RegBank) : Engine :=
  if shadow then { e with shadow := b } else { e with main := b }

/-- The bank named. -/
def Engine.bankOf (e : Engine) (shadow : Bool) : RegBank := if shadow then e.shadow else e.main

/-- A general register as it reads now. -/
def Engine.readG (e : Engine) (r : GReg) : BitVec 32 :=
  if h : r.val < 8 then e.bank.g[r.val] else e.gHi[r.val - 8]

/-- A pointer as it reads now. -/
def Engine.readP (e : Engine) (r : Fin 4) : BitVec 14 :=
  if h : r.val < 2 then e.bank.p[r.val] else e.pHi[r.val - 2]

/-- A register write becomes visible (R386). -/
def PipeWrite.apply (w : PipeWrite) (e : Engine) : Engine :=
  match w with
  | .g sh r v =>
    if h : r.val < 8 then e.setBank sh { e.bankOf sh with g := (e.bankOf sh).g.set r.val v }
    else { e with gHi := e.gHi.set (r.val - 8) v }
  | .p sh r v =>
    if h : r.val < 2 then e.setBank sh { e.bankOf sh with p := (e.bankOf sh).p.set r.val v }
    else { e with pHi := e.pHi.set (r.val - 2) v }
  | .m r v => { e with m := e.m.set r.val (v &&& 0x7FFFFFFF#32) }
  | .acc sh r v => e.setBank sh { e.bankOf sh with a := (e.bankOf sh).a.set r.val v }
  | .st sh v => e.setBank sh { e.bankOf sh with st := stWrite (e.bankOf sh).st v }
  | .flags sh z n c v => e.setBank sh { e.bankOf sh with st := stFlags (e.bankOf sh).st z n c v }
  | .setZ sh z => e.setBank sh { e.bankOf sh with st := stPut (e.bankOf sh).st 0 z }
  | .setOv sh => e.setBank sh { e.bankOf sh with st := stPut (e.bankOf sh).st 4 true }
  | .rf sh full => e.setBank sh { e.bankOf sh with st := stPut (e.bankOf sh).st 8 full }
  | .bexp v => { e with bexp := v }
  | .bexpMin v => if v < e.bexp.toNat then { e with bexp := BitVec.ofNat 4 v } else e

/-- One issue passes: writes whose time has come become visible in issue order. -/
def Engine.tick (e : Engine) : Engine :=
  let due := e.pipe.filter (·.1 = 0)
  let rest := (e.pipe.filter (·.1 ≠ 0)).map fun x => (x.1 - 1, x.2)
  due.foldl (fun e x => x.2.apply e) { e with pipe := rest }

/-- Queue a write: `d` issues pass before the first instruction that sees it, the next one at 0 (R386). -/
def Engine.push (e : Engine) (d : Nat) (w : PipeWrite) : Engine := { e with pipe := e.pipe ++ [(d, w)] }

/-- An address lies inside the running kernel's own data region (R375). -/
def inRegion (r : Regions) (spaceY : Bool) (a : Nat) : Bool :=
  match r with
  | none => true
  | some h =>
    if spaceY then decide (h.yBase ≤ a) && decide (a < h.yBase + h.yWords)
    else decide (h.xBase ≤ a) && decide (a < h.xBase + h.xWords)

/-- A branch target lies inside the running kernel's program region (R375). -/
def inProg (r : Regions) (a : Nat) : Bool :=
  match r with
  | none => true
  | some h => decide (h.progBase ≤ a) && decide (a < h.progBase + h.progWords)

/-- Read one data word, or MEMORY (R375). -/
def Engine.readWord (e : Engine) (r : Regions) (spaceY : Bool) (a : Nat) : Except Nat (BitVec 16) :=
  if inRegion r spaceY (a % 16384) then
    .ok (BitVec.ofNat 16 (Mem.get 0 (if spaceY then e.y else e.x) (a % 16384)))
  else .error faultMemory

/-- Write one data word, or MEMORY (R375). -/
def Engine.writeWord (e : Engine) (r : Regions) (spaceY : Bool) (a : Nat) (w : BitVec 16) : Except Nat Engine :=
  if inRegion r spaceY (a % 16384) then
    .ok (if spaceY then { e with y := Mem.set 0 e.y (a % 16384) w.toNat } else { e with x := Mem.set 0 e.x (a % 16384) w.toNat })
  else .error faultMemory

/-- The smallest exponent with 2^b at or above `n`, searched from `b`. -/
def log2Up : Nat → Nat → Nat → Nat
  | 0, b, _ => b
  | k + 1, b, n => if n ≤ 2 ^ b then b else log2Up k (b + 1) n

/-- The low `b` bits of a number in reverse order. -/
def revBits : Nat → Nat → Nat
  | 0, _ => 0
  | b + 1, v => (v % 2) * 2 ^ b + revBits b (v / 2)

/-- A pointer after post-modify by its modifier, or ILLEGAL (R381). -/
def postModify (p : BitVec 14) (m : BitVec 32) : Except Nat (BitVec 14) :=
  let step := (m.setWidth 16).toInt
  let len := (m.extractLsb' 16 14).toNat
  if m.getLsbD 30 then
    let s := (m.setWidth 16).toNat
    let b := log2Up 14 0 s + 1
    if len = 0 ∧ 1 ≤ s ∧ s ≤ 8192 ∧ 2 * s = 2 ^ b then
      .ok (BitVec.ofNat 14 (p.toNat / 2 ^ b * 2 ^ b + revBits b ((revBits b (p.toNat % 2 ^ b) + 1) % 2 ^ b)))
    else .error faultIllegal
  else if len = 0 then .ok (BitVec.ofInt 14 (p.toNat + step))
  else
    let b := log2Up 14 0 len
    let base := p.toNat / 2 ^ b * 2 ^ b
    let o := (p.toNat % 2 ^ b : Nat) + step
    let o' := if (len : Int) ≤ o then o - len else if o < 0 then o + len else o
    .ok (BitVec.ofInt 14 (base + o'.emod (2 ^ b)))

/-- The effective address and the pointer's new value of formats M and A (R380); `addr` is ADDR[13:0] and `off` the
signed ADDR[7:0]. -/
def effAddr (e : Engine) (mode : Fin 8) (p : Fin 4) (addr : Nat) (off : Int) : Except Nat (Nat × Option (BitVec 14)) :=
  let pv := e.readP p
  match mode.val with
  | 0 => .ok (addr, none)
  | 1 => .ok (pv.toNat, none)
  | 2 => .ok (pv.toNat, some (pv + 1))
  | 3 => .ok (pv.toNat, some (pv - 1))
  | 4 => (postModify pv e.m[p.val]).map fun q => (pv.toNat, some q)
  | 5 => .ok ((BitVec.ofInt 14 (pv.toNat + off)).toNat, none)
  | _ => .error faultIllegal

/-- Queue the pointer write of an addressing mode. -/
def Engine.pushP (e : Engine) (p : Fin 4) (q : Option (BitVec 14)) : Engine :=
  match q with
  | none => e
  | some v => e.push 0 (.p e.interrupt p v)

/-- Queue an ALU result and its flags (R386, R389). -/
def Engine.pushAlu (e : Engine) (gd : Option GReg) (r : AluRes) : Engine :=
  let e := e.push 0 (.flags e.interrupt r.z r.n r.c r.v)
  match gd with
  | none => e
  | some g => e.push 0 (.g e.interrupt g r.val)

/-- Write an accumulator: forwarded to the next accumulate, visible to readers at the third issue (R386). -/
def Engine.pushAcc (e : Engine) (a : Fin 2) (v : BitVec 40) (ov : Bool) : Engine :=
  let b := { e.bank with fwd := e.bank.fwd.set a.val v }
  let e := (e.setBank e.interrupt b).push 2 (.acc e.interrupt a v)
  if ov then e.push 0 (.setOv e.interrupt) else e

/-- One parallel load of format D (R388): the pointer, its mode, the destination. -/
def dLoad (r : Regions) (spaceY : Bool) (p : Fin 4) (mode : Fin 4) (dst : GReg) (e : Engine) : Except Nat Engine :=
  let pv := e.readP p
  match mode.val with
  | 0 => .ok e
  | m => do
    let q ← if m = 1 then .ok none else if m = 2 then .ok (some (pv + 1)) else (postModify pv e.m[p.val]).map some
    let w ← e.readWord r spaceY pv.toNat
    pure ((e.push 1 (.g e.interrupt dst (w.signExtend 32))).pushP p q)

/-- The parallel loads of format D. -/
def dLoads (r : Regions) (f : DForm) (e : Engine) : Except Nat Engine := do
  let e ← dLoad r false ⟨f.xp.val, by omega⟩ f.xmode ⟨f.xdst.val, by omega⟩ e
  dLoad r true ⟨f.yp.val + 2, by omega⟩ f.ymode ⟨f.ydst.val + 4, by omega⟩ e

/-- A format D accumulate: the exact new value from the product and the forwarded accumulator (R389–R391). -/
def dAcc (r : Regions) (f : DForm) (e : Engine) (comb : Int → Int → Int) : Except Nat Engine :=
  let st := e.bank.st
  let (p, ov) := product (stFrac st) (e.readG f.gm) (e.readG f.gn)
  let (v, ov') := fit40 (stSat st) (comb (e.bank.fwd[f.a.val]).toInt p)
  dLoads r f (e.pushAcc f.a v (ov || ov'))

/-- A format A accumulate from a shifted G register (R389, R391). -/
def aAcc (f : AForm) (e : Engine) (comb : Int → Int → Int) : Engine :=
  let (v, ov) := fit40 (stSat e.bank.st) (comb (e.bank.fwd[f.a.val]).toInt ((e.readG f.g).toInt * 2 ^ f.shift.val))
  e.pushAcc f.a v ov

/-- A special register as MOVS reads it (R388), none for the reserved codes. -/
def readSreg (e : Engine) (s : Fin 16) : Option (BitVec 32) :=
  match s.val with
  | 0 => some ((e.readP 0).setWidth 32)
  | 1 => some ((e.readP 1).setWidth 32)
  | 2 => some ((e.readP 2).setWidth 32)
  | 3 => some ((e.readP 3).setWidth 32)
  | 4 => some e.m[0]
  | 5 => some e.m[1]
  | 6 => some e.m[2]
  | 7 => some e.m[3]
  | 8 => some ((stPut e.bank.st 9 e.interrupt).setWidth 32)
  | 9 => some (e.bexp.setWidth 32)
  | 10 => some (e.bank.a[0].setWidth 32)
  | 11 => some ((e.bank.a[0].extractLsb' 32 8).setWidth 32)
  | 12 => some (e.bank.a[1].setWidth 32)
  | 13 => some ((e.bank.a[1].extractLsb' 32 8).setWidth 32)
  | _ => none

/-- Write accumulator `a` by MOVS: the low word sign-extends into the guard bits, the high byte replaces them. -/
def movsAcc (e : Engine) (a : Fin 2) (v : BitVec 32) (hi : Bool) : Engine :=
  let old := e.bank.fwd[a.val]
  let nv : BitVec 40 := if hi then (v.setWidth 8) ++ (old.setWidth 32) else v.signExtend 40
  (e.setBank e.interrupt { e.bank with fwd := e.bank.fwd.set a.val nv }).push 1 (.acc e.interrupt a nv)

/-- A special register written by MOVS (R386, R388), none for the reserved codes. -/
def writeSreg (e : Engine) (s : Fin 16) (v : BitVec 32) : Option Engine :=
  match s.val with
  | 0 => some (e.push 1 (.p e.interrupt 0 (v.setWidth 14)))
  | 1 => some (e.push 1 (.p e.interrupt 1 (v.setWidth 14)))
  | 2 => some (e.push 1 (.p e.interrupt 2 (v.setWidth 14)))
  | 3 => some (e.push 1 (.p e.interrupt 3 (v.setWidth 14)))
  | 4 => some (e.push 1 (.m 0 v))
  | 5 => some (e.push 1 (.m 1 v))
  | 6 => some (e.push 1 (.m 2 v))
  | 7 => some (e.push 1 (.m 3 v))
  | 8 => some (e.push 1 (.st e.interrupt (v.setWidth 16)))
  | 9 => some (e.push 1 (.bexp (v.setWidth 4)))
  | 10 => some (movsAcc e 0 v false)
  | 11 => some (movsAcc e 0 v true)
  | 12 => some (movsAcc e 1 v false)
  | 13 => some (movsAcc e 1 v true)
  | _ => none

/-- Store a word, lowering BEXP with BX (R379, R389, R392). -/
def storeWord (r : Regions) (spaceY bx : Bool) (a : Nat) (w : BitVec 16) (e : Engine) : Except Nat Engine := do
  let e ← e.writeWord r spaceY a w
  pure (if bx then e.push 1 (.bexpMin (headroom 16 w)) else e)

/-- Bytes as little-endian 16-bit words. -/
def wordsOf : List Byte → List (BitVec 16)
  | a :: b :: r => (b ++ a) :: wordsOf r
  | [a] => [a.setWidth 16]
  | [] => []

/-- Write words from an address on. -/
def writeWords (r : Regions) : List (BitVec 16) → Nat → Engine → Except Nat Engine
  | [], _, e => .ok e
  | w :: ws, a, e => do
    let e ← e.writeWord r true a w
    writeWords r ws (a + 1) e

/-- Read `n` words from an address on. -/
def readWords (r : Regions) (e : Engine) : Nat → Nat → Except Nat (List (BitVec 16))
  | 0, _ => .ok []
  | n + 1, a => do
    let w ← e.readWord r true a
    let ws ← readWords r e n (a + 1)
    pure (w :: ws)

/-- What an issue asks of the machine around the engine. -/
inductive EngEvent
  | none
  /-- END, YIELD or the end of a handler -/
  | kend
  | yield
  | reti
  /-- RGET consumed a slot -/
  | rget
  /-- RPUT posts these bytes -/
  | rput (bytes : List Byte)
  /-- RPUT found the ring full -/
  | rputFull
  deriving DecidableEq, Repr, Inhabited

/-- The rings an engine's kernel sees: the next input slot, and the bytes its output ring can take. -/
structure EngRings where
  inSlot  : Option (List Byte) := none
  outRoom : Nat := 0
  deriving DecidableEq, Repr, Inhabited

/-- Whether an instruction is B-format (R388). -/
def EInstr.isFlow : EInstr → Bool
  | .b .. | .call .. | .ret | .reti | .repImm .. | .repG .. | .kend | .yield | .nop | .rget .. | .rput .. => true
  | _ => false

/-- A taken or not taken branch: sets what follows the delay slot (R387). -/
def branch (r : Regions) (taken : Bool) (target : Nat) (e : Engine) : Except Nat Engine :=
  if taken then
    if inProg r (target % 16384) then .ok { e with delayed := some (.jump (target % 16384)) } else .error faultMemory
  else .ok { e with delayed := some .notTaken }

/-- The PC-relative target of a branch (R389): IMM words from the branch's own address. -/
def relTarget (e : Engine) (imm : BitVec 16) : Nat := ((e.pc : Int) + imm.toInt).emod 16384 |>.toNat

/-- A repeat count is set for the next instruction, or REP_COUNT (R393). -/
def setRep (n : Nat) (e : Engine) : Except Nat Engine :=
  if 1 ≤ n ∧ n ≤ 4096 then .ok { e with rep := some n } else .error faultRep

/-- The operation of one instruction (R389), the flow of control and the pipeline apart. -/
def engOp (r : Regions) (rings : EngRings) (i : EInstr) (e : Engine) : Except Nat (Engine × EngEvent) :=
  let sat := stSat e.bank.st
  match i with
  | .alu op gd ga gb => .ok (e.pushAlu (some gd) (aluOp sat op (e.readG ga) (e.readG gb)), .none)
  | .shift op gd ga n => .ok (e.push 0 (.g e.interrupt gd (shiftOp op (e.readG ga) n.val)), .none)
  | .cmp ga gb => .ok (e.pushAlu none (aluOp sat .sub (e.readG ga) (e.readG gb)), .none)
  | .abs gd ga => .ok (e.push 0 (.g e.interrupt gd (satWrap sat ((e.readG ga).toInt.natAbs : Int))), .none)
  | .neg gd ga => .ok (e.push 0 (.g e.interrupt gd (satWrap sat (-(e.readG ga).toInt))), .none)
  | .mov gd ga => .ok (e.push 0 (.g e.interrupt gd (e.readG ga)), .none)
  | .movsR gd s =>
    match readSreg e s with
    | some v => .ok (e.push 1 (.g e.interrupt gd v), .none)
    | none => .error faultIllegal
  | .movsW s ga =>
    match writeSreg e s (e.readG ga) with
    | some e => .ok (e, .none)
    | none => .error faultIllegal
  | .clsa gd ga =>
    let a := e.bank.a[((e.readG ga).getLsbD 0).toNat]'(by cases (e.readG ga).getLsbD 0 <;> decide)
    .ok ((e.push 0 (.g e.interrupt gd (BitVec.ofNat 32 (headroom 40 a)))).push 0 (.setZ e.interrupt (a == 0)), .none)
  | .addi gd imm => .ok (e.pushAlu (some gd) (aluOp sat .add (e.readG gd) (imm.signExtend 32)), .none)
  | .movi gd imm => .ok (e.push 0 (.g e.interrupt gd (imm.signExtend 32)), .none)
  | .movhi gd imm => .ok (e.push 0 (.g e.interrupt gd (imm ++ (e.readG gd).setWidth 16)), .none)
  | .andi gd imm => .ok (e.pushAlu (some gd) (aluOp sat .and (e.readG gd) (imm.setWidth 32)), .none)
  | .cmpi gd imm => .ok (e.pushAlu none (aluOp sat .sub (e.readG gd) (imm.signExtend 32)), .none)
  | .ld f => do
    if f.wide && f.bx then .error faultIllegal
    let (a, q) ← effAddr e f.mode f.p (f.addr.setWidth 14).toNat (f.addr.setWidth 8).toInt
    let lo ← e.readWord r f.spaceY a
    let v ← if f.wide then (e.readWord r f.spaceY (a + 1)).map (· ++ lo) else .ok (lo.signExtend 32)
    pure ((e.push 1 (.g e.interrupt f.g v)).pushP f.p q, .none)
  | .st f => do
    if f.wide && f.bx then .error faultIllegal
    let (a, q) ← effAddr e f.mode f.p (f.addr.setWidth 14).toNat (f.addr.setWidth 8).toInt
    let v := e.readG f.g
    if f.wide && !inRegion r f.spaceY ((a + 1) % 16384) then .error faultMemory
    let e ← storeWord r f.spaceY f.bx a (v.setWidth 16) e
    let e ← if f.wide then e.writeWord r f.spaceY (a + 1) (v.extractLsb' 16 16) else .ok e
    pure (e.pushP f.p q, .none)
  | .mpy f => (dAcc r f e fun _ p => p).map (·, .none)
  | .mac f => (dAcc r f e fun a p => a + p).map (·, .none)
  | .msu f => (dAcc r f e fun a p => a - p).map (·, .none)
  | .clra f => (dLoads r f (e.pushAcc f.a 0 false)).map (·, .none)
  | .sac f => do
    let (a, q) ← effAddr e f.mode f.p f.addr.toNat f.addr.toInt
    let (w, ov) := sacWord e.bank.st e.bank.a[f.a.val] f.shift.val
    let e ← storeWord r f.spaceY f.bx a w e
    let e := e.pushP f.p q
    pure (if ov then e.push 0 (.setOv e.interrupt) else e, .none)
  | .sacg f =>
    let (w, ov) := sacWord e.bank.st e.bank.a[f.a.val] f.shift.val
    let e := e.push 0 (.g e.interrupt f.g (w.signExtend 32))
    .ok (if ov then e.push 0 (.setOv e.interrupt) else e, .none)
  | .lda f => .ok (aAcc f e fun _ g => g, .none)
  | .adda f => .ok (aAcc f e fun a g => a + g, .none)
  | .suba f => .ok (aAcc f e fun a g => a - g, .none)
  | .bexpclr => .ok (e.push 1 (.bexp 15), .none)
  | .b c imm =>
    match condHolds e.bank.st c with
    | none => .error faultIllegal
    | some t => (branch r t (relTarget e imm) e).map (·, .none)
  | .call c imm =>
    match condHolds e.bank.st c with
    | none => .error faultIllegal
    | some false => (branch r false 0 e).map (·, .none)
    | some true =>
      if e.stack.length < 8 then
        (branch r true (relTarget e imm) { e with stack := BitVec.ofNat 14 (e.pc + 2) :: e.stack }).map (·, .none)
      else .error faultStack
  | .ret =>
    match e.stack with
    | [] => .error faultStack
    | t :: rest => (branch r true t.toNat { e with stack := rest }).map (·, .none)
  | .reti => .ok ({ e with delayed := some .reti }, .none)
  | .repImm imm => (setRep ((imm.setWidth 12).toNat + 1) e).map (·, .none)
  | .repG g => (setRep (e.readG g).toNat e).map (·, .none)
  | .kend => .ok (e, .kend)
  | .yield => .ok (e, .yield)
  | .nop => .ok (e, .none)
  | .rget g =>
    let p : Fin 4 := ⟨g.val % 4, by omega⟩
    match e.ctx with
    | .frame _ => .error faultIllegal
    | _ =>
      match rings.inSlot with
      | none => .ok (e.push 0 (.g e.interrupt g 0), .none)
      | some bytes => do
        let e ← writeWords r (wordsOf bytes) (e.readP p).toNat e
        pure (e.push 0 (.g e.interrupt g (BitVec.ofNat 32 bytes.length)), .rget)
  | .rput g =>
    let p : Fin 4 := ⟨g.val % 4, by omega⟩
    let n := (e.readG g).toNat
    if n ≤ rings.outRoom ∧ 0 < rings.outRoom then do
      let ws ← readWords r e ((n + 1) / 2) (e.readP p).toNat
      pure (e.push 0 (.rf e.interrupt false), .rput ((ws.flatMap fun w => [w.setWidth 8, w.extractLsb' 8 8]).take n))
    else .ok (e.push 0 (.rf e.interrupt true), .rputFull)

/-- Cycles of an instruction (R389); `n` is the byte length that RGET or RPUT moves. -/
def engCycles (i : EInstr) (n : Nat) : Nat :=
  match i with
  | .rget _ | .rput _ => 2 + ((n + 1) / 2 + 1) / 2
  | _ => 1

/-- The bytes a ring instruction moves. -/
def movedBytes (ev : EngEvent) (rings : EngRings) : Nat :=
  match ev with
  | .rget => (rings.inSlot.getD []).length
  | .rput b => b.length
  | _ => 0

/-- Where the program counter stands after an issue: a repetition stays, a delay slot ends in its target (R387, R393). -/
def advance (slot : Option Delayed) (rep : Option Nat) (e : Engine) : Engine :=
  match rep with
  | some (n + 2) => { e with rep := some (n + 1) }
  | _ =>
    let e := if rep.isSome then { e with rep := none } else e
    match slot with
    | some (.jump t) => { e with pc := t, delayed := none }
    | some _ => { e with pc := (e.pc + 1) % 16384, delayed := none }
    | none => { e with pc := (e.pc + 1) % 16384 }

/-- Issue one instruction: a fault code, or the engine after it and what it asks of the machine. -/
def engIssue (r : Regions) (rings : EngRings) (i : EInstr) (e : Engine) : Except Nat (Engine × EngEvent) :=
  if i.isFlow && (e.delayed.isSome || e.rep.isSome) then .error faultIllegal
  else do
    let slot := e.delayed
    let rep := e.rep
    let (e1, ev) ← engOp r rings i e
    let e2 := advance slot rep (Engine.tick e1)
    let e3 := { e2 with cycles := e2.cycles + engCycles i (movedBytes ev rings) }
    pure (e3, match slot with | some .reti => .reti | _ => ev)

end Sys2Proof.Machine
end

