-- ==== Sys2Proof/Machine/EngWord.lean ====
section
/-! DEFINITION. The 32-bit encoding of an engine instruction (R388, R389). -/

namespace Sys2Proof.Machine

/-- A field of an instruction word as a Fin. -/
def wfield (n : Nat) (w : Nat) (lo : Nat) [NeZero n] : Fin n := Fin.ofNat n (w / 2 ^ lo)

/-- Format R. -/
def decodeR (w : Nat) : Option EInstr :=
  let gd := wfield 16 w 20; let ga := wfield 16 w 16; let gb := wfield 16 w 12
  let sreg := wfield 16 w 8; let sh := wfield 32 w 0
  if bits w 7 5 ≠ 0 then none
  else match bits w 28 24 with
  | 0x00 => some (.alu .add gd ga gb)
  | 0x01 => some (.alu .sub gd ga gb)
  | 0x02 => some (.alu .and gd ga gb)
  | 0x03 => some (.alu .or gd ga gb)
  | 0x04 => some (.alu .xor gd ga gb)
  | 0x05 => some (.shift .asr gd ga sh)
  | 0x06 => some (.shift .lsr gd ga sh)
  | 0x07 => some (.shift .shl gd ga sh)
  | 0x08 => some (.cmp ga gb)
  | 0x09 => some (.abs gd ga)
  | 0x0A => some (.neg gd ga)
  | 0x0B => some (.mov gd ga)
  | 0x0C => if sreg.val < 14 then some (.movsR gd sreg) else none
  | 0x0D => if sreg.val < 14 then some (.movsW sreg ga) else none
  | 0x0E => some (.clsa gd ga)
  | _ => none

/-- Format I. -/
def decodeI (w : Nat) : Option EInstr :=
  let gd := wfield 16 w 20; let imm := BitVec.ofNat 16 w
  if bits w 19 16 ≠ 0 then none
  else match bits w 28 24 with
  | 0 => some (.addi gd imm)
  | 1 => some (.movi gd imm)
  | 2 => some (.movhi gd imm)
  | 3 => some (.andi gd imm)
  | 4 => some (.cmpi gd imm)
  | _ => none

/-- Format M: modes 110 and 111 are ILLEGAL (R380). WIDE with BX is ILLEGAL when it executes (R389, R400). -/
def decodeM (w : Nat) : Option EInstr :=
  let f : MForm := { spaceY := bit w 27, wide := bit w 26, bx := bit w 25, g := wfield 16 w 21, p := wfield 4 w 19,
                     mode := wfield 8 w 16, addr := BitVec.ofNat 16 w }
  if f.mode.val ≥ 6 then none
  else some (if bit w 28 then .st f else .ld f)

/-- Format D. -/
def decodeD (w : Nat) : Option EInstr :=
  let f : DForm := { a := wfield 2 w 24, gm := wfield 16 w 20, gn := wfield 16 w 16, xp := wfield 2 w 15,
                     xmode := wfield 4 w 13, xdst := wfield 4 w 11, yp := wfield 2 w 10, ymode := wfield 4 w 8,
                     ydst := wfield 4 w 6 }
  if bits w 5 0 ≠ 0 then none
  else match bits w 28 25 with
  | 0 => some (.mpy f)
  | 1 => some (.mac f)
  | 2 => some (.msu f)
  | 3 => some (.clra f)
  | _ => none

/-- Format A: SAC addresses memory, so its modes 110 and 111 are ILLEGAL (R380). -/
def decodeA (w : Nat) : Option EInstr :=
  let f : AForm := { a := wfield 2 w 24, g := wfield 16 w 20, shift := wfield 32 w 15, bx := bit w 14,
                     spaceY := bit w 13, p := wfield 4 w 11, mode := wfield 8 w 8, addr := BitVec.ofNat 8 w }
  match bits w 28 25 with
  | 0 => if f.mode.val ≥ 6 then none else some (.sac f)
  | 1 => some (.sacg f)
  | 2 => some (.lda f)
  | 3 => some (.adda f)
  | 4 => some (.suba f)
  | 5 => some .bexpclr
  | _ => none

/-- Format B. -/
def decodeB (w : Nat) : Option EInstr :=
  let cond := wfield 16 w 21; let g := wfield 16 w 17; let imm := BitVec.ofNat 16 w
  if bit w 16 then none
  else match bits w 28 25 with
  | 0x0 => if cond.val ≤ 10 then some (.b cond imm) else none
  | 0x1 => if cond.val ≤ 10 then some (.call cond imm) else none
  | 0x2 => some .ret
  | 0x3 => some .reti
  | 0x4 => some (.repImm imm)
  | 0x5 => some (.repG g)
  | 0x6 => some .kend
  | 0x7 => some .yield
  | 0x8 => some .nop
  | 0x9 => some (.rget g)
  | 0xA => some (.rput g)
  | _ => none

/-- The instruction that a program word spells, none where it is ILLEGAL (R388). -/
def decodeEng (w : Nat) : Option EInstr :=
  match bits w 31 29 with
  | 0 => decodeR w
  | 1 => decodeI w
  | 2 => decodeM w
  | 3 => decodeD w
  | 4 => decodeA w
  | 5 => decodeB w
  | _ => none

/-- LONGEST of R394: the largest 1 + n over every REP. -/
def longestRep (ws : List Nat) : Nat :=
  ws.foldl (fun m w =>
    match decodeEng w with
    | some (.repImm imm) => max m (1 + ((imm.setWidth 12).toNat + 1))
    | some (.repG _) => max m 4097
    | _ => m) 0

/-- A REP followed by an instruction that is B-format or not single-cycle breaks R393. -/
def repBroken : List Nat → Bool
  | a :: b :: r =>
    (match decodeEng a with
     | some (.repImm _) | some (.repG _) =>
       (match decodeEng b with
        | some i => i.isFlow
        | none => true)
     | _ => false) || repBroken (b :: r)
  | [a] =>
    match decodeEng a with
    | some (.repImm _) | some (.repG _) => true
    | _ => false
  | [] => false

end Sys2Proof.Machine
end

