-- ==== Sys2Proof/Machine/Ride.lean ====
section
/-! DEFINITION. The background pass of the ride-quality kernel (R403–R405): a 1,024-point radix-2 decimation-in-time
transform under a block exponent, then the power pass. The spec names the steps and neither the vendor's twiddle words nor
its rounding: which neighbour of the exact value a word takes is free (log 334). -/

namespace Sys2Proof.Machine

/-- A complex word pair. -/
abbrev Cx := Int × Int

/-- A quarter turn in units of 2^−40. -/
def quarterTurn : Int := 1727108826179

/-- Eight terms of the series of cosine (`t` = 1, `n` = 0) or sine (`t` = x, `n` = 1) in units of 2^−40. -/
def trigSeries (x : Int) : Nat → Nat → Int → Int
  | 0, _, _ => 0
  | k + 1, n, t => t + trigSeries x k (n + 2) (-(t * x / 2 ^ 40 * x / 2 ^ 40) / ((n + 1) * (n + 2) : Nat))

/-- Cosine and sine of k quarter turns / 256, in units of 2^−40. -/
def turn (k : Nat) : Int × Int :=
  let x := quarterTurn * (k % 256 : Nat) / 256
  let c := trigSeries x 8 0 (2 ^ 40)
  let s := trigSeries x 8 1 x
  match k / 256 % 4 with
  | 0 => (c, s)
  | 1 => (-s, c)
  | 2 => (-c, -s)
  | _ => (s, -c)

/-- The Q15 word of a value in units of 2^−40: the neighbour below, or the one above where it is not exact. -/
def q15 (v : Int) (up : Bool) : Int := clampInt (-32768) 32767 (v / 2 ^ 25 + if up && v % 2 ^ 25 != 0 then 1 else 0)

/-- The twiddle words of e^(−2πj·k/1,024). -/
def twiddle (k : Nat) : Cx :=
  let t := turn k
  (q15 t.1 (Config.twiddleUp (2 * k)), q15 (-t.2) (Config.twiddleUp (2 * k + 1)))

/-- ST of the pass: SAT set (R391), RND as the vendor chose it. -/
def rideSt : BitVec 16 := if Config.rideRounds then 0x00A0#16 else 0x0020#16

/-- A butterfly output word from its exact value in units of 2^−15, at the stage's shift (R392, R404). -/
def rideWord (shift acc : Int) : Int × Bool :=
  let a := fit40 true acc
  let w := sacWord rideSt a.1 (15 - shift).toNat
  (w.1.toInt, a.2 || w.2)

/-- The product of a word pair and twiddle index `i` in units of 2^−15: stages 1 and 2 have the twiddles 1 and −j alone (R406). -/
def twist (stage i : Nat) (b : Cx) : Cx :=
  if stage ≤ 2 then (if i = 0 then (b.1 * 2 ^ 15, b.2 * 2 ^ 15) else (b.2 * 2 ^ 15, -b.1 * 2 ^ 15))
  else
    let w := twiddle i
    (w.1 * b.1 - w.2 * b.2, w.1 * b.2 + w.2 * b.1)

/-- What a pass keeps between its stages (R404): the words, BEXP, E, and OV. -/
structure Pass where
  words : List Cx := []
  bexp  : Nat := 15
  e     : Int := 0
  ov    : Bool := false
  deriving DecidableEq, Repr, Inhabited

/-- BX stores of a list of word pairs (R379): the least headroom of its words. -/
def blockExp (ws : List Cx) : Nat :=
  ws.foldl (fun h w => min h (min (headroom 16 (BitVec.ofInt 16 w.1)) (headroom 16 (BitVec.ofInt 16 w.2)))) 15

/-- One sum or difference of a butterfly at the stage's shift. -/
def rideSum (shift sign : Int) (a t : Cx) : Cx × Bool :=
  let re := rideWord shift (a.1 * 2 ^ 15 + sign * t.1)
  let im := rideWord shift (a.2 * 2 ^ 15 + sign * t.2)
  ((re.1, im.1), re.2 || im.2)

/-- The butterflies of one group of 2^stage points: the sums, then the differences. -/
def rideGroup (stage : Nat) (shift : Int) (g : List Cx) : List (Cx × Bool) :=
  let half := 2 ^ (stage - 1)
  let pairs := ((g.take half).zip (g.drop half)).zipIdx.map fun q => (q.1.1, twist stage (q.2 * (1024 / 2 ^ stage)) q.1.2)
  (pairs.map fun q => rideSum shift 1 q.1 q.2) ++ pairs.map fun q => rideSum shift (-1) q.1 q.2

/-- The groups of `m` points of a list. -/
def groupsOf (m : Nat) : Nat → List Cx → List (List Cx)
  | 0, _ => []
  | n + 1, l => l.take m :: groupsOf m n (l.drop m)

/-- A stage (R404): its shift is BEXP − 2 and leaves E; BEXP begins again at 15. -/
def Pass.stage (p : Pass) (stage : Nat) : Pass :=
  let shift : Int := (p.bexp : Int) - 2
  let out := (groupsOf (2 ^ stage) (1024 / 2 ^ stage) p.words).flatMap (rideGroup stage shift)
  let words := out.map fun q => q.1
  { words := words, bexp := blockExp words, e := p.e - shift, ov := p.ov || out.any fun q => q.2 }

/-- The points of a list at even places, and at odd ones. -/
def everyOther : List Cx → List Cx × List Cx
  | [] => ([], [])
  | a :: l => let q := everyOther l; (a :: q.2, q.1)

/-- Bit-reversed order of 2^n points. -/
def bitReversed : Nat → List Cx → List Cx
  | 0, l => l
  | n + 1, l => let q := everyOther l; bitReversed n q.1 ++ bitReversed n q.2

/-- The load pass (R404): every word is stored with BX in bit-reversed order, E is 0. -/
def Pass.load (xs : List Cx) : Pass :=
  let fit (v : Int) : Int × Bool := (clampInt (-32768) 32767 v, decide (v < -32768) || decide (32767 < v))
  let words := bitReversed 10 (xs.map fun x => ((fit x.1).1, (fit x.2).1))
  { words := words, bexp := blockExp words, e := 0, ov := xs.any fun x => (fit x.1).2 || (fit x.2).2 }

/-- The smallest right shift that brings a power to 32,767 or below (R404), searched from `n` on. -/
def powerShift (m : Nat) : Nat → Nat → Nat
  | 0, n => n
  | k + 1, n => if m / 2 ^ n ≤ 32767 then n else powerShift m k (n + 1)

/-- P = re² + im² of every bin (R404). -/
def Pass.powers (p : Pass) : List Nat := p.words.map fun w => (w.1 * w.1 + w.2 * w.2).toNat

/-- SHIFT of the power pass (R404). -/
def Pass.shift (p : Pass) : Nat := powerShift (p.powers.foldl max 0) 32 0

/-- The ten stages after the load pass (R404). -/
def Pass.run (xs : List Cx) : Pass := (List.range 10).foldl (fun p i => p.stage (i + 1)) (Pass.load xs)

/-- The mean of an axis from its running sum (R403). -/
def rideMean (vs : List Int) : Int := (vs.foldl (· + ·) 0 + (Config.rideMeanBias % 1024 : Nat)) / 1024

/-- The newest 1,024 samples of an axis, oldest first; samples not yet taken read 0. -/
def Ride.axis (r : Ride) (i : Fin 3) : List Int :=
  let vs := (r.samples.take 1024).reverse.map fun q => q.1[i.val]
  List.replicate (1024 - vs.length) 0 ++ vs

/-- The input of a pass (R403): X and Y less their means in an even Octave, Z less its mean in an odd one. -/
def Ride.input (r : Ride) (axis : Fin 2) : List Cx :=
  let level (i : Fin 3) : List Int := let vs := r.axis i; let m := rideMean vs; vs.map fun v => v - m
  if axis = 0 then (level 0).zip (level 1) else (level 2).map fun v => (v, 0)

/-- Gaps of a window (R403); samples not yet taken count as gaps. -/
def Ride.gaps (r : Ride) : Nat := (r.samples.filter fun q => q.2).length + (1024 - r.samples.length)

/-- The spectrum that a pass publishes (R403–R405): POWER is P shifted right by SHIFT, E_P is 2E + SHIFT. -/
def Ride.spectrum (r : Ride) (axis : Fin 2) (frame : Nat) : Spectrum :=
  let p := Pass.run (r.input axis)
  { valid := decide (r.gaps ≤ 16), ov := p.ov, ep := 2 * p.e + p.shift, gaps := r.gaps, frame := frame,
    power := p.powers.map fun v => v / 2 ^ p.shift }

/-- What has yielded becomes readable (R405). -/
def Ride.publish (r : Ride) : Ride :=
  { r with spectra := Vector.ofFn fun i => (r.ready[i.val]).getD r.spectra[i.val], ready := Vector.replicate 2 none }

end Sys2Proof.Machine
end

