-- ==== Sys2Proof/Machine/Kernels.lean ====
section
/-! DEFINITION. The signal engines at work: frame levels, handlers and Octave tasks, the instruction rows, kernel faults,
and the ride-quality passes (R382–R385, R396–R405, R407). An engine runs the words of its program memory; what no row
has issued by the time it is needed runs then by the same operation (log 40). -/

namespace Sys2Proof.Machine

/-- An engine. -/
def State.eng (s : State) (e : EngId) : Engine := s.grp.engines[e.val]

/-- A kernel slot. -/
def State.kernel (s : State) (k : SlotId) : Kernel := s.grp.kernels[k.val]

/-- The slot of a context. -/
def EngCtx.slot : EngCtx → Option SlotId
  | .idle => none
  | .frame k | .ring k | .mbx k | .bg k => some k

/-- The customer slots of an engine, in slot order (R395). -/
def slotIds (e : EngId) : List SlotId := (List.finRange 32).filter fun k => k.val / 8 == e.val

/-- The engine of a slot (R395). -/
def engOf (k : SlotId) : EngId := Fin.ofNat 4 (k.val / 8)

/-- Handlers that a kernel declares (R397, R401). -/
def KernelHeader.hasBg (h : KernelHeader) : Bool := bit h.flags 0
def KernelHeader.hasRing (h : KernelHeader) : Bool := bit h.flags 1
def KernelHeader.hasMbx (h : KernelHeader) : Bool := bit h.flags 2

/-- The regions of what an engine runs (R375). -/
def State.regions (s : State) (g : Engine) : Regions := g.ctx.slot.map fun k => (s.kernel k).hdr

/-- The ring that a kernel's header names, as its use requires (R460). -/
def State.namedRing (s : State) (r : Nat) (u : RingUse) : Option RingId :=
  (finOf 64 r).filter fun q => s.host.rings[q.val].use == u

/-- What the running kernel sees of its rings (R389). -/
def State.ringsOf (s : State) (g : Engine) : EngRings :=
  match g.ctx.slot with
  | none => {}
  | some k =>
    let h := (s.kernel k).hdr
    { inSlot := (s.namedRing h.ringIn .dataIn).bind fun r =>
        let q := s.host.rings[r.val]
        if 0 < q.used then some (q.slotBytes q.cons) else none,
      outRoom := ((s.namedRing h.ringOut .dataOut).map fun r => s.host.rings[r.val].room * s.host.rings[r.val].size).getD 0 }

/-- Every write on its way becomes visible: an entry or an exit takes longer than the pipeline (R382, R386). -/
def Engine.flush (g : Engine) : Engine := g.tick.tick.tick

/-- Entry into a context (R377, R382, R396): its registers are the bank of its level, ST at its reset value. -/
def Engine.enter (g : Engine) (c : EngCtx) (entry : Nat) (interrupt : Bool) : Engine :=
  let g := g.flush
  let b := if interrupt then g.shadow else g.main
  let b : RegBank := { b with st := if interrupt then 0x0600#16 else 0x0400#16 }
  { g.setBank interrupt b with ctx := c, pc := entry, cycles := 0, interrupt := interrupt, delayed := none, rep := none }

/-- The entry address of a context. -/
def State.entryOf (s : State) (c : EngCtx) : Nat :=
  match c with
  | .idle => 0
  | .frame k => (s.kernel k).hdr.entryFrame
  | .ring k => (s.kernel k).hdr.entryRing
  | .mbx k => (s.kernel k).hdr.entryMbx
  | .bg k => (s.kernel k).hdr.entryBg

/-- A slot's contexts leave an engine: it runs no more code, the one under way included. -/
def Engine.purge (g : Engine) (k : SlotId) : Engine :=
  let g := if g.ctx.slot = some k then { g.flush with ctx := .idle, interrupt := false, delayed := none, rep := none } else g
  { g with queue := g.queue.filter fun c => c.slot != some k, bgQueue := g.bgQueue.filter fun c => c.slot != some k,
           bgCtx := if g.bgCtx.slot = some k then .idle else g.bgCtx }

/-- An engine enters a context; a handler for `sig.param` data takes them (R383). -/
def State.enterCtx (s : State) (e : EngId) (c : EngCtx) : State :=
  let interrupt := match c with
    | .frame _ | .ring _ | .mbx _ => true
    | _ => false
  let s := s.modEngine e fun g => g.enter c (s.entryOf c) interrupt
  match c with
  | .mbx k => s.modKernel k fun x => { x with mbx := false }
  | _ => s

/-- RING and MBX may be taken (R377, R383): background, with IE set. -/
def Engine.ie (g : Engine) : Bool := g.main.st.getLsbD 10

/-- Background goes on (R382, R385): the interrupted task, else the next one. -/
def State.toBackground (s : State) (e : EngId) : State :=
  let g := s.eng e
  match g.bgCtx with
  | .bg k =>
    s.modEngine e fun g => { g.flush with ctx := .bg k, pc := g.bgPc, cycles := g.bgCyc, interrupt := false, bgCtx := .idle,
                                          delayed := none, rep := none }
  | _ =>
    match g.bgQueue with
    | c :: rest => (s.modEngine e fun g => { g with bgQueue := rest }).enterCtx e c
    | [] => s.modEngine e fun g => { g.flush with ctx := .idle, interrupt := false, delayed := none, rep := none }

/-- The engine leaves interrupt level or a task: a waiting handler first, else background (R383). -/
def State.resume (s : State) (e : EngId) : State :=
  match (s.eng e).queue with
  | c :: rest => if (s.eng e).ie then (s.modEngine e fun g => { g with queue := rest }).enterCtx e c else s.toBackground e
  | [] => s.toBackground e

/-- The handlers raised after a frame level (R383, R407): RING in slot order, then MBX. -/
def State.handlers (s : State) (e : EngId) : List EngCtx :=
  if s.grp.safeState then []
  else
    let run (k : SlotId) : Bool := (s.kernel k).state == .running && !(s.kernel k).halted
    let filled (k : SlotId) : Bool := match s.namedRing (s.kernel k).hdr.ringIn .dataIn with
      | some r => decide (0 < s.host.rings[r.val].used)
      | none => false
    (((slotIds e).filter fun k => run k && (s.kernel k).hdr.hasRing && filled k).map EngCtx.ring)
      ++ (((slotIds e).filter fun k => run k && (s.kernel k).hdr.hasMbx && (s.kernel k).mbx).map EngCtx.mbx)

/-- The Octave tasks of customer kernels (R385). -/
def State.octaveTasks (s : State) (e : EngId) : List EngCtx :=
  ((slotIds e).filter fun k => (s.kernel k).state == .running && (s.kernel k).hdr.hasBg && !(s.kernel k).halted).map EngCtx.bg

/-- The engine hosts a configured car, whose vendor kernels run on it (R41). -/
def State.hostsCar (s : State) (e : EngId) : Bool := (List.finRange 8).any fun c => c.val % 4 == e.val && (s.car c).configured

/-- Registers that vendor code leaves in a bank: free values, ST from its value at the start of such code (R377, log 3). -/
def State.vendorBank (s : State) (e : EngId) (shadow : Bool) : State :=
  let q := s.drawBytes 47
  let w (i n : Nat) : Nat := fieldAt q.1 i n
  let b (st : BitVec 16) : RegBank :=
    let a : Vector (BitVec 40) 2 := Vector.ofFn fun i => BitVec.ofNat 40 (w (32 + 5 * i.val) 5)
    { g := Vector.ofFn fun i => BitVec.ofNat 32 (w (4 * i.val) 4), a := a, fwd := a,
      p := Vector.ofFn fun i => BitVec.ofNat 14 (w (42 + 2 * i.val) 2), st := st }
  q.2.modEngine e fun g => g.setBank shadow (b (BitVec.ofNat 16 ((if shadow then 0x0600 else 0x0400) + w 46 1)))

/-- Registers of both levels that a vendor background pass leaves (R384): free values (log 3). -/
def State.vendorBackground (s : State) (e : EngId) : State :=
  let s := s.vendorBank e false
  let q := s.drawBytes 53
  let w (i n : Nat) : Nat := fieldAt q.1 i n
  q.2.modEngine e fun g => { g with
    gHi := Vector.ofFn fun i => BitVec.ofNat 32 (w (4 * i.val) 4), pHi := Vector.ofFn fun i => BitVec.ofNat 14 (w (32 + 2 * i.val) 2),
    m := Vector.ofFn fun i => BitVec.ofNat 32 (w (36 + 4 * i.val) 4) &&& 0x7FFFFFFF#32, bexp := BitVec.ofNat 4 (w 52 1) }

/-- The interrupt-level run of a context is over: the next one, or the end of the frame level with its handlers and, at
an Octave start, the background tasks (R383, R385). -/
def State.nextCtx (s : State) (e : EngId) : State :=
  match (s.eng e).queue with
  | .idle :: _ =>
    let s := s.modEngine e fun g => { g with queue := s.handlers e }
    let s := if octaveStart s.grp.frame then
        let s := if s.hostsCar e then s.vendorBackground e else s
        s.modEngine e fun g => { g with bgQueue := s.octaveTasks e }
      else s
    s.resume e
  | .frame k :: rest => (s.modEngine e fun g => { g with queue := rest }).enterCtx e (.frame k)
  | _ => s.resume e

/-- Figures of a context that has ended (R412). -/
def State.ctxOver (s : State) (e : EngId) : State :=
  let g := s.eng e
  match g.ctx with
  | .frame k => s.modKernel k fun x => { x with frameLast := g.cycles, framePeak := max x.framePeak (min g.cycles (2 ^ 32 - 1)) }
  | .bg k => s.modKernel k fun x => { x with bgLast := g.cycles }
  | _ => s

/-- The outputs of a kernel carry or lose FAULT (R399, R400). -/
def State.faultOutputs (s : State) (k : SlotId) (bad : Bool) : State :=
  (s.kernel k).hdr.outputs.foldl (fun s c => if (s.entry c).fault = bad then s else s.modEntry c fun e => { e with fault := bad }) s

/-- A kernel fault (R400): recorded; every one but a CYCLES stop short of STOP_LIMIT suspends the kernel. -/
def State.kernelFault (s : State) (k : SlotId) (code addr : Nat) : State :=
  let x := s.kernel k
  let n := if code = 1 then x.consecStops + 1 else x.consecStops
  let ends := code != 1 || decide (x.hdr.stopLimit ≤ n)
  let s := s.record 0x0B01 0xFF ([byte k.val, byte code] ++ leBytes 2 addr)
  let s := s.modKernel k fun x => { x with
    lastFault := code, consecStops := n, stops := if code = 1 then satInc 32 x.stops else x.stops,
    state := if ends then .suspended else x.state }
  let s := s.faultOutputs k true
  if ends then s.modEngine (engOf k) fun g => g.purge k else s

/-- The running context faults and ends. -/
def State.faultCtx (s : State) (e : EngId) (code : Nat) : State :=
  let g := s.eng e
  match g.ctx.slot with
  | some k => ((s.ctxOver e).kernelFault k code g.pc).nextCtx e
  | none => s

/-- The cycles that the running context may use, and the fault beyond them (R385, R396, R400). -/
def State.ctxLimit (s : State) (g : Engine) : Option (Nat × Nat) :=
  match g.ctx with
  | .idle => none
  | .frame k => some (if (s.kernel k).halted then 0 else (s.kernel k).hdr.frameCycles, 1)
  | .bg k => some ((s.kernel k).hdr.bgCycles, 2)
  | .ring k | .mbx k => some ((s.kernel k).hdr.handlerCycles, 3)

/-- The running context has used its cycles. -/
def State.cyclesOut (s : State) (e : EngId) : Bool :=
  let g := s.eng e
  match s.ctxLimit g with
  | some (n, _) => decide (n ≤ g.cycles)
  | none => false

/-- A context that has used its cycles is stopped (R385, R396, R400). -/
def State.stopCtx (s : State) (e : EngId) : State :=
  match s.ctxLimit (s.eng e) with
  | some (_, code) => s.faultCtx e code
  | none => s

/-- The 32-bit words of a kernel's outputs, with their entries (R399). -/
def State.outputWords (s : State) (k : SlotId) : List (Nat × Nat) :=
  let h := (s.kernel k).hdr
  let y := (s.eng (engOf k)).y
  h.outputs.zipIdx.map fun q => (q.1, Mem.get 0 y ((h.outBase + 2 * q.2) % 16384) + 65536 * Mem.get 0 y ((h.outBase + 2 * q.2 + 1) % 16384))

/-- END commits a kernel's outputs for the next Calends (R399). -/
def State.commitKernel (s : State) (k : SlotId) : State :=
  let s := (s.outputWords k).foldl (fun s q => s.stage (.result q.1 q.2 s.grp.frame)) s
  s.modKernel k fun x => { x with consecStops := 0 }

/-- A handler is taken from background at an instruction boundary (R382, R383). -/
def State.pollHandlers (s : State) (e : EngId) : State :=
  let g := s.eng e
  match g.ctx, g.queue with
  | .bg k, c :: rest =>
    if g.ie && g.delayed.isNone && g.rep.isNone then
      (s.modEngine e fun g => { g with queue := rest, bgCtx := .bg k, bgPc := g.pc, bgCyc := g.cycles }).enterCtx e c
    else s
  | .idle, c :: rest => if g.ie then (s.modEngine e fun g => { g with queue := rest }).enterCtx e c else s
  | _, _ => s

/-- RPUT's bytes, slot by slot (R389). -/
def putSlots (size : Nat) : Nat → List Byte → List (List Byte)
  | 0, b => [b]
  | n + 1, b => if b.length ≤ size then [b] else b.take size :: putSlots size n (b.drop size)

/-- What an issued instruction asks of the machine (R389, R399). -/
def State.engEvent (s : State) (e : EngId) (ctx : EngCtx) (ev : EngEvent) : State :=
  let hdr := ctx.slot.map fun k => (s.kernel k).hdr
  match ev with
  | .none => s.pollHandlers e
  | .kend =>
    match ctx with
    | .frame k => ((s.ctxOver e).commitKernel k).nextCtx e
    | _ => s.pollHandlers e
  | .yield =>
    match ctx with
    | .bg _ => (s.ctxOver e).nextCtx e
    | _ => s.pollHandlers e
  | .reti =>
    match ctx with
    | .ring _ | .mbx _ => s.nextCtx e
    | _ => s.pollHandlers e
  | .rget =>
    match hdr.bind fun h => s.namedRing h.ringIn .dataIn with
    | some r => (s.freeSlot r).pollHandlers e
    | none => s
  | .rput bytes =>
    match hdr.bind fun h => s.namedRing h.ringOut .dataOut with
    | some r => ((putSlots s.host.rings[r.val].size bytes.length bytes).foldl (fun s b => s.publish r b) s).pollHandlers e
    | none => s
  | .rputFull =>
    (match ctx.slot with
    | some k => s.modKernel k fun x => { x with rfCount := satInc 32 x.rfCount }
    | none => s).pollHandlers e

/-- An engine issues one instruction (R386, R389); a context that has used its cycles is stopped instead. -/
def State.issue (s : State) (e : EngId) (i : EInstr) : State :=
  if !s.running then s
  else if s.cyclesOut e then s.stopCtx e
  else
    let g := s.eng e
    match engIssue (s.regions g) (s.ringsOf g) i g with
    | .error code => s.faultCtx e code
    | .ok (h, ev) => (s.modEngine e fun _ => h).engEvent e g.ctx ev

/-- An engine runs the words of its program memory until a condition holds, at most `n` of them. -/
def State.runEngine : Nat → EngId → (State → Bool) → State → State
  | 0, _, _, s => s
  | n + 1, e, stop, s =>
    if stop s then s
    else
      let g := s.eng e
      State.runEngine n e stop (match decodeEng (Mem.get 0 g.prog g.pc) with
        | some i => s.issue e i
        | none => if s.cyclesOut e then s.stopCtx e else s.faultCtx e faultIllegal)

/-- Issues that bound an engine's work in a frame, and in an Octave (R396, R397). -/
def State.frameFuel (s : State) (e : EngId) : Nat :=
  4200 + ((slotIds e).map fun k => (s.kernel k).hdr.frameCycles + 2 * (s.kernel k).hdr.handlerCycles + 8).foldl (· + ·) 0
def State.octaveFuel (s : State) (e : EngId) : Nat :=
  s.frameFuel e + ((slotIds e).map fun k => (s.kernel k).hdr.bgCycles + 8).foldl (· + ·) 0

/-- No interrupt-level code runs or waits to run. -/
def Engine.quiet (g : Engine) : Bool := !g.interrupt && (g.queue.isEmpty || !g.ie)

/-- The frame level and the handlers of the ending frame are over. -/
def State.settleFrameLevel (s : State) (e : EngId) : State := s.runEngine (s.frameFuel e) e fun s => (s.eng e).quiet

/-- Every background task has yielded or stopped, and no handler may be taken: the background idles (R383, R385). -/
def Engine.idles (g : Engine) : Bool := g.ctx == .idle && (g.queue.isEmpty || !g.ie) && g.bgQueue.isEmpty

/-- The background tasks of the ending Octave are over (R385). -/
def State.settleBackground (s : State) (e : EngId) : State := s.runEngine (s.octaveFuel e) e fun s => (s.eng e).idles

/-- The background code reaches an instruction boundary outside a REP and a delay slot (R383). -/
def State.toBoundary (s : State) (e : EngId) : State :=
  s.runEngine 4200 e fun s => (s.eng e).delayed.isNone && (s.eng e).rep.isNone

/-- The frame level begins: the CAL interrupt (R44, R383, R407). Kernels are skipped in a catch-up pass, each a break of
rung 6; the rules do not say which rung such a break keeps, and the model records rung 2 (log 312). In the safe state no
frame level runs. -/
def State.startFrameLevel (s : State) (e : EngId) : State :=
  let s := s.toBoundary e
  let g := s.eng e
  let run := (slotIds e).filter fun k => (s.kernel k).state == .running
  let skip := g.catchUp
  let s := if skip && !s.grp.safeState then
      run.foldl (fun s k => (s.modKernel k fun x => { x with skips := satInc 32 x.skips }).ladderBreak 2 6 0xFF k.val) s
    else s
  let s := s.modEngine e fun g => { g.flush with
    catchUp := false, queue := (if skip || s.grp.safeState then [] else run.map EngCtx.frame) ++ [.idle],
    bgCtx := (match g.ctx with
      | .bg k => .bg k
      | _ => g.bgCtx), bgPc := g.pc, bgCyc := g.cycles }
  let s := if s.hostsCar e then s.vendorBank e true else s
  let s := run.foldl (fun s k => s.faultOutputs k false) s
  s.nextCtx e

/-- The Sequence phase writes each input of a kernel into X (R398). -/
def State.feedKernels (s : State) : State :=
  (List.finRange 32).foldl (fun s k =>
    let x := s.kernel k
    if x.state = .empty then s
    else x.hdr.inputs.zipIdx.foldl (fun s q =>
      let v := (s.entry q.1).primary
      s.modEngine (engOf k) fun g => { g with
        x := Mem.set 0 (Mem.set 0 g.x ((x.hdr.inBase + 2 * q.2) % 16384) (v % 65536)) ((x.hdr.inBase + 2 * q.2 + 1) % 16384) (v / 65536 % 65536) }) s) s

/-- The accelerometer sample of an exchange (R356, R403): a missing or invalid one repeats the one before, as a gap. -/
def Ride.take (r : Ride) (up : Option (List Byte)) : Ride :=
  let prev : Vector Int 3 := (r.samples.head?.map fun q => q.1).getD (Vector.replicate 3 0)
  let new := match up with
    | some b => if bit (byteAt b 8) 2 then (#v[intAt b 84 2, intAt b 86 2, intAt b 88 2], false) else (prev, true)
    | none => (prev, true)
  { r with samples := (new :: r.samples).take 1024 }

/-- Change a car's ride-quality data. -/
def State.modRide (s : State) (c : CarId) (f : Ride → Ride) : State :=
  { s with grp := { s.grp with rides := s.grp.rides.set c.val (f s.grp.rides[c.val]) } }

/-- The ride-quality pass of an Octave (R403–R405): what has yielded becomes readable, and the window of now is
transformed: the horizontal spectrum in an even Octave, Z in an odd one. -/
def State.ridePass (s : State) (c : CarId) : State :=
  if !(s.car c).configured then s
  else
    let axis : Fin 2 := if s.grp.frame / 8 % 2 = 0 then 0 else 1
    s.modRide c fun r =>
      let r := r.publish
      { r with ready := r.ready.set axis.val (some (r.spectrum axis s.grp.frame)) }

/-- KERNEL_CYCLES_STOP (R396, R400): the frame-level kernel runs to its END, or is stopped at its FRAME_CYCLES. -/
def execKernelCyclesStop (e : EngId) (s : State) : Host.Outcome State Fault Refusal :=
  .next (s.within engineParts (match (s.eng e).ctx with
    | .frame k => if s.running then s.runEngine (s.frameFuel e) e fun t => (t.eng e).ctx != .frame k else s
    | _ => s))

/-- BG_CYCLES (R385, R400): the background task runs to its YIELD, or is stopped at its BG_CYCLES. -/
def execBgCycles (e : EngId) (s : State) : Host.Outcome State Fault Refusal :=
  .next (s.within engineParts (match (s.eng e).ctx with
    | .bg k => if s.running then s.runEngine (s.octaveFuel e) e fun t => (t.eng e).ctx != .bg k else s
    | _ => s))

/-- HANDLER_CYCLES (R400): the handler runs to its RETI, or is stopped at its HANDLER_CYCLES. -/
def execHandlerCycles (e : EngId) (s : State) : Host.Outcome State Fault Refusal :=
  .next (s.within engineParts (match (s.eng e).ctx with
    | .ring k => if s.running then s.runEngine (s.frameFuel e) e fun t => (t.eng e).ctx != .ring k else s
    | .mbx k => if s.running then s.runEngine (s.frameFuel e) e fun t => (t.eng e).ctx != .mbx k else s
    | _ => s))

/-- ADD (R389). -/
def execAdd (e : EngId) (gd ga gb : GReg) (s : State) : Host.Outcome State Fault Refusal := .next (s.within engineParts (s.issue e (.alu .add gd ga gb)))

/-- SUB (R389). -/
def execSub (e : EngId) (gd ga gb : GReg) (s : State) : Host.Outcome State Fault Refusal := .next (s.within engineParts (s.issue e (.alu .sub gd ga gb)))

/-- AND (R389). -/
def execAnd (e : EngId) (gd ga gb : GReg) (s : State) : Host.Outcome State Fault Refusal := .next (s.within engineParts (s.issue e (.alu .and gd ga gb)))

/-- OR (R389). -/
def execOr (e : EngId) (gd ga gb : GReg) (s : State) : Host.Outcome State Fault Refusal := .next (s.within engineParts (s.issue e (.alu .or gd ga gb)))

/-- XOR (R389). -/
def execXor (e : EngId) (gd ga gb : GReg) (s : State) : Host.Outcome State Fault Refusal := .next (s.within engineParts (s.issue e (.alu .xor gd ga gb)))

/-- ASR (R389). -/
def execAsr (e : EngId) (gd ga : GReg) (n : Fin 32) (s : State) : Host.Outcome State Fault Refusal := .next (s.within engineParts (s.issue e (.shift .asr gd ga n)))

/-- LSR (R389). -/
def execLsr (e : EngId) (gd ga : GReg) (n : Fin 32) (s : State) : Host.Outcome State Fault Refusal := .next (s.within engineParts (s.issue e (.shift .lsr gd ga n)))

/-- SHL (R389). -/
def execShl (e : EngId) (gd ga : GReg) (n : Fin 32) (s : State) : Host.Outcome State Fault Refusal := .next (s.within engineParts (s.issue e (.shift .shl gd ga n)))

/-- CMP (R389). -/
def execCmp (e : EngId) (ga gb : GReg) (s : State) : Host.Outcome State Fault Refusal := .next (s.within engineParts (s.issue e (.cmp ga gb)))

/-- ABS (R389). -/
def execAbs (e : EngId) (gd ga : GReg) (s : State) : Host.Outcome State Fault Refusal := .next (s.within engineParts (s.issue e (.abs gd ga)))

/-- NEG (R389). -/
def execNeg (e : EngId) (gd ga : GReg) (s : State) : Host.Outcome State Fault Refusal := .next (s.within engineParts (s.issue e (.neg gd ga)))

/-- MOV (R389). -/
def execMov (e : EngId) (gd ga : GReg) (s : State) : Host.Outcome State Fault Refusal := .next (s.within engineParts (s.issue e (.mov gd ga)))

/-- MOVS GD, SREG (R389). -/
def execMovsRead (e : EngId) (gd : GReg) (r : Fin 16) (s : State) : Host.Outcome State Fault Refusal := .next (s.within engineParts (s.issue e (.movsR gd r)))

/-- MOVS SREG, GA (R389). -/
def execMovsWrite (e : EngId) (r : Fin 16) (ga : GReg) (s : State) : Host.Outcome State Fault Refusal := .next (s.within engineParts (s.issue e (.movsW r ga)))

/-- CLSA (R389). -/
def execClsa (e : EngId) (gd ga : GReg) (s : State) : Host.Outcome State Fault Refusal := .next (s.within engineParts (s.issue e (.clsa gd ga)))

/-- ADDI (R389). -/
def execAddi (e : EngId) (gd : GReg) (imm : BitVec 16) (s : State) : Host.Outcome State Fault Refusal := .next (s.within engineParts (s.issue e (.addi gd imm)))

/-- MOVI (R389). -/
def execMovi (e : EngId) (gd : GReg) (imm : BitVec 16) (s : State) : Host.Outcome State Fault Refusal := .next (s.within engineParts (s.issue e (.movi gd imm)))

/-- MOVHI (R389). -/
def execMovhi (e : EngId) (gd : GReg) (imm : BitVec 16) (s : State) : Host.Outcome State Fault Refusal := .next (s.within engineParts (s.issue e (.movhi gd imm)))

/-- ANDI (R389). -/
def execAndi (e : EngId) (gd : GReg) (imm : BitVec 16) (s : State) : Host.Outcome State Fault Refusal := .next (s.within engineParts (s.issue e (.andi gd imm)))

/-- CMPI (R389). -/
def execCmpi (e : EngId) (gd : GReg) (imm : BitVec 16) (s : State) : Host.Outcome State Fault Refusal := .next (s.within engineParts (s.issue e (.cmpi gd imm)))

/-- LD (R389). -/
def execLd (e : EngId) (f : MForm) (s : State) : Host.Outcome State Fault Refusal := .next (s.within engineParts (s.issue e (.ld f)))

/-- ST (R389). -/
def execSt (e : EngId) (f : MForm) (s : State) : Host.Outcome State Fault Refusal := .next (s.within engineParts (s.issue e (.st f)))

/-- MPY (R389). -/
def execMpy (e : EngId) (f : DForm) (s : State) : Host.Outcome State Fault Refusal := .next (s.within engineParts (s.issue e (.mpy f)))

/-- MAC (R389). -/
def execMac (e : EngId) (f : DForm) (s : State) : Host.Outcome State Fault Refusal := .next (s.within engineParts (s.issue e (.mac f)))

/-- MSU (R389). -/
def execMsu (e : EngId) (f : DForm) (s : State) : Host.Outcome State Fault Refusal := .next (s.within engineParts (s.issue e (.msu f)))

/-- CLRA (R389). -/
def execClra (e : EngId) (f : DForm) (s : State) : Host.Outcome State Fault Refusal := .next (s.within engineParts (s.issue e (.clra f)))

/-- SAC (R389). -/
def execSac (e : EngId) (f : AForm) (s : State) : Host.Outcome State Fault Refusal := .next (s.within engineParts (s.issue e (.sac f)))

/-- SACG (R389). -/
def execSacg (e : EngId) (f : AForm) (s : State) : Host.Outcome State Fault Refusal := .next (s.within engineParts (s.issue e (.sacg f)))

/-- LDA (R389). -/
def execLda (e : EngId) (f : AForm) (s : State) : Host.Outcome State Fault Refusal := .next (s.within engineParts (s.issue e (.lda f)))

/-- ADDA (R389). -/
def execAdda (e : EngId) (f : AForm) (s : State) : Host.Outcome State Fault Refusal := .next (s.within engineParts (s.issue e (.adda f)))

/-- SUBA (R389). -/
def execSuba (e : EngId) (f : AForm) (s : State) : Host.Outcome State Fault Refusal := .next (s.within engineParts (s.issue e (.suba f)))

/-- BEXPCLR (R389). -/
def execBexpclr (e : EngId) (s : State) : Host.Outcome State Fault Refusal := .next (s.within engineParts (s.issue e (.bexpclr)))

/-- B (R389). -/
def execB (e : EngId) (cond : Fin 16) (imm : BitVec 16) (s : State) : Host.Outcome State Fault Refusal := .next (s.within engineParts (s.issue e (.b cond imm)))

/-- CALL (R389). -/
def execCall (e : EngId) (cond : Fin 16) (imm : BitVec 16) (s : State) : Host.Outcome State Fault Refusal := .next (s.within engineParts (s.issue e (.call cond imm)))

/-- RET (R389). -/
def execRet (e : EngId) (s : State) : Host.Outcome State Fault Refusal := .next (s.within engineParts (s.issue e (.ret)))

/-- RETI (R389). -/
def execReti (e : EngId) (s : State) : Host.Outcome State Fault Refusal := .next (s.within engineParts (s.issue e (.reti)))

/-- REP #n (R389). -/
def execRepImm (e : EngId) (imm : BitVec 16) (s : State) : Host.Outcome State Fault Refusal := .next (s.within engineParts (s.issue e (.repImm imm)))

/-- REP G (R389). -/
def execRepG (e : EngId) (g : GReg) (s : State) : Host.Outcome State Fault Refusal := .next (s.within engineParts (s.issue e (.repG g)))

/-- END (R389). -/
def execKend (e : EngId) (s : State) : Host.Outcome State Fault Refusal := .next (s.within engineParts (s.issue e (.kend)))

/-- YIELD (R389). -/
def execYield (e : EngId) (s : State) : Host.Outcome State Fault Refusal := .next (s.within engineParts (s.issue e (.yield)))

/-- NOP (R389). -/
def execNop (e : EngId) (s : State) : Host.Outcome State Fault Refusal := .next (s.within engineParts (s.issue e (.nop)))

/-- RGET (R389). -/
def execRget (e : EngId) (g : GReg) (s : State) : Host.Outcome State Fault Refusal := .next (s.within engineParts (s.issue e (.rget g)))

/-- RPUT (R389). -/
def execRput (e : EngId) (g : GReg) (s : State) : Host.Outcome State Fault Refusal := .next (s.within engineParts (s.issue e (.rput g)))

end Sys2Proof.Machine
end

