-- ==== Sys2Proof/Machine/CmdSafe.lean ====
section
/-! DEFINITION. The commands of the safeguard: `safe.config`, `safe.terminal`, `safe.status`, `safe.reset`,
`safe.brake_test` (R292–R296). -/

namespace Sys2Proof.Machine

/-- The 3-byte reference at an offset. -/
def refAt (p : List Byte) (i : Nat) : Nat := fieldAt p i 3

/-- A reference is none or a channel ID (R60). -/
def refForm (p : List Byte) (i : Nat) : Test := rng i (decide (refAt p i < 2 ^ 20) || refAt p i == noRef)

/-- The safety lanes of a `safe.config` request. -/
def safeLane (p : List Byte) (i : Fin 17) : Nat := refAt p (24 + 3 * i.val)

/-- An Encoder entry binds ENC*n* (R89, R105). -/
def State.hasEncoder (s : State) (n : Nat) : Bool := s.grp.alm.any fun q => q.2.type == 2 && bits q.2.binding 2 0 == n

/-- A lane that R258 allows in an input role, and in an output role. -/
def Entry.safetyInput (e : Entry) : Bool := e.isInput
def Entry.safetyOutput (e : Entry) : Bool :=
  e.isOutput && bits e.params 63 40 == noRef && bits e.params 23 22 == 0 && bits e.params 21 20 == 0

/-- The tests of one role: its reference, whether the role is fitted, and R258. -/
def roleTests (s : State) (p : List Byte) (i : Fin 17) (need : Option Bool) (output : Bool) : List Test :=
  let c := safeLane p i
  let o := 24 + 3 * i.val
  let e := s.entry c
  [refForm p o,
   rul o (match need with
     | some true => c != noRef
     | some false => c == noRef
     | none => true),
   refT o (c == noRef || (if output then e.isOutput else e.isInput)) c,
   (!(c == noRef || !output || e.safetyOutput), o, whyRule, c)]

/-- A bank set in DIODE_BANKS of the running or the stored pair configuration (R439, R447). -/
def State.diodeBank (s : State) (b : BankId) : Bool := s.boot.pair.diodeBanks.getLsbD b.val || s.nv.pair.diodeBanks.getLsbD b.val

/-- The form of `safe.config` (R258, R292, R439). -/
def safeConfigTests (s : State) (p : List Byte) : List Test :=
  let opt := byteAt p 1
  let lift := bit opt 0
  let bridge := bit opt 1
  let sto := bit opt 2
  let between (lo hi : Nat) (v : Nat) : Bool := decide (lo ≤ v) && decide (v ≤ hi)
  let bankOf (c : Nat) : Option BankId := (s.entry c).lane.map fun q => q.1
  let car := s.car (carOf p)
  let rear : Option Bool := if car.configured then some (car.pos.cfg.dz[1][0] != noRef) else none
  let enc := !car.configured || car.pos.cfg.enc
  let roles : List (Fin 17 × Option Bool × Bool) :=
    [(0, some true, false), (1, some true, false), (2, some true, false), (3, some true, false),
     (4, rear, false), (5, rear, false),
     (6, some true, true), (7, some true, true), (8, some true, false), (9, some true, false),
     (10, some lift, false), (11, some lift, false), (12, some bridge, true), (13, some bridge, true),
     (14, some sto, true), (15, some sto, true), (16, some true, false)]
  [rng 0 (decide (byteAt p 0 < 8)), rsvFrom p 1 3, rng 2 (byteAt p 2 != 0), rng 3 (byteAt p 3 != 0), rng 4 (byteAt p 4 != 0),
   rsvFrom p 5 4, rng 6 (between 20 300 (fieldAt p 6 2)),
   rng 8 (if lift then between 20 1000 (fieldAt p 8 2) else fieldAt p 8 2 == 0),
   rng 10 (between 100 400 (fieldAt p 10 2)), rng 12 (between 1 60 (fieldAt p 12 2)), rng 14 (between 160 16000 (fieldAt p 14 2)),
   rng 16 (between 1 64 (byteAt p 16)), rsv p 17 1, rng 18 (between 16 16000 (fieldAt p 18 2)),
   rng 20 (if fieldAt p 20 4 = 0 then !car.configured || !enc else enc && between 0x100 0x100000 (fieldAt p 20 4)),
   refT 20 (fieldAt p 20 4 == 0 || s.hasEncoder (byteAt p 0)) noRef]
  ++ (roles.flatMap fun r => roleTests s p r.1 r.2.1 r.2.2)
  ++ [rul (24 + 3 * 7) (bankOf (safeLane p 6) != bankOf (safeLane p 7))]
  ++ (roles.filter fun r => r.2.2).map (fun r => rul (24 + 3 * r.1.val) (((bankOf (safeLane p r.1)).all fun b => !s.diodeBank b)))
  ++ [rsv p 75 5]

/-- The configuration that a `safe.config` request gives (R292). -/
def safeCfgOf (p : List Byte) : SafeCfg :=
  { lift := bit (byteAt p 1) 0, bridge := bit (byteAt p 1) 1, sto := bit (byteAt p 1) 2,
    discChain := byteAt p 2, discLock := byteAt p 3, discZone := byteAt p 4,
    antiChain := bit (byteAt p 5) 0, antiLock := #v[bit (byteAt p 5) 1, bit (byteAt p 5) 2], antiZone := bit (byteAt p 5) 3,
    mirrorMs := fieldAt p 6 2, liftMs := fieldAt p 8 2, pulseUs := fieldAt p 10 2, periodS := fieldAt p 12 2,
    xSpeed := fieldAt p 14 2, xFrames := byteAt p 16, xPosition := fieldAt p 18 2, encScale := fieldAt p 20 4,
    lanes := Vector.ofFn (safeLane p) }

/-- The safety set takes the configuration; only an output on another channel begins anew. -/
def setSafeConfig (p : List Byte) (s : State) : State :=
  s.modSafe (carOf p) fun x =>
    let cfg := safeCfgOf p
    { x with configured := true, cfg := cfg,
             outs := Vector.ofFn fun o => if cfg.outChan o = x.cfg.outChan o then x.outs[o.val] else {} }

/-- A safety output goes off at the present Calends, after its commit (R285). -/
def SafeOut.cut (k : Nat) (o : SafeOut) : SafeOut := if o.cmd then { o with cmd := false, changed := some k } else o

/-- `safe.config` takes effect (R292): its acceptance has raised CONFIG, so the lockout latches and the outputs go off at this
Calends (R285). -/
def applySafeConfig (p : List Byte) (s : State) : State :=
  let k := s.grp.frame
  let s := setSafeConfig p s
  let x := (s.car (carOf p)).safe
  (s.raise (carOf p) 1 noRef).modSafe (carOf p) fun y =>
    { y with latchedAt := if x.causes = 0 then k else y.latchedAt, outs := y.outs.map (SafeOut.cut k) }

/-- `safe.config` (R292). -/
def safeConfigDef : CmdDef :=
  { opcode := 0x0810, len := fun n => n = 80, form := fun s p => firstBad (safeConfigTests s p),
    act := fun f c s =>
      let x := f.car (carOf c.payload)
      if !x.configured || !x.out || x.safe.test.isSome then .refuse stState []
      else admitStage f (setSafeConfig c.payload) false 0xFF (.cmd 0x0810 c.payload) [] s }

/-- Steps of a `safe.terminal` request (R293). -/
def termSteps (p : List Byte) : List (Nat × Nat) :=
  (List.range (min 4 (byteAt p 2))).map fun i => (fieldAt p (8 + 8 * i) 4, fieldAt p (12 + 8 * i) 4)

/-- DIST and LIMIT strictly decrease (R272). -/
def decreasing : List (Nat × Nat) → Bool
  | a :: b :: r => decide (b.1 < a.1) && decide (b.2 < a.2) && decreasing (b :: r)
  | _ => true

/-- `safe.terminal` takes effect (R293). -/
def setTerminal (p : List Byte) (s : State) : State :=
  s.modSafe (carOf p) fun x =>
    { x with terms := x.terms.set (byteAt p 1 % 2) { configured := true, level := intAt p 4 4, steps := termSteps p } (Nat.mod_lt _ (by decide)) }

/-- `safe.terminal` takes effect and latches no cause (R293). -/
def applySafeTerminal (p : List Byte) (s : State) : State := setTerminal p s

/-- The lowest LIMIT of the car's terminal steps leaves room for a CORRECTION_SPEED (R273). -/
def correctionFits (speed : Nat) (c : Car) : Bool :=
  match lowest c.safe.limits with
  | some l => decide (speed ≤ l)
  | none => true

/-- The form of `safe.terminal` (R272, R273, R293). -/
def safeTerminalTests (s : State) (p : List Byte) : List Test :=
  let n := byteAt p 2
  let step (i : Nat) : List Test :=
    let o := 8 + 8 * i
    if i < n then [rng o (decide (160 ≤ fieldAt p o 4) && decide (fieldAt p o 4 ≤ 32000000)),
                   rng (o + 4) (decide (160 ≤ fieldAt p (o + 4) 4) && decide (fieldAt p (o + 4) 4 ≤ 320000))]
    else [rng o (zeroAt p o 8)]
  let car := s.car (carOf p)
  [rng 0 (decide (byteAt p 0 < 8)), rng 1 (decide (byteAt p 1 < 2)), rng 2 (decide (1 ≤ n) && decide (n ≤ 4)), rsv p 3 1]
  ++ step 0 ++ step 1 ++ step 2 ++ step 3
  ++ [rul 8 (decreasing (termSteps p)), rul 12 (!car.configured || correctionFits car.pos.cfg.corrSpeed ((setTerminal p s).car (carOf p)))]

/-- `safe.terminal` (R293). -/
def safeTerminalDef : CmdDef :=
  { opcode := 0x0811, len := fun n => n = 40, form := fun s p => firstBad (safeTerminalTests s p),
    act := fun f c s =>
      let x := f.car (carOf c.payload)
      if !x.configured || !x.out || x.safe.test.isSome then .refuse stState []
      else .done [] (s.stage (.cmd 0x0811 c.payload)) }

/-- Frame of the figures that status commands report: the last complete frame (R27). -/
def State.figureFrame (s : State) : Nat := s.grp.frame - 1

/-- The reply of `safe.status` (R296). OUTPUTS are the commands in force in the frame named, those of its own Calends (log
327). -/
def State.safeStatusReply (s : State) (car : CarId) : List Byte :=
  let x := s.grp.shownCars[car.val].safe
  let k := s.figureFrame
  let left := match x.window with
    | some e => (e + s.windowFrames - k) / s.grp.frameLen.perMs
    | none => 0
  let state := flagBit (x.causes != 0) 0 + flagBit (decide (2 ^ 16 ≤ x.causes)) 1 + flagBit x.permitted 2 + flagBit x.closedLocked 3
    + flagBit x.lifted 4 + flagBit (x.configured && x.set) 5 + flagBit (x.bridge[0] || x.bridge[1]) 6 + flagBit x.anchored 7
  let outs := total ((List.finRange 6).map fun o => flagBit x.outs[o.val].before o.val)
  [byte car.val, byte state] ++ leBytes 2 (if x.causes = 0 then 0 else x.lockId) ++ leBytes 4 x.causes ++ leBytes 8 k
    ++ leInt 4 (divNearest x.posQ 65536) ++ leInt 4 x.speed ++ [byte outs, 0] ++ leBytes 2 x.inputs
    ++ [byte (min 255 (x.disc.toList.foldl max 0)), byte x.window.isSome.toNat] ++ leBytes 2 (min 65535 left)
    ++ leBytes 4 s.grp.sg.shownEcc ++ leBytes 4 s.grp.sg.shownPasses ++ zeros 4

/-- `safe.status` (R296). -/
def safeStatusDef : CmdDef := statusCmd 0x0812 4 carTests fun s c => s.safeStatusReply (carOf c.payload)

/-- RESULT of a `safe.reset` at acceptance (R287, R288, R294): 0 when conditions 1 and 2 hold. -/
def State.resetResult (s : State) (car : CarId) (id : Nat) : Nat :=
  let x := (s.car car).safe
  if x.causes = 0 then 5
  else if id ≠ x.lockId then 3
  else if x.resetCmd.isSome then 1
  else match x.window with
    | some _ => if s.windowOver x then 2 else 0
    | none => if x.windowExpired then 2 else 1

/-- `safe.reset` (R287, R294): accepted ones are tested and answered in the frame after. -/
def safeResetDef : CmdDef :=
  { opcode := 0x0813, len := fun n => n = 4, form := fun _ p => firstBad [rng 0 (decide (byteAt p 0 < 8)), rsv p 1 1],
    act := fun _ c s =>
      let car := carOf c.payload
      let r := s.resetResult car (fieldAt c.payload 2 2)
      if r = 0 then .later (s.modSafe car fun x => { x with resetCmd := some (s.grp.frame, c, s.serial c.src) })
      else .result stState (resetReply r) s }

/-- SG has a speed source (R264, R279). -/
def Safe.hasSource (x : Safe) : Bool := decide (x.noSource ≤ 4)

/-- A brake test is accepted now (R279). -/
def State.brakeTestOk (s : State) (car : CarId) : Bool :=
  let c := s.car car
  let sg := s.sgOf car
  c.configured && c.safe.configured && c.service == .outOfService && c.pos.state == .placed && c.motion.present && c.motion.phase == .idle
    && sg.zones[0] && sg.closedLocked && c.safe.causes == 0 && sg.hasSource && c.safe.test.isNone

/-- `safe.brake_test` (R279, R295). -/
def safeBrakeTestDef : CmdDef :=
  { opcode := 0x0814, len := fun n => n = 12,
    form := fun _ p =>
      let q := intAt p 2 2
      firstBad [rng 0 (decide (byteAt p 0 < 8)), rsvFrom p 1 2, rng 1 (byteAt p 1 != 0),
        rng 2 (decide (q.natAbs ≤ 3000) && q != 0), rng 4 (decide (500 ≤ fieldAt p 4 2) && decide (fieldAt p 4 2 ≤ 10000)),
        rng 6 (decide (16 ≤ fieldAt p 6 2) && decide (fieldAt p 6 2 ≤ 1600)), rsv p 8 4],
    act := fun f c s =>
      let p := c.payload
      let car := carOf p
      if s.jobsFull then .refuse stLimit []
      else if !f.brakeTestOk car || !s.brakeTestOk car then .refuse stState []
      else
        match startJob (.brakeTest car) 0x0814 c s with
        | .later s =>
          let sets := byteAt p 1
          let t : BrakeTest :=
            { job := s.grp.jobCounter, sets := sets, torque := intAt p 2 2, testMs := fieldAt p 4 2, limit := fieldAt p 6 2,
              set := if bit sets 0 then 0 else 1, step := 1, since := s.grp.frame + 1 }
          .later (s.modSafe car fun x => { x with test := some t })
        | v => v }

end Sys2Proof.Machine
end

