-- ==== Sys2Proof/Machine/CmdDoor.lean ====
section
/-! DEFINITION. The commands of the door drive: `door.config`, `door.axis`, `door.open`, `door.close`, `door.stop`,
`door.learn`, `door.status` (R247–R253). -/

namespace Sys2Proof.Machine

/-- The door that byte 1 names. -/
def doorOf (p : List Byte) : Side := Fin.ofNat 2 (byteAt p 1)

/-- A value within bounds. -/
def between (lo hi v : Nat) : Bool := decide (lo ≤ v) && decide (v ≤ hi)

/-- A value of 0 selects the default. -/
def orDefault (v d : Nat) : Nat := if v = 0 then d else v

/-- The car has the door (R216). -/
def Car.hasDoor (c : Car) (d : Side) : Bool := d == 0 || c.pos.cfg.dz[1][0] != noRef

/-- A point of CURTAIN or EDGE: a car-link receive point or a Lane input (R233). -/
def Entry.doorPoint (e : Entry) : Bool := e.isInput || (e.type == 4 && !bit e.binding 30)

/-- The configuration of a `door.config` request (R247). -/
def doorCfgOf (p : List Byte) : DoorCfg :=
  let o := byteAt p 2
  { slave := bit o 0, followEnc := bit o 1, advance := bit o 2, nudgeIgnore := bit o 3, parkOpen := bit o 4,
    width := fieldAt p 4 4, vOpen := fieldAt p 8 4, vClose := fieldAt p 12 4, a := fieldAt p 16 4, d := fieldAt p 20 4,
    j := fieldAt p 24 4, dRev := fieldAt p 28 4, jRev := fieldAt p 32 4, nudgeSpeed := fieldAt p 36 4, gearPos := fieldAt p 40 4,
    blend := fieldAt p 44 2, ratio1 := fieldAt p 46 2, ratio2 := fieldAt p 48 2, eMax := orDefault (fieldAt p 50 2) 10000,
    eNudge := orDefault (fieldAt p 52 2) 4000, fLimit := orDefault (fieldAt p 54 2) 150, forceTrip := fieldAt p 56 2,
    laTrip := fieldAt p 58 2, laFrames := byteAt p 60, forceFrames := byteAt p 61, nudgeCount := byteAt p 62,
    endZone := fieldAt p 64 2, dwellMs := fieldAt p 66 2, accessMs := fieldAt p 68 2, refSpeed := fieldAt p 70 2,
    mNominal := #v[fieldAt p 72 2, fieldAt p 74 2], curtain := refAt p 76, edge := refAt p 79, closedPoint := refAt p 82,
    gearLimit := fieldAt p 88 2 }

/-- The form of `door.config` (R227, R233, R247). -/
def doorConfigTests (s : State) (p : List Byte) : List Test :=
  let c := doorCfgOf p
  let car := s.car (carOf p)
  let point (o : Nat) : List Test := [refForm p o, refT o (refAt p o == noRef || (s.entry (refAt p o)).doorPoint) (refAt p o)]
  [rng 0 (decide (byteAt p 0 < 8)), rng 1 (decide (byteAt p 1 < 2)), rul 1 (!car.configured || car.hasDoor (doorOf p)),
   rsvFrom p 2 5, rsv p 3 1, rng 4 (between 1600 32000 c.width), rng 8 (between 160 32000 c.vOpen), rng 12 (between 160 32000 c.vClose),
   rng 16 (between 1600 64000 c.a), rng 20 (between 1600 64000 c.d), rng 24 (between 16000 320000 c.j),
   rng 28 (between c.d (2 * c.d) c.dRev), rng 32 (between c.j (2 * c.j) c.jRev), rng 36 (between 160 c.vClose c.nudgeSpeed),
   rng 40 (decide (c.gearPos ≤ c.width)), rng 44 (decide (c.blend ≤ 1600) && c.blend % 2 == 0), rng 46 (between 0x20 0x400 c.ratio1),
   rng 48 (between 0x20 0x400 c.ratio2), rul 44 (c.blend != 0 || c.ratio1 == c.ratio2), rng 50 (between 500 10000 c.eMax),
   rng 52 (between 100 4000 c.eNudge), rng 54 (between 50 150 c.fLimit), rng 56 (between 20 c.fLimit c.forceTrip),
   rng 58 (between 256 1024 c.laTrip), rng 60 (between 1 8 c.laFrames), rng 61 (between 1 8 c.forceFrames), rng 62 (between 1 15 c.nudgeCount),
   rsv p 63 1, rng 64 (decide (c.endZone ≤ 800)), rng 66 (between 500 30000 c.dwellMs), rng 68 (between c.dwellMs 60000 c.accessMs),
   rng 70 (between 160 2400 c.refSpeed), rng 72 (between 10 5000 c.mNominal[0]),
   rng 74 (if c.slave then between 10 5000 c.mNominal[1] else c.mNominal[1] == 0)]
  ++ point 76 ++ point 79
  ++ [rng 82 (decide (c.closedPoint < 2 ^ 20)), rsv p 85 3, rng 88 (between 16 1600 c.gearLimit), rsv p 90 2]

/-- `door.config` takes effect: the door is UNREFERENCED (R247). -/
def applyDoorConfig (p : List Byte) (s : State) : State :=
  let s := s.modDoor (carOf p) (doorOf p) fun d =>
    { ({} : Door) with
      configured := true, cfg := doorCfgOf p, axes := d.axes.map fun x => { x with laRun := 0, forceRun := 0, missRun := 0 },
      learnMoves := d.learnMoves, reversals := 0, total := d.total }
  let c := doorCfgOf p
  s.modCar (carOf p) fun x => { x with ul40 := { x.ul40 with
    dwell := c.dwellMs / 100, accessDwell := c.accessMs / 100, nudge := c.nudgeCount } }

/-- `door.config` (R247). -/
def doorConfigDef : CmdDef :=
  { opcode := 0x0710, len := fun n => n = 92, form := fun s p => firstBad (doorConfigTests s p),
    act := fun f c s =>
      let x := f.car (carOf c.payload)
      if !x.configured || !x.out then .refuse stState []
      else admitStage f (applyDoorConfig c.payload) false 0xFF (.cmd 0x0710 c.payload) [] s }

/-- `door.axis` takes effect (R248). -/
def applyDoorAxis (p : List Byte) (s : State) : State :=
  let n := Fin.ofNat 2 (byteAt p 2)
  let fl := byteAt p 3
  s.modDoor (carOf p) (doorOf p) fun d =>
    let x : Axis := { d.axes[n.val] with configured := true, cfg := {
      pmsm := bit fl 0, invert := bit fl 1, encoder := bit fl 2, linPerStep := fieldAt p 4 4, rPhase := fieldAt p 8 2,
      lPhase := fieldAt p 10 2, ke := fieldAt p 12 2, kf := fieldAt p 14 2, iRun := fieldAt p 16 2, iHold := fieldAt p 18 2,
      encPerStep := fieldAt p 20 4 } }
    { ({} : Door) with configured := d.configured, cfg := d.cfg, axes := d.axes.set n.val x, learnMoves := d.learnMoves, total := d.total }

/-- `door.axis` (R248). -/
def doorAxisDef : CmdDef :=
  { opcode := 0x0711, len := fun n => n = 28,
    form := fun s p =>
      let car := s.car (carOf p)
      firstBad [rng 0 (decide (byteAt p 0 < 8)), rng 1 (decide (byteAt p 1 < 2)), rul 1 (!car.configured || car.hasDoor (doorOf p)),
        rng 2 (decide (byteAt p 2 < 2)), rsvFrom p 3 3, rng 4 (between 0x1000 0x01000000 (fieldAt p 4 4)),
        rng 8 (between 10 60000 (fieldAt p 8 2)), rng 10 (between 10 60000 (fieldAt p 10 2)), rng 12 (fieldAt p 12 2 != 0),
        rng 14 (decide (10 ≤ fieldAt p 14 2)), rng 16 (between 100 8000 (fieldAt p 16 2)), rng 18 (decide (fieldAt p 18 2 ≤ fieldAt p 16 2)),
        rng 20 (bit (byteAt p 3) 2 || fieldAt p 20 4 == 0), rsv p 24 4],
    act := fun f c s =>
      let x := f.car (carOf c.payload)
      if !x.configured || !x.out then .refuse stState []
      else admitStage f (applyDoorAxis c.payload) false 0xFF (.cmd 0x0711 c.payload) [] s }

/-- The doors that byte 1 names. -/
def doorsOf (p : List Byte) : List Side := (List.finRange 2).filter fun d => bit (byteAt p 1) d.val

/-- The form of `door.open`, `door.close`, `door.stop` and `door.learn` (R249–R252): `flags` bits of byte 2 are in use. -/
def doorActTests (flags : Nat) (p : List Byte) : List Test :=
  [rng 0 (decide (byteAt p 0 < 8)), rsvFrom p 1 2, rsvFrom p 2 flags, rsv p 3 1]

/-- Act on each door that a request names. -/
def eachDoor (p : List Byte) (s : State) (f : Nat → Door → Door) : State :=
  (doorsOf p).foldl (fun s d => s.modDoor (carOf p) d (f s.grp.frame)) s

/-- `door.open` takes effect (R239, R244, R249). -/
def applyDoorOpen (p : List Byte) (s : State) : State :=
  (doorsOf p).foldl (fun s side =>
    let car := carOf p
    let hold := bit (byteAt p 2) 0
    if (s.door car side).phase = .faulted then
      (if bit (byteAt p 2) 1 then s.modDoor car side fun d => { d with clearing := some .toOpen, clearSent := none, hold := hold } else s)
    else ((s.modDoor car side fun d => { d with suspended := false }).openDoor car side).modDoor car side fun d => { d with hold := hold }) s

/-- A door of the car may act on `door.open` or `door.close` (R239, R250). -/
def Door.mayAct (d : Door) (clear : Bool) : Bool := d.ready && (d.phase != .faulted || clear)

/-- The car stands at a landing in IDLE, in its zone on the door's side (R239). -/
def Car.standsAt (c : Car) (d : Side) : Bool := c.configured && c.motion.phase == .idle && c.pos.state == .placed && c.pos.zones[d.val]

/-- `door.open` (R249). -/
def doorOpenDef : CmdDef :=
  { opcode := 0x0712, len := fun n => n = 4, form := fun _ p => firstBad (doorActTests 2 p),
    act := fun f c s =>
      let x := f.car (carOf c.payload)
      if (doorsOf c.payload).all fun d => x.standsAt d && x.doors[d.val].mayAct (bit (byteAt c.payload 2) 1) then
        .done [] (s.stage (.cmd 0x0712 c.payload))
      else .refuse stState [] }

/-- `door.close` takes effect (R238, R244, R250); a reversal of the frame before stands (R245). NUDGE makes the next close a
nudging one whenever it comes. -/
def applyDoorClose (p : List Byte) (s : State) : State :=
  eachDoor p s fun k d =>
    let d := { d with nudgeAsk := d.nudgeAsk || bit (byteAt p 2) 0 }
    if d.phase = .faulted then (if bit (byteAt p 2) 1 then { d with clearing := some .toClosed, clearSent := none, hold := false } else d)
    else if d.revAt = some (k - 1) ∧ 0 < k then d
    else
      let d := { d with hold := false, suspended := false }
      if d.phase = .closed ∨ d.phase = .closing then d else d.startClose

/-- `door.close` (R250). -/
def doorCloseDef : CmdDef :=
  { opcode := 0x0713, len := fun n => n = 4, form := fun _ p => firstBad (doorActTests 2 p),
    act := fun f c s =>
      let x := f.car (carOf c.payload)
      if x.configured && (doorsOf c.payload).all fun d => x.doors[d.val].mayAct (bit (byteAt c.payload 2) 1) then
        .done [] (s.stage (.cmd 0x0713 c.payload))
      else .refuse stState [] }

/-- `door.stop` takes effect (R251); a reversal of the frame before stands (R245). -/
def applyDoorStop (p : List Byte) (s : State) : State :=
  eachDoor p s fun k d =>
    if d.phase = .faulted ∨ (d.revAt = some (k - 1) ∧ 0 < k) then d
    else if d.goal = .stay then { d with suspended := true }
    else { d.halt d.cfg.d d.cfg.j with phase := .stopped, suspended := true, refMove := false, openAfter := false, nudging := false }

/-- `door.stop` (R251). -/
def doorStopDef : CmdDef :=
  { opcode := 0x0714, len := fun n => n = 4, form := fun _ p => firstBad (doorActTests 0 p),
    act := fun f c s =>
      let x := f.car (carOf c.payload)
      if x.configured && (doorsOf c.payload).all fun d => x.doors[d.val].ready then .done [] (s.stage (.cmd 0x0714 c.payload))
      else .refuse stState [] }

/-- `door.learn` takes effect (R243, R252). -/
def applyDoorLearn (p : List Byte) (s : State) : State :=
  eachDoor p s fun _ d => { d with learnMoves := 10, axes := d.axes.map fun x => { x with samples := [], friction := 0, learned := false } }

/-- `door.learn` (R245, R252). -/
def doorLearnDef : CmdDef :=
  { opcode := 0x0715, len := fun n => n = 4, form := fun _ p => firstBad (doorActTests 0 p),
    act := fun f c s =>
      let x := f.car (carOf c.payload)
      if x.configured && (doorsOf c.payload).all fun d =>
          x.doors[d.val].ready && x.doors[d.val].goal == .stay && (x.doors[d.val].phase == .closed || x.doors[d.val].phase == .opened) then
        .done [] (s.stage (.cmd 0x0715 c.payload))
      else .refuse stState [] }

/-- PHASE code (R253). -/
def DoorPhase.code : DoorPhase → Nat
  | .unreferenced => 0
  | .closed => 1
  | .opening => 2
  | .opened => 3
  | .closing => 4
  | .reversing => 5
  | .stopped => 6
  | .faulted => 7

/-- The reply of `door.status` (R253). -/
def State.doorStatusReply (s : State) (car : CarId) (side : Side) : List Byte :=
  let d := s.grp.shownCars[car.val].doors[side.val]
  let closing := d.phase == .closing
  let capped := (closing || d.phase == .reversing) && decide (d.capNow < (if closing then d.cfg.vClose else d.cfg.vOpen))
  let limited := closing && d.ready && d.fitted.any fun a => decide (d.closingCurrent a < d.axes[a.val].cfg.iRun)
  let blind := d.goal != .stay && !(d.laValid && d.fitted.any fun a => d.stepping a)
  let flags := flagBit d.nudging 0 + flagBit (decide (0 < d.learnMoves)) 1 + flagBit d.hold 2 + flagBit capped 3 + flagBit limited 4
    + flagBit blind 5 + flagBit d.refMove 6
  [byte car.val, byte side.val, byte d.phase.code, byte flags] ++ leBytes 8 s.figureFrame
    ++ leInt 4 d.ref.pos ++ leInt 4 d.ref.speed ++ leInt 4 d.ref.accel ++ leBytes 4 d.vCap
    ++ leInt 2 d.axes[0].delta ++ leInt 2 (if d.cfg.slave then d.axes[1].delta else 0)
    ++ leInt 2 d.axes[0].force ++ leInt 2 (if d.cfg.slave then d.axes[1].force else 0)
    ++ leBytes 2 (d.mass 0) ++ leBytes 2 (if d.cfg.slave then d.mass 1 else 0)
    ++ leBytes 2 (d.fric 0) ++ leBytes 2 (if d.cfg.slave then d.fric 1 else 0)
    ++ [byte d.reversals, byte d.lastSource, byte d.learnMoves, byte d.fault] ++ leBytes 4 (min d.total 0xFFFFFFFF)

/-- `door.status` (R253). -/
def doorStatusDef : CmdDef :=
  statusCmd 0x0716 4 (fun _ p => [rng 0 (decide (byteAt p 0 < 8)), rng 1 (decide (byteAt p 1 < 2)), rsv p 2 2])
    fun s c => s.doorStatusReply (carOf c.payload) (doorOf c.payload)

end Sys2Proof.Machine
end

