-- ==== Sys2Proof/Machine/Dispatcher.lean ====
section
/-! DEFINITION. The dispatcher and CC1's work on calls: passes, destination terminals, retained registrations, cold
evaluations (06, R80). The optimiser is not disclosed: the times and travel that it predicts for the cost terms of R197 are
free values (log 326); the weighted sum and the choice of its lowest are the rule's. -/

namespace Sys2Proof.Machine

/-- Persons of a PARTY code (R193). -/
def Entry.party (e : Entry) : Nat :=
  match bits e.regProfile 5 4 with
  | 0 => 1
  | 1 => 3
  | 2 => 6
  | _ => 8

/-- Persons aboard on the leg from landing `l` in a trip direction, over some registrations. -/
def legLoad (rs : List Entry) (dir l : Nat) : Nat :=
  total (rs.map fun e =>
    if e.regDir = dir ∧ min e.regOrigin e.regDest ≤ l ∧ l < max e.regOrigin e.regDest then e.party else 0)

/-- Persons at the fullest leg of a car's registrations, with the one that a pass is for (R197); a hall call's passengers are
not known. -/
def State.peakLoad (s : State) (car : CarId) (e : Entry) : Nat :=
  let rs := if e.type = 8 then e :: s.carRegs car else s.carRegs car
  ((List.range 255).flatMap fun l => [legLoad rs 0 l, legLoad rs 1 l]).foldl max 0

/-- A car over its CAPACITY is not chosen while another would not be (R197). -/
def State.roomy (s : State) (e : Entry) (able : List CarId) : List CarId :=
  let roomy := able.filter fun c => decide (s.peakLoad c e ≤ s.grp.disp.cfg.capacity[c.val])
  if roomy = [] then able else roomy

/-- The cars that could serve a registration (R187, R193, R197). -/
def State.carsForReg (s : State) (e : Entry) : List CarId :=
  s.roomy e ((List.finRange 8).filter fun c => s.dispatches c && s.canServe c e && s.exclusiveOk c e)

/-- The cars that could serve a hall call (R184, R187, R197). -/
def State.carsForHall (s : State) (e : Entry) : List CarId :=
  s.roomy e ((List.finRange 8).filter fun c => s.dispatches c && (s.car c).pos.serves (bits e.binding 7 0) (bits e.binding 9 9))

/-- The cost terms of a candidate car, in the order of their weights (R197, R211). -/
structure CostTerms where
  wait     : Nat
  ride     : Nat
  delay    : Nat
  stops    : Nat
  load     : Nat
  energy   : Nat
  reversal : Nat
  access   : Nat
  deriving DecidableEq, Repr

/-- The weighted sum of the terms (R197); PRIORITY counts the wait double (R193). -/
def CostTerms.cost (t : CostTerms) (w : Vector Nat 8) (priority : Bool) : Nat :=
  w[0] * (if priority then 2 * t.wait else t.wait) + w[1] * t.ride + w[2] * t.delay + w[3] * t.stops + w[4] * t.load
    + w[5] * t.energy + w[6] * t.reversal + w[7] * t.access

/-- The stops of a call or registration, key and side: pickup, and drop where it has one. -/
def Entry.callStops (e : Entry) : List (Nat × Nat) :=
  if e.type = 8 then [(e.regOrigin * 2 + e.regDir, e.regOriginSide), (e.regDest * 2 + e.regDir, e.regDestSide)]
  else [(bits e.binding 7 0 * 2 + bits e.binding 8 8, bits e.binding 9 9)]

/-- Dwell that an ACCESSIBLE passenger adds at the stops of a registration, in 0.1 s (R193, R197, R240). -/
def Car.addedDwell (c : Car) (e : Entry) : Nat :=
  if e.type = 8 ∧ bit e.regProfile 0 then
    total (e.callStops.map fun k => let d := c.doors[(Fin.ofNat 2 k.2).val].cfg; (d.accessMs - d.dwellMs) / 100)
  else 0

/-- The terms predicted for a car (R197): added stops, load and added dwell from its list and registrations, the rest the
optimiser's own (log 326). -/
def State.predict (s : State) (car : CarId) (e : Entry) : CostTerms × State :=
  let wait := s.drawNat
  let ride := wait.2.drawNat
  let delay := ride.2.drawNat
  let energy := delay.2.drawNat
  let reversal := energy.2.drawNat
  let c := s.car car
  ({ wait := wait.1, ride := ride.1, delay := delay.1, stops := (e.callStops.filter fun k => !(c.stop k.1).listed).length,
     load := 100 * s.peakLoad car e / s.grp.disp.cfg.capacity[car.val], energy := energy.1, reversal := reversal.1,
     access := c.addedDwell e }, reversal.2)

/-- One candidate of a pass: the car of lowest cost so far, the first of equals (log 326). -/
def State.weigh (e : Entry) (acc : Option (Nat × CarId) × State) (car : CarId) : Option (Nat × CarId) × State :=
  let q := acc.2.predict car e
  let x := q.1.cost acc.2.grp.disp.weights (e.type == 8 && bit e.regProfile 1)
  (match acc.1 with
   | some (y, best) => if x < y then some (x, car) else some (y, best)
   | none => some (x, car), q.2)

/-- The car of lowest cost (R197). -/
def State.choose (s : State) (e : Entry) (cs : List CarId) : Option CarId × State :=
  let q := cs.foldl (State.weigh e) (none, s)
  (q.1.map fun x => x.2, q.2)

/-- A cancellation of a registration is accepted in this frame (R203). -/
def State.cancelStaged (s : State) (chan : Nat) : Bool :=
  s.grp.deferred.any fun d => match d with
    | .cmd op p => op == 0x0624 && fieldAt p 0 3 == chan
    | _ => false

/-- One pass of the dispatcher over a call or registration (R185, R188, R189, R197). -/
def State.dispatchPass (s : State) (chan : Nat) : State :=
  let e := s.entry chan
  if e.type = 8 ∧ (e.regState = 1 ∨ e.regState = 4) ∧ s.regMode ∧ !s.cancelStaged chan then
    match s.choose e (s.carsForReg e) with
    | (some c, s) => s.stage (.announce chan c)
    | (none, s) => s
  else if e.type = 9 ∧ bit e.value 0 ∧ s.hallMode ∧ !(bit e.value 1 ∧ s.grp.disp.cfg.hallAnnounce) then
    match s.choose e (s.carsForHall e) with
    | (some c, s) => if bit e.value 1 ∧ bits e.value 4 2 = c.val then s else s.stage (.assign chan c)
    | (none, s) => s
  else s

/-- DISPATCH_PASS (R197). -/
def execDispatchPass (chan : Nat) (s : State) : Host.Outcome State Fault Refusal :=
  .next (s.within [.free, .deferred] (whenRunning s fun s => s.dispatchPass chan))

/-- Open registrations, those staged among them (R188). -/
def State.openRegs (s : State) : Nat :=
  (s.registrations.filter fun q => q.2.regOpen).length +
  (s.grp.deferred.filter fun d => match d with
    | .register _ _ _ _ _ => true
    | _ => false).length

/-- RESULT of a request for a registration (R191). -/
def State.regResult (s : State) (origin dest flags : Nat) : Nat :=
  let e : Entry := { type := 8, binding := origin + 256 * dest + 65536 * flags }
  if 65536 ≤ s.openRegs then 0x10
  else if origin = dest || !((List.finRange 8).any fun c => s.inGroup c && s.canServe c e) then 0x11
  else if !s.regMode then 0x12
  else 0x01

/-- A registration is staged in this frame for a channel. -/
def State.regStaged (s : State) (c : Nat) : Bool :=
  s.grp.deferred.any fun d => match d with
    | .register ch _ _ _ _ => ch == c
    | _ => false

/-- A registration channel is taken: an entry that is not free, or one staged. -/
def State.regTaken (s : State) (c : Nat) : Bool := (s.entry c).type != 0 || s.regStaged c

/-- The first registration channel from `c` on that is not taken. -/
def State.nextFreeReg (s : State) : Nat → Nat → Option Nat
  | 0, _ => none
  | n + 1, c => let ch := 0xF0000 + c % 65536; if s.regTaken ch then s.nextFreeReg n (c + 1) else some ch

/-- A channel for a new registration (R192): a free one, wherever the module takes it, or that of the oldest closed one in
`f`, the state in which the registration comes into force. -/
def State.allocReg (s f : State) : Option Nat × State :=
  let q := s.drawNat
  let s := q.2
  match s.nextFreeReg (min 65536 (s.registrations.length + s.grp.deferred.length + 1)) (q.1 % 65536) with
  | some c => (some c, s)
  | none =>
    let closed := f.registrations.filter fun r => decide (5 ≤ r.2.regState) && !s.regStaged r.1
    ((closed.foldl (fun b r => match b with
      | some x => if r.2.mark < x.2.mark then some r else some x
      | none => some r) none).map fun r => r.1, s)

/-- Open a registration, or refuse it (R191), judged on `f`: RESULT, its channel, and the registration staged for the next
Calends. -/
def State.request (s f : State) (origin dest flags fixture : Nat) : Nat × Option Nat × State :=
  let r := f.regResult origin dest flags
  if r = 0x10 then
    (r, none, ({ s with grp := { s.grp with disp := { s.grp.disp with refusedFull := satInc 32 s.grp.disp.refusedFull } } } : State).record
      0x0601 0xFF [byte origin, byte dest])
  else if r ≠ 0x01 then (r, none, s)
  else match s.allocReg f with
    | (some c, s) => (r, some c, s.stage (.register c origin dest flags fixture))
    | (none, s) => (0x10, none, s)

/-- Change a terminal. -/
def State.modTerminal (s : State) (i : Nat) (f : Terminal → Terminal) : State :=
  let ts := s.grp.disp.terminals.map fun q => if q.1 = i then (q.1, f q.2) else q
  { s with grp := { s.grp with disp := { s.grp.disp with terminals := ts } } }

/-- A terminal's configuration. -/
def State.terminal (s : State) (i : Nat) : Option Terminal := (s.grp.disp.terminals.find? fun q => q.1 == i).map fun q => q.2

/-- The request word shown, when its point is neither stale nor faulty and its reserved bits are zero (R195). -/
def State.requestWord (s : State) (t : Terminal) : Option Nat :=
  let e := s.entry t.point
  let w := e.value % 2 ^ 32
  if t.enabled && e.type == 3 && e.usable && !bit w 15 && bits w 31 24 == 0 then some w else none

/-- A new request stands on the terminal (R195); no Plan phase runs in the group safe state (R48). -/
def State.terminalDue (s : State) (t : Terminal) : Bool :=
  !s.grp.safeState && match s.requestWord t, t.lastSeq with
  | some w, some q => bits w 23 16 != q
  | _, _ => false

/-- The word of a refused or fresh request (R196). -/
def answerWord (result seq : Nat) : Nat := result + seq * 65536

/-- A terminal's request is taken (R195): acknowledged or refused at the next Calends. -/
def State.takeRequest (s : State) (i : Nat) : State :=
  match s.terminal i with
  | none => s
  | some t =>
    match s.requestWord t with
    | none => s
    | some w =>
      let seq := bits w 23 16
      let q := s.request s t.landing (bits w 7 0) (t.side + 2 * bits w 8 8 + 4 * bits w 14 9) t.point
      q.2.2.modTerminal i fun t =>
        { t with lastSeq := some seq, reg := q.2.1.map fun c => (c, (s.grp.frame + 1) % 2 ^ 32), word := answerWord q.1 seq }

/-- TERMINAL_REQUEST (R195). -/
def execTerminalRequest (i : Nat) (s : State) : Host.Outcome State Fault Refusal :=
  .next (s.within [.free, .disp, .deferred, .recorder] (whenRunning s fun s => if ((s.terminal i).map s.terminalDue).getD false then s.takeRequest i else s))

/-- The terminals' Plan phase (R195): the first value shown after configuration only sets REQUEST_SEQ. -/
def State.planTerminals (s : State) : State :=
  let first (q : Nat × Terminal) : Nat × Terminal :=
    match s.requestWord q.2, q.2.lastSeq with
    | some w, none => (q.1, { q.2 with lastSeq := some (bits w 23 16) })
    | _, _ => q
  { s with grp := { s.grp with disp := { s.grp.disp with terminals := s.grp.disp.terminals.map first } } }

/-- RESULT of a registration's state (R191, R196). -/
def Entry.regAnswer (e : Entry) : Nat :=
  let n := bits e.value 15 8
  match e.regState with
  | 1 => 0x01
  | 2 | 3 => if 1 < n then 0x03 else 0x02
  | 4 => 0x01
  | _ => 0x04

/-- The answer word of a terminal as it stands (R196): of the registration of its latest request, and once its entry is freed
or another's, as it closed. -/
def State.answerOf (s : State) (t : Terminal) : Nat :=
  match t.reg with
  | none => t.word
  | some (c, stamp) =>
    let e := s.entry c
    let seq := bits t.word 23 16
    if e.type ≠ 8 ∨ bits e.params 63 32 ≠ stamp then answerWord 0x04 seq + 2 ^ 24 * bits t.word 31 24
    else e.regAnswer + (if bit e.value 3 then 256 * e.regCar.val + 2048 else 0) + 65536 * seq + 2 ^ 24 * bits e.value 15 8

/-- The answer words that come into force at a Calends (R196). -/
def State.answerTerminals (s : State) : State :=
  let ts := s.grp.disp.terminals.map fun q => (q.1, { q.2 with word := s.answerOf q.2 })
  { s with grp := { s.grp with disp := { s.grp.disp with terminals := ts } } }

/-- A closed registration's entry is due to be freed at the next Calends (R192). -/
def State.retainDue (s : State) (chan : Nat) : Bool :=
  let e := s.entry chan
  e.type == 8 && decide (5 ≤ e.regState) && decide (e.mark + s.msFrames s.grp.disp.cfg.retainMs ≤ s.grp.frame + 1)

/-- REG_RETAIN_EXPIRY (R192). -/
def execRegRetainExpiry (chan : Nat) (s : State) : Host.Outcome State Fault Refusal :=
  .next (s.within [.alm] (whenRunning s fun s => if s.retainDue chan then s.setEntry chan Entry.free else s))

/-- A button's rise registers its call (R183, R184, R187). -/
def State.registers (s : State) (e : Entry) : Bool :=
  let landing := bits e.binding 7 0
  if e.type = 10 then
    let car : CarId := Fin.ofNat 8 (bits e.binding 10 8)
    let c := s.car car
    (c.service == .normal || c.service == .independent) && c.pos.state == .placed && !c.learnsFirst && s.inGroup car
      && s.carCallMode && c.pos.serves landing (bits e.binding 11 11) && !bit e.value 0
  else if e.type = 9 then
    s.hallMode && !bit e.value 0 && (List.finRange 8).any fun c => s.inGroup c && (s.car c).pos.serves landing (bits e.binding 9 9)
  else false

/-- Evaluate a cold entry, and register the call that its button's rise asks for (R80, R183, R184). -/
def State.coldEval (s : State) (chan : Nat) : State :=
  let e := s.entry chan
  if e.hot then s
  else
    let rose := (e.type == 9 || e.type == 10) && buttonRose s.grp.shown e
    let s := s.coldOne chan
    if rose && s.registers e then s.stage (.call chan) else s

/-- COLD_EVALUATION (R80). -/
def execColdEvaluation (chan : Nat) (s : State) : Host.Outcome State Fault Refusal :=
  .next (s.within [.alm, .deferred, .recorder] (whenRunning s fun s => s.coldEval chan))

/-- A cold Timer's ELAPSED reaches PRESET (R71, R80); the Sequence phase evaluates the hot ones. -/
def State.timerEval (s : State) (chan : Nat) : State := if (s.entry chan).type = 6 then s.coldEval chan else s

/-- ALMANAC_TIMER (R71). -/
def execAlmanacTimer (chan : Nat) (s : State) : Host.Outcome State Fault Refusal :=
  .next (s.within [.alm, .deferred, .recorder] (whenRunning s fun s => s.timerEval chan))

/-- The requests and retained registrations that are due and have not come in their frame. -/
def State.settleDispatcher (s : State) : State :=
  let s := s.grp.disp.terminals.foldl (fun s q => if ((s.terminal q.1).map s.terminalDue).getD false then s.takeRequest q.1 else s) s
  (s.registrations.map fun q => q.1).foldl (fun s c => if s.retainDue c then s.setEntry c Entry.free else s) s

end Sys2Proof.Machine
end

