-- ==== Sys2Proof/Machine/CmdDisp.lean ====
section
/-! DEFINITION. The commands of stops, service and dispatch: `car.service`, `car.stop.*`, `disp.*` (R206–R215). -/

namespace Sys2Proof.Machine

/-- Code of a service state (R199). -/
def Service.code : Service → Nat
  | .outOfService => 0
  | .normal => 1
  | .independent => 2
  | .faulted => 3
  | .lockedOut => 4

/-- The service state that MODE names (R206). -/
def serviceOf : Nat → Service
  | 1 => .normal
  | 2 => .independent
  | _ => .outOfService

/-- A car's service state changes by command at a Calends (R190, R200): what the module set in the frame stands. -/
def State.setService (s : State) (car : CarId) (mode : Nat) : State :=
  let c := s.car car
  if c.forced || c.service == .lockedOut then s
  else (s.enterService car (serviceOf mode) 7 false).leaveService car

/-- `car.service` is accepted (R201, R282): `s` is the present state, `f` the one after what is accepted already. -/
def serviceOk (s f : State) (car : CarId) (mode : Nat) : Bool :=
  let c := s.car car
  let x := f.car car
  x.configured && x.service != .lockedOut && c.service != .lockedOut &&
  (mode == 0 || (x.safe.causes == 0 && (s.sgOf car).causes == 0 && c.pos.raised == 0 && c.motion.raised == 0 && x.safe.needTest == 0
    && x.motion.present && x.safe.configured))

/-- `car.service` takes effect (R206). -/
def applyService (p : List Byte) (s : State) : State := s.setService (carOf p) (byteAt p 1)

/-- `car.service` (R206). -/
def carServiceDef : CmdDef :=
  { opcode := 0x0610, len := fun n => n = 4,
    form := fun _ p => firstBad [rng 0 (decide (byteAt p 0 < 8)), rng 1 (decide (byteAt p 1 < 3)), rsv p 2 2],
    act := fun f c s =>
      if serviceOk s f (carOf c.payload) (byteAt c.payload 1) then .done [] (s.stage (.cmd 0x0610 c.payload)) else .refuse stState [] }

/-- The origins of a host's stop: HOST (R207), and with DIR_AUTO CAR_CALL beside it (R173) for a car in group dispatch whose
service state lists car calls (R187, R199, log 324). -/
def State.hostOrigins (s : State) (car : CarId) (auto : Bool) : Nat :=
  let calls := (s.car car).service == .normal || (s.car car).service == .independent
  if auto && s.inGroup car && calls then 17 else 16

/-- A HOST stop comes into force (R173, R174, R176): its key, and whether it was served at once. -/
def State.hostStop (s : State) (car : CarId) (landing flags : Nat) : Nat × Bool × State :=
  let c := s.car car
  let sides := bits flags 3 2
  let auto := bit flags 1
  let dir := if auto then c.autoDir landing sides else flags % 2
  if c.service = .faulted ∨ c.service = .lockedOut then (landing * 2 + dir, false, s)
  else
    let q := c.addStop (s.sgOf car) landing dir { sides := sides, origins := s.hostOrigins car auto, hostDir := !auto } false
    (landing * 2 + dir, q.2, s.setCar car q.1)

/-- The first ask that no stop has answered yet takes a key. -/
def takeAsk (key : Nat) (once : Bool) : List StopAsk → List StopAsk
  | [] => []
  | a :: r => if a.key = 0xFFFF then { a with key := key, atOnce := once, result := if once then some (3, key % 2) else none } :: r
    else a :: takeAsk key once r

/-- `car.stop.add` takes effect (R207). -/
def applyStopAdd (p : List Byte) (s : State) : State :=
  let car := carOf p
  let q := s.hostStop car (byteAt p 1) (byteAt p 2)
  q.2.2.modCar car fun c => { c with asks := takeAsk q.1 q.2.1 c.asks }

/-- A HOST stop is accepted: the landing is served on every side named (R207). -/
def Car.hostStopOk (c : Car) (landing flags : Nat) : Bool :=
  bits flags 3 2 != 0 && c.pos.servesAll landing (bits flags 3 2)

/-- `car.stop.add` (R207): its reply comes after the test of R147. -/
def carStopAddDef : CmdDef :=
  { opcode := 0x0611, len := fun n => n = 8,
    form := fun s p =>
      let c := s.car (carOf p)
      firstBad [rng 0 (decide (byteAt p 0 < 8)), rng 1 (!c.configured || c.pos.servesAll (byteAt p 1) (bits (byteAt p 2) 3 2)),
        rsvFrom p 2 4, rng 2 (bits (byteAt p 2) 3 2 != 0), rsv p 3 5],
    act := fun f c s =>
      let car := carOf c.payload
      let x := f.car car
      if !x.configured || x.service == .faulted || x.service == .lockedOut then .refuse stState []
      else
        let s := s.modCar car fun x => { x with asks := x.asks ++ [{ key := 0xFFFF, cmd := c, serial := s.serial c.src }] }
        .later (s.stage (.cmd 0x0611 c.payload)) }

/-- The committed target of a car is withdrawn (R150, R187, R204): a running car plans anew, a car that has not begun to
move keeps none. -/
def Car.withdrawTarget (c : Car) : Car :=
  let c := { c with stops := c.stops.map fun (q : Nat × Stop) => (q.1, { q.2 with target := false }) }
  let c := c.tidyStops
  match c.motion.phase with
  | .running => { c with motion := { c.motion with withdrawn := true } }
  | .idle | .starting => { c with motion := c.motion.noTarget }
  | _ => c

/-- A stop's origins are removed (R204). WITHDRAW on the committed target takes its entry away, but for the origins of
registrations, which no command removes (log 325). -/
def Car.removeStop (c : Car) (landing : Nat) (keys : List Nat) (withdraw : Bool) (origins : Nat) : Car :=
  let aim (k : Nat) : Bool := withdraw && c.motion.targetLanding == some landing && c.motion.committed && (c.stop k).target
  let hit := keys.any aim
  let c := keys.foldl (fun x k => x.dropOrigins k (if aim k then 0x13 else origins)) c
  if hit then c.withdrawTarget else c

/-- The entries a request names (R208). -/
def removeKeys (landing flags : Nat) : List Nat :=
  if bit flags 1 then [landing * 2, landing * 2 + 1] else [landing * 2 + flags % 2]

/-- `car.stop.remove` takes effect (R204, R208). -/
def applyStopRemove (p : List Byte) (s : State) : State :=
  s.modCar (carOf p) fun c => c.removeStop (byteAt p 1) (removeKeys (byteAt p 1) (byteAt p 2)) (bit (byteAt p 2) 2) (byteAt p 3)

/-- `car.stop.remove` (R208). -/
def carStopRemoveDef : CmdDef :=
  { opcode := 0x0612, len := fun n => n = 8,
    form := fun _ p => firstBad [rng 0 (decide (byteAt p 0 < 8)), rsvFrom p 2 3, rng 3 (byteAt p 3 &&& 0xEC == 0), rsv p 4 4],
    act := fun f c s => if (f.car (carOf c.payload)).configured then .done [] (s.stage (.cmd 0x0612 c.payload)) else .refuse stState [] }

/-- Code of a direction (R209). -/
def Dir.code : Dir → Nat
  | .none => 0
  | .up => 1
  | .down => 2

/-- The reply of `car.stop.list` (R209). -/
def State.stopListReply (s : State) (car : CarId) : List Byte :=
  let c := s.grp.shownCars[car.val]
  let es := c.order
  [byte car.val, byte c.service.code, byte c.dir.code, byte (c.motion.targetLanding.getD 0xFF)] ++ leBytes 2 es.length ++ [0, 0]
    ++ leBytes 8 s.figureFrame
    ++ es.flatMap fun q =>
      let x := c.stop q.1
      [byte (q.1 / 2), byte (q.1 % 2 + 2 * x.sides + flagBit x.target 3 + flagBit x.pastEve 4), byte x.origins, 0]

/-- `car.stop.list` (R209). -/
def carStopListDef : CmdDef := statusCmd 0x0613 4 carTests fun s c => s.stopListReply (carOf c.payload)

/-- A car leaves group dispatch (R187, R190, R210): its announcements break, and its list holds HOST stops alone. -/
def State.hostOnly (s : State) (car : CarId) : State :=
  ((s.breakCar car 7).clearCarCalls car).modCar car fun c => c.stops.foldl (fun c q => c.dropOrigins q.1 0x0F) c

/-- `disp.config` takes effect (R190, R210). -/
def applyDispConfig (p : List Byte) (s : State) : State :=
  let old := s.grp.disp.cfg.cars
  let cars := BitVec.ofNat 8 (byteAt p 2)
  let cfg : DispCfg :=
    { mode := byteAt p 0, hallAnnounce := bit (byteAt p 1) 0, destCarCalls := bit (byteAt p 1) 1, cars := cars,
      serviceCars := BitVec.ofNat 8 (byteAt p 3), capacity := Vector.ofFn fun (i : Fin 8) => byteAt p (4 + i.val), retainMs := fieldAt p 12 2 }
  let s := (List.finRange 8).foldl (fun s c => if old.getLsbD c.val && !cars.getLsbD c.val then s.hostOnly c else s) s
  { s with grp := { s.grp with disp := { s.grp.disp with cfg := cfg } } }

/-- `disp.config` (R187, R210). -/
def dispConfigDef : CmdDef :=
  { opcode := 0x0620, len := fun n => n = 16,
    form := fun _ p => firstBad ([rng 0 (decide (byteAt p 0 < 3)), rsvFrom p 1 2]
      ++ ((List.range 8).map fun i => rng (4 + i) (byteAt p (4 + i) != 0)) ++ [rng 12 (decide (fieldAt p 12 2 ≤ 60000)), rsv p 14 2]),
    act := fun f c s =>
      if s.boot.mode == 1 || (byteAt c.payload 0 != f.grp.disp.cfg.mode && f.openRegs != 0) then .refuse stState []
      else .done [] (s.stage (.cmd 0x0620 c.payload)) }

/-- `disp.weights` takes effect (R198, R211). -/
def applyDispWeights (p : List Byte) (s : State) : State :=
  { s with grp := { s.grp with disp := { s.grp.disp with weights := Vector.ofFn fun (i : Fin 8) => byteAt p i.val } } }

/-- `disp.weights` (R211). -/
def dispWeightsDef : CmdDef :=
  { opcode := 0x0621, len := fun n => n = 16, form := fun _ p => firstBad [rsv p 8 8],
    act := fun _ c s => .done [] (s.stage (.cmd 0x0621 c.payload)) }

/-- A terminal's points keep R194: a receive CAN point of 32 bits, a stream, and 4 bytes of it that no transmit point and
no other answer word overlaps. -/
def terminalTests (s : State) (i : Nat) (t : Terminal) (oPoint oOff oStream : Nat) : List Test :=
  let e := s.entry t.point
  let st := s.entry t.stream
  let lap (off n : Nat) : Bool := overlaps (8 * t.offset) 32 off n
  let points := s.grp.alm.any fun q => (q.2.type == 3 || q.2.type == 4) && bit q.2.binding 30
    && q.2.feeds st && lap (bits q.2.params 14 4) (bits q.2.params 20 15)
  let others := s.grp.disp.terminals.any fun q => q.1 != i && q.2.enabled && q.2.stream == t.stream && lap (8 * q.2.offset) 32
  [refT oPoint (e.type == 3 && !bit e.binding 30) t.point, rul oPoint (bits e.params 20 15 == 32),
   rng oOff (t.offset % 4 == 0 && decide (t.offset ≤ 60)), refT oStream (st.type == 11) t.stream,
   rul oOff (decide (t.offset + 4 ≤ st.streamLength)), rul oOff (!points), rul oOff (!others)]

/-- The terminal of a `disp.terminal` request (R212). -/
def terminalOf (p : List Byte) : Terminal :=
  { enabled := bit (byteAt p 3) 1, landing := byteAt p 2, side := byteAt p 3 % 2, point := refAt p 4, offset := byteAt p 7, stream := refAt p 8 }

/-- `disp.terminal` takes effect (R194, R212). -/
def applyTerminal (p : List Byte) (s : State) : State :=
  let i := fieldAt p 0 2
  { s with grp := { s.grp with disp := { s.grp.disp with
      terminals := (s.grp.disp.terminals.filter fun q => q.1 != i) ++ [(i, terminalOf p)] } } }

/-- `disp.terminal` (R212), judged under R194 whether it enables its terminal or disables it: a point that is not hot has the
ADMISSION status. -/
def dispTerminalDef : CmdDef :=
  { opcode := 0x0622, len := fun n => n = 16,
    form := fun s p =>
      let t := terminalOf p
      firstBad ([rng 0 (decide (fieldAt p 0 2 < 1024)), rsvFrom p 3 2] ++ terminalTests s (fieldAt p 0 2) t 4 7 8 ++ [rsv p 11 5]),
    act := fun f c s =>
      let t := terminalOf c.payload
      if (f.entry t.point).hot then admitStage f (applyTerminal c.payload) true 0xFF (.cmd 0x0622 c.payload) [] s
      else .refuse stAdmission (({ kind := 5, subject := t.point } : Breach).bytes 0xFF) }

/-- `disp.register` (R191, R213): answered with RESULT, judged after every command already accepted (R487). -/
def dispRegisterDef : CmdDef :=
  { opcode := 0x0623, len := fun n => n = 8, form := fun _ p => firstBad [rsv p 3 5],
    act := fun f c s =>
      let p := c.payload
      let q := s.request { f with grp := { f.grp with deferred := [] } } (byteAt p 0) (byteAt p 1) (byteAt p 2) noRef
      let r := leBytes 3 (q.2.1.getD noRef) ++ [byte q.1]
      .result (if q.1 = 1 then stOk else stState) r q.2.2 }

/-- `disp.cancel` takes effect (R203, R214). -/
def applyCancel (p : List Byte) (s : State) : State :=
  let ch := fieldAt p 0 3
  if (s.entry ch).regOpen then (s.dropRegStops ch).closeReg ch 6 else s

/-- An announcement of a registration that is cancelled in the same frame is not made (R203). -/
def State.voidAnnounce (s : State) (chan : Nat) : State :=
  { s with grp := { s.grp with deferred := s.grp.deferred.filter fun d => match d with
      | .announce c _ => c != chan
      | _ => true } }

/-- `disp.cancel` (R214). -/
def dispCancelDef : CmdDef :=
  { opcode := 0x0624, len := fun n => n = 4,
    form := fun s p => firstBad [refT 0 (s.entry (fieldAt p 0 3)).regOpen (fieldAt p 0 3), rsv p 3 1],
    act := fun _ c s => .done [] ((s.voidAnnounce (fieldAt c.payload 0 3)).stage (.cmd 0x0624 c.payload)) }

/-- The reply of `disp.status` (R215). -/
def State.dispStatusReply (s : State) : List Byte :=
  let d := s.grp.disp
  let regs := s.grp.shown.filter fun q => q.2.type == 8
  [byte d.cfg.mode, byte (flagBit d.cfg.hallAnnounce 0 + flagBit d.cfg.destCarCalls 1), byte d.cfg.cars.toNat, 0]
    ++ leBytes 4 (regs.filter fun q => q.2.regOpen).length
    ++ leBytes 4 (regs.filter fun q => q.2.regState == 1 || q.2.regState == 4).length
    ++ leBytes 4 d.refusedFull ++ leBytes 4 d.breaks ++ leBytes 2 d.lastAssign ++ leBytes 2 d.peakAssign ++ leBytes 8 s.figureFrame

/-- `disp.status` (R215). -/
def dispStatusDef : CmdDef := statusCmd 0x0625 4 (fun _ p => [rsv p 0 4]) fun s _ => s.dispStatusReply

end Sys2Proof.Machine
end

