-- ==== Sys2Proof/Machine/CmdCan.lean ====
section
/-! DEFINITION. The commands of buses and car links: `can.config`, `can.send`, `can.cancel`, `can.recover`, `can.map`,
`can.status`, `cl.config`, `cl.status` (R366–R373). -/

namespace Sys2Proof.Machine

/-- The bus that byte 0 names. -/
def busOf (p : List Byte) : BusId := Fin.ofNat 16 (byteAt p 0)

/-- Identifiers of the drive reference on a bus (R163, R437). -/
def State.refIds (s : State) (b : BusId) : List Nat :=
  let m := (s.car (Fin.ofNat 8 (b.val / 2))).motion
  if m.present && b.val % 2 == 0 then (if m.cfg.refDup then [m.cfg.refId, m.cfg.refId + 1] else [m.cfg.refId]) else []

/-- The drive reference of a bus wins arbitration against a frame (R164). -/
def State.refWins (s : State) (b : BusId) (id : Nat) (ide : Bool) : Bool :=
  (s.refIds b).all fun r => if ide then decide (r ≤ id / 2 ^ 18) else decide (r < id)

/-- A frame that a host sends once (R341). -/
def TxEntry.rawSend (t : TxEntry) : Bool :=
  match t.kind with
  | .raw _ => true
  | _ => false

/-- A stream of the bus, or a frame that a host has had queued there, wins against the drive reference (R164). -/
def State.refBeaten (s : State) (b : BusId) : Bool :=
  (s.grp.alm.any fun q => q.2.type == 11 && !bit q.2.binding 30 && bits q.2.params 3 0 == b.val
    && !(s.refWins b (bits q.2.binding 28 0) (bit q.2.binding 29) && (!q.2.pairDup || s.refWins b (bits q.2.binding 28 0 + 1) (bit q.2.binding 29))))
  || (s.io.buses[b.val].queue.any fun t => t.rawSend && !s.refWins b t.frame.id t.frame.ide)

/-- Identifiers and formats of the transmit sources of a bus (R337, R436, R437). -/
def State.txIds (s : State) (b : BusId) : List (Nat × Bool) :=
  let x := s.io.buses[b.val]
  let both (dup : Bool) (id : Nat) (ide : Bool) : List (Nat × Bool) := if dup then [(id, ide), (id + 1, ide)] else [(id, ide)]
  let streams := (s.grp.alm.filter fun q => q.2.type == 11 && !bit q.2.binding 30 && bits q.2.params 3 0 == b.val).flatMap fun q =>
    both q.2.pairDup (bits q.2.binding 28 0) (bit q.2.binding 29)
  let refs := (s.refIds b).map fun r => (r, false)
  let master := if x.cfg.mode = .canopen then
      [(0, false), (0x700 + x.cfg.nodeId, false), (x.cfg.voutCobId, false)] ++ (if x.cfg.syncFrames = 0 then [] else [(0x080, false)])
    else []
  streams ++ refs ++ master

/-- Two transmit sources of a bus use one identifier and format (R337). -/
def State.idClash (s : State) (b : BusId) : Bool := decide (¬ (s.txIds b).Nodup)

/-- A frame source needs FD_ENABLE, or a data-phase rate, that its bus lacks (R618). -/
def CanCfg.lacks (x : CanCfg) (fd brs : Bool) : Bool := (fd && !x.fdEnable) || (brs && x.dataKbps == 0)

/-- A stream asks of its bus what that lacks (R618). -/
def State.fdStream (s : State) (e : Entry) : Bool :=
  e.type == 11 && !bit e.binding 30 && (s.io.buses[bits e.params 3 0 % 16]).cfg.lacks (bit e.params 4) (bit e.params 5)

/-- A drive reference asks of its bus what that lacks (R618). -/
def State.fdRef (s : State) (c : CarId) : Bool :=
  let m := (s.car c).motion
  m.present && (s.io.buses[2 * c.val]).cfg.lacks true m.cfg.brs

/-- A transmit source of the bus needs FD_ENABLE, or a data-phase rate, that it lacks (R618). -/
def State.fdBroken (s : State) (b : BusId) : Bool :=
  (s.grp.alm.any fun q => bits q.2.params 3 0 == b.val && s.fdStream q.2)
  || (List.finRange 8).any fun c => 2 * c.val == b.val && s.fdRef c

/-- The configuration of a `can.config` request (R366); a bus that is OFF keeps nothing else. -/
def canCfgOf (p : List Byte) : CanCfg :=
  let fl := byteAt p 2
  if byteAt p 1 = 0 then {}
  else
    { mode := if byteAt p 1 = 1 then .raw else .canopen, fdEnable := bit fl 0, autoRecover := bit fl 1, lonelyThrottle := bit fl 2,
      echoOwn := bit fl 3, rxRing := byteAt p 3, nominalKbps := fieldAt p 4 2, dataKbps := fieldAt p 6 2, nomSp := byteAt p 8,
      dataSp := byteAt p 9, nodeId := byteAt p 10, heartbeatMs := fieldAt p 12 2, syncFrames := fieldAt p 14 2,
      vinCobId := fieldAt p 16 2, voutCobId := fieldAt p 18 2, outRefreshMs := fieldAt p 20 2, nodes := BitVec.ofNat 128 (fieldAt p 24 16) }

/-- A bus takes a configuration (R331): counters at 0, integration begins, the mode's first frame is to come. RECOVERY_HELD
and the bus-offs of the last 10 s stand (R345, log 330). -/
def setCanConfig (p : List Byte) (s : State) : State :=
  let b := busOf p
  let s := s.modBus b fun x =>
    { x with cfg := canCfgOf p, tec := 0, recv := 0, errorState := .active, integrating := byteAt p 1 != 0, recovering := false,
             lonely := false, ackRun := 0, waiting := [], modeStarted := false, nodesLost := 0, heard := [], queue := [] }
  { s with io := { s.io with map := s.io.map.map fun m => if m.bus = b.val then { m with lastSent := none } else m } }

/-- `can.config` takes effect (R331): every pending transmission is discarded and counted. -/
def applyCanConfig (p : List Byte) (s : State) : State :=
  let b := busOf p
  setCanConfig p (s.io.buses[b.val].queue.foldl (State.discarded b) s)

/-- A receive ring (R334): a DATA_OUT ring whose slots hold 80 bytes. -/
def State.rxRingOk (s : State) (r : Nat) : Bool :=
  match finOf 64 r with
  | some r => s.host.rings[r.val].use == .dataOut && decide (80 ≤ s.host.rings[r.val].size)
  | none => false

/-- The form of `can.config` (R330, R331, R337, R346, R366, R618): with MODE OFF only BUS, MODE and the reserved fields are
judged, so a bus with FD streams goes OFF too. -/
def canConfigTests (s : State) (p : List Byte) : List Test :=
  let c := canCfgOf p
  let co := byteAt p 1 == 2
  let fd := bit (byteAt p 2) 0
  let only (v : Nat) (ok : Bool) : Bool := if co then ok else v == 0
  let after := setCanConfig p s
  [rng 0 (decide (byteAt p 0 < 16)), rng 1 (decide (byteAt p 1 < 3)), rsvFrom p 2 4] ++
  (if byteAt p 1 = 0 then [rsv p 11 1, rsvFrom p 17 3, rsvFrom p 19 3, rsv p 22 2, (bit (byteAt p 24) 0, 24, whyReserved, 0xFFFFFF)]
   else
    [rul 1 (!co || byteAt p 0 % 2 == 1), ringT 3 (byteAt p 3 == 0xFF || s.rxRingOk (byteAt p 3)),
     rng 4 ([125, 250, 500, 1000].contains c.nominalKbps),
     rng 6 (if fd then c.dataKbps == 0 || ([1000, 2000, 4000, 5000, 8000].contains c.dataKbps && decide (c.nominalKbps ≤ c.dataKbps)) else c.dataKbps == 0),
     rng 8 (between 50 90 c.nomSp), rng 9 (if fd then between 50 90 c.dataSp else c.dataSp == 0),
     rng 10 (only c.nodeId (between 1 127 c.nodeId)), rsv p 11 1, rng 12 (only c.heartbeatMs (between 10 10000 c.heartbeatMs)),
     rng 14 (only c.syncFrames true), rng 16 (only c.vinCobId true), rsvFrom p 17 3, rng 18 (only c.voutCobId true), rsvFrom p 19 3,
     rng 20 (only c.outRefreshMs (c.outRefreshMs == 0 || between 100 60000 c.outRefreshMs)), rsv p 22 2,
     rng 24 (only c.nodes.toNat true), (co && c.nodes.getLsbD 0, 24, whyReserved, 0xFFFFFF),
     rul 10 (!after.idClash (busOf p)), rul 2 (!after.fdBroken (busOf p))])

/-- The car that owns a bus (R23). -/
def busCar (b : BusId) : CarId := Fin.ofNat 8 (b.val / 2)

/-- `can.config` (R331, R366). -/
def canConfigDef : CmdDef :=
  { opcode := 0x0A10, len := fun n => n = 40, form := fun s p => firstBad (canConfigTests s p),
    act := fun f c s =>
      let b := busOf c.payload
      if b.val % 2 = 0 ∧ !(f.car (busCar b)).out then .refuse stState []
      else admitStage f (setCanConfig c.payload) true 0xFF (.cmd 0x0A10 c.payload) [] s }

/-- LENGTH values of a CAN frame (R66, R614). -/
def canLengthOk (fd : Bool) (n : Nat) : Bool := decide (n ≤ 8) || (fd && [12, 16, 20, 24, 32, 48, 64].contains n)

/-- Raw sends pending on a bus (R336). -/
def Bus.rawCount (b : Bus) : Nat := (b.queue.filter fun t => match t.kind with
  | .raw _ => true
  | _ => false).length

/-- A raw frame enters the queue at a Calends (R336, R367). -/
def applySend (job : Nat) (p : List Byte) (s : State) : State :=
  let fl := byteAt p 1
  let f : CanFrame := { id := fieldAt p 4 4, ide := bit fl 0, fd := bit fl 1, brs := bit fl 2, rtr := bit fl 3, data := p.drop 8,
                        dlc := if bit fl 3 then byteAt p 2 else 0 }
  s.modBus (busOf p) fun x => { x with queue := x.queue ++ [{ kind := .raw job, frame := f, queuedAt := s.grp.frame, maxAge := byteAt p 3 }] }

/-- The form of `can.send` (R367, R618). -/
def canSendTests (s : State) (p : List Byte) : List Test :=
  let fl := byteAt p 1
  let n := byteAt p 2
  let cfg := s.io.buses[(busOf p).val].cfg
  [rng 0 (decide (byteAt p 0 < 16)), rsvFrom p 1 4, rul 1 (!bit fl 2 || bit fl 1), rul 1 (!(bit fl 3 && bit fl 1)),
   rng 2 (canLengthOk true n), rul 2 (bit fl 1 || decide (n ≤ 8)), rng 3 (byteAt p 3 != 0), rsvFrom p 7 5,
   rul 4 (bit fl 0 || decide (fieldAt p 4 4 ≤ 0x7FF)), rul 4 (s.refWins (busOf p) (fieldAt p 4 4) (bit fl 0)),
   (decide (p.length ≠ 8 + (if bit fl 3 then 0 else n)), 0xFFFF, whyLength, 0xFFFFFF),
   rul 1 (!(bit fl 1 && !cfg.fdEnable)), rul 1 (!(bit fl 2 && cfg.dataKbps == 0))]

/-- `can.send` (R336, R367): a job whose ID is the frame's HANDLE. -/
def canSendDef : CmdDef :=
  { opcode := 0x0A11, len := fun n => decide (8 ≤ n) && decide (n ≤ 72), form := fun s p => firstBad (canSendTests s p),
    act := fun f c s =>
      let b := busOf c.payload
      if s.jobsFull then .refuse stLimit []
      else if 8 ≤ f.io.buses[b.val].rawCount then .refuse stState []
      else match startJob (.canSend b) 0x0A11 c s with
        | .later s => .later (s.stage (.send s.grp.jobCounter c.payload))
        | v => v }

/-- A `can.cancel` acts at a Calends (R340, R341, R368): its RESULT, and the queue after it. -/
def applyCancelSend (c : Cmd) (serial : Nat) (s : State) : State :=
  let b := busOf c.payload
  let job := fieldAt c.payload 2 2
  let mine (t : TxEntry) : Bool := t.kind == .raw job
  match s.io.buses[b.val].queue.find? mine with
  | none => s.replyLate 0x0A12 c serial stState [2, 0, 0, 0]
  | some t =>
    if t.started then
      (s.modBus b fun x => { x with queue := x.queue.map fun t => if mine t then { t with last := true } else t }).replyLate 0x0A12 c serial stState [1, 0, 0, 0]
    else
      ((s.modBus b fun x => { x with queue := x.queue.filter fun t => !mine t }).endSend job 2).replyLate 0x0A12 c serial stOk [0, 0, 0, 0]

/-- `can.cancel` (R341, R368): answered at the Calends after its acceptance. -/
def canCancelDef : CmdDef :=
  { opcode := 0x0A12, len := fun n => n = 4, form := fun _ p => firstBad [rng 0 (decide (byteAt p 0 < 16)), rsv p 1 1],
    act := fun _ c s => .later (s.stage (.answer 0x0A12 c (s.serial c.src))) }

/-- CAN_SEND_OUTCOME (R341, R367): the frame of a raw send has reached its age limit and is discarded with its final
reply; one that is no longer pending has no other outcome to post. Sending and cancelling post theirs at once. -/
def execCanSendOutcome (id : Nat) (s : State) : Host.Outcome State Fault Refusal :=
  .next (s.within [.alm, .jobs, .sessions, .buses, .rings, .irq, .net, .recorder] (whenRunning s fun s => match s.findJob fun j => j.id == id with
    | some { kind := .canSend b, .. } =>
      let mine (t : TxEntry) : Bool := t.kind == .raw id
      if s.io.buses[b.val].queue.any mine then s.dropTx b fun t => mine t && t.due s.grp.frame
      else if s.grp.deferred.any fun d => match d with
        | .send j _ => j == id
        | _ => false then s
      else s.endSend id 1
    | _ => s))

/-- `can.recover` takes effect (R344, R369). -/
def applyRecover (p : List Byte) (s : State) : State :=
  s.modBus (busOf p) fun x => if x.errorState = .busOff then
      { x with recovering := true, recoverAt := if x.recovering then x.recoverAt else s.grp.frame, recoveryHeld := false } else x

/-- The form of a request that names a bus alone. -/
def busTests (_ : State) (p : List Byte) : List Test := [rng 0 (decide (byteAt p 0 < 16)), rsv p 1 3]

/-- `can.recover` (R369). -/
def canRecoverDef : CmdDef :=
  { opcode := 0x0A13, len := fun n => n = 4, form := fun s p => firstBad (busTests s p),
    act := fun f c s => if f.io.buses[(busOf c.payload).val].errorState = .busOff then .done [] (s.stage (.cmd 0x0A13 c.payload)) else .refuse stState [] }

/-- The map entry of a `can.map` request (R370). One that is not ENABLED is judged like any other. -/
def mapOf (p : List Byte) : MapEntry :=
  { bus := byteAt p 2, enabled := bit (byteAt p 3) 0, kind := bits (byteAt p 3) 2 1, function := fieldAt p 4 2, lift := byteAt p 6,
    floor := byteAt p 7, door := byteAt p 8, chan := refAt p 9 }

/-- `can.map` takes effect (R370). -/
def applyCanMap (p : List Byte) (s : State) : State :=
  let i := Fin.ofNat 512 (fieldAt p 0 2)
  { s with io := { s.io with map := s.io.map.set i.val (mapOf p) } }

/-- A kernel or UL-40 OUT_WORD owns the RESULT that a STATE_IN entry would write (R399, R522). -/
def State.mapClash (s : State) (m : MapEntry) : Bool :=
  m.enabled && m.kind == 0 && ((List.finRange 8).any (fun d => (s.car d).ul40.outs.toList.contains m.chan)
    || s.grp.kernels.toList.any fun k => k.state != .empty && k.hdr.outputs.contains m.chan)

/-- `can.map` (R348, R370, R399, R522): no charged command (R484). -/
def canMapDef : CmdDef :=
  { opcode := 0x0A14, len := fun n => n = 16,
    form := fun s p =>
      let m := mapOf p
      let e := s.entry m.chan
      firstBad [rng 0 (decide (fieldAt p 0 2 < 512)), rng 2 (decide (m.bus < 16) && m.bus % 2 == 1), rng 3 (m.kind != 3), rsvFrom p 3 3,
        rng 6 (between 1 8 m.lift), rng 9 (decide (m.chan < 2 ^ 20) || (m.kind != 0 && m.chan == noRef)),
        refT 9 (m.kind != 0 || e.isSet) m.chan,
        rsv p 12 4],
    act := fun f c s =>
      if f.mapClash (mapOf c.payload) then .refuse stState [] else .done [] (s.stage (.cmd 0x0A14 c.payload)) }

/-- MODE code (R366). -/
def BusMode.code : BusMode → Nat
  | .off => 0
  | .raw => 1
  | .canopen => 2

/-- The reply of `can.status` (R371). -/
def State.canStatusReply (s : State) (b : BusId) : List Byte :=
  let x := s.io.buses[b.val]
  let st := (match x.shownState with
    | .active => 0
    | .passive => 1
    | .busOff => 2)
  [byte b.val, byte x.cfg.mode.code, byte (st + flagBit x.shownLonely 2 + flagBit x.recovering 3 + flagBit x.recoveryHeld 4), 0]
    ++ leBytes 8 s.figureFrame ++ [byte (min 255 x.tec), byte (min 255 x.recv), 0, 0] ++ leBytes 4 x.rxFrames ++ leBytes 4 x.txFrames
    ++ leBytes 4 x.txDiscarded ++ leBytes 4 x.rxDropped ++ leBytes 2 x.busOffCount ++ leBytes 2 x.protocolExceptions ++ zeros 4
    ++ leBytes 16 x.nodesLost.toNat

/-- `can.status` (R371). -/
def canStatusDef : CmdDef := statusCmd 0x0A15 4 busTests fun s c => s.canStatusReply (busOf c.payload)

/-- `cl.config` takes effect (R372): the link's figures, its round trip and its counts stand. -/
def applyClConfig (p : List Byte) (s : State) : State :=
  let l := carOf p
  let fl := byteAt p 1
  s.modLink l fun x =>
    { x with cfg := { enabled := bit fl 0, amplitude := bit fl 1, autoneg := bit fl 2, leadUs := orDefault (byteAt p 2) 190, mac := (p.drop 4).take 6 },
             pendingUp := none, userArea := none, firstAt := none }

/-- `cl.config` (R372). -/
def clConfigDef : CmdDef :=
  { opcode := 0x0A20, len := fun n => n = 16,
    form := fun _ p => firstBad [rng 0 (decide (byteAt p 0 < 8)), rsvFrom p 1 3, rng 2 (byteAt p 2 == 0 || between 190 200 (byteAt p 2)), rsv p 3 1, rsv p 10 6],
    act := fun f c s =>
      if !(f.car (carOf c.payload)).out then .refuse stState []
      else admitStage f (applyClConfig c.payload) true 0xFF (.cmd 0x0A20 c.payload) [] s }

/-- The reply of `cl.status` (R373). -/
def State.clStatusReply (s : State) (l : CarId) : List Byte :=
  let x := s.io.links[l.val]
  [byte l.val, byte (flagBit x.phyUp 0 + flagBit x.linkDown 1 + flagBit x.phyFault 2 + flagBit x.cfg.amplitude 3), byte x.health, byte x.ports]
    ++ leBytes 8 s.figureFrame ++ leBytes 4 x.seqEcho ++ leBytes 4 x.upSeq ++ leBytes 2 (min 65535 x.delayNs) ++ leBytes 2 x.vSupply
    ++ leBytes 4 x.accepted ++ leBytes 4 x.missing ++ leBytes 4 x.late ++ leBytes 4 x.rejected

/-- `cl.status` (R373). -/
def clStatusDef : CmdDef := statusCmd 0x0A21 4 carTests fun s c => s.clStatusReply (carOf c.payload)

end Sys2Proof.Machine
end

