-- ==== Sys2Proof/Machine/CmdPos.lean ====
section
/-! DEFINITION. The commands of position tracking: `pos.config`, `pos.landing`, `pos.table`, `pos.status`, `pos.learn`,
`pos.correct`, `pos.wipe` (R133–R139). -/

namespace Sys2Proof.Machine

/-- `pos.config` OPTIONS bit 5 REMOVE (R25). -/
def posRemoves (p : List Byte) : Bool := bit (byteAt p 1) 5

/-- The configuration of a `pos.config` request (R133): fields without their option are not used. -/
def posCfgOf (p : List Byte) : PosCfg :=
  let o := byteAt p 1
  let aps := bit o 0
  let ap (v : Nat) : Nat := if aps then v else 0
  { aps := aps, enc := bit o 1, autoCorrect := bit o 2, autoLearn := bit o 3, corrUp := bit o 4,
    apsId := ap (fieldAt p 2 2), apsLatency := ap (fieldAt p 4 2), apsMaxAge := ap (byteAt p 6), apsReject := ap (byteAt p 7),
    apsWindow := ap (fieldAt p 8 2), agree := ap (fieldAt p 10 2), encScale := if bit o 1 then fieldAt p 12 4 else 0,
    slipLimit := fieldAt p 16 2, zoneWindow := fieldAt p 18 2, zoneHalf := fieldAt p 20 2, corrSpeed := fieldAt p 22 2,
    shaftMin := intAt p 24 4, shaftMax := intAt p 28 4, corrLimit := fieldAt p 32 4, landingsM1 := byteAt p 36, codeBits := byteAt p 37,
    ratedLoad := fieldAt p 38 2, loadChan := refAt p 40, codeBase := refAt p 43, relevel := fieldAt p 46 2,
    dz := #v[#v[refAt p 48, refAt p 51], #v[refAt p 54, refAt p 57]], term := #v[refAt p 60, refAt p 63] }

/-- The records that a configuration keeps (R97): those of its landings. -/
def keptRecords (m1 : Nat) (t : List (Nat × LandingRec)) : List (Nat × LandingRec) := t.filter fun q => decide (q.1 / 2 ≤ m1)

/-- Largest difference of a list of levels. -/
def spread (l : List Int) : Int :=
  match l with
  | [] => 0
  | x :: r => r.foldl max x - r.foldl min x

/-- Every covered LEVEL lies in the shaft, and on each side within 32,000,000 (R97). -/
def levelsFit (c : PosCfg) (t : List (Nat × LandingRec)) : Bool :=
  let side (f : Nat) : List Int := (t.filter fun q => q.1 % 2 == f && q.2.written).map fun q => q.2.level
  (t.all fun q => !q.2.written || (decide (c.shaftMin ≤ q.2.level) && decide (q.2.level ≤ c.shaftMax)))
    && decide (spread (side 0) ≤ 32000000) && decide (spread (side 1) ≤ 32000000)

/-- The form of a `pos.config` without REMOVE (R97, R98, R105, R133). -/
def posConfigTests (s : State) (p : List Byte) : List Test :=
  let c := posCfgOf p
  let car := s.car (carOf p)
  let lane (o : Nat) (need : Bool) : List Test :=
    [refForm p o, rul o (!need || refAt p o != noRef), refT o (refAt p o == noRef || (s.entry (refAt p o)).isInput) (refAt p o)]
  [rsvFrom p 1 6, rul 1 (c.aps || c.enc),
   (decide (c.aps ∧ 2 ^ 11 ≤ c.apsId), 2, whyReserved, 0xFFFFFF), rng 4 (decide (c.apsLatency ≤ 2000)), rng 6 (!c.aps || between 1 32 c.apsMaxAge),
   rng 7 (!c.aps || between 1 32 c.apsReject), rng 8 (!c.aps || between 8 4095 c.apsWindow), rng 10 (!c.aps || between 1 1600 c.agree),
   rng 12 (!c.enc || between 0x100 0x100000 c.encScale),
   refT 12 (!c.enc || s.hasEncoder (byteAt p 0)) noRef,
   rul 12 (!c.enc || decide (car.motion.cfg.rated * 65536 ≤ 10000000 * c.encScale)),
   rng 16 (between 16 16000 c.slipLimit), rng 18 (between 16 1600 c.zoneWindow), rng 20 (between 160 3200 c.zoneHalf),
   rng 22 (between 160 4800 c.corrSpeed), rul 22 (correctionFits c.corrSpeed car), rng 28 (decide (c.shaftMin < c.shaftMax)),
   rng 36 (decide (1 ≤ c.landingsM1)), rng 37 (decide (c.codeBits ≤ 8)),
   refForm p 40, rul 40 ((c.ratedLoad == 0) == (c.loadChan == noRef)),
   refT 40 (c.loadChan == noRef || (s.entry c.loadChan).type != 0) c.loadChan,
   refForm p 43, rul 43 ((c.codeBits == 0) == (c.codeBase == noRef)),
   refT 43 ((List.range c.codeBits).all fun i => (s.entry (c.codeBase + i)).isInput) c.codeBase,
   rng 46 (between 16 320 c.relevel)]
  ++ lane 48 true ++ lane 51 true ++ lane 54 false ++ lane 57 false
  ++ [rul 54 ((c.dz[1][0] == noRef) == (c.dz[1][1] == noRef))]
  ++ lane 60 (!c.aps) ++ lane 63 (!c.aps)
  ++ [rsv p 66 2, rul 24 (levelsFit c (keptRecords c.landingsM1 car.pos.table))]

/-- The form of `pos.config` (R25, R133). -/
def posConfigForm (s : State) (p : List Byte) : Option Bad :=
  firstBad ([rng 0 (decide (byteAt p 0 < 8))] ++
    (if posRemoves p then [rsvFrom p 1 6, rng 2 (zeroAt p 2 66)] else posConfigTests s p))

/-- A learning trip of the car that must end has failed (R122). -/
def Pos.failLearn (p : Pos) : Pos := { p with learn := p.learn.map fun l => { l with failed := true } }

/-- The car's position tracking under a new configuration: UNPLACED (R103, R133). SEQ of the last accepted reading and a
pair's first reading are forgotten, and the bar of R120 on automatic correction runs ends (DESIGN CHOICE, log 355). -/
def Pos.reconfigure (p : Pos) (c : PosCfg) : Pos :=
  { ({} : Pos).failLearn with
    cfg := c, table := keptRecords c.landingsM1 p.table, scale := p.scale, everLearned := p.everLearned, state := .unplaced,
    posQ := p.posQ, speed := p.speed, accel := p.accel, slip := p.slip, landing := p.landing, zones := p.zones, sensors := p.sensors,
    band := p.band, bandGood := p.bandGood, apsRejects := p.apsRejects, faults := p.faults, seqJumps := p.seqJumps,
    peakError := p.peakError, learn := p.failLearn.learn }

/-- The configuration takes its place (R25, R133); without REAR door-zone lanes the car has no REAR door (R216). REMOVE
discards the landing table, STRETCH and all learned data with the slot (DESIGN CHOICE, log 353). -/
def setPosConfig (p : List Byte) (s : State) : State :=
  let car := carOf p
  if posRemoves p then s.setCar car {}
  else s.modCar car fun c =>
    let x := posCfgOf p
    { c with configured := true, pos := c.pos.reconfigure x, doors := if x.dz[1][0] = noRef then c.doors.set 1 {} else c.doors }

/-- The jobs of a car slot that is removed end as failed. -/
def State.dropCarJobs (s : State) (car : CarId) : State :=
  let s := match s.findJob fun j => j.kind == .posLearn car with
    | some j => endJob j stJobFailed [] s
    | none => s
  s.abortTest car

/-- `pos.config` takes effect (R25, R133); a car that it finds moving stops, since one in UNPLACED does not move (R119). -/
def applyPosConfig (p : List Byte) (s : State) : State :=
  if posRemoves p then setPosConfig p (s.dropCarJobs (carOf p)) else (setPosConfig p s).positionStop (carOf p)

/-- `pos.config` (R25, R133). -/
def posConfigDef : CmdDef :=
  { opcode := 0x0410, len := fun n => n = 68, form := posConfigForm,
    act := fun f c s =>
      let x := f.car (carOf c.payload)
      if !x.out || (posRemoves c.payload && x.safe.causes != 0) then .refuse stState []
      else admitStage f (setPosConfig c.payload) false 0xFF (.cmd 0x0410 c.payload) [] s }

/-- Key of the landing side that a request names. -/
def landingKey (p : List Byte) : Nat := byteAt p 1 * 2 + byteAt p 2 % 2

/-- The landing and side that a request names are in range (R25, R97, R134). -/
def landingTests (s : State) (p : List Byte) : List Test :=
  let c := s.car (carOf p)
  [rng 0 (decide (byteAt p 0 < 8)), rng 1 (!c.configured || decide (byteAt p 1 ≤ c.pos.cfg.landingsM1)), rsvFrom p 2 1, rsvFrom p 3 1]

/-- The table after `pos.landing`. -/
def landingWrite (p : List Byte) (x : Pos) : List (Nat × LandingRec) :=
  let r := Mem.get {} x.table (landingKey p)
  Mem.set {} x.table (landingKey p) { r with written := true, served := bit (byteAt p 3) 0, level := intAt p 4 4, vane := intAt p 8 4 }

/-- `pos.landing` takes effect (R134). -/
def applyPosLanding (p : List Byte) (s : State) : State :=
  s.modPos (carOf p) fun x => { x with table := landingWrite p x }

/-- `pos.landing` (R97, R134). -/
def posLandingDef : CmdDef :=
  { opcode := 0x0411, len := fun n => n = 16,
    form := fun s p =>
      let c := s.car (carOf p)
      firstBad (landingTests s p ++ [rul 4 (!c.configured || levelsFit c.pos.cfg (landingWrite p c.pos)), rsv p 12 4]),
    act := fun f c s =>
      let x := f.car (carOf c.payload)
      if !x.configured || !x.out then .refuse stState [] else .done [] (s.stage (.cmd 0x0411 c.payload)) }

/-- `pos.table` (R121, R135): the values in force. A side never written has no LEVEL: what its record shows there is a free value (log 3). -/
def posTableDef : CmdDef :=
  { opcode := 0x0412, len := fun n => n = 4, form := fun s p => firstBad (landingTests s p),
    act := fun f c s =>
      let p := c.payload
      let car := carOf p
      if !(f.car car).configured then .refuse stState []
      else
        let x := (s.car car).pos
        let r := Mem.get {} x.table (landingKey p)
        let z := r.zone x.cfg.zoneHalf
        let key := p.take 3 ++ [byte (flagBit r.served 0 + flagBit r.learned.isSome 1)]
        let rest := leInt 4 r.vane ++ r.stretch.toList.flatMap (leInt 2) ++ leBytes 4 (total (r.samples.toList.zipIdx.map fun q => q.1 * 16 ^ q.2))
        if r.written then .done (key ++ leInt 4 r.levelNow ++ leInt 4 z.1 ++ leInt 4 z.2 ++ rest) s
        else
          let q := s.drawBytes 12
          .done (key ++ q.1 ++ rest) q.2 }

/-- STATE code (R136). -/
def Placement.code : Placement → Nat
  | .unconfigured => 0
  | .unplaced => 1
  | .correcting => 2
  | .placed => 3
  | .learning => 4

/-- The reply of `pos.status` (R25, R136). -/
def State.posStatusReply (s : State) (car : CarId) : List Byte :=
  let c := s.grp.shownCars[car.val]
  let p := c.pos
  if !c.configured then [byte car.val, 0, 0, 0] ++ leBytes 8 s.figureFrame ++ zeros 32
  else
    let zones := flagBit p.zones[0] 0 + flagBit p.zones[1] 1 + flagBit p.relevel 2
    [byte car.val, byte p.state.code, byte p.quality, byte p.fault] ++ leBytes 8 s.figureFrame
      ++ leInt 4 p.units ++ leInt 4 p.speed ++ leInt 4 p.accel ++ leInt 4 p.slip ++ [byte p.landing, byte zones, byte p.band, 0]
      ++ leBytes 4 p.apsRejects ++ leBytes 4 p.faults ++ leBytes 2 (min 65535 p.apsAge) ++ leBytes 2 (min 65535 p.peakError)

/-- `pos.status` (R136). -/
def posStatusDef : CmdDef := statusCmd 0x0413 4 carTests fun s c => s.posStatusReply (carOf c.payload)

/-- The car may begin the learning trip that is asked for (R122, R123). -/
def Car.mayLearn (c : Car) (shaft scale : Bool) : Bool :=
  c.configured && c.pos.state == .placed && (if shaft then c.atBottom else c.motion.phase == .idle) && (!scale || (c.pos.cfg.aps && c.pos.cfg.enc))

/-- `pos.learn` takes effect (R122, R137); a car that has left PLACED in between has failed its trip. -/
def applyPosLearn (p : List Byte) (s : State) : State :=
  s.modPos (carOf p) fun x =>
    let y := x.startLearning (bit (byteAt p 1) 0) (bit (byteAt p 1) 1) (fieldAt p 2 2)
    if x.state = .placed then y else { y.failLearn with state := x.state }

/-- `pos.learn` (R122, R123, R137). -/
def posLearnDef : CmdDef :=
  { opcode := 0x0414, len := fun n => n = 8,
    form := fun _ p => firstBad [rng 0 (decide (byteAt p 0 < 8)), rsvFrom p 1 2, rng 1 (byteAt p 1 != 0), rng 2 (between 1600 16000 (fieldAt p 2 2)), rsv p 4 4],
    act := fun f c s =>
      let p := c.payload
      let car := carOf p
      if s.jobsFull then .refuse stLimit []
      else if !(f.car car).mayLearn (bit (byteAt p 1) 0) (bit (byteAt p 1) 1) || (f.car car).pos.learn.isSome then .refuse stState []
      else match startJob (.posLearn car) 0x0414 c s with
        | .later s => .later (s.stage (.cmd 0x0414 p))
        | v => v }

/-- `pos.correct` takes effect (R119, R120, R138). -/
def applyPosCorrect (p : List Byte) (s : State) : State :=
  s.modPos (carOf p) fun x => if x.state = .unplaced then { x.startCorrection with corrBlocked := false } else x

/-- `pos.correct` (R119, R130, R138): no movement while no source is in use, and none into a position stop that still runs
(log 356). -/
def posCorrectDef : CmdDef :=
  { opcode := 0x0415, len := fun n => n = 4, form := fun s p => firstBad (carTests s p),
    act := fun f c s =>
      let car := carOf c.payload
      let x := f.car car
      if x.mayCorrect && (s.sgOf car).closedLocked then
        .done [] (s.stage (.cmd 0x0415 c.payload))
      else .refuse stState [] }

/-- A landing record after a wipe (R139). -/
def LandingRec.wipe (r : LandingRec) (scope : Nat) : LandingRec :=
  let r := if bit scope 0 then { r with learned := none } else r
  if bit scope 1 then { r with stretch := Vector.replicate 8 0, samples := Vector.replicate 8 0 } else r

/-- `pos.wipe` takes effect (R139); a car that it finds moving stops (R119). -/
def applyPosWipe (p : List Byte) (s : State) : State :=
  let scope := byteAt p 1
  (s.positionStop (carOf p)).modPos (carOf p) fun x => { x.failLearn with
    table := (x.table.map fun q => (q.1, q.2.wipe scope)).filter fun q => q.2 != {}, everLearned := x.everLearned && !bit scope 0,
    scale := if bit scope 2 then none else x.scale, state := .unplaced, pendingQ := 0, settle := none, anchored := false }

/-- `pos.wipe` (R139). -/
def posWipeDef : CmdDef :=
  { opcode := 0x0416, len := fun n => n = 4, form := fun _ p => firstBad [rng 0 (decide (byteAt p 0 < 8)), rsvFrom p 1 3, rsv p 2 2],
    act := fun f c s =>
      let x := f.car (carOf c.payload)
      if !x.configured || !x.out then .refuse stState [] else .done [] (s.stage (.cmd 0x0416 c.payload)) }

end Sys2Proof.Machine
end

