-- ==== Sys2Proof/Machine/CmdProf.lean ====
section
/-! DEFINITION. The commands of motion profiles: `prof.config`, `prof.limits`, `prof.zone`, `prof.status` (R169–R172). -/

namespace Sys2Proof.Machine

/-- The configuration of a `prof.config` request (R169). -/
def profCfgOf (p : List Byte) : ProfCfg :=
  let o := byteAt p 1
  { brs := bit o 1, refDup := bit o 2, refId := fieldAt p 2 2, statusId := fieldAt p 4 2, maxAge := byteAt p 6, followFrames := byteAt p 7,
    rated := fieldAt p 8 4, v := fieldAt p 12 4, a := fieldAt p 16 4, d := fieldAt p 20 4, j := fieldAt p 24 4, kp := fieldAt p 28 2,
    corrMax := fieldAt p 30 2, followLimit := fieldAt p 32 2, stopWindow := fieldAt p 34 2, settleMs := fieldAt p 36 2,
    enableMs := fieldAt p 38 2, dwellMs := fieldAt p 40 2 }

/-- `prof.config` takes effect: the limits in force become the configured ones (R169). -/
def applyProfConfig (p : List Byte) (s : State) : State :=
  let c := profCfgOf p
  s.modMotion (carOf p) fun m =>
    { ({} : Motion) with
      present := true, cfg := c, limits := { v := c.v, a := c.a, d := c.d, j := c.j }, zones := m.zones, ref := m.ref, before := m.before,
      refSeq := m.refSeq, pastEve := m.pastEve, status := m.status, statusAge := if m.present && m.cfg.statusId == c.statusId then m.statusAge else 0,
      statusSeen := m.present && m.cfg.statusId == c.statusId && m.statusSeen,
      lastDir := m.lastDir, followErr := m.followErr, followErrQ := m.followErrQ,
      phase := m.phase, since := m.since, kind := m.kind, plan := m.plan, planFor := m.planFor, capped := m.capped, target := m.target, targetLanding := m.targetLanding,
      targetSide := m.targetSide, committed := m.committed, posStop := m.posStop, reversal := m.reversal, nowhere := m.nowhere,
      waitPermit := m.waitPermit, withdrawn := m.withdrawn, down := m.down, rolling := m.rolling,
      refDone := m.refDone, refWas := m.refWas, missed := m.missed, dwellFrom := m.dwellFrom }

/-- The bus of a car's drive. -/
def driveBus (p : List Byte) : BusId := Fin.ofNat 16 (2 * (byteAt p 0 % 8))

/-- The form of `prof.config` (R164, R169, R337, R437, R618). -/
def profConfigTests (s : State) (p : List Byte) : List Test :=
  let c := profCfgOf p
  let b := driveBus p
  let after := applyProfConfig p s
  [rng 0 (decide (byteAt p 0 < 8)), rsvFrom p 1 3, rng 1 (bit (byteAt p 1) 0),
   (decide (2 ^ 11 ≤ c.refId), 2, whyReserved, 0xFFFFFF), rul 2 (!c.refDup || c.refId % 2 == 0),
   (decide (2 ^ 11 ≤ c.statusId), 4, whyReserved, 0xFFFFFF),
   rng 6 (between 1 16 c.maxAge), rng 7 (between 1 64 c.followFrames), rng 8 (between 160 320000 c.rated), rng 12 (between 160 c.rated c.v),
   rng 16 (between 1600 40000 c.a), rng 20 (between 1600 40000 c.d), rng 24 (between 1600 64000 c.j), rng 28 (decide (c.kp ≤ 0x2000)),
   rng 30 (decide (c.corrMax ≤ 1600)), rng 32 (between 16 16000 c.followLimit), rng 34 (between 4 80 c.stopWindow),
   rng 36 (between 50 2000 c.settleMs), rng 38 (between 50 5000 c.enableMs), rng 40 (decide (c.dwellMs ≤ 10000)), rsv p 42 2,
   rul 2 (!after.refBeaten b), rul 2 (!after.idClash b || s.idClash b), rul 1 (!after.fdRef (carOf p))]

/-- `prof.config` (R169). -/
def profConfigDef : CmdDef :=
  { opcode := 0x0510, len := fun n => n = 44, form := fun s p => firstBad (profConfigTests s p),
    act := fun f c s =>
      let x := f.car (carOf c.payload)
      if !x.configured || !x.out then .refuse stState []
      else admitStage f (applyProfConfig c.payload) false 0xFF (.cmd 0x0510 c.payload) [] s }

/-- The four limits of a `prof.limits` request, those that MASK names. -/
def limitsOf (p : List Byte) : Vector (Option Nat) 4 :=
  Vector.ofFn fun i => if bit (byteAt p 1) i.val then some (fieldAt p (4 + 4 * i.val) 4) else none

/-- Limits with one of them replaced, in the order V, A, D, J. -/
def Limits.put (l : Limits) (i : Fin 4) (x : Nat) : Limits :=
  match i with
  | 0 => { l with v := x }
  | 1 => { l with a := x }
  | 2 => { l with d := x }
  | 3 => { l with j := x }

/-- One of the four limits. -/
def Limits.get (l : Limits) (i : Fin 4) : Nat :=
  match i with
  | 0 => l.v
  | 1 => l.a
  | 2 => l.d
  | 3 => l.j

/-- A reduced limit waits for the brakes (R153): the car decelerates toward its stop, that of a placed correction run or of a
learning leg included, or the stop would lie short of S_MIN under the reduced limits. Both are judged on the state `r` from which the frame's plan starts. -/
def Motion.defers (m : Motion) (r : Ref) (i : Fin 4) (x : Nat) : Bool :=
  let moving := m.phase == .running && m.target.isSome
  let slowing := decide (divNearest (r.a * 65536) (10 ^ 6) * r.dir < 0)
  let l := m.limits.put i x
  let short := m.target.any fun t => decide (r.dir ≠ 0) && decide (r.aheadQ t < r.stopQ l.d l.j)
  decide (x < m.limits.get i) && moving && (slowing || short)

/-- One written limit comes into force or is deferred (R153, R154): each is judged on its own, afresh. -/
def Motion.setLimit (r : Ref) (m : Motion) (i : Fin 4) (x : Nat) : Motion :=
  if m.defers r i x then { m with waiting := m.waiting.set i.val (some x) }
  else { m with limits := m.limits.put i x, waiting := m.waiting.set i.val none }

/-- Within one frame the last value written for a limit stands (R154): what a later request of the frame writes for the same
car leaves the MASK of an earlier one. -/
def lastLimits : List Deferred → List Deferred
  | [] => []
  | .cmd 0x0511 p :: rest =>
    let later := rest.foldl (fun m d => match d with
      | .cmd 0x0511 q => if carOf q = carOf p then m ||| byteAt q 1 else m
      | _ => m) 0
    .cmd 0x0511 (p.take 1 ++ [byte (byteAt p 1 - (byteAt p 1 &&& later))] ++ p.drop 2) :: lastLimits rest
  | d :: rest => d :: lastLimits rest

/-- `prof.limits` takes effect (R153, R154): judged on the reference state at the next Calends, from which the frame's plan
starts. -/
def applyProfLimits (p : List Byte) (s : State) : State :=
  let ls := limitsOf p
  s.modMotion (carOf p) fun m =>
    let r := (runPlan m.plan s.grp.frameLen.us m.ref).1
    (List.finRange 4).foldl (fun m i => match ls[i.val] with
      | some x => m.setLimit r i x
      | none => m) m

/-- The form of `prof.limits` (R141, R170). -/
def profLimitsTests (s : State) (p : List Byte) : List Test :=
  let c := (s.car (carOf p)).motion.cfg
  let one (i : Nat) (lo hi : Nat) : Test :=
    let v := fieldAt p (4 + 4 * i) 4
    rng (4 + 4 * i) (if bit (byteAt p 1) i then decide (lo ≤ v) && (!(s.car (carOf p)).motion.present || decide (v ≤ hi)) else v == 0)
  [rng 0 (decide (byteAt p 0 < 8)), rsvFrom p 1 4, rsv p 2 2, one 0 160 c.v, one 1 1600 c.a, one 2 1600 c.d, one 3 1600 c.j]

/-- `prof.limits` (R153, R170). -/
def profLimitsDef : CmdDef :=
  { opcode := 0x0511, len := fun n => n = 20, form := fun s p => firstBad (profLimitsTests s p),
    act := fun f c s =>
      if (f.car (carOf c.payload)).motion.present then .done [] (s.stage (.cmd 0x0511 c.payload)) else .refuse stState [] }

/-- `prof.zone` takes effect (R156, R171). -/
def applyProfZone (p : List Byte) (s : State) : State :=
  let z : CapZone := { up := bit (byteAt p 2) 0, down := bit (byteAt p 2) 1, low := intAt p 4 4, high := intAt p 8 4, cap := fieldAt p 12 4 }
  s.modMotion (carOf p) fun m => { m with zones := m.zones.set (byteAt p 1 % 16) z (Nat.mod_lt _ (by decide)) }

/-- `prof.zone` (R171). -/
def profZoneDef : CmdDef :=
  { opcode := 0x0512, len := fun n => n = 16,
    form := fun _ p => firstBad [rng 0 (decide (byteAt p 0 < 8)), rng 1 (decide (byteAt p 1 < 16)), rsvFrom p 2 2, rsv p 3 1,
      rng 8 (decide (intAt p 4 4 < intAt p 8 4)), rng 12 (between 160 320000 (fieldAt p 12 4))],
    act := fun f c s =>
      let x := f.car (carOf c.payload)
      if !x.configured || !x.out then .refuse stState [] else .done [] (s.stage (.cmd 0x0512 c.payload)) }

/-- PHASE code (R158). -/
def TripPhase.code : TripPhase → Nat
  | .idle => 0
  | .starting => 1
  | .running => 2
  | .settling => 3
  | .stopping => 4

/-- The reply of `prof.status` (R172). -/
def State.profStatusReply (s : State) (car : CarId) : List Byte :=
  let c := s.grp.shownCars[car.val]
  let m := c.motion
  let flags := flagBit m.committed 0 + flagBit m.posStop 1 + flagBit m.reversal 2 + flagBit m.capped 3 + flagBit (bit m.status.flags 0) 4
    + flagBit c.safe.lifted 5
  let waits := total ((List.finRange 4).map fun i => flagBit m.waiting[i.val].isSome i.val)
  let target : Int := match m.target with
    | some t => divNearest t 65536
    | none => 0
  [byte car.val, byte m.phase.code, byte (if m.phase = .running then m.ref.segment else 0xFF), byte flags] ++ leBytes 8 s.figureFrame
    ++ leInt 4 m.ref.pos ++ leInt 4 m.ref.speed ++ leInt 4 m.ref.accel ++ leInt 4 m.ref.j ++ leInt 4 target
    ++ [byte (if m.posStop then 0xFF else m.targetLanding.getD 0xFF), byte waits, byte (min 255 m.missed), byte m.status.seqEcho]
    ++ leBytes 4 (distUnits (m.ref.stopDistance m.limits.d m.limits.j)) ++ leInt 4 m.followErr ++ leBytes 4 m.pastEve
    ++ [byte m.fault, byte m.status.flags, byte m.status.code, 0] ++ leInt 2 m.status.torque ++ leBytes 2 m.status.dcBus

/-- `prof.status` (R172). -/
def profStatusDef : CmdDef := statusCmd 0x0513 4 carTests fun s c => s.profStatusReply (carOf c.payload)

end Sys2Proof.Machine
end

