-- ==== Sys2Proof/Machine/HostPort.lean ====
section
/-! DEFINITION. The native window: ring indices, doorbells, slot windows, interrupt words (13). -/

namespace Sys2Proof.Machine

/-- The native window answers beyond its identification words: native mode, after the first Calends or in RETIRED
(R450, R588, R587). -/
def State.nativeUp (s : State) : Bool := decide (s.boot.mode = 0) && (s.running || s.boot.phase == .retired)

/-- A refused index write, slot write or doorbell (R462, R463): BAD_INDEX, its count and its event bit. -/
def State.badIndex (s : State) (r : RingId) : State :=
  (s.modRing r fun q => { q with badIndex := true, badEvents := satInc 32 q.badEvents }).irqEvent 1

/-- The host owns PROD: COMMAND and DATA_IN rings (R462). -/
def Ring.hostProduces (q : Ring) : Bool := q.use == .command || q.use == .dataIn

/-- The host owns CONS: REPLY and DATA_OUT rings (R462). -/
def Ring.hostConsumes (q : Ring) : Bool := q.use == .reply || q.use == .dataOut

/-- A PROD write is allowed (R463). -/
def Ring.prodOk (q : Ring) (v : Nat) : Bool :=
  let m := 2 * q.slots
  q.hostProduces && decide (v < m) && decide ((v + m - q.prod) % m ≤ (q.cons + q.slots + m - q.prod) % m)

/-- A CONS write is allowed (R463). -/
def Ring.consOk (q : Ring) (v : Nat) : Bool :=
  let m := 2 * q.slots
  q.hostConsumes && decide (v < m) && decide ((v + m - q.cons) % m ≤ (q.prod + m - q.cons) % m)

/-- A host write of PROD (R463). -/
def writeProd (r : RingId) (v : BitVec 16) (s : State) : State :=
  let i := (v.setWidth 13).toNat
  if s.host.rings[r.val].prodOk i then s.modRing r fun q => { q with prod := i } else s.badIndex r

/-- A host write of CONS (R463). -/
def writeCons (r : RingId) (v : BitVec 16) (s : State) : State :=
  let i := (v.setWidth 13).toNat
  if s.host.rings[r.val].consOk i then s.modRing r fun q => { q with cons := i } else s.badIndex r

/-- A doorbell (R465). -/
def ringDoorbell (r : RingId) (s : State) : State :=
  if s.host.rings[r.val].use = .off then s.badIndex r
  else { s with host := { s.host with rung := s.host.rung.set r.val true } }

/-- The slot at a physical place holds published, unconsumed data (R464). -/
def Ring.published (q : Ring) (place : Nat) : Bool := decide ((place + 2 * q.slots - q.cons) % q.slots < q.used)

/-- The ring and the physical slot behind a window offset (R464). -/
def State.windowSlot (s : State) (w : Fin 4) (o : Nat) : RingId × Nat :=
  let r : RingId := Fin.ofNat 64 s.host.pageRing[w.val]
  let q := s.host.rings[r.val]
  (r, (s.host.pageSlot[w.val] + o / q.size) % q.slots)

/-- A write of one byte through a slot window into a slot the host owns (R464). -/
def windowByte (w : Fin 4) (o : Nat) (b : Byte) (s : State) : State :=
  let (r, p) := s.windowSlot w o
  s.modRing r fun q => { q with data := Mem.set 0 q.data (p * q.size + o % q.size) b }

/-- A word written through a slot window (R453, R464): both bytes fall in one slot. -/
def windowWrite (w : Fin 4) (o : Nat) (v : BitVec 16) (s : State) : State :=
  let o := o % 0x4000 / 2 * 2
  let (r, p) := s.windowSlot w o
  let q := s.host.rings[r.val]
  if q.use = .off then s
  else if q.hostConsumes || q.published p then s.badIndex r
  else windowByte w (o + 1) (v.extractLsb' 8 8) (windowByte w o (v.setWidth 8) s)

/-- RSTAT (R462). -/
def State.rstat (s : State) (r : RingId) : Nat :=
  let q := s.host.rings[r.val]
  flagBit q.badIndex 0 + flagBit q.chainDiscarded 1 + flagBit (!(s.host.held[r.val]).isEmpty) 2
    + flagBit (!(s.grp.sources[r.val]).asm.isEmpty) 3 + flagBit q.irqOnFree 9

/-- Clear the bits of word `k` of a 64-bit field that a W1C write names. -/
def clear64 (x : BitVec 64) (k : Nat) (v : BitVec 16) : BitVec 64 := x &&& ~~~((v.setWidth 64) <<< (16 * k))

/-- Replace word `k` of a 64-bit field. -/
def put64 (x : BitVec 64) (k : Nat) (v : BitVec 16) : BitVec 64 :=
  (x &&& ~~~(0xFFFF#64 <<< (16 * k))) ||| ((v.setWidth 64) <<< (16 * k))

/-- A native-window write of a word (R13, R457–R465). -/
def nativeWrite (addr : Nat) (v : BitVec 16) (s : State) : State :=
  let a := addr % 0x20000 / 2 * 2
  let h := s.host
  if 0x100 ≤ a ∧ a ≤ 0x106 then { s with host := { h with irqRing := clear64 h.irqRing ((a - 0x100) / 2) v } }
  else if 0x108 ≤ a ∧ a ≤ 0x10E then { s with host := { h with irqMask := put64 h.irqMask ((a - 0x108) / 2) v } }
  else if a = 0x110 then { s with host := { h with irqEvent := h.irqEvent &&& ~~~(v.setWidth 6) } }
  else if a = 0x112 then { s with host := { h with irqEventMask := v.setWidth 6 } }
  else if 0x120 ≤ a ∧ a ≤ 0x12E then
    let n := (a - 0x120) / 4 % 4
    if a % 4 = 0 then { s with host := { h with pageRing := h.pageRing.set n (v.setWidth 6).toNat (by omega) } }
    else { s with host := { h with pageSlot := h.pageSlot.set n (v.setWidth 12).toNat (by omega) } }
  else if 0x200 ≤ a ∧ a ≤ 0x3FE then
    let r : RingId := Fin.ofNat 64 ((a - 0x200) / 8)
    match (a - 0x200) % 8 with
    | 0 => writeProd r v s
    | 2 => writeCons r v s
    | 6 => s.modRing r fun q => { q with badIndex := q.badIndex && !v.getLsbD 0,
                                         chainDiscarded := q.chainDiscarded && !v.getLsbD 1, irqOnFree := v.getLsbD 9 }
    | _ => s
  else if 0x400 ≤ a ∧ a ≤ 0x47E then ringDoorbell (Fin.ofNat 64 ((a - 0x400) / 2)) s
  else if 0x10000 ≤ a then windowWrite (Fin.ofNat 4 ((a - 0x10000) / 0x4000)) ((a - 0x10000) % 0x4000) v s
  else s

/-- A native-window word (R457–R464), as a cycle of a module that drives the host port returns it. -/
def nativeRead (s : State) (addr : Nat) : BitVec 16 :=
  let a := addr % 0x20000 / 2 * 2
  let h := s.host
  let lifeCode : Life → Nat
    | .maker => 0
    | .issued => 1
    | .sealed => 2
    | .returned => 3
    | .retired => 4
  let ident := a ≤ 0x14
  let fw := match s.boot.phase with
    | .stopped code => (0xFFFF, code)
    | _ => (s.boot.fwVersion, s.boot.fwPatch)
  let v : Nat :=
    if ident then
      match a with
      | 0x00 => 0x4F58
      | 0x02 => 0x8800
      | 0x04 => fw.1
      | 0x06 => fw.2
      | 0x08 => s.boot.mode + flagBit (s.boot.phase == .refused) 2 + flagBit s.running 3 + 16 * lifeCode s.boot.life
                + flagBit s.nv.pair.paired 7 + flagBit s.boot.pairSel 8
      | 0x0A => 1
      | 0x0C => s.grp.frame
      | 0x0E => h.frameLatch
      | 0x10 => h.frameLatch / 2 ^ 16
      | 0x12 => h.frameLatch / 2 ^ 32
      | 0x14 => h.busErrors
      | _ => 0
    else if !s.nativeUp then 0
    else if 0x100 ≤ a ∧ a ≤ 0x106 then h.irqRing.toNat / 2 ^ (8 * (a - 0x100))
    else if 0x108 ≤ a ∧ a ≤ 0x10E then h.irqMask.toNat / 2 ^ (8 * (a - 0x108))
    else if a = 0x110 then h.irqEvent.toNat
    else if a = 0x112 then h.irqEventMask.toNat
    else if 0x120 ≤ a ∧ a ≤ 0x12E then
      (if a % 4 = 0 then h.pageRing else h.pageSlot)[(a - 0x120) / 4 % 4]'(by omega)
    else if 0x200 ≤ a ∧ a ≤ 0x3FE then
      let r : RingId := Fin.ofNat 64 ((a - 0x200) / 8)
      let q := h.rings[r.val]
      match (a - 0x200) % 8 with
      | 0 => q.prod
      | 2 => q.cons
      | 4 => q.rcfg
      | _ => s.rstat r
    else if 0x10000 ≤ a then
      let w : Fin 4 := Fin.ofNat 4 ((a - 0x10000) / 0x4000)
      let o := (a - 0x10000) % 0x4000
      let (r, p) := s.windowSlot w o
      let q := h.rings[r.val]
      if q.use = .off then 0
      else (Mem.get 0 q.data (p * q.size + o % q.size)).toNat + 256 * (Mem.get 0 q.data (p * q.size + o % q.size + 1)).toNat
    else 0
  BitVec.ofNat 16 v

/-- PROD_WRITE (R463). -/
def execProdWrite (r : RingId) (v : BitVec 16) (s : State) : Host.Outcome State Fault Refusal :=
  .next (s.within [.rings, .irq] (if s.nativeUp then writeProd r v s else s))

/-- CONS_WRITE (R463). -/
def execConsWrite (r : RingId) (v : BitVec 16) (s : State) : Host.Outcome State Fault Refusal :=
  .next (s.within [.rings, .irq] (if s.nativeUp then writeCons r v s else s))

/-- DOORBELL (R465). -/
def execDoorbell (r : RingId) (s : State) : Host.Outcome State Fault Refusal :=
  .next (s.within [.rings, .irq] (if s.nativeUp then ringDoorbell r s else s))

/-- SLOT_WINDOW_WRITE (R464). -/
def execSlotWindowWrite (w : Fin 4) (o : Nat) (v : BitVec 16) (s : State) : Host.Outcome State Fault Refusal :=
  .next (s.within [.rings, .irq] (if s.nativeUp then windowWrite w o v s else s))

/-- FRAME0_READ (R458): FRAME1 to FRAME3 are latched with the word returned. -/
def execFrame0Read (s : State) : Host.Outcome State Fault Refusal :=
  .next (s.within [.window] (if s.boot.mode = 0 then { s with host := { s.host with frameLatch := s.grp.frame / 2 ^ 16 } } else s))

/-- HOST_STROBE_TIMEOUT (R456): the cycle ends inside the module and is counted, and HOST_BUS sets. -/
def execHostStrobeTimeout (s : State) : Host.Outcome State Fault Refusal :=
  .next (s.within [.irq, .window] (if s.boot.mode = 0 then
      { s with host := { s.host with busErrors := satInc 16 s.host.busErrors } }.irqEvent 0
    else { s with host := { s.host with ul40BusErrors := satInc 32 s.host.ul40BusErrors } }.irqEvent 0))

/-- CHAIN_TIMEOUT (R471): 1,000 ms without a new slot discard the chain, with a malformed reply carrying its TAG. -/
def execChainTimeout (src : Source) (s : State) : Host.Outcome State Fault Refusal :=
  let x := s.grp.sources[src.val]
  .next (s.within mailParts (if s.running && !x.asm.isEmpty && decide (s.msFrames 1000 ≤ s.grp.frame - x.asmAt) then
      let dest := s.replyDest src (byteAt x.asm 6)
      let s := s.dropChain src
      s.postReply dest none (replyBytes (fieldAt x.asm 0 2) (fieldAt x.asm 2 2) stMalformed 2 (fieldAt x.asm 8 4)
        (Bad.bytes ⟨0xFFFF, whyLength, 0xFFFFFF⟩))
    else s))

/-- REPLY_POST (R472): what waits is posted slot by slot into the slots that are free. -/
def execReplyPost (src : Source) (s : State) : Host.Outcome State Fault Refusal :=
  .next (s.within [.sessions, .rings, .irq, .net] (if s.holds then State.postHeld (s.heldSlots src) src s else s))

/-- JOB_PROGRESS (R52, R491): a progress reply each time the fraction has advanced by 16/256. -/
def execJobProgress (id fraction cycles : Nat) (s : State) : Host.Outcome State Fault Refusal :=
  .next (s.within [.jobs, .sessions, .rings, .irq, .net] (match s.findJob fun j => j.id = id with
    | none => s
    | some j =>
      if s.holds && decide (fraction ≤ 256) && decide (j.posted + 16 ≤ fraction) then
        let f (x : Job) : Job := if x.id = id then { x with fraction := fraction, posted := fraction, cycles := cycles } else x
        let s := { s with grp := { s.grp with jobs := s.grp.jobs.map f } }
        s.postReply (s.lateDest j.src j.target j.serial) (some id) (replyBytes j.opcode j.tag stOk 1 j.seq
          (leBytes 2 id ++ leBytes 2 fraction ++ zeros 4 ++ leBytes 8 (min cycles (2 ^ 64 - 1))))
      else s))

end Sys2Proof.Machine
end

