-- ==== Sys2Proof/Machine/Ul40.lean ====
section
/-! DEFINITION. The UL-40 image of each car: what its registers show, its writes, events and latches (15). -/

namespace Sys2Proof.Machine

/-- Change a car's image. -/
def State.modUl (s : State) (c : CarId) (f : Ul40 → Ul40) : State := s.modCar c fun x => { x with ul40 := f x.ul40 }

/-- The port shows images: UL-40 and mixed mode (R512, R527). -/
def State.imageMode (s : State) : Bool := s.boot.mode == 1 || s.boot.mode == 2

/-- An image serves its car: control plane running, car configured, image enabled (R523, R524; log 90). -/
def State.imageUp (s : State) (c : CarId) : Bool :=
  s.imageMode && s.running && (s.car c).configured && (s.car c).ul40.enabled

/-- The car is outside DISPATCH_CARS (R187, R517). -/
def State.hostDispatch (s : State) (c : CarId) : Bool := !s.grp.disp.cfg.cars.getLsbD c.val

/-- The UL-40 position: floor(POSITION ÷ 16) + POS_OFFSET_MM in 24 bits, clamped (R518). -/
def Car.imagePos (c : Car) : Nat := (clampInt 0 0xFFFFFF (c.pos.units / 16 + c.ul40.offsetMm)).toNat

/-- Bits [7:0] of a door register (R517). -/
def Door.imageByte (d : Door) : Nat :=
  if d.configured then d.phase.code + flagBit d.nudging 3 + flagBit (d.tripped != 0) 4 else 0

/-- STATE (R517). -/
def State.imageState (s : State) (c : Car) : Nat :=
  flagBit (c.motion.phase != .idle) 0 + flagBit (c.dir == .up) 1 + flagBit (c.dir == .down) 2
    + flagBit (c.pos.zones[0] || c.pos.zones[1]) 3 + flagBit c.safe.closedLocked 4
    + flagBit (c.service == .normal || c.service == .independent) 5 + flagBit (c.service == .lockedOut) 6
    + flagBit (c.service == .faulted || c.service == .lockedOut || s.grp.safeState) 7

/-- Word of LISTED (R517). -/
def Car.listedWord (c : Car) (j : Nat) : Nat :=
  ((List.range 16).map fun i =>
    flagBit ((c.stop (2 * (16 * j + i))).listed || (c.stop (2 * (16 * j + i) + 1)).listed) i).foldl (· + ·) 0

/-- The bits of 16 references: primary value non-zero (R517, IN_WORD). -/
def State.inWord (s : State) (refs : Vector Nat 16) : Nat :=
  ((List.finRange 16).map fun i =>
    flagBit (refs[i.val] != noRef && (s.entryShown refs[i.val]).primary != 0) i.val).foldl (· + ·) 0

/-- Code of an error state (R64). -/
def ErrorState.num : ErrorState → Nat
  | .active => 0
  | .passive => 1
  | .busOff => 2

/-- A register of an image that serves (R514, R517): RO values of the frame before, WS values as last committed. -/
def State.servedWord (s : State) (car : CarId) (reg : Nat) : Nat :=
  let c := s.grp.shownCars[car.val]
  let u := (s.car car).ul40
  match reg with
  | 0x00 => s.imageState c + 256 * u.events.toNat + flagBit s.grp.safeState 13 + flagBit (!s.grp.shownDispatch.getLsbD car.val) 14
  | 0x01 => c.pos.fault + 256 * c.motion.fault
  | 0x02 => c.safe.causes % 65536
  | 0x03 => bits c.safe.causes 21 16
  | 0x04 => ({ c with ul40 := u }.imagePos) % 65536
  | 0x05 => u.posHi
  | 0x06 => (clampInt (-32768) 32767 (c.pos.speed.tdiv 16) % 65536).toNat
  | 0x07 => c.pos.landing % 256 + 256 * (c.motion.targetLanding.getD 0xFF)
  | 0x08 => c.pos.state.code + 8 * c.pos.band + 64 * c.dir.code + 256 * c.service.code
  | 0x09 => c.doors[0].imageByte + 256 * c.doors[1].imageByte
  | 0x0A => u.revs[0] + 256 * u.revs[1]
  | 0x0B => u.dwell
  | 0x0C => u.accessDwell
  | 0x0D => u.nudge
  | 0x0E => u.doorCmd
  | 0x0F => u.stopCmd
  | 0x10 => c.ul40.stopResult + 256 * c.ul40.stopLanding
  | 0x11 => u.serviceCmd
  | 0x12 => u.vmaxCmd
  | 0x13 => s.inWord u.ins
  | 0x14 => u.outWord
  | 0x15 => (s.io.buses[2 * car.val]).servedState.num + 4 * (s.io.buses[2 * car.val + 1]).servedState.num
            + flagBit (s.io.links[car.val]).servedDown 4
  | 0x3E => 0x0C40
  | 0x3F => 0x0103
  | r => if 0x20 ≤ r ∧ r ≤ 0x2F then c.listedWord (r - 0x20) else 0

/-- A register of an image as a read returns it now (R517, R523, R524). -/
def State.imageWord (s : State) (car : CarId) (reg : Nat) : Nat :=
  if s.imageUp car then s.servedWord car reg
  else if reg = 0x3E then 0x0C40
  else if reg = 0x3F then 0x0103
  else if reg = 0x00 then (if s.running then 0x0080 else 0x8000)
  else 0

/-- A write of a register is of one that has a WS field (R517). -/
def imageWs (reg : Nat) : Bool := [0x0B, 0x0C, 0x0D, 0x0E, 0x0F, 0x11, 0x12, 0x14].contains reg

/-- A write of an image register at its cycle end (R515): counted; of a WS field it waits for the next Calends, and a
second write of the field in a frame takes the first one's place. -/
def imageWrite (car : CarId) (reg : Nat) (v : BitVec 16) (s : State) : State :=
  if !s.imageUp car then s
  else
    let s := s.modUl car fun u => { u with writes := satInc 32 u.writes }
    if !imageWs reg then s
    else
      let kept := s.grp.deferred.filter fun d => match d with
        | .image c r _ => !(c == car && r == reg)
        | _ => true
      let s := { s with grp := { s.grp with deferred := kept } }
      s.stage (.image car reg v.toNat)

/-- The mailbox command that a write maps to would be accepted (R521). -/
def tryCmd (d : CmdDef) (p : List Byte) (s : State) : Bool :=
  (d.form s p).isNone && (match d.act s { payload := p } s with
    | .refuse _ _ | .drop _ _ _ => false
    | _ => true)

/-- RESULT of a Derived SET entry is written with a STAMP: the frame of a kernel's END, else the frame of effect (R399, R521). -/
def State.setResult (s : State) (chan v stamp : Nat) : State :=
  if (s.entry chan).isSet then
    s.modEntry chan fun e => { e with value := putBits e.value 31 0 (v % 2 ^ 32), stamp := stamp % 2 ^ 32 }
  else s

/-- The payloads that a DOOR_CMD maps to: open, close, stop (R521). -/
def doorCmdParts (car : CarId) (v : Nat) : List (CmdDef × (List Byte → State → State) × List Byte) :=
  let part (d : CmdDef) (f : List Byte → State → State) (doors flags : Nat) :=
    if doors = 0 then [] else [(d, f, [byte car.val, byte doors, byte flags, 0])]
  part doorOpenDef applyDoorOpen (bits v 1 0) (bits v 4 4) ++ part doorCloseDef applyDoorClose (bits v 3 2) (bits v 5 5)
    ++ part doorStopDef applyDoorStop (bits v 7 6) 0

/-- A write is refused at its Calends: CMD_REJECT, and the register keeps its value (R521). -/
def State.rejectWrite (s : State) (car : CarId) (reg : Nat) : State :=
  s.modUl car fun u => { u with raised := u.raised ||| 4#5, rejects := satInc 32 u.rejects, lastReject := reg }

/-- DOOR_CMD in force (R521). -/
def applyDoorCmd (car : CarId) (v : Nat) (s : State) : State :=
  let v := v % 256
  let ps := doorCmdParts car v
  if s.grp.safeState || (bits v 1 0 &&& bits v 3 2) != 0 || !(ps.all fun q => tryCmd q.1 q.2.2 s) then s.rejectWrite car 0x0E
  else (ps.foldl (fun s q => q.2.1 q.2.2 s) s).modUl car fun u => { u with doorCmd := v }

/-- STOP_CMD in force (R187, R521). -/
def applyStopCmd (car : CarId) (v : Nat) (s : State) : State :=
  let v := v % 2 ^ 14
  let op := bits v 13 12
  let landing := v % 256
  let sides := bits v 11 10
  let ok (s : State) := s.modUl car fun u => { u with stopCmd := v }
  if op = 0 then (if s.grp.safeState then s.rejectWrite car 0x0F else ok s)
  else if s.grp.safeState || !s.hostDispatch car || (op != 3 && sides == 0) then s.rejectWrite car 0x0F
  else if op = 1 then
    let p := [byte car.val, byte landing, byte (bits v 11 8), 0, 0, 0, 0, 0]
    if tryCmd carStopAddDef p s then
      let q := s.hostStop car landing (bits v 11 8)
      let ask : StopAsk := { key := q.1, atOnce := q.2.1, image := true, result := if q.2.1 then some (3, q.1 % 2) else none }
      ok (q.2.2.modCar car fun c => { c with asks := c.asks ++ [ask] })
    else s.rejectWrite car 0x0F
  else if op = 2 then
    let p := [byte car.val, byte landing, byte (bits v 8 8), 16, 0, 0, 0, 0]
    if tryCmd carStopRemoveDef p s then ok (applyStopRemove p s) else s.rejectWrite car 0x0F
  else
    let c := s.car car
    if c.service = .faulted ∨ c.service = .lockedOut then s.rejectWrite car 0x0F
    else match c.motion.targetLanding with
      | some l => ok (s.modCar car fun c => c.removeStop l [2 * l, 2 * l + 1] true 16)
      | none => ok s

/-- SERVICE_CMD in force (R521). -/
def applyServiceCmd (car : CarId) (v : Nat) (s : State) : State :=
  let v := v % 4
  let p := [byte car.val, byte v, 0, 0]
  let ok (s : State) := s.modUl car fun u => { u with serviceCmd := v }
  if s.grp.safeState then s.rejectWrite car 0x11
  else if v = 3 then ok s
  else if tryCmd carServiceDef p s then ok (applyService p s)
  else s.rejectWrite car 0x11

/-- VMAX_CMD in force (R521): 10 mm/s is 160 units/s. -/
def applyVmaxCmd (car : CarId) (v : Nat) (s : State) : State :=
  let units := if v = 0 then (s.car car).motion.cfg.v else 160 * v
  let p := [byte car.val, 1, 0, 0] ++ leBytes 4 units ++ zeros 12
  if v ≤ 2000 ∧ tryCmd profLimitsDef p s then (applyProfLimits p s).modUl car fun u => { u with vmaxCmd := v }
  else s.rejectWrite car 0x12

/-- OUT_WORD in force (R521). -/
def applyOutWord (car : CarId) (v : Nat) (s : State) : State :=
  let outs := (s.car car).ul40.outs
  let s := (List.finRange 16).foldl (fun s i =>
    if outs[i.val] = noRef then s else s.setResult outs[i.val] (bits v i.val i.val) s.grp.frame) s
  s.modUl car fun u => { u with outWord := v }

/-- Change both doors' configuration. -/
def State.bothDoors (s : State) (car : CarId) (f : DoorCfg → DoorCfg) : State :=
  s.modCar car fun c => { c with doors := c.doors.map fun d => if d.configured then { d with cfg := f d.cfg } else d }

/-- DWELL in force (R520): 5 to 300. -/
def applyDwell (car : CarId) (v : Nat) (s : State) : State :=
  if 5 ≤ v ∧ v ≤ 300 ∧ v ≤ (s.car car).ul40.accessDwell then
    (s.bothDoors car fun c => { c with dwellMs := 100 * v }).modUl car fun u => { u with dwell := v }
  else s.rejectWrite car 0x0B

/-- ACCESS_DWELL in force (R520): DWELL to 600. -/
def applyAccessDwell (car : CarId) (v : Nat) (s : State) : State :=
  if (s.car car).ul40.dwell ≤ v ∧ v ≤ 600 then
    (s.bothDoors car fun c => { c with accessMs := 100 * v }).modUl car fun u => { u with accessDwell := v }
  else s.rejectWrite car 0x0C

/-- NUDGE_COUNT in force: 1 to 15, both doors (R517). -/
def applyNudgeCount (car : CarId) (v : Nat) (s : State) : State :=
  let v := v % 16
  if v = 0 then s.rejectWrite car 0x0D
  else (s.bothDoors car fun c => { c with nudgeCount := v }).modUl car fun u => { u with nudge := v }

/-- A command write in force at a Calends (R515, R521); each write is one command. -/
def applyImage (car : CarId) (reg v : Nat) (s : State) : State :=
  match reg with
  | 0x0B => applyDwell car v s
  | 0x0C => applyAccessDwell car v s
  | 0x0D => applyNudgeCount car v s
  | 0x0E => applyDoorCmd car v s
  | 0x0F => applyStopCmd car v s
  | 0x11 => applyServiceCmd car v s
  | 0x12 => applyVmaxCmd car v s
  | 0x14 => applyOutWord car v s
  | _ => s

/-- The events that the frame of `c` adds to an image, beside those already raised; `old` is the car as the Calends
before showed it (R519). -/
def Car.imageEvents (c old : Car) : BitVec 5 :=
  (if c.servedAt.isSome && !c.served.isEmpty then 1#5 else 0)
    ||| (if (List.finRange 2).any fun d => c.doors[d.val].total != old.doors[d.val].total then 8#5 else 0)
    ||| (if c.safe.causes != 0 && c.safe.lockId != old.safe.lockId then 16#5 else 0)

/-- A car's image swaps at a Calends (R514, R519, R520): events of the frame enter, and the reversals count on. -/
def State.swapImage (s : State) (car : CarId) : State :=
  let c := s.car car
  let old := s.grp.shownCars[car.val]
  s.modUl car fun u => { u with
    events := u.events ||| u.raised ||| c.imageEvents old, raised := 0,
    revs := Vector.ofFn fun d => (u.revs[d.val] + (c.doors[d.val].total - old.doors[d.val].total)) % 256 }

/-- The mirrors of all images swap (R514). -/
def State.swapImages (s : State) : State :=
  if s.imageMode then (List.finRange 8).foldl State.swapImage s else s

/-- STOP_RESULT and STOP_LANDING of an ADD whose test is made (R521). -/
def State.answerImage (s : State) (car : CarId) : State :=
  (s.car car).asks.foldl (fun s a => match a.image, a.result with
    | true, some (d, _) => s.modUl car fun u => { u with stopResult := d, stopLanding := a.key / 2 % 256 }
    | _, _ => s) s

/-- A write cycle on the host bus. In UL-40 and mixed mode two low selects are a counted error (R512) and else image `cs` is written (R515); the native window
looks at HOST_CS_N[0] alone (R450), and there both strobes low are a counted error (R453). An image cycle with both strobes
low is ignored as well, and R531 does not count it (log 337). -/
def busWrite (b : BusSelect) (addr : Nat) (v : BitVec 16) (s : State) : State :=
  if s.imageMode then
    if b.others then { s with host := { s.host with ul40BusErrors := satInc 32 s.host.ul40BusErrors } }
    else if b.rd then s
    else imageWrite b.cs (addr / 2 % 64) v s
  else if s.boot.mode ≠ 0 ∨ b.cs ≠ 0 then s
  else if b.rd then { s with host := { s.host with busErrors := satInc 16 s.host.busErrors } }
  else if s.nativeUp then nativeWrite addr v s
  else s

/-- What a read cycle returns (R450, R453, R512, R517); none where HOST_D is not driven: by a member that does not hold (R438), on a
select that the mode ignores, and on two selects of the images. `wr` says that HOST_WR_N is low as well. -/
def State.busRead (s : State) (b : BusSelect) (wr : Bool) (addr : Nat) : Option (BitVec 16) :=
  if !s.drivesHost then none
  else if s.imageMode then (if b.others then none else some (BitVec.ofNat 16 (s.imageWord b.cs (addr / 2 % 64))))
  else if s.boot.mode ≠ 0 ∨ b.cs ≠ 0 then none
  else if wr then some 0
  else some (nativeRead s addr)

/-- REGISTER_WRITE (R13, R453, R512, R515). -/
def execRegisterWrite (cs : BusSelect) (addr : Nat) (v : BitVec 16) (s : State) : Host.Outcome State Fault Refusal :=
  .next (s.within [.cars, .deferred, .rings, .irq, .window] (busWrite cs addr v s))

/-- POS_LO_READ (R518): bits [23:16] of the mirror's position are latched. -/
def execPosLoRead (car : CarId) (s : State) : Host.Outcome State Fault Refusal :=
  .next (s.within [.cars] (if s.imageUp car then
      let c := s.grp.shownCars[car.val]
      s.modUl car fun u => { u with posHi := ({ c with ul40 := u }.imagePos) / 65536, reads := satInc 32 u.reads }
    else s))

/-- EVENTS_READ (R519): the bits that the read returned are cleared. -/
def execEventsRead (car : CarId) (s : State) : Host.Outcome State Fault Refusal :=
  .next (s.within [.cars] (if s.imageUp car then s.modUl car fun u => { u with events := 0, reads := satInc 32 u.reads } else s))

/-- DOOR_CMD_OPEN (R517, R521): a write of DOOR_CMD. -/
def execDoorCmdOpen (car : CarId) (v : BitVec 16) (s : State) : Host.Outcome State Fault Refusal := .next (s.within [.cars, .deferred] (imageWrite car 0x0E v s))

/-- DOOR_CMD_CLOSE (R517, R521): a write of DOOR_CMD. -/
def execDoorCmdClose (car : CarId) (v : BitVec 16) (s : State) : Host.Outcome State Fault Refusal := .next (s.within [.cars, .deferred] (imageWrite car 0x0E v s))

/-- DOOR_CMD_STOP (R517, R521): a write of DOOR_CMD. -/
def execDoorCmdStop (car : CarId) (v : BitVec 16) (s : State) : Host.Outcome State Fault Refusal := .next (s.within [.cars, .deferred] (imageWrite car 0x0E v s))

/-- STOP_CMD_ADD (R517, R521): a write of STOP_CMD. -/
def execStopCmdAdd (car : CarId) (v : BitVec 16) (s : State) : Host.Outcome State Fault Refusal := .next (s.within [.cars, .deferred] (imageWrite car 0x0F v s))

/-- STOP_CMD_REMOVE (R517, R521): a write of STOP_CMD. -/
def execStopCmdRemove (car : CarId) (v : BitVec 16) (s : State) : Host.Outcome State Fault Refusal := .next (s.within [.cars, .deferred] (imageWrite car 0x0F v s))

/-- STOP_CMD_CLEAR_TARGET (R187, R521): a write of STOP_CMD. -/
def execStopCmdClearTarget (car : CarId) (v : BitVec 16) (s : State) : Host.Outcome State Fault Refusal := .next (s.within [.cars, .deferred] (imageWrite car 0x0F v s))

/-- SERVICE_CMD (R517, R521). -/
def execServiceCmd (car : CarId) (v : BitVec 16) (s : State) : Host.Outcome State Fault Refusal := .next (s.within [.cars, .deferred] (imageWrite car 0x11 v s))

/-- VMAX_CMD (R517, R521). -/
def execVmaxCmd (car : CarId) (v : BitVec 16) (s : State) : Host.Outcome State Fault Refusal := .next (s.within [.cars, .deferred] (imageWrite car 0x12 v s))

/-- OUT_WORD (R517, R521). -/
def execOutWord (car : CarId) (v : BitVec 16) (s : State) : Host.Outcome State Fault Refusal := .next (s.within [.cars, .deferred] (imageWrite car 0x14 v s))

/-- DWELL (R517, R520). -/
def execDwell (car : CarId) (v : BitVec 16) (s : State) : Host.Outcome State Fault Refusal := .next (s.within [.cars, .deferred] (imageWrite car 0x0B v s))

/-- ACCESS_DWELL (R517, R520). -/
def execAccessDwell (car : CarId) (v : BitVec 16) (s : State) : Host.Outcome State Fault Refusal := .next (s.within [.cars, .deferred] (imageWrite car 0x0C v s))

/-- NUDGE_COUNT (R517). -/
def execNudgeCount (car : CarId) (v : BitVec 16) (s : State) : Host.Outcome State Fault Refusal := .next (s.within [.cars, .deferred] (imageWrite car 0x0D v s))

/-- The owner of an OUT channel other than this car's image (R399, R402, R522). -/
def State.outOwned (s : State) (car : CarId) (chan : Nat) : Bool :=
  (s.grp.kernels.toList.any fun k => k.state != .empty && k.hdr.outputs.contains chan)
    || (s.io.map.toList.any fun m => m.enabled && m.kind == 0 && m.chan == chan)
    || (List.finRange 8).any fun d => d != car && (s.car d).ul40.outs.toList.contains chan

/-- An entry that an image's OUT_WORD sets (R522). -/
def State.ul40Owns (s : State) (chan : Nat) : Bool := (List.finRange 8).any fun d => (s.car d).ul40.outs.toList.contains chan

/-- `ul40.config` takes effect (R530). -/
def applyUl40Config (p : List Byte) (s : State) : State :=
  let refs (o : Nat) : Vector Nat 16 := Vector.ofFn fun i => fieldAt p (o + 3 * i.val) 3
  s.modUl (carOf p) fun u => { u with enabled := bit (byteAt p 1) 0, offsetMm := intAt p 4 4, ins := refs 8, outs := refs 56 }

/-- The form of `ul40.config` (R522, R530): references are configured channels, OUT a Derived SET entry of no other owner. -/
def ul40Tests (s : State) (p : List Byte) : List Test :=
  let r (o i : Nat) := fieldAt p (o + 3 * i) 3
  [rng 0 (decide (byteAt p 0 < 8)), rsvFrom p 1 1, rsv p 2 2]
    ++ ((List.range 16).map fun i => refT (8 + 3 * i) (r 8 i == noRef || (s.entry (r 8 i)).type != 0) (r 8 i))
    ++ ((List.range 16).map fun i =>
        refT (56 + 3 * i) (r 56 i == noRef || ((s.entry (r 56 i)).isSet && !s.outOwned (carOf p) (r 56 i)
          && !((List.range i).any fun j => r 56 j == r 56 i))) (r 56 i))

/-- `ul40.config` (R530). -/
def ul40ConfigDef : CmdDef :=
  { opcode := 0x0F10, len := fun n => n = 104, form := fun s p => firstBad (ul40Tests s p),
    act := fun f c s =>
      let x := f.car (carOf c.payload)
      if !s.imageMode || !x.configured || !x.out then .refuse stState [] else .done [] (s.stage (.cmd 0x0F10 c.payload)) }

/-- The reply of `ul40.status` (R531). -/
def State.ul40StatusReply (s : State) (car : CarId) : List Byte :=
  let u := (s.car car).ul40
  [byte car.val, byte (flagBit u.enabled 0 + flagBit (!s.grp.shownDispatch.getLsbD car.val) 1 + flagBit (!s.running) 2), byte u.lastReject, 0]
    ++ leBytes 8 s.figureFrame ++ leBytes 4 u.reads ++ leBytes 4 u.writes ++ leBytes 4 u.rejects ++ leBytes 4 s.host.ul40BusErrors

/-- `ul40.status` (R531). -/
def ul40StatusDef : CmdDef := statusCmd 0x0F11 4 carTests fun s c => s.ul40StatusReply (carOf c.payload)

end Sys2Proof.Machine
end

