-- ==== Sys2Proof/Machine/CmdSig.lean ====
section
/-! DEFINITION. The commands of the signal engines: `sig.load` to `sig.spectrum` (R401, R402, R409–R413, R564). -/

namespace Sys2Proof.Machine

/-- References of 3 bytes each. -/
def refList (b : List Byte) (o n : Nat) : List Nat := (List.range n).map fun i => fieldAt b (o + 3 * i) 3

/-- The next multiple of 4. -/
def pad4 (n : Nat) : Nat := (n + 3) / 4 * 4

/-- The header of an image (R401). -/
def headerOf (b : List Byte) : KernelHeader :=
  { flags := fieldAt b 6 2, frameCycles := fieldAt b 8 4, latency := fieldAt b 12 4, bgCycles := fieldAt b 16 4,
    handlerCycles := fieldAt b 20 4, entryFrame := fieldAt b 24 2, entryBg := fieldAt b 26 2, entryRing := fieldAt b 28 2,
    entryMbx := fieldAt b 30 2, progBase := fieldAt b 32 2, progWords := fieldAt b 34 2, xBase := fieldAt b 36 2,
    xWords := fieldAt b 38 2, yBase := fieldAt b 40 2, yWords := fieldAt b 42 2, inBase := fieldAt b 44 2,
    outBase := fieldAt b 46 2, paramBase := fieldAt b 48 2, paramWords := fieldAt b 50 2, stopLimit := byteAt b 54,
    ringIn := byteAt b 55, ringOut := byteAt b 56, inputs := refList b 64 (byteAt b 52),
    outputs := refList b (64 + 3 * byteAt b 52) (byteAt b 53) }

/-- Where an image's program words and data words begin, and its length (R401). -/
def progAt (b : List Byte) : Nat := pad4 (64 + 3 * byteAt b 52 + 3 * byteAt b 53)
def dataAt (b : List Byte) : Nat := progAt b + 4 * fieldAt b 34 2
def imageLen (b : List Byte) : Nat := pad4 (dataAt b + 2 * fieldAt b 38 2 + 2 * fieldAt b 42 2)

/-- Program, X and Y words of an image (R401). -/
def imageProg (b : List Byte) : List Nat := (List.range (fieldAt b 34 2)).map fun i => fieldAt b (progAt b + 4 * i) 4
def imageX (b : List Byte) : List Nat := (List.range (fieldAt b 38 2)).map fun i => fieldAt b (dataAt b + 2 * i) 2
def imageY (b : List Byte) : List Nat :=
  (List.range (fieldAt b 42 2)).map fun i => fieldAt b (dataAt b + 2 * fieldAt b 38 2 + 2 * i) 2

/-- A block of words lies inside a region. -/
def blockIn (base n lo words : Nat) : Bool := decide (lo ≤ base) && decide (base + n ≤ lo + words)

/-- The bytes that pad an image's references and its data words are zero (R11, R401). -/
def imagePadded (b : List Byte) : Bool :=
  let refs := 64 + 3 * byteAt b 52 + 3 * byteAt b 53
  let words := dataAt b + 2 * fieldAt b 38 2 + 2 * fieldAt b 42 2
  zeroAt b refs (progAt b - refs) && zeroAt b words (imageLen b - words)

/-- An image breaks R11 (its padding, or the reserved bytes of its signature block), R393, R394, R398, R401 or R402: why, and the channel concerned. -/
def State.imageBad (s : State) (b : List Byte) : Option Bad :=
  let h := headerOf b
  let r (ok : Bool) : Test := (!ok, 0xFFFF, whyRange, noRef)
  let u (ok : Bool) : Test := (!ok, 0xFFFF, whyRule, noRef)
  let entry (used : Bool) (a : Nat) : Test := u (if used then inProg (some h) a else a == 0)
  let words := imageProg b
  firstBad ([(decide (b.length < 64), 0xFFFF, whyLength, noRef), r (fieldAt b 0 4 == 0x4553584F), r (fieldAt b 4 2 == 1),
    (decide (8 ≤ h.flags) || !zeroAt b 57 3, 0xFFFF, whyReserved, noRef),
    r (decide (1 ≤ h.frameCycles) && decide (h.frameCycles ≤ 30000)),
    r (if h.hasBg then decide (1 ≤ h.bgCycles) && decide (h.bgCycles ≤ 200000) else h.bgCycles == 0),
    r (if h.handlers ≠ 0 then decide (1 ≤ h.handlerCycles) && decide (h.handlerCycles ≤ 10000) else h.handlerCycles == 0),
    r (decide (byteAt b 52 ≤ 32)), r (decide (byteAt b 53 ≤ 16)), r (decide (1 ≤ h.stopLimit)),
    r (if h.hasRing then decide (h.ringIn < 64) else h.ringIn == 0xFF), r (decide (h.ringOut < 64) || h.ringOut == 0xFF),
    (decide (b.length < imageLen b) || decide (73936 < imageLen b), 0xFFFF, whyLength, noRef),
    (!imagePadded b, 0xFFFF, whyReserved, noRef), (!zeroAt b (imageLen b + 5) 3 && fieldAt b (imageLen b) 4 == 0x4E474953, 0xFFFF, whyReserved, noRef),
    (fieldAt b 60 4 != crc32 (b.take 60 ++ (b.take (imageLen b)).drop 64), 0xFFFF, whyCheck, noRef),
    u (blockIn h.progBase h.progWords 0x2000 0x2000), u (blockIn h.xBase h.xWords 0x1800 0x2800),
    u (blockIn h.yBase h.yWords 0x1800 0x2800), u (blockIn h.inBase (2 * h.inputs.length) h.xBase h.xWords),
    u (blockIn h.outBase (2 * h.outputs.length) h.yBase h.yWords), u (blockIn h.paramBase h.paramWords h.yBase h.yWords),
    entry true h.entryFrame, entry h.hasBg h.entryBg, entry h.hasRing h.entryRing, entry h.hasMbx h.entryMbx,
    u (words.all fun w => (decodeEng w).isSome), u (!repBroken words),
    u (decide (max (longestRep words) h.handlerCycles + 2 ≤ h.latency))]
    ++ (h.inputs.map fun c => (((s.entry c).type == 0 || !(s.entry c).hot), 0xFFFF, whyRef, c)))

/-- The signature block after an image verifies under CUSTOMER_ROOT (R560, R564). -/
def State.blockOk (s : State) (image block : List Byte) : Bool :=
  let n := fieldAt block 8 4
  fieldAt block 0 4 == 0x4E474953 && byteAt block 4 == 1 && zeroAt block 5 3 && decide (1 ≤ n) && decide (n ≤ 8180)
    && decide (block.length = pad4 (12 + n)) && zeroAt block (12 + n) 3
    && (match s.nv.customerRoot with
      | some key => hssVerify key image ((block.drop 12).take n)
      | none => false)

/-- The image's signature is as its life-cycle state asks (R564). -/
def State.signed (s : State) (b : List Byte) : Bool :=
  let image := b.take (imageLen b)
  let block := b.drop (imageLen b)
  if block.isEmpty then s.boot.life != .sealed else s.blockOk image block

/-- A kernel's memory takes its initial contents: data, and the program when `prog` is set (R409, R410). -/
def State.initKernel (s : State) (k : SlotId) (prog : Bool) : State :=
  let x := s.kernel k
  s.modEngine (engOf k) fun g => { g with
    prog := if prog then Mem.setAll 0 g.prog x.hdr.progBase (imageProg x.image) else g.prog,
    x := Mem.setAll 0 g.x x.hdr.xBase (imageX x.image), y := Mem.setAll 0 g.y x.hdr.yBase (imageY x.image) }

/-- The slot that byte 0 names. -/
def slotOf (p : List Byte) : SlotId := Fin.ofNat 32 (byteAt p 0)

/-- NAND keeps a slot's image and state as commands leave them (R590). -/
def State.saveKernel (s : State) (k : SlotId) : State :=
  let x := s.kernel k
  { s with nv := { s.nv with kernels := s.nv.kernels.set k.val (x.state, if x.state = .empty then [] else x.image) } }

/-- The image that a LAST chunk completes. -/
def State.wholeImage (s : State) (p : List Byte) : List Byte :=
  (if bit (byteAt p 1) 0 then [] else ((s.kernel (slotOf p)).staging.getD [])) ++ p.drop 8

/-- An accepted image makes its slot LOADED (R409). -/
def State.install (s : State) (k : SlotId) (b : List Byte) : State :=
  ((s.modKernel k fun _ => { state := .loaded, hdr := headerOf b, image := b }).initKernel k true)

/-- An accepted image in one chunk, which later chunks of the frame do not touch (R409). -/
def loadOf (p b : List Byte) : List Byte := [byte (byteAt p 0), 3] ++ zeros 6 ++ b

/-- `sig.load` with LAST takes effect (R409). -/
def applySigLoad (p : List Byte) (s : State) : State := (s.install (slotOf p) (s.wholeImage p)).saveKernel (slotOf p)

/-- The chunks received for a slot are discarded. -/
def State.dropChunks (s : State) (k : SlotId) : State := s.modKernel k fun x => { x with staging := none }

/-- `sig.load` (R402, R407, R409, R522, R564). -/
def sigLoadDef : CmdDef :=
  { opcode := 0x0B10, len := fun n => decide (8 ≤ n),
    form := fun s p =>
      let first := bit (byteAt p 1) 0
      firstBad [rng 0 (decide (byteAt p 0 < 32)), rsvFrom p 1 2, rsv p 2 2,
        rng 4 (fieldAt p 4 4 == if first then 0 else ((s.kernel (slotOf p)).staging.getD []).length)],
    act := fun f c s =>
      let p := c.payload
      let k := slotOf p
      let b := f.wholeImage p
      let first := bit (byteAt p 1) 0
      let x := f.kernel k
      if !bit (byteAt p 1) 1 then
        if x.state ≠ .empty ∨ (!first ∧ x.staging = none) then .refuse stState []
        else if 73936 + 8192 < b.length then .drop stMalformed (Bad.bytes ⟨0xFFFF, whyLength, noRef⟩) (s.dropChunks k)
        else .done [] (s.modKernel k fun x => { x with staging := some b })
      else match f.imageBad b with
        | some e => .drop stMalformed e.bytes (s.dropChunks k)
        | none =>
          if x.state ≠ .empty ∨ (!first ∧ x.staging = none) ∨ (headerOf b).outputs.any f.ul40Owns then .drop stState [] (s.dropChunks k)
          else if !f.signed b then .drop stSignature [] (s.dropChunks k)
          else
            let a := applySigLoad p f
            match admitOf f a true k.val with
            | some r => .drop stAdmission r (s.dropChunks k)
            | none => .done (leBytes 4 (a.kernel k).charged ++ leBytes 4 a.declared) (s.stage (.cmd 0x0B10 (loadOf p b))) }

/-- The form of a request with SLOT in byte 0 (R410, R412). -/
def slotTests (_ : State) (p : List Byte) : List Test := [rng 0 (decide (byteAt p 0 < 32)), rsv p 1 3]

/-- `sig.start` takes effect (R400, R410): the outputs lose the FAULT of a suspension. -/
def applySigStart (p : List Byte) (s : State) : State :=
  let k := slotOf p
  (((s.initKernel k false).modKernel k fun x => { x with state := .running, consecStops := 0, framePeak := 0 }).faultOutputs k false).saveKernel k

/-- `sig.start` (R397, R410). -/
def sigStartDef : CmdDef :=
  { opcode := 0x0B11, len := fun n => n = 4, form := fun s p => firstBad (slotTests s p),
    act := fun f c s =>
      let k := slotOf c.payload
      let st := (f.kernel k).state
      if st = .loaded ∨ st = .suspended then admitStage f (applySigStart c.payload) true k.val (.cmd 0x0B11 c.payload) [] s
      else .refuse stState [] }

/-- `sig.stop` takes effect (R407, R410): a stopped frame's FAULT ends with its frame, that of a suspension stands (R399, R400). -/
def applySigStop (p : List Byte) (s : State) : State :=
  let k := slotOf p
  let s := if (s.kernel k).state = .running then s.faultOutputs k false else s
  ((s.modKernel k fun x => { x with state := .loaded, mbx := false }).modEngine (engOf k) fun g => g.purge k).saveKernel k

/-- `sig.stop` (R410). -/
def sigStopDef : CmdDef :=
  { opcode := 0x0B12, len := fun n => n = 4, form := fun s p => firstBad (slotTests s p),
    act := fun f c s =>
      if (f.kernel (slotOf c.payload)).state = .empty then .refuse stState [] else .done [] (s.stage (.cmd 0x0B12 c.payload)) }

/-- `sig.unload` takes effect (R407, R410): no kernel holds its outputs any more. -/
def applySigUnload (p : List Byte) (s : State) : State :=
  let k := slotOf p
  let s := s.faultOutputs k false
  ((s.modKernel k fun x => { staging := x.staging }).modEngine (engOf k) fun g => g.purge k).saveKernel k

/-- `sig.unload` (R410). -/
def sigUnloadDef : CmdDef :=
  { opcode := 0x0B13, len := fun n => n = 4, form := fun s p => firstBad (slotTests s p),
    act := fun f c s =>
      if (f.kernel (slotOf c.payload)).state = .empty then .refuse stState [] else .done [] (s.stage (.cmd 0x0B13 c.payload)) }

/-- `sig.param` takes effect: its data enters Y before the Kernels phase, and MBX is due (R383, R411). -/
def applySigParam (p : List Byte) (s : State) : State :=
  let k := slotOf p
  let h := (s.kernel k).hdr
  let d := p.drop 4
  let words := (List.range (d.length / 2)).map fun i => fieldAt d (2 * i) 2
  let s := s.modEngine (engOf k) fun g => { g with y := Mem.setAll 0 g.y (h.paramBase + fieldAt p 2 2) words }
  s.modKernel k fun x => { x with mbx := x.hdr.hasMbx && x.state == .running }

/-- `sig.param` (R411). -/
def sigParamDef : CmdDef :=
  { opcode := 0x0B14, len := fun n => decide (4 ≤ n) && n % 2 == 0,
    form := fun s p =>
      let x := s.kernel (slotOf p)
      firstBad [rng 0 (decide (byteAt p 0 < 32)), rsv p 1 1,
        rng 2 (x.state == .empty || decide (fieldAt p 2 2 + (p.length - 4) / 2 ≤ x.hdr.paramWords))],
    act := fun f c s =>
      if (f.kernel (slotOf c.payload)).state = .empty then .refuse stState [] else .done [] (s.stage (.cmd 0x0B14 c.payload)) }

/-- Code of a slot state (R395). -/
def SlotState.code : SlotState → Nat
  | .empty => 0
  | .loaded => 1
  | .running => 2
  | .suspended => 3

/-- The reply of `sig.status` (R412). -/
def State.sigStatusReply (s : State) (k : SlotId) : List Byte :=
  let x := s.kernel k
  [byte k.val, byte x.state.code, byte x.lastFault, byte (min 255 x.consecStops)] ++ leBytes 8 s.figureFrame ++ leBytes 4 x.charged
    ++ leBytes 4 x.frameLast ++ leBytes 4 x.framePeak ++ leBytes 4 x.bgLast ++ leBytes 4 x.stops ++ leBytes 4 x.skips
    ++ leBytes 4 x.rfCount

/-- `sig.status` (R412). -/
def sigStatusDef : CmdDef := statusCmd 0x0B15 4 slotTests fun s c => s.sigStatusReply (slotOf c.payload)

/-- The reply of `sig.spectrum` (R413). -/
def State.spectrumReply (s : State) (car : CarId) (axis : Fin 2) : List Byte :=
  let x := (s.grp.rides[car.val]).spectra[axis.val]
  [byte car.val, byte axis.val, byte (flagBit x.valid 0 + flagBit x.ov 1)] ++ leInt 1 x.ep ++ leBytes 2 x.gaps ++ [0, 0]
    ++ leBytes 8 x.frame ++ (List.range 1024).flatMap fun i => leBytes 2 (x.power.getD i 0)

/-- `sig.spectrum` (R405, R413). -/
def sigSpectrumDef : CmdDef :=
  { opcode := 0x0B16, len := fun n => n = 4,
    form := fun _ p => firstBad [rng 0 (decide (byteAt p 0 < 8)), rng 1 (decide (byteAt p 1 < 2)), rsv p 2 2],
    act := fun f c s =>
      if (f.car (carOf c.payload)).configured then .done (s.spectrumReply (carOf c.payload) (Fin.ofNat 2 (byteAt c.payload 1))) s
      else .refuse stState [] }

end Sys2Proof.Machine
end

