-- ==== Sys2Proof/Machine/CmdAlm.lean ====
section
/-! DEFINITION. The commands of the Almanac: staging, the tests of a commit, reading and saving (R59–R94, R499–R507). -/

namespace Sys2Proof.Machine

/-- A reference in the form of R60. -/
def refOk (r : Nat) : Bool := decide (r < 2 ^ 20) || r == noRef

/-- A field with bits outside a mask. -/
def outside (v mask : Nat) : Bool := (v &&& mask) != v

/-- The bits that a type's table gives BINDING and PARAMS (R67); KIND 1 streams and car-link points lack the CAN ones. -/
def Entry.masks (e : Entry) : Nat × Nat :=
  let hi := 0xFFFFFF * 2 ^ 40
  match e.type with
  | 1 => (0xFF, 0xFFFF03 + hi)
  | 2 => (0x7, 0x7)
  | 3 => (0x7FFFFFFF, 0xFF7FFFFF + hi)
  | 4 => (0x40000007, 0xFF7FFFF0 + hi)
  | 5 => (0xFFFFFF, 2 ^ 60 - 1)
  | 6 => (0xFFFFFF, 3 + 0xFFFFFFFF * 2 ^ 32)
  | 7 => (0xFFFFFF, 0xFFFFFF03 + 0xFFFFFFFF * 2 ^ 32)
  | 9 => (0x3FF, 0xFFFFFF)
  | 10 => (0xFFF, 0xFFFFFF)
  | 11 => if bit e.binding 30 then (0x40000000, 0x3FFFFFF7) else (0x7FFFFFFF, 0x3FFFFFFF)
  | 12 => (0xFFFFFF, 2 ^ 64 - 1)
  | _ => (0, 0)

/-- LENGTH of a CAN stream (03, Stream). -/
def Entry.lengthOk (e : Entry) : Bool :=
  let n := e.streamLength
  if bit e.binding 30 then between 1 64 n
  else decide (n ≤ 8) || (bit e.params 4 && [12, 16, 20, 24, 32, 48, 64].contains n)

/-- The tests of an entry's own fields (R60, R67, R69, R71, R76, R614, R436), with offsets in the 32-byte entry. -/
def Entry.fieldTests (e : Entry) : List Test :=
  let b := e.binding
  let p := e.params
  let r (o : Nat) (ok : Bool) : Test := (!ok, o, whyRange, noRef)
  let u (o : Nat) (ok : Bool) : Test := (!ok, o, whyRule, noRef)
  let ref (o v : Nat) : Test := (!refOk v, o, whyRange, noRef)
  let m := e.masks
  let common : List Test := [(outside b m.1, 4, whyReserved, noRef), (outside p m.2, 8, whyReserved, noRef)]
  let point : List Test :=
    let tx := bit b 30
    let top := if e.type = 3 || tx then 511 else 1439
    [r 9 (decide (bits p 14 4 ≤ top)), r 9 (decide (1 ≤ bits p 20 15) && decide (bits p 20 15 ≤ 32)),
     ref 13 (bits p 63 40), u 13 (tx || bits p 63 40 == noRef)]
  match e.type with
  | 0 => [(e.binding != 0, 4, whyReserved, noRef), (e.params != 0, 8, whyReserved, noRef)]
  | 1 =>
    let out := bit b 7
    common ++ [r 9 (out || bits p 15 8 != 0), r 10 (decide (bits p 19 16 ≤ 10)), r 10 (bits p 21 20 != 3), r 10 (bits p 23 22 != 3),
      ref 13 (bits p 63 40), u 13 (out || bits p 63 40 == noRef)]
  | 2 => common ++ [r 8 (bits p 2 1 != 3)]
  | 3 => common ++ point ++ [r 4 (bit b 29 || decide (bits b 28 0 ≤ 0x7FF))]
  | 4 => common ++ point
  | 5 =>
    let op := e.op
    let a := bits b 23 0
    let x := bits p 23 0
    let c := bits p 47 24
    let imm := bit p 59
    let numeric := decide (6 ≤ op) && decide (op ≤ 10)
    let needs (v : Nat) (n : Bool) : Bool := if n then v != noRef else v == noRef
    common ++ [r 14 (decide (op ≤ 10)), ref 4 a, (!imm && !refOk x, 8, whyRange, noRef), ref 11 c,
      u 15 ((1 ≤ op && op ≤ 5) || bits p 58 56 == 0), u 15 (numeric || !imm),
      u 4 (op == 1 || op == 2 || needs a (op != 0)),
      u 8 (imm || op == 1 || op == 2 || needs x (op != 0)),
      u 11 (op == 1 || op == 2 || needs c (op == 4 || op == 7 || op == 8)),
      u 4 (!(op == 1 || op == 2) || a != noRef || x != noRef || c != noRef)]
  | 6 => common ++ [ref 4 (bits b 23 0), r 12 (bits p 63 32 != 0)]
  | 7 => common ++ [ref 4 (bits b 23 0), r 8 (bits p 1 0 != 3), ref 9 (bits p 31 8)]
  | 9 => common ++ [ref 8 (bits p 23 0)]
  | 10 => common ++ [ref 8 (bits p 23 0)]
  | 11 =>
    common ++ [r 8 (e.lengthOk), r 9 (bits p 20 13 != 0), r 10 (if bit b 30 then bits p 28 21 == 1 else bits p 28 21 != 0), u 8 (!bit p 5 || bit p 4),
      r 4 (bit b 30 || bit b 29 || decide (bits b 28 0 ≤ 0x7FF)),
      u 4 (!e.pairDup || !bit b 0), u 8 (!e.pairDup || decide (3 ≤ e.streamLength))]
  | 12 => common ++ [ref 4 (bits b 23 0)]
  | _ => [(true, 0, whyRange, noRef)]

/-- Two Lane entries that bind one lane, or share a bank with different SAMPLE_K (R75). -/
def lanesClash (a : Almanac) : Option Nat :=
  let ls := a.filterMap fun q => q.2.lane.map fun l => (q.1, l, q.2)
  (ls.find? fun x => ls.any fun y => x.1 != y.1 && (x.2.1 == y.2.1 ||
    (x.2.1.1 == y.2.1.1 && bits x.2.2.params 19 16 != bits y.2.2.params 19 16))).map fun x => x.1

/-- Two Encoder entries that bind one input (R75). -/
def encodersClash (a : Almanac) : Option Nat :=
  let es := a.filter fun q => q.2.type == 2
  (es.find? fun x => es.any fun y => x.1 != y.1 && x.2.binding % 8 == y.2.binding % 8).map fun x => x.1

/-- A parallel group that is incomplete, misaligned or inconsistent (R311). -/
def groupClash (a : Almanac) : Option Nat :=
  (a.find? fun q => match q.2.lane with
    | none => false
    | some (b, l) =>
      let p := bits q.2.params 23 22
      if p = 0 then false
      else if !bit q.2.binding 7 then true
      else
        let members := (List.finRange 8).filter fun m => sameGroup p l m
        members.any fun m => match laneChan a b m with
          | none => true
          | some c =>
            let e := Mem.get Entry.free a c
            let low := members.head? == some m
            !e.isOutput || bits e.params 23 22 != p || bits e.params 21 20 != bits q.2.params 21 20
              || (!low && bits e.params 63 40 != noRef)).map fun q => q.1

/-- The bits of a payload that a field covers in its own numbering (R616), as 8 × byte + place in the byte. -/
def fieldBits (e : Entry) : List Nat :=
  (List.range (bits e.params 20 15)).map fun i =>
    let n := bits e.params 14 4 + i
    if bit e.params 22 then n / 8 * 8 + (7 - n % 8) else n

/-- A transmit point that overlaps another of its stream, or lies past LENGTH or in a TRAILER (R74, R436, R616). -/
def pointsClash (a : Almanac) : Option Nat :=
  let streams := a.filter fun q => q.2.type == 11
  let points := a.filter fun q => (q.2.type == 3 || q.2.type == 4) && bit q.2.binding 30
  streams.findSome? fun st =>
    let mine := points.filter fun q => q.2.feeds st.2
    let room := if st.2.pairDup then st.2.streamLength - 2 else st.2.streamLength
    (mine.find? fun x =>
      decide (8 * room < bits x.2.params 14 4 + bits x.2.params 20 15) ||
      mine.any fun y => x.1 != y.1 && (fieldBits x.2).any fun n => (fieldBits y.2).contains n).map
        fun x => x.1

/-- A bus with more than 24 streams (R336, R436), or a link with two (R354). -/
def streamsClash (a : Almanac) : Option Nat :=
  let on (kind : Bool) (port : Nat) := a.filter fun q => q.2.type == 11 && bit q.2.binding 30 == kind
    && (if kind then bits q.2.params 2 0 else bits q.2.params 3 0) == port
  let bus := (List.range 16).findSome? fun b =>
    let q := on false b
    if 24 < total (q.map fun x => if x.2.pairDup then 2 else 1) then (q.getLast?.map fun x => x.1) else none
  match bus with
  | some c => some c
  | none => (List.range 8).findSome? fun l => match on true l with
    | _ :: y :: _ => some y.1
    | _ => none

/-- The entries that car and port configuration names (R89). -/
def State.configRefs (s : State) : List Nat :=
  let perCar := (List.finRange 8).flatMap fun i =>
    let c := s.car i
    let pos := c.pos.cfg
    let enc := if (c.configured && pos.enc) || (c.safe.configured && c.safe.cfg.encScale != 0) then (s.encChan i).toList else []
    (if c.configured then c.zoneChans ++ pos.term.toList ++ [pos.loadChan]
        ++ (if pos.codeBase = noRef then [] else (List.range pos.codeBits).map fun j => pos.codeBase + j) else [])
      ++ (c.doors.toList.flatMap fun d => if d.configured then [d.cfg.curtain, d.cfg.edge, d.cfg.closedPoint] else [])
      ++ (if c.safe.configured then c.safe.cfg.lanes.toList else [])
      ++ c.ul40.ins.toList ++ c.ul40.outs.toList ++ enc
  perCar ++ (s.grp.disp.terminals.flatMap fun t => if t.2.enabled then [t.2.point, t.2.stream] else [])
    ++ (s.io.map.toList.flatMap fun m => if m.enabled then [m.chan] else [])

/-- A lane of a safety set that breaks R258 after a commit (R89). -/
def State.safetyBroken (s : State) (chan : Nat) : Bool :=
  (List.finRange 8).any fun i =>
    let c := s.car i
    c.safe.configured && ((List.finRange 17).any fun r => c.safe.cfg.lanes[r.val] == chan &&
      (if 6 ≤ r.val ∧ (r.val = 6 ∨ r.val = 7 ∨ (12 ≤ r.val ∧ r.val ≤ 15)) then !(s.entry chan).safetyOutput else !(s.entry chan).isInput))

/-- The staged edits of a source applied to a state (R85). -/
def State.commitEdits (s : State) (es : List Edit) : State :=
  { s with grp := { s.grp with alm := es.foldl (applyEdit s.grp.frame) s.grp.alm } }

/-- A value write leaves TYPE, BINDING and PARAMS as they are and writes VALUE (R501). -/
def Edit.valueOnly (x : Edit) (e : Entry) : Bool :=
  x.residency.isNone && (match x.write with
    | some (t, wv, b, p, _) => wv && t == e.type && b == e.binding && p == e.params
    | none => false)

/-- The VERSION that a commit gives an entry at its acceptance (R86). -/
def nextVersion (v : Nat) : Nat := if 255 ≤ v then 1 else v + 1

/-- Each edit of a commit with the VERSION that its acceptance gives the entry (R86): a value write gives none of its own. -/
def State.giveVersions (f : State) (es : List Edit) : List Edit :=
  es.map fun x => let e := f.entry x.chan; { x with gives := if x.valueOnly e then e.version else nextVersion e.version }

/-- A written VALUE has nothing in the bits that its type's table leaves out (R67): RESULT of SET is V[31:0]. -/
def Edit.valueTests (x : Edit) : List Test :=
  match x.write with
  | some (5, true, _, _, v) => [(decide (2 ^ 32 ≤ v), 20, whyReserved, noRef)]
  | _ => []

/-- The tests of a commit's form: every edit against the state before (`f`) and after (`a`). -/
def commitTests (f a : State) (es : List Edit) : List Test :=
  let rule (o : Nat) (x : Option Nat) : Test := (x.isSome, o, whyRule, x.getD noRef)
  let named := f.configRefs
  let one (x : Edit) : List Test :=
    let old := f.entry x.chan
    let new := a.entry x.chan
    let freed := old.type != 0 && new.type == 0
    let moved := old.type != 0 && (old.type != new.type || old.binding != new.binding)
    ((if x.write.isSome then new.fieldTests ++ x.valueTests else []).map fun t => (t.1, t.2.1, t.2.2.1, x.chan)) ++
    [(x.residency == some true && (old.hot || !(decide (1 ≤ new.type) && decide (new.type ≤ 7))), 1, whyRule, x.chan),
     (x.residency == some false && !old.hot, 1, whyRule, x.chan),
     (new.hot && !(decide (1 ≤ new.type) && decide (new.type ≤ 7)), 1, whyRule, x.chan),
     (freed && (a.grp.alm.any fun q => q.2.refs.contains x.chan), 0, whyRef, x.chan),
     (moved && named.contains x.chan, if old.type != new.type then 0 else 4, whyRef, x.chan),
     (x.write.isSome && a.safetyBroken x.chan, 8, whyRef, x.chan)]
  es.flatMap one ++
    [rule 4 (lanesClash a.grp.alm), rule 4 (encodersClash a.grp.alm), rule 8 (groupClash a.grp.alm), rule 8 (pointsClash a.grp.alm),
     rule 8 (streamsClash a.grp.alm)] ++
    ((List.finRange 16).flatMap fun b =>
      [rul 4 (!(a.refBeaten b && !f.refBeaten b)), rul 4 (!(a.idClash b && !f.idClash b)), rul 8 (!es.any fun x => bits (a.entry x.chan).params 3 0 == b.val && a.fdStream (a.entry x.chan))]) ++
    (a.grp.disp.terminals.flatMap fun t => if t.2.enabled then (terminalTests a t.1 t.2 4 8 4).map fun z => (z.1, 8, z.2.2.1, t.2.point) else [])

/-- An accepted commit: PENDING and VERSION at once, the edits at the next Calends (R85, R86). -/
def State.acceptEdits (s : State) (src : Source) (es : List Edit) : State :=
  let s := es.foldl (fun s x => s.modEntry x.chan fun o => { o with pending := true, version := x.gives }) s
  let s := s.modSource src fun y => { y with staged := [] }
  if es.isEmpty then s else s.stage (.edits es)

/-- The reply of `alm.commit` (R503). -/
def commitReply (a : State) (n effect : Nat) : List Byte :=
  leBytes 2 n ++ [0, 0] ++ leBytes 4 a.hotCount ++ leBytes 4 a.declared
    ++ leBytes 4 (if a.boot.pair.paired then a.deltaBytes a.boot.mode else 0) ++ leBytes 8 effect

/-- A kernel or an OUT_WORD holds the entry (R399, R522). -/
def State.heldOutput (s : State) (chan : Nat) : Bool :=
  s.ul40Owns chan || s.grp.kernels.toList.any fun k => k.state != .empty && k.hdr.outputs.contains chan

/-- The ADMISSION payload of the lower KIND (R494, R495). -/
def lowerKind : Option (List Byte) → Option (List Byte) → Option (List Byte)
  | some p, some q => if byteAt q 0 < byteAt p 0 then some q else some p
  | some p, none => some p
  | none, q => q

/-- `alm.commit` (R85, R86, R88, R490, R503). -/
def almCommitDef : CmdDef :=
  { opcode := 0x0313, len := fun n => n = 4, form := fun _ p => firstBad [rsvFrom p 0 1, rsv p 1 3],
    act := fun f c s =>
      let es := f.giveVersions (s.grp.sources[c.src.val]).staged
      let dry := bit (byteAt c.payload 0) 0
      let a := f.commitEdits es
      let bad := firstBad (commitTests f a es)
      let held := es.any fun x => x.write.isSome && f.heldOutput x.chan
      let old := es.find? fun x => x.version != (f.entry x.chan).version
      let freedHot := es.find? fun x => (f.entry x.chan).hot && (a.entry x.chan).type == 0 && x.residency != some false
      match bad with
      | some b => .refuse stMalformed b.bytes
      | none =>
        if held then .refuse stState []
        else match old with
          | some x => .refuse stVersion (leBytes 3 x.chan ++ [byte (f.entry x.chan).version])
          | none => match lowerKind (freedHot.map fun x => Breach.bytes { kind := 4, subject := x.chan } 0xFF) (admitOf f a true 0xFF) with
            | some p => .refuse stAdmission p
            | none =>
              if dry then .done (commitReply a es.length 0) s
              else .done (commitReply a es.length (s.grp.frame + 1)) (s.acceptEdits c.src es) }

/-- One record of `alm.write` (R499). -/
def writeEdit (p : List Byte) (i : Nat) : Edit :=
  let o := 4 + 28 * i
  { chan := fieldAt p o 3, version := byteAt p (o + 3),
    write := some (byteAt p (o + 4), bit (byteAt p (o + 5)) 0, fieldAt p (o + 8) 4, fieldAt p (o + 12) 8, fieldAt p (o + 20) 8) }

/-- One record of `alm.promote` or `alm.demote` (R502). -/
def moveEdit (up : Bool) (p : List Byte) (i : Nat) : Edit :=
  { chan := fieldAt p (4 + 4 * i) 3, version := byteAt p (7 + 4 * i), residency := some up }

/-- An edit joins the staged set (R500): its channel's earlier write or residency change gives way. -/
def mergeEdit (x : Edit) : List Edit → List Edit
  | [] => [x]
  | y :: r =>
    if y.chan = x.chan then
      { y with version := x.version, write := if x.write.isSome then x.write else y.write,
               residency := if x.residency.isSome then x.residency else y.residency } :: r
    else y :: mergeEdit x r

/-- Stage records (R84, R500): a set above 4,096 edits is refused whole. -/
def stageEdits (xs : List Edit) (c : Cmd) (s : State) : Verdict :=
  let l := xs.foldl (fun l x => mergeEdit x l) (s.grp.sources[c.src.val]).staged
  if 4096 < l.length then .refuse stLimit []
  else .done (leBytes 4 l.length) (s.modSource c.src fun y => { y with staged := l })

/-- The tests of one record of `alm.write` (R59, R499). -/
def writeTests (p : List Byte) (i : Nat) : List Test :=
  let o := 4 + 28 * i
  let t := byteAt p (o + 4)
  let wv := bit (byteAt p (o + 5)) 0
  [rng o (decide (fieldAt p o 3 ≤ 0x0EFFFF)), rng (o + 4) (decide (t ≤ 12) && t != 8), rsvFrom p (o + 5) 1,
   rul (o + 5) (!wv || t == 12 || (t == 5 && bits (fieldAt p (o + 12) 8) 55 48 == 0)), rsv p (o + 6) 2,
   (!wv && !zeroAt p (o + 20) 8, o + 20, whyReserved, 0xFFFFFF)]

/-- `alm.write` (R84, R399, R499, R522). -/
def almWriteDef : CmdDef :=
  { opcode := 0x0310, len := fun n => decide (4 ≤ n),
    form := fun _ p =>
      let n := fieldAt p 0 2
      firstBad ([(p.length != 4 + 28 * n, 0xFFFF, whyLength, noRef), rng 0 (decide (1 ≤ n) && decide (n ≤ 584)), rsv p 2 2]
        ++ (List.range n).flatMap (writeTests p)),
    act := fun f c s =>
      let xs := (List.range (fieldAt c.payload 0 2)).map (writeEdit c.payload)
      if 4096 < (xs.foldl (fun l x => mergeEdit x l) (s.grp.sources[c.src.val]).staged).length then .refuse stLimit []
      else if xs.any fun x => f.heldOutput x.chan then .refuse stState []
      else stageEdits xs c s }

/-- `alm.promote` and `alm.demote` (R81, R502). -/
def almMoveDef (opcode : Nat) (up : Bool) : CmdDef :=
  { opcode := opcode, len := fun n => decide (4 ≤ n),
    form := fun _ p =>
      let n := fieldAt p 0 2
      firstBad ([(p.length != 4 + 4 * n, 0xFFFF, whyLength, noRef), rng 0 (decide (1 ≤ n) && decide (n ≤ 4091)), rsv p 2 2]
        ++ (List.range n).map fun i => rng (4 + 4 * i) (decide (fieldAt p (4 + 4 * i) 3 < 2 ^ 20))),
    act := fun _ c s => stageEdits ((List.range (fieldAt c.payload 0 2)).map (moveEdit up c.payload)) c s }

/-- `alm.discard` (R504). -/
def almDiscardDef : CmdDef :=
  { opcode := 0x0314, len := fun n => n = 4, form := fun _ p => firstBad [rsv p 0 4],
    act := fun _ c s => .done (leBytes 4 (s.grp.sources[c.src.val]).staged.length) (s.modSource c.src fun y => { y with staged := [] }) }

/-- An entry as `alm.read` returns it (R79, R90): as last committed, PENDING and VERSION as they stand. A hot entry promoted or
edited at the latest Calends shows, until its first evaluation is committed, the STAMP it had or that of its frame of effect
beside the others' (DESIGN CHOICE, log 352). -/
def State.readEntry (s : State) (chan : Nat) : Entry :=
  let e := s.entryShown chan
  let w := s.entry chan
  { e with pending := w.pending, version := if e.type = 0 then 0 else w.version }

/-- The entries of a read from `c` on: those that pass the flags, at most `n`, over at most `fuel` of the Almanac's
non-free entries (R505). -/
def readListed (hotOnly : Bool) (n : Nat) (es : List (Nat × Entry)) : List (Nat × Entry) :=
  (es.filter fun q => !hotOnly || q.2.hot).take n

/-- The reply of `alm.read` (R90, R505). -/
def State.almReadReply (s : State) (p : List Byte) : List Byte :=
  let first := fieldAt p 0 3
  let n := fieldAt p 4 2
  let skip := bit (byteAt p 3) 0
  let hot := bit (byteAt p 3) 1
  let es : List (Nat × Entry) :=
    if hot ∨ skip then
      readListed hot n ((s.grp.shown.filter fun q => decide (first ≤ q.1) && q.2.type != 0).map fun q => (q.1, s.readEntry q.1))
    else ((List.range n).filter fun i => decide (first + i < 2 ^ 20)).map fun i => (first + i, s.readEntry (first + i))
  let next := if es.length < n then noRef else match es.getLast? with
    | some q => if q.1 + 1 < 2 ^ 20 then q.1 + 1 else noRef
    | none => noRef
  leBytes 8 s.figureFrame ++ leBytes 2 es.length ++ [0, 0] ++ leBytes 3 next ++ [0] ++ es.flatMap fun q => s.entryBytes q.2

/-- `alm.read` (R505). -/
def almReadDef : CmdDef :=
  { opcode := 0x0315, len := fun n => n = 8,
    form := fun _ p => firstBad [rng 0 (decide (fieldAt p 0 3 < 2 ^ 20)), rsvFrom p 3 2,
      rng 4 (decide (1 ≤ fieldAt p 4 2) && decide (fieldAt p 4 2 ≤ 511)), rsv p 6 2],
    act := fun _ c s => .done (s.almReadReply c.payload) s }

/-- What a save keeps of an entry, as a load gives it back (R93, R94). -/
def Entry.kept (e : Entry) : Entry :=
  { type := e.type, hot := e.hot, fault := false, stale := e.type != 12, binding := e.binding, params := e.params, version := e.version,
    value := if e.type = 12 ∨ e.isSet then e.value else 0 }

/-- `alm.save` (R93, R506). -/
def almSaveDef : CmdDef :=
  { opcode := 0x0316, len := fun n => n = 4, form := fun _ p => firstBad [rsv p 0 4],
    act := fun _ c s =>
      if s.jobsFull then .refuse stLimit []
      else if (s.findJob fun j => j.kind == .almSave).isSome then .refuse stState []
      else
        let keep := (s.grp.shown.filter fun q => q.2.type != 0 && decide (q.1 < 0xF0000)).map fun q => (q.1, q.2.kept)
        startJob .almSave 0x0316 c { s with grp := { s.grp with saving := keep } } }

/-- ALM_SAVE_COMPLETE (R93, R506): the save replaces the previous one, or was interrupted. -/
def execAlmSaveComplete (interrupted : Bool) (s : State) : Host.Outcome State Fault Refusal :=
  .next (s.within [.free, .jobs, .sessions, .saves, .rings, .irq, .net, .stored] (whenRunning s fun s =>
    match s.findJob fun j => j.kind == .almSave with
    | none => s
    | some j =>
      if interrupted then endJob j stJobFailed [] { s with grp := { s.grp with saving := [] } }
      else
        let q := s.drawNat
        let l := s.grp.saving
        let s := q.2
        let s := { s with nv := { s.nv with saved := l }, grp := { s.grp with saving := [], saveFrame := s.grp.frame } }
        endJob j stOk (leBytes 4 l.length ++ leBytes 4 (q.1 % 2 ^ 32)) s))

/-- The reply of `alm.status` (R507). -/
def State.almStatusReply (s : State) (c : Cmd) : List Byte :=
  let live := s.grp.shown.filter fun q => q.2.type != 0
  leBytes 4 s.hotCount ++ leBytes 4 s.grp.frameLen.hotLimit ++ leBytes 4 (live.filter fun q => decide (q.1 < 0xF0000)).length
    ++ leBytes 4 (live.filter fun q => decide (0xF0000 ≤ q.1)).length ++ leBytes 2 (s.grp.sources[c.src.val]).staged.length ++ zeros 6
    ++ leBytes 8 s.grp.saveFrame

/-- `alm.status` (R507). -/
def almStatusDef : CmdDef := statusCmd 0x0317 4 (fun _ p => [rsv p 0 4]) fun s c => s.almStatusReply c

end Sys2Proof.Machine
end

