-- ==== Sys2Proof/Machine/CmdSys.lean ====
section
/-! DEFINITION. System, ring and network commands (R479–R482, R496–R498). -/

namespace Sys2Proof.Machine

/-- `sys.nop` (R496). -/
def sysNopDef : CmdDef :=
  { opcode := 0x0100, len := fun n => decide (n ≤ 16368), form := fun _ _ => none, act := fun _ c s => .done c.payload s }

/-- LIFE code (R458). -/
def Life.code : Life → Nat
  | .maker => 0
  | .issued => 1
  | .sealed => 2
  | .returned => 3
  | .retired => 4

/-- The configured cars as bits. -/
def State.carBits (s : State) : Nat := ((List.finRange 8).map fun c => flagBit (s.car c).configured c.val).foldl (· + ·) 0

/-- The reply of `sys.info` (R497). -/
def State.sysInfoReply (s : State) : List Byte :=
  leBytes 2 0x8800 ++ [byte s.boot.mode, byte s.boot.life.code, byte s.boot.pairSel.toNat,
      byte (flagBit s.boot.pair.paired 0 + flagBit (decide (0xFFFFFF ≤ s.nv.epoch)) 1)]
    ++ leBytes 2 s.grp.frameLen.us ++ leBytes 8 Config.deviceId ++ leBytes 2 s.boot.fwVersion ++ leBytes 2 s.boot.fwPatch
    ++ leBytes 2 1 ++ leBytes 2 s.boot.fwProtocol ++ [byte s.carBits, byte Config.hwRev] ++ zeros 2 ++ leBytes 3 (min s.nv.epoch 0xFFFFFF) ++ [0]
    ++ leBytes 4 s.time.1 ++ zeros 4 ++ leBytes 8 s.figureFrame

/-- `sys.info` (R497). -/
def sysInfoDef : CmdDef := statusCmd 0x0101 4 (fun _ p => [rsv p 0 4]) fun s _ => s.sysInfoReply

/-- Insert a job by ascending ID. -/
def insertJob (j : Job) : List Job → List Job
  | [] => [j]
  | x :: r => if j.id < x.id then j :: x :: r else x :: insertJob j r

/-- One record of `sys.jobs` (R498). -/
def Job.bytes (j : Job) : List Byte :=
  leBytes 2 j.id ++ leBytes 2 j.opcode ++ leBytes 2 j.fraction ++ [byte j.src.val, 0] ++ leBytes 8 (min j.cycles (2 ^ 64 - 1))

/-- The reply of `sys.jobs` (R498). -/
def State.sysJobsReply (s : State) : List Byte :=
  let jobs := s.grp.jobs.foldr insertJob []
  leBytes 2 jobs.length ++ zeros 6 ++ leBytes 8 s.figureFrame ++ jobs.flatMap Job.bytes

/-- `sys.jobs` (R498). -/
def sysJobsDef : CmdDef := statusCmd 0x0102 4 (fun _ p => [rsv p 0 4]) fun s _ => s.sysJobsReply

/-- The ring that byte 0 names. -/
def ringOf (p : List Byte) : RingId := Fin.ofNat 64 (byteAt p 0)

/-- The ring of a `ring.config` request, empty (R479); its slots' bytes start at zero (log 42). -/
def ringCfgOf (p : List Byte) (old : Ring) : Ring :=
  { use := (RingUse.ofCode (byteAt p 1)).getD .off, slotsLog2 := byteAt p 2, sizeCode := byteAt p 3,
    partner := byteAt p 4, irqOnFree := bit (byteAt p 5) 0, badIndex := old.badIndex, chainDiscarded := old.chainDiscarded,
    badEvents := old.badEvents }

/-- The form of `ring.config` (R460, R462, R467, R479). -/
def ringConfigTests (s : State) (p : List Byte) : List Test :=
  let use := byteAt p 1
  let partner := byteAt p 4
  [rng 0 (decide (byteAt p 0 < 64)), rng 1 (decide (use ≤ 4)), rul 1 (s.boot.mode == 0 || !(use == 1 || use == 2)),
   rng 2 (decide (3 ≤ byteAt p 2) && decide (byteAt p 2 ≤ 12)), rng 3 (decide (byteAt p 3 ≤ 4)),
   rng 4 (if use = 1 then decide (partner < 64) else partner == 0xFF),
   ringT 4 (use != 1 || (match finOf 64 partner with
     | some q => s.host.rings[q.val].use == .reply && q != ringOf p
     | none => true)),
   rsvFrom p 5 1, rsv p 6 2]

/-- A CAN configuration, a loaded kernel, a COMMAND ring's PARTNER or a running job names the ring (R479, R511). -/
def State.ringNamed (s : State) (r : RingId) : Bool :=
  s.io.buses.toList.any (fun b => b.cfg.mode != .off && b.cfg.rxRing == r.val)
  || s.grp.kernels.toList.any (fun k => k.state != .empty && (k.hdr.ringIn == r.val || k.hdr.ringOut == r.val))
  || s.host.rings.toList.any (fun q => q.use == .command && q.partner == r.val)
  || s.grp.jobs.any fun j => j.target == r.val || (match j.kind with
    | .exportRecs q _ _ _ _ => q == r
    | _ => false)

/-- `ring.config` is refused for the ring's present state (R479); what names the ring is judged on the configuration `f` as it
will stand (R487). -/
def State.ringBusy (s f : State) (c : Cmd) : Bool :=
  let r := ringOf c.payload
  let q := s.host.rings[r.val]
  c.src.ring == some r || !(s.grp.sources[r.val]).asm.isEmpty || decide (q.prod ≠ q.cons) || f.ringNamed r

/-- `ring.config` takes effect (R479, R485): indices 0, staged edits gone, the source's SEQUENCE open again. -/
def applyRingConfig (p : List Byte) (s : State) : State :=
  let r := ringOf p
  let s := s.modRing r (ringCfgOf p)
  let s := s.modSource (Source.ofRing r) fun x => { x with last := none, staged := [], asm := [] }
  { s with host := { s.host with held := s.host.held.set r.val [], rung := s.host.rung.set r.val false } }

/-- `ring.config` (R479); in RETIRED, where no Calends falls, it acts at once (R549, R587). -/
def ringConfigDef : CmdDef :=
  { opcode := 0x0D10, len := fun n => n = 8, form := fun s p => firstBad (ringConfigTests s p),
    act := fun f c s =>
      if s.ringBusy f c then .refuse stState []
      else if s.running then admitStage f (applyRingConfig c.payload) true 0xFF (.cmd 0x0D10 c.payload) [] s
      else match overLimit 11 16777216 f.ringBytes (applyRingConfig c.payload f).ringBytes with
        | some b => .refuse stAdmission (b.bytes 0xFF)
        | none => .done [] (applyRingConfig c.payload s) }

/-- The tests of a request that names a ring alone. -/
def ringTests (_ : State) (p : List Byte) : List Test := [rng 0 (decide (byteAt p 0 < 64)), rsv p 1 3]

/-- The reply of `ring.status` (R480). -/
def State.ringStatusReply (s : State) (r : RingId) : List Byte :=
  let q := s.host.rings[r.val]
  let x := s.grp.sources[r.val]
  leBytes 2 r.val ++ leBytes 2 q.rcfg ++ leBytes 2 q.prod ++ leBytes 2 q.cons ++ leBytes 2 (s.rstat r) ++ zeros 2
    ++ leBytes 4 x.accepted ++ leBytes 4 x.discarded ++ leBytes 4 q.badEvents

/-- `ring.status` (R480). -/
def ringStatusDef : CmdDef := statusCmd 0x0D11 4 ringTests fun s c => s.ringStatusReply (ringOf c.payload)

/-- Up to `n` slots of a ring, oldest first, and the ring after their consumption (R461). -/
def takeSlots : Nat → Ring → List Byte × Nat × Ring
  | 0, q => ([], 0, q)
  | n + 1, q =>
    if q.used = 0 then ([], 0, q)
    else
      let (bs, k, q') := takeSlots n q.consume
      (q.slotBytes q.cons ++ bs, k + 1, q')

/-- `ring.read` (R481). A ring that becomes DATA_OUT at the coming Calends has no slot yet. -/
def ringReadDef : CmdDef :=
  { opcode := 0x0D12, len := fun n => n = 4,
    form := fun f p => firstBad [rng 0 (decide (byteAt p 0 < 64)), ringT 0 (f.host.rings[(ringOf p).val].use == .dataOut),
      rng 1 (decide (byteAt p 1 * f.host.rings[(ringOf p).val].size ≤ 16352)), rsv p 2 2],
    act := fun f c s =>
      let r := ringOf c.payload
      if s.host.rings[r.val].use ≠ .dataOut then .done (leBytes 2 0 ++ leBytes 2 f.host.rings[r.val].size ++ zeros 12) s
      else
        let (bytes, n, q) := takeSlots (byteAt c.payload 1) s.host.rings[r.val]
        .done (leBytes 2 n ++ leBytes 2 q.size ++ zeros 12 ++ bytes) (s.modRing r fun _ => q) }

/-- The network configuration of a `net.config` request (R482). -/
def netCfgOf (p : List Byte) : NetCfg :=
  { ip := p.take 4, netmask := (p.drop 4).take 4, gateway := (p.drop 8).take 4, port := fieldAt p 12 2, enabled := bit (byteAt p 14) 0 }

/-- `net.config` (R482): stored for the next start-up. -/
def netConfigDef : CmdDef :=
  { opcode := 0x0D13, len := fun n => n = 16,
    form := fun _ p => firstBad [rng 12 (decide (1024 ≤ fieldAt p 12 2)), rsvFrom p 14 1, rsv p 15 1],
    act := fun _ c s => .done [] { s with nv := { s.nv with net := netCfgOf c.payload } } }

end Sys2Proof.Machine
end

