-- ==== Sys2Proof/Machine/Sign.lean ====
section
/-! DEFINITION. Signature blocks and firmware images (R559–R563). -/

namespace Sys2Proof.Machine

/-- One signature block (R560): SIGNER and SIGNATURE. -/
structure SigBlock where
  signer : Nat
  sig    : List Byte
  deriving DecidableEq, Repr

/-- The signature block at the front of some bytes, and what follows it (R560). -/
def takeBlock (b : List Byte) : Option (SigBlock × List Byte) :=
  let n := fieldAt b 8 4
  let len := (12 + n + 3) / 4 * 4
  if fieldAt b 0 4 = 0x4E474953 ∧ byteAt b 4 ≤ 1 ∧ zeroAt b 5 3 ∧ 1 ≤ n ∧ n ≤ 8180 ∧ len ≤ b.length ∧ zeroAt b (12 + n) (len - 12 - n) then
    some (⟨byteAt b 4, (b.drop 12).take n⟩, b.drop len)
  else none

/-- Where the reserved bytes of the block that begins at an offset are not zero (R11, R560), in it or in the one after it. -/
def blockReserved (p : List Byte) (o : Nat) : List Nat :=
  let next := o + (12 + fieldAt p (o + 8) 4 + 3) / 4 * 4
  ([o, next].filter fun i => fieldAt p i 4 == 0x4E474953 && !zeroAt p (i + 5) 3).map (· + 5)

/-- One or two signature blocks and nothing else, none where the bytes do not form them. -/
def sigBlocks (b : List Byte) : Option (List SigBlock) :=
  match takeBlock b with
  | none => none
  | some (x, []) => some [x]
  | some (x, r) => match takeBlock r with
    | some (y, []) => some [x, y]
    | _ => none

/-- A block verifies over a message: SIGNER 0 under Criorauri's root, SIGNER 1 under CUSTOMER_ROOT (R560). -/
def SigBlock.verifies (root : Option (List Byte)) (msg : List Byte) (x : SigBlock) : Bool :=
  if x.signer = 0 then hssVerify Config.rootKey msg x.sig
  else match root with
    | some key => hssVerify key msg x.sig
    | none => false

/-- The header of a firmware image is as R561 gives it. -/
def fwHeaderOk (b : List Byte) : Bool :=
  fieldAt b 0 4 == 0x5746584F && fieldAt b 4 2 == 1 && decide (byteAt b 12 ≤ 63) && zeroAt b 13 3 && decide (32 ≤ fieldAt b 16 4)
    && decide (fieldAt b 16 4 ≤ b.length) && zeroAt b 20 12

/-- The signed message of a firmware image (R561). -/
def fwBody (b : List Byte) : List Byte := b.take (fieldAt b 16 4)

/-- SIGNERS of an image: the blocks that verify (R562). -/
def fwSigners (root : Option (List Byte)) (b : List Byte) : Nat :=
  match sigBlocks (b.drop (fieldAt b 16 4)) with
  | none => 0
  | some xs =>
    let ok (n : Nat) : Bool := xs.any fun x => x.signer == n && x.verifies root (fwBody b)
    flagBit (ok 0) 0 + flagBit (ok 1) 1

/-- A firmware image passes its check (R562). -/
def fwPasses (root : Option (List Byte)) (cosign : Bool) (counter : Nat) (b : List Byte) : Bool :=
  fwHeaderOk b &&
    match sigBlocks (b.drop (fieldAt b 16 4)) with
    | none => false
    | some xs =>
      xs.all (fun x => x.verifies root (fwBody b)) && xs.any (fun x => x.signer == 0) && (!cosign || xs.any fun x => x.signer == 1)
        && decide (counter ≤ byteAt b 12)

/-- A firmware copy passes the check of a start-up (R509, R562): the shipped image carries Criorauri's block alone. -/
def Nv.copyPasses (nv : Nv) (i : Fin 2) : Bool :=
  nv.copies[i.val].state == .valid &&
    match nv.facts[i.val].image with
    | some b => fwPasses nv.customerRoot (nv.cosign && nv.customerRoot.isSome) nv.security b
    | none => !(nv.cosign && nv.customerRoot.isSome) && decide (nv.security ≤ nv.facts[i.val].security)

end Sys2Proof.Machine
end

