-- ==== Sys2Proof/Machine/CmdFw.lean ====
section
/-! DEFINITION. Firmware commands (R508–R510). -/

namespace Sys2Proof.Machine

/-- This member's own bit of MEMBERS. -/
def State.selfBit (s : State) : Nat := s.boot.pairSel.toNat

/-- The members present: this one, and in a pair its partner (R508). -/
def State.presentMembers (s : State) : Nat := if s.boot.pair.paired then 3 else 2 ^ s.selfBit

/-- A MEMBERS byte names a present member (R508). -/
def State.membersOk (s : State) (m : Nat) : Bool := (m &&& s.presentMembers) != 0

/-- This member, and its partner, are named. -/
def State.namesSelf (s : State) (m : Nat) : Bool := bit m s.selfBit
def State.namesPartner (s : State) (m : Nat) : Bool := bit m (1 - s.selfBit)

/-- The copy that does not run (R508). -/
def State.otherCopy (s : State) : Fin 2 := 1 - s.boot.running

/-- A staging job runs. -/
def State.stagingJob (s : State) : Option Job := s.findJob fun j => match j.kind with
  | .fwStage _ => true
  | _ => false

/-- Change a firmware copy. -/
def State.modCopy (s : State) (i : Fin 2) (f : FwCopy → FwCopy) : State :=
  { s with nv := { s.nv with copies := s.nv.copies.set i.val (f s.nv.copies[i.val]) } }

/-- The transfer that a chunk belongs to: a new one with FIRST, else the one under way; its bytes with the chunk's. -/
def State.fwTransfer (s : State) (p : List Byte) : FwStaging :=
  let t : FwStaging := if bit (byteAt p 1) 0 then { members := byteAt p 0, total := fieldAt p 8 4 } else s.grp.staging.getD {}
  { t with bytes := t.bytes ++ p.drop 12 }

/-- Bytes received before a chunk. -/
def State.fwReceived (s : State) (p : List Byte) : Nat :=
  if bit (byteAt p 1) 0 then 0 else ((s.grp.staging.map fun t => t.bytes.length).getD 0)

/-- The form of `fw.stage` (R508). -/
def fwStageTests (s : State) (p : List Byte) : List Test :=
  let first := bit (byteAt p 1) 0
  let total := fieldAt p 8 4
  let t := s.fwTransfer p
  [rsvFrom p 0 2, rng 0 (s.membersOk (byteAt p 0)), rsvFrom p 1 2, rsv p 2 2,
   rul 4 (fieldAt p 4 4 == s.fwReceived p),
   rng 8 (if first then decide (1 ≤ total) && decide (total ≤ 16777216) else total == 0),
   rul 0 (first || (s.grp.staging.map fun t => t.members) == some (byteAt p 0)),
   rul 12 (decide (t.bytes.length ≤ t.total)), rul 1 (!bit (byteAt p 1) 1 || t.bytes.length == t.total)]

/-- FIRST sets the copy that does not run to STAGING, and the running copy is preferred (R508, R511). -/
def State.fwBegin (s : State) (members : Nat) : State :=
  if s.namesSelf members then
    { s.modCopy s.otherCopy fun c => { c with state := .staging } with
      nv := { (s.modCopy s.otherCopy fun c => { c with state := .staging }).nv with preferred := s.boot.running } }
  else s

/-- `fw.stage` (R508). A chunk that comes while the job of a transfer runs is refused for the state (log 41). -/
def fwStageDef : CmdDef :=
  { opcode := 0x0E10, len := fun n => decide (12 ≤ n), form := fun s p => firstBad (fwStageTests s p),
    act := fun _ c s =>
      if bit (byteAt c.payload 1) 1 && s.jobsFull then .refuse stLimit []
      else if s.stagingJob.isSome then .refuse stState []
      else
        let p := c.payload
        let t := s.fwTransfer p
        let s := if bit (byteAt p 1) 0 then s.fwBegin t.members else s
        let s := { s with grp := { s.grp with staging := some t } }
        if bit (byteAt p 1) 1 then startJob (.fwStage (s.nv.cosign && s.nv.customerRoot.isSome)) 0x0E10 c s else .done [] s }

/-- FW_VERSION, FW_PATCH, PAIR_PROTOCOL of an image (R561). -/
def fwIdent (b : List Byte) : Nat × Nat × Nat := (fieldAt b 6 2, fieldAt b 8 2, fieldAt b 10 2)

/-- RESULT of this member's own copy: 0 VALID, 1 SIGNATURE, 2 WRITE_FAILED (R508). -/
def State.fwResult (s : State) (cosign : Bool) (x : FwCheck) (b : List Byte) : Nat :=
  if x.writeFailed then 2 else if fwPasses s.nv.customerRoot cosign s.nv.security b then 0 else 1

/-- The staged copy is marked VALID or INVALID (R508, R562). -/
def State.fwMark (s : State) (result : Nat) (b : List Byte) : State :=
  let i := s.otherCopy
  let (v, patch, proto) := fwIdent b
  let s := s.modCopy i fun _ => { state := if result = 0 then .valid else .invalid, signers := fwSigners s.nv.customerRoot b,
                                  version := v, patch := patch, protocol := proto, size := b.length }
  { s with nv := { s.nv with facts := s.nv.facts.set i.val { image := some b, security := byteAt b 12, hash := sha256 (fwBody b) } } }

/-- The final reply of `fw.stage` (R508): this member's figures and its partner's at their places. -/
def State.fwReply (s : State) (members own : Nat) (x : FwCheck) (b : List Byte) : Nat × List Byte :=
  let other := if !s.namesPartner members then 3 else if !s.boot.pair.paired || x.partner = 3 then 4 else min x.partner 4
  let mine := if s.namesSelf members then own else 3
  let copy := if s.namesSelf members then s.otherCopy.val else 0xFF
  let copy' := if s.namesPartner members && s.boot.pair.paired then min x.partnerCopy 0xFF else 0xFF
  let (v, patch, proto) := fwIdent b
  let place (a b : Nat) : List Byte := if s.boot.pairSel then [byte b, byte a] else [byte a, byte b]
  let good (r : Nat) : Bool := r == 0 || r == 3
  let status := if mine = 1 ∨ other = 1 then stSignature else if good mine && good other then stOk else stJobFailed
  (status, place mine other ++ place copy copy' ++ leBytes 2 v ++ leBytes 2 patch ++ leBytes 2 proto ++ zeros 2)

/-- FW_STAGE_COMPLETE (R508): the staging job's check ends. -/
def execFwStageComplete (x : FwCheck) (s : State) : Host.Outcome State Fault Refusal :=
  .next (s.within [.jobs, .sessions, .staging, .rings, .irq, .net, .firmware] (whenRunning s fun s =>
    match s.stagingJob, s.grp.staging with
    | some j, some t =>
      if !s.holds then s
      else
        let cosign := match j.kind with
          | .fwStage b => b
          | _ => false
        let r := s.fwResult cosign x t.bytes
        let (status, reply) := s.fwReply t.members r x t.bytes
        let s := if s.namesSelf t.members then s.fwMark r t.bytes else s
        endJob j status reply { s with grp := { s.grp with staging := none } }
    | _, _ => s))

/-- `fw.activate` (R509, R511). Whether a partner's copy is VALID, and which it then prefers, are free values (log 3). -/
def fwActivateDef : CmdDef :=
  { opcode := 0x0E11, len := fun n => n = 4,
    form := fun f p => firstBad [rsvFrom p 0 2, rng 0 (f.membersOk (byteAt p 0)), rsv p 1 3],
    act := fun _ c s =>
      let m := byteAt c.payload 0
      let q := s.drawNat
      let bad := (s.namesSelf m && s.nv.copies[s.otherCopy.val].state != .valid)
        || (s.namesPartner m && (!s.mem.partnerKnown || q.1 % 4 ≠ 0)) || s.stagingJob.isSome
      if bad then .refuse stState []
      else
        let s := if s.namesPartner m then q.2 else s
        let s := if s.namesSelf m then { s with nv := { s.nv with preferred := s.otherCopy } } else s
        let q' := s.drawNat
        let other := if s.boot.pair.paired && s.mem.partnerKnown then q'.1 % 2 else 0xFF
        let s := if s.boot.pair.paired && s.mem.partnerKnown then q'.2 else s
        let own := s.nv.preferred.val
        .done ((if s.boot.pairSel then [byte other, byte own] else [byte own, byte other]) ++ zeros 2) s }

/-- STATE code of a copy (R510). -/
def FwState.code : FwState → Nat
  | .empty => 0
  | .staging => 1
  | .valid => 2
  | .invalid => 3

/-- A copy record (R510). -/
def FwCopy.bytes (c : FwCopy) : List Byte :=
  [byte c.state.code, byte c.signers] ++ leBytes 2 c.version ++ leBytes 2 c.patch ++ leBytes 2 c.protocol ++ leBytes 4 c.size

/-- This member's record of `fw.status` (R510). -/
def State.fwRecord (s : State) : List Byte :=
  [byte s.selfBit, byte s.boot.running.val, byte s.nv.preferred.val, byte (flagBit s.boot.fallback 0 + 2)]
    ++ s.nv.copies[0].bytes ++ s.nv.copies[1].bytes ++ zeros 4

/-- `fw.status` (R510): the partner's figures come over ETH1, free values here (log 3); zero when unknown. -/
def fwStatusDef : CmdDef :=
  { opcode := 0x0E12, len := fun n => n = 4, form := fun _ p => firstBad [rsv p 0 4],
    act := fun _ _ s =>
      if s.boot.pair.paired && s.mem.partnerKnown then
        let (b, t) := s.drawBytes 27
        .done (s.fwRecord ++ ([byte (1 - s.selfBit), byte (byteAt b 0 % 2), byte (byteAt b 1 % 2), byte (byteAt b 2 % 2 + 2)] ++ b.drop 3 ++ zeros 4)) t
      else .done (s.fwRecord ++ zeros 32) s }

end Sys2Proof.Machine
end

