-- ==== Sys2Proof/Machine/CmdRec.lean ====
section
/-! DEFINITION. The recorder's commands and its flush (R533, R539, R545–R548). -/

namespace Sys2Proof.Machine

/-- A record's 32 bytes (R535); OPEN is set in a returned copy of the open record. -/
def Rec.bytes (r : Rec) (isOpen : Bool) : List Byte :=
  let flags := flagBit r.cont 0 + flagBit r.epochSat 1 + flagBit r.isLocal 2 + flagBit r.member 3 + flagBit isOpen 4
  let b := leBytes 4 r.seconds ++ leBytes 3 r.epoch ++ [byte flags] ++ leBytes 2 r.fis ++ leBytes 2 r.code ++ [byte r.car, 0]
    ++ leBytes 2 r.reps ++ padTo 12 r.data ++ leBytes 2 r.lastDelta
  b ++ leBytes 2 (crc16 b)

/-- OLDEST; one above NEWEST in an erased recorder (R536, R553). -/
def Recorder.oldest (r : Recorder) : Nat := r.next - r.recs.length

/-- NEWEST, 0 while nothing was ever recorded. -/
def Recorder.newest (r : Recorder) : Nat := r.next - 1

/-- The record of an INDEX that the recorder holds, as it is returned. -/
def Recorder.bytesAt (r : Recorder) (i : Nat) : List Byte :=
  match r.recs[r.next - 1 - i]? with
  | some x => x.bytes (r.isOpen && i + 1 == r.next)
  | none => []

/-- The indices that a `rec.read` returns (R545). -/
def Recorder.readIndices (r : Recorder) (first count : Nat) (backward : Bool) : List Nat :=
  if r.recs.isEmpty then []
  else
    let start := max r.oldest (min r.newest first)
    if backward then (List.range (min count (start - r.oldest + 1))).map fun i => start - i
    else (List.range (min count (r.newest - start + 1))).map fun i => start + i

/-- The reply of `rec.read` (R545). -/
def State.recReadReply (s : State) (p : List Byte) : List Byte :=
  let r := s.nv.recorder
  let first := fieldAt p 0 8
  let is := r.readIndices first (fieldAt p 8 2) (bit (byteAt p 10) 0)
  leBytes 8 (is.headD first) ++ leBytes 2 is.length ++ zeros 6 ++ is.flatMap r.bytesAt

/-- `rec.read` (R545). -/
def recReadDef : CmdDef :=
  statusCmd 0x1010 12 (fun _ p => [rng 8 (decide (1 ≤ fieldAt p 8 2) && decide (fieldAt p 8 2 ≤ 511)), rsvFrom p 10 1, rsv p 11 1])
    fun s c => s.recReadReply c.payload

/-- `rec.annotate` (R542, R546): its record never folds and never counts toward the frame's 32 (R537, R540). -/
def recAnnotateDef : CmdDef :=
  { opcode := 0x1011, len := fun n => n = 16, form := fun _ p => firstBad [rsv p 12 4],
    act := fun _ c s =>
      let i := s.nv.recorder.next
      .done (leBytes 8 i ++ leBytes 4 s.time.1 ++ leBytes 2 s.time.2 ++ zeros 2) (s.record 0x1001 0xFF (c.payload.take 12)) }

/-- The export that runs. -/
def State.exporting (s : State) : Option Job :=
  s.findJob fun j => match j.kind with
    | .exportRecs _ _ _ _ _ => true
    | _ => false

/-- The ring of the export that runs. -/
def State.exportRing (s : State) : Option RingId :=
  s.exporting.bind fun j => match j.kind with
    | .exportRecs r _ _ _ _ => some r
    | _ => none

/-- One slot of an export (R547): the record count that fits, its records, and what an overwritten INDEX skips. -/
def exportSlot (rec : Recorder) (size next last : Nat) : List Byte × Nat × Nat :=
  let start := min (max next rec.oldest) (last + 1)
  let n := min ((size - 16) / 32) (last + 1 - start)
  (leBytes 8 start ++ leBytes 2 n ++ zeros 6 ++ (List.range n).flatMap fun i => rec.bytesAt (start + i), start + n, start - next)

/-- The export goes on while its ring has free slots, at most `n` of them (R547): a progress reply at each 1/16 of the
range that a slot reaches, its end included (log 365), and the final reply at its end. The last INDEX of an export of nothing is a free value (log 3). -/
def State.runExport : Nat → State → State
  | 0, s => s
  | fuel + 1, s =>
    match s.exporting with
    | some j =>
      match j.kind with
      | .exportRecs ring first next last skipped =>
        let q := s.host.rings[ring.val]
        if last < next then
          let s' := if first ≤ last then (last, s) else s.drawNat
          endJob j stOk (leBytes 4 (next - first - skipped) ++ leBytes 4 skipped ++ leBytes 8 s'.1) s'.2
        else if q.use = .dataOut ∧ 0 < q.room then
          let (bytes, next', more) := exportSlot s.nv.recorder q.size next last
          let frac := 256 * (next' - first) / (last + 1 - first)
          let tell := decide (j.posted / 16 < frac / 16)
          let j' := { j with kind := .exportRecs ring first next' last (skipped + more), fraction := frac, posted := if tell then frac else j.posted }
          let s := if bytes.length ≤ 16 then s else s.publish ring bytes
          let s := { s with grp := { s.grp with jobs := s.grp.jobs.map fun x => if x.id = j.id then j' else x } }
          let s := if tell then s.postReply (s.lateDest j.src j.target j.serial) (some j.id) (replyBytes j.opcode j.tag stOk 1 j.seq
            (leBytes 2 j.id ++ leBytes 2 frac ++ zeros 4 ++ leBytes 8 (min j.cycles (2 ^ 64 - 1)))) else s
          State.runExport fuel s
        else s
      | _ => s
    | none => s

/-- The export goes on as far as its ring's free slots allow. -/
def State.goExport (s : State) : State :=
  match s.exporting with
  | some { kind := .exportRecs ring .., .. } => State.runExport (s.host.rings[ring.val].room + 2) s
  | _ => s

/-- `rec.export` (R547). -/
def recExportDef : CmdDef :=
  { opcode := 0x1012, len := fun n => n = 12,
    form := fun f p => firstBad [rng 8 (decide (byteAt p 8 < 64)), ringT 8 (f.host.rings[(Fin.ofNat 64 (byteAt p 8) : RingId).val].use == .dataOut), rsv p 9 3],
    act := fun _ c s =>
      if s.jobsFull then .refuse stLimit []
      else if s.exporting.isSome then .refuse stState []
      else
        let first := fieldAt c.payload 0 8
        match startJob (.exportRecs (Fin.ofNat 64 (byteAt c.payload 8)) first first s.nv.recorder.newest 0) 0x1012 c s with
        | .later s => .later s.goExport
        | v => v }

/-- The reply of `rec.status` (R548). -/
def State.recStatusReply (s : State) : List Byte :=
  let r := s.nv.recorder
  leBytes 8 r.oldest ++ leBytes 8 r.newest ++ leBytes 3 (min s.nv.epoch 0xFFFFFF) ++ [0] ++ leBytes 4 s.time.1
    ++ [byte (flagBit (decide (0xFFFFFF ≤ s.nv.epoch)) 0 + flagBit (decide (0xFFFFFFFF ≤ s.time.1)) 1 + flagBit s.exporting.isSome 2 + flagBit r.isOpen 3)]
    ++ zeros 3 ++ leBytes 4 r.lost ++ leBytes 4 r.folded ++ zeros 4 ++ leBytes 8 s.figureFrame

/-- `rec.status` (R548). -/
def recStatusDef : CmdDef := statusCmd 0x1013 4 (fun _ p => [rsv p 0 4]) fun s _ => s.recStatusReply

/-- The records made so far, the open one's copy among them, are in NAND (R539). -/
def Recorder.flush (r : Recorder) : Recorder := { r with unsaved := 0, openCopy := if r.isOpen then r.recs.head? else none, dirtyFor := 0 }

/-- NAND is behind the records (R539): a closed record is not in it, or the open one has changed since its copy. -/
def Recorder.dirty (r : Recorder) : Bool := decide (0 < r.unsaved) || (r.isOpen && r.openCopy != r.recs.head?)

/-- A frame passes for NAND (R539): what it has been behind for 1,000 ms, `n` frames, reaches it. -/
def Recorder.age (n : Nat) (r : Recorder) : Recorder :=
  if !r.dirty then { r with dirtyFor := 0 }
  else if n ≤ r.dirtyFor + 1 then r.flush
  else { r with dirtyFor := r.dirtyFor + 1 }

/-- RECORDER_FLUSH (R539). -/
def execRecorderFlush (s : State) : Host.Outcome State Fault Refusal :=
  .next (s.within [.recorder] { s with nv := { s.nv with recorder := s.nv.recorder.flush } })

/-- SECONDS is saved (R533). -/
def State.saveSeconds (s : State) : State := { s with nv := { s.nv with secondsSaved := s.time.1 } }

/-- SECONDS_SAVE (R533). -/
def execSecondsSave (s : State) : Host.Outcome State Fault Refusal := .next (s.within [.saveTime] (whenRunning s State.saveSeconds))

/-- SECONDS advances when its second of Calends is over (R532, R534): it sticks, and FRAME_IN_SECOND goes on. HELD_AGE
of the members counts the same seconds (R449). -/
def State.tickSecond (s : State) : State :=
  if s.grp.fis ≠ 0xFFFF ∧ s.grp.frameLen.perSecond ≤ s.grp.fis then
    let age (mine : Bool) (n : Nat) : Nat := if mine then 0 else satInc 32 n
    let m := s.mem
    let partner := !s.holds && m.holdiActive
    let m := { m with heldAgeA := age (if s.boot.pairSel then partner else s.holds) m.heldAgeA,
                      heldAgeB := age (if s.boot.pairSel then s.holds else partner) m.heldAgeB }
    { s with grp := { s.grp with seconds := satInc 32 s.grp.seconds, fis := s.grp.fis - s.grp.frameLen.perSecond }, mem := m }
  else s

/-- SECONDS_TICK (R532). -/
def execSecondsTick (s : State) : Host.Outcome State Fault Refusal := .next (s.within [.clock, .member] (whenRunning s State.tickSecond))

end Sys2Proof.Machine
end

