-- ==== Sys2Proof/Machine/Hold.lean ====
section
/-! DEFINITION. Causes that make a pair member give up HOLD, the overrun, and the frame's own commands (R46–R57, R256,
R424–R426). -/

namespace Sys2Proof.Machine

/-- A cause of R424 is decided on: a holder of a pair will release, a member that follows enters RELEASED (R426); a
cause of codes 17–33 takes the place of a drill (R446). A single module keeps HOLD. -/
def State.causeRelease (s : State) (cause : Nat) : State :=
  if !s.boot.pair.paired then s
  else match s.mem.state with
    | .holder => s.modMem fun m => { m with releaseDue := match m.releaseDue with
        | some 1 => some cause
        | some c => some c
        | none => some cause }
    | .vigil | .syncing =>
      if 17 ≤ cause ∧ cause ≤ 33 then s.modMem fun m => { m with state := .released, vigilReady := false, completeRun := 0 } else s
    | _ => s

/-- A module cause of the safety core (R256, R424): the lockout of every car, and the release of HOLD. -/
def State.sgModuleCause (s : State) (code : Nat) : State :=
  if s.holds then (s.raiseModule code).causeRelease code else s.causeRelease code

/-- SG_CYCLE (R39, R256). -/
def execSgCycle (s : State) : Host.Outcome State Fault Refusal := .next (s.within ([.member] ++ lockoutParts) (whenRunning s fun s => s.sgModuleCause 21))

/-- SG_CLOCK (R256). -/
def execSgClock (s : State) : Host.Outcome State Fault Refusal := .next (s.within ([.member] ++ lockoutParts) (whenRunning s fun s => s.sgModuleCause 18))

/-- SG_SUPPLY (R256, R583). -/
def execSgSupply (s : State) : Host.Outcome State Fault Refusal := .next (s.within ([.member] ++ lockoutParts) (whenRunning s fun s => s.sgModuleCause 19))

/-- An overrun is latched under its frame number (R48, R50); a latched one stays, and a `frame.resume` accepted in the
frame is overtaken. -/
def State.latchOverrun (s : State) (n : Nat) : State :=
  let kept := s.grp.deferred.filter fun d => match d with
    | .cmd op _ => op != 0x0122
    | _ => true
  let s := { s with grp := { s.grp with overrun := some (s.grp.overrun.getD n), deferred := kept } }
  s.raiseModule 16

/-- CONTROL_PLANE_OVERRUN (R47–R49): the group safe state is committed from the ending Calends on. -/
def execControlPlaneOverrun (s : State) : Host.Outcome State Fault Refusal :=
  .next (s.within ([.frame, .deferred] ++ lockoutParts) (whenRunning s fun s => s.latchOverrun s.grp.frame))

/-- The measured load of the ending frame (R46). -/
def State.measure (s : State) (n : Nat) : State :=
  let d := s.declared
  let s := { s with grp := { s.grp with measuredLast := n, measuredPeak := max s.grp.measuredPeak n } }
  if d < n then
    ({ s with grp := { s.grp with excursions := satInc 32 s.grp.excursions } } : State).record 0x0102 0xFF (leBytes 4 d ++ leBytes 4 n)
  else s

/-- OVERRUN_FRAME (R55, R591). -/
def State.overrunFrame (s : State) : Nat := s.grp.overrun.getD 0

/-- The reply of `frame.status` (R55). -/
def State.frameStatusReply (s : State) : List Byte :=
  leBytes 2 s.grp.frameLen.us ++ leBytes 2 s.nv.frameLen.us ++ leBytes 4 s.grp.frameLen.controlLimit ++ leBytes 8 s.grp.frame
    ++ leBytes 4 s.declared ++ leBytes 4 s.grp.measuredLast ++ leBytes 4 s.grp.measuredPeak ++ leBytes 4 s.grp.excursions
    ++ leBytes 8 s.overrunFrame
    ++ leBytes 4 (flagBit s.grp.overrun.isSome 0 + flagBit s.grp.safeState 1 + flagBit s.grp.admissionHeld 2)

/-- `frame.status` (R55): CLEAR_PEAK clears MEASURED_PEAK after the reply. -/
def frameStatusDef : CmdDef :=
  { opcode := 0x0120, len := fun n => n = 4, form := fun _ p => firstBad [rsvFrom p 0 1, rsv p 1 3],
    act := fun _ c s =>
      .done s.frameStatusReply (if bit (byteAt c.payload 0) 0 then { s with grp := { s.grp with measuredPeak := 0 } } else s) }

/-- The frame length that a request names (R35, R56). -/
def lenOf (us : Nat) : FrameLen := if us = 125 then .us125 else .us250

/-- `frame.config` (R35, R37, R56): stored for the next start-up. -/
def frameConfigDef : CmdDef :=
  { opcode := 0x0121, len := fun n => n = 4,
    form := fun _ p => firstBad [rng 0 (fieldAt p 0 2 == 250 || fieldAt p 0 2 == 125), rsv p 2 2],
    act := fun f c s =>
      let l := lenOf (fieldAt c.payload 0 2)
      let set (s : State) : State := { s with nv := { s.nv with frameLen := l } }
      match breachAt f.nextStart (set f).nextStart l f.boot.mode true with
      | some b => .refuse stAdmission (b.bytes 0xFF)
      | none => .done [] (set s) }

/-- `frame.resume` takes effect (R50): outputs resume, and cause OVERRUN no longer stands. -/
def applyFrameResume (_p : List Byte) (s : State) : State :=
  { s with grp := { s.grp with overrun := none, admissionHeld := false, safeState := false,
                               sg := { s.grp.sg with causes := s.grp.sg.causes - (s.grp.sg.causes &&& 2 ^ 16) } } }

/-- `frame.resume` (R50, R57, R591). -/
def frameResumeDef : CmdDef :=
  { opcode := 0x0122, len := fun n => n = 8, form := fun _ _ => none,
    act := fun f c s =>
      let fits := !f.grp.admissionHeld || (breachOf f f true).isNone
      if f.grp.overrun = some (fieldAt c.payload 0 8) ∧ fits then .done [] (s.stage (.cmd 0x0122 c.payload)) else .refuse stState [] }

end Sys2Proof.Machine
end

