-- ==== Sys2Proof/Machine/Net.lean ====
section
/-! DEFINITION. The network mailbox: sessions, slots and acknowledgements (R473–R477). SLOT datagrams, which carry
commands, are served in Service. -/

namespace Sys2Proof.Machine

/-- The network mailbox listens (R416, R473, R549, R588). -/
def State.netUp (s : State) : Bool :=
  s.holds && s.running && s.boot.net.enabled && (s.boot.life == .issued || s.boot.life == .sealed)

/-- A discarded datagram (R474): counted, and at most one event per second. -/
def authFailure (s : State) : State :=
  let n := satInc 32 s.host.authFailures
  if s.host.authAt = some s.time.1 then { s with host := { s.host with authFailures := n } }
  else { (s.record 0x0D01 0xFF (leBytes 4 n)) with host := { s.host with authFailures := 0, authAt := some s.time.1 } }

/-- The open session that a datagram names and whose MAC it carries (R474). -/
def State.authSession (s : State) (kind : Nat) (d : Datagram) : Option CarId :=
  match finOf 8 (d.session - 1) with
  | none => none
  | some n =>
    let x := s.grp.sessions[n.val]
    if d.magic = 0x4758 ∧ 1 ≤ d.session ∧ x.isOpen ∧
        d.mac = hmacSha256 x.key (x.moduleNonce ++ x.hostNonce ++ datagramHead kind d.session d.index d.data)
    then some n else none

/-- Close a session (R475): staged edits, open chain, waiting replies and unsent slots go; jobs run on. -/
def closeSession (n : CarId) (s : State) : State :=
  let x := Source.ofSession n
  let s := s.modSession n fun y => { serial := y.serial }
  let s := s.modSource x fun _ => {}
  { s with host := { s.host with held := s.host.held.set x.val [] } }

/-- Act on an authenticated datagram of an open session, or count it as discarded. -/
def withSession (kind : Nat) (d : Datagram) (s : State) (f : CarId → State → State) : State :=
  if !s.netUp then s
  else match s.authSession kind d with
    | none => authFailure s
    | some n => f n (s.modSession n fun x => { x with lastValid := s.grp.frame })

/-- The first closed session. -/
def State.freeSession (s : State) : Option CarId := (List.finRange 8).find? fun n => !s.grp.sessions[n.val].isOpen

/-- NET_OPEN (R474, R475): a session opens with a fresh module nonce, or SESSION 0 answers when 8 are open. -/
def execNetOpen (d : Datagram) (s : State) : Host.Outcome State Fault Refusal :=
  .next (s.within [.free, .sources, .sessions, .net, .recorder] (if !s.netUp then s
    else match s.nv.netKey with
      | none => authFailure s
      | some key =>
        if d.magic = 0x4758 ∧ d.session = 0 ∧ d.data.length = 16 ∧
            d.mac = hmacSha256 key (zeros 32 ++ datagramHead 0 0 d.index d.data) then
          match s.freeSession with
          | none => s.ethSend (datagram key (zeros 32) 1 0 0 (zeros 16 ++ d.data))
          | some n =>
            let (nonce, s) := s.drawBytes 16
            let s := s.modSession n fun x => { isOpen := true, serial := x.serial + 1, key := key, moduleNonce := nonce, hostNonce := d.data,
                                               lastValid := s.grp.frame, resentAt := s.grp.frame }
            let s := s.modSource (Source.ofSession n) fun _ => {}
            s.ethSend (datagram key (zeros 32) 1 (n.val + 1) 0 (nonce ++ d.data))
        else authFailure s))

/-- Slots of a session are acknowledged, every one below an INDEX (R476); the next oldest has its own 50 ms and resends. -/
def Session.acked (index frame : Nat) (x : Session) : Session :=
  let left := x.unacked.filter fun u => decide (index ≤ u.1)
  if left.length = x.unacked.length then x else { x with unacked := left, resends := 0, resentAt := frame }

/-- NET_ACK (R476): every slot below INDEX is acknowledged, and waiting slots follow. -/
def execNetAck (d : Datagram) (s : State) : Host.Outcome State Fault Refusal :=
  .next (s.within [.sessions, .rings, .irq, .net, .recorder] (withSession 3 d s fun n s =>
    let s := s.modSession n (Session.acked d.index s.grp.frame)
    let x := Source.ofSession n
    State.postHeld (s.heldSlots x) x s))

/-- NET_CLOSE (R475). -/
def execNetClose (d : Datagram) (s : State) : Host.Outcome State Fault Refusal :=
  .next (s.within [.sources, .sessions, .rings, .net, .recorder] (withSession 4 d s fun n s => closeSession n s))

/-- NET_RESEND (R476): every 50 ms the oldest unacknowledged slot is sent again; after 20 resends the session closes. -/
def execNetResend (n : CarId) (s : State) : Host.Outcome State Fault Refusal :=
  let x := s.grp.sessions[n.val]
  .next (s.within [.sources, .sessions, .rings, .net] (if s.netUp && x.isOpen && decide (s.msFrames 50 ≤ s.grp.frame - x.resentAt) then
      match x.unacked with
      | [] => s
      | (i, bytes) :: _ =>
        if x.resends < 20 then
          (s.sessionSend n 2 i bytes).modSession n fun y => { y with resends := x.resends + 1, resentAt := s.grp.frame }
        else closeSession n (s.sessionSend n 4 0 [])
    else s))

/-- NET_SESSION_TIMEOUT (R475): 60 s without a valid datagram close the session. -/
def execNetSessionTimeout (n : CarId) (s : State) : Host.Outcome State Fault Refusal :=
  let x := s.grp.sessions[n.val]
  .next (s.within [.sources, .sessions, .rings] (if s.netUp && x.isOpen && decide (s.msFrames 60000 ≤ s.grp.frame - x.lastValid) then closeSession n s else s))

/-- The 16-bit one's complement checksum of IPv4 and ICMP (RFC 1071). -/
def inetSum (bs : List Byte) : Nat :=
  let words : List Byte → Nat := fun l => (List.range ((l.length + 1) / 2)).foldl (fun a i => a + 256 * byteAt l (2 * i) + byteAt l (2 * i + 1)) 0
  let t := words bs
  let t := t % 65536 + t / 65536
  let t := t % 65536 + t / 65536
  65535 - t

/-- The answer to an ARP request for the group's address (RFC 826). -/
def arpReply (ip req : List Byte) : Option (List Byte) :=
  let f (i n : Nat) := (req.drop i).take n
  if f 12 10 = [0x08#8, 0x06#8, 0, 1, 0x08#8, 0, 6, 4, 0, 1] ∧ f 38 4 = ip then
    some (f 6 6 ++ Config.macAddress ++ [0x08#8, 0x06#8, 0, 1, 0x08#8, 0, 6, 4, 0, 2] ++ Config.macAddress ++ ip ++ f 22 6 ++ f 28 4)
  else none

/-- The answer to an ICMP echo request to the group's address (RFC 792). -/
def echoReply (ip req : List Byte) : Option (List Byte) :=
  let f (i n : Nat) := (req.drop i).take n
  if f 12 2 = [0x08#8, 0x00#8] ∧ f 14 1 = [0x45#8] ∧ f 23 1 = [1] ∧ f 30 4 = ip ∧ f 34 1 = [0x08#8] then
    let body := [0, 0, 0, 0] ++ req.drop 38
    let sum := inetSum body
    some (f 6 6 ++ Config.macAddress ++ f 12 14 ++ ip ++ f 26 4 ++ [0, 0, byte (sum / 256), byte sum] ++ req.drop 38)
  else none

/-- NET_ARP_ICMP (R473): the network mailbox answers ARP and ICMP echo requests to its address. -/
def execNetArpIcmp (req : List Byte) (s : State) : Host.Outcome State Fault Refusal :=
  .next (s.within [.net] (if s.holds && s.running && s.boot.net.enabled && (s.boot.life == .issued || s.boot.life == .sealed) then
      match arpReply s.boot.net.ip req with
      | some r => s.ethSend r
      | none =>
        match echoReply s.boot.net.ip req with
        | some r => s.ethSend r
        | none => s
    else s))

end Sys2Proof.Machine
end

