-- ==== Sys2Proof/Machine/Codes.lean ====
section
/-! DEFINITION. The code of DRAM and the channel cache: RS(40,34) over GF(2^8) with the word's address in it (R569). -/

namespace Sys2Proof.Machine

/-- Twice an element of GF(2^8), field polynomial 0x11D. -/
def gfTwice (a : Byte) : Byte := if a.msb then (a <<< 1) ^^^ 0x1D#8 else a <<< 1

/-- A product in GF(2^8): `n` bits of the first factor, the lowest first. -/
def gfTimes : Nat → Byte → Byte → Byte
  | 0, _, _ => 0
  | n + 1, a, b => (if a.getLsbD 0 then b else 0) ^^^ gfTimes n (a >>> 1) (gfTwice b)

/-- A product in GF(2^8). -/
def gfMul (a b : Byte) : Byte := gfTimes 8 a b

/-- A power in GF(2^8). -/
def gfPow (a : Byte) : Nat → Byte
  | 0 => 1
  | n + 1 => gfMul a (gfPow a n)

/-- The inverse of a non-zero element: its 254th power, 254 = 2 × 127. -/
def gfInv (a : Byte) : Byte :=
  let cube (x : Byte) : Byte := gfMul x (gfMul x x)
  let a3 := cube a
  let a15 := gfMul a3 (gfPow (gfMul a3 a3) 2)
  let a120 := gfPow (gfPow (gfPow a15 2) 2) 2
  let a127 := gfMul a120 (gfMul a3 (gfPow (gfMul a a) 2))
  gfMul a127 a127

/-- Subtract from a row what clears its head, `pivot` being a row with head 1. -/
def clearHead (pivot row : List Byte) : List Byte :=
  (pivot.zipWith (fun x y => y ^^^ gfMul (row.headD 0) x) row).drop 1

/-- Solve `n` linear equations over GF(2^8), each row its coefficients and then its right side; none where they do not fix
the unknowns. -/
def gfSolve : Nat → List (List Byte) → Option (List Byte)
  | 0, _ => some []
  | n + 1, rows =>
    match rows.find? fun r => r.headD 0 != 0 with
    | none => none
    | some r =>
      let pivot := r.map (gfMul (gfInv (r.headD 0)))
      let rest := (rows.erase r).map (clearHead pivot)
      (gfSolve n rest).map fun xs =>
        ((xs.zipWith gfMul (pivot.drop 1)).foldl (· ^^^ ·) (pivot.getLastD 0)) :: xs

/-- The place value of symbol `i` of a codeword of 40: the first symbol is that of the highest power. -/
def locator (i : Nat) : Byte := gfPow 2 (39 - i)

/-- A syndrome: the codeword's polynomial at the root α^j. -/
def syndrome (w : List Byte) (j : Nat) : Byte :=
  let root := gfPow 2 j
  w.foldl (fun a c => gfMul a root ^^^ c) 0

/-- A word of the code. -/
def isCodeword (w : List Byte) : Bool := (List.range 6).all fun j => syndrome w j == 0

/-- The places of `n` errors: the roots of the locator polynomial that the syndromes `ss` give. -/
def errorPlaces (n : Nat) (ss : List Byte) : List Nat :=
  match gfSolve n ((List.range n).map fun i => (ss.drop i).take (n + 1)) with
  | none => []
  | some cs => (List.range 40).filter fun p =>
      ((cs.zip (List.range n)).foldl (fun a q => a ^^^ gfMul q.1 (gfPow (locator p) q.2)) (gfPow (locator p) n)) == 0

/-- The word with the symbols at some places put right, where the syndromes fix their errors. -/
def putRight (ps : List Nat) (ss w : List Byte) : Option (List Byte) :=
  (gfSolve ps.length ((List.range ps.length).map fun i => ps.map (fun p => gfPow (locator p) i) ++ [ss.getD i 0])).map fun es =>
    (ps.zip es).foldl (fun w q => w.set q.1 (w.getD q.1 0 ^^^ q.2)) w

/-- The word of the code within 3 symbols of a word read: the distance is 7, so there is one at most. -/
def rsDecode (w : List Byte) : Option (List Byte) :=
  let ss := (List.range 6).map (syndrome w)
  if isCodeword w then some w
  else [1, 2, 3].findSome? fun n =>
    let ps := errorPlaces n ss
    if ps.length = n then (putRight ps ss w).filter isCodeword else none

/-- The two symbols that are not stored: A[15:0] XOR A[24:16]. -/
def addressSymbols (a : Nat) : List Byte := leBytes 2 (a % 2 ^ 16 ^^^ a / 2 ^ 16 % 2 ^ 9)

/-- What reading a word gives (R569, R571). -/
inductive WordRead | clean | corrected | uncorrectable
  deriving DecidableEq, Repr

/-- Decode a word as it is read. Symbols: the data bytes, the address symbols, the check symbols (log 338). An error that the
decoder finds in the address symbols is a word read at the wrong address: its data is another word's (log 338). -/
def MemWord.read (m : MemWord) : WordRead :=
  let w := padTo 32 m.data ++ addressSymbols m.addr ++ padTo 6 m.check
  match rsDecode w with
  | none => .uncorrectable
  | some x => if x = w then .clean else if (x.drop 32).take 2 = addressSymbols m.addr then .corrected else .uncorrectable

/-- The words of a list that read in a given way. -/
def countReads (r : WordRead) (ms : List MemWord) : Nat := (ms.filter fun m => m.read == r).length

end Sys2Proof.Machine
end

