-- ==== Sys2Proof/Machine/CmdBank.lean ====
section
/-! DEFINITION. The commands of banks: `bank.config`, `bank.ack`, `bank.status` (R325–R327). -/

namespace Sys2Proof.Machine

/-- The bank that byte 0 names. -/
def bankOf (p : List Byte) : BankId := Fin.ofNat 16 (byteAt p 0)

/-- `bank.config` takes effect (R325). -/
def applyBankConfig (p : List Byte) (s : State) : State :=
  s.modBank (bankOf p) fun b => { b with safeTimerMs := if byteAt p 1 = 0 then 4 else byteAt p 1 }

/-- `bank.config` (R325). -/
def bankConfigDef : CmdDef :=
  { opcode := 0x0910, len := fun n => n = 8,
    form := fun _ p => firstBad [rng 0 (decide (byteAt p 0 < 16)), rng 1 (decide (byteAt p 1 ≤ 64)), rsv p 2 6],
    act := fun _ c s => .done [] (s.stage (.cmd 0x0910 c.payload)) }

/-- The latched conditions that a `bank.ack` names, SUPPLY and TIMER (R326). -/
def ackNames (b : Bank) (p : List Byte) : Bool × Bool :=
  (bit (byteAt p 1) 0 && b.supplyMissing, bit (byteAt p 1) 1 && b.timerExpired)

/-- Every named latched condition is ready (R317, R320). -/
def State.ackReady (s : State) (b : Bank) (n : Bool × Bool) : Bool :=
  (!n.1 || b.supplyReady) && (!n.2 || s.timerReady b)

/-- RESULT of `bank.ack`: 0 RELEASED, 1 NOT_LATCHED, 2 NOT_READY (R326). -/
def State.ackResult (s : State) (p : List Byte) : Nat :=
  let b := s.io.banks[(bankOf p).val]
  let n := ackNames b p
  if !n.1 && !n.2 then 1 else if s.ackReady b n then 0 else 2

/-- A released bank's outputs follow their committed commands again (R317, R320). -/
def Bank.release (n : Bool × Bool) (b : Bank) : Bank :=
  let b := { b with supplyMissing := b.supplyMissing && !n.1, timerExpired := b.timerExpired && !n.2 }
  if b.blocked then b else b.drive fun l => l.use == .output && l.committed && !l.thermal

/-- A `bank.ack` acts at a Calends and is answered (R326): RELEASED, or NOT_READY where a new MISSING or expiry has come in
the frame of its acceptance (R324). -/
def applyBankAck (c : Cmd) (serial : Nat) (s : State) : State :=
  let b := s.io.banks[(bankOf c.payload).val]
  let n := ackNames b c.payload
  if s.ackReady b n then (s.modBank (bankOf c.payload) (Bank.release n)).replyLate 0x0911 c serial stOk [0, 0, 0, 0]
  else s.replyLate 0x0911 c serial stState [2, 0, 0, 0]

/-- `bank.ack` (R326): one that finds nothing to release is answered at once, the other at the Calends at which it acts. -/
def bankAckDef : CmdDef :=
  { opcode := 0x0911, len := fun n => n = 4,
    form := fun _ p => firstBad [rng 0 (decide (byteAt p 0 < 16)), rsvFrom p 1 2, rng 1 (decide (byteAt p 1 ≠ 0)), rsv p 2 2],
    act := fun _ c s =>
      let r := s.ackResult c.payload
      if r = 0 then .later (s.stage (.answer 0x0911 c (s.serial c.src))) else .result stState [byte r, 0, 0, 0] s }

/-- Bit `l` of a byte for each lane of a bank. -/
def laneBits (f : LaneId → Bool) : Nat := total ((List.finRange 8).map fun l => flagBit (f l) l.val)

/-- The reply of `bank.status` (R327), for the latest image. -/
def State.bankStatusReply (s : State) (n : BankId) : List Byte :=
  let b := s.io.banks[n.val]
  let im := s.io.image.banks[n.val]
  [byte n.val, byte (s.bankStatusByte n), byte b.safeTimerMs, byte b.sampleK] ++ leBytes 8 s.io.image.frame
    ++ leBytes 2 im.fieldMv ++ leInt 1 im.temp ++ [0] ++ leBytes 2 im.outMa ++ leBytes 2 im.dissipation
    ++ leBytes 4 im.linkErrors ++ leBytes 4 im.thermalEvents
    ++ [byte (laneBits fun l => im.lanes[l.val].faultClass != 0), byte (laneBits fun l => b.lanes[l.val].committed),
        byte (laneBits fun l => im.lanes[l.val].readback), byte (laneBits fun l => im.lanes[l.val].state)]

/-- `bank.status` (R327). -/
def bankStatusDef : CmdDef :=
  statusCmd 0x0912 4 (fun _ p => [rng 0 (decide (byteAt p 0 < 16)), rsv p 1 3]) fun s c => s.bankStatusReply (bankOf c.payload)

end Sys2Proof.Machine
end

