-- ==== Sys2Proof/Machine/CmdLife.lean ====
section
/-! DEFINITION. Life-cycle, key, attestation and certificate commands (R553–R557, R565–R568, R575–R579). -/

namespace Sys2Proof.Machine

/-- A state from its code. -/
def Life.ofCode : Nat → Option Life
  | 0 => some .maker
  | 1 => some .issued
  | 2 => some .sealed
  | 3 => some .returned
  | 4 => some .retired
  | _ => none

/-- The state at the next start-up (R553). -/
def State.pendingState (s : State) : Life := (s.nv.pendingLife.map fun q => q.1).getD s.boot.life

/-- A transition of R553. -/
def transition : Life → Life → Bool
  | .maker, .issued => true
  | .issued, .sealed => true
  | .issued, .returned => true
  | .sealed, .returned => true
  | .issued, .retired => true
  | .sealed, .retired => true
  | .returned, .retired => true
  | _, _ => false

/-- The signers that a transition needs, Criorauri and the customer (R553). -/
def signersNeeded (src dst : Life) (root : Bool) : Bool × Bool :=
  match src, dst with
  | .issued, .sealed => (false, true)
  | .returned, .retired => (true, false)
  | _, .returned => (true, root)
  | _, .retired => (!root, root)
  | _, _ => (true, false)

/-- The form of a transition record and its blocks (R11, R554, R556, R560): its layout, and a transition that R553 gives. -/
def advanceTests (_ : State) (p : List Byte) : List Test :=
  let wipe := bit (byteAt p 14) 0
  [rng 0 (fieldAt p 0 4 == 0x464C584F), rng 12 (decide (byteAt p 12 ≤ 4)), rng 13 (decide (byteAt p 13 ≤ 4)), rsvFrom p 14 1,
   rul 14 (!wipe || byteAt p 13 == 3), rsv p 15 1,
   rul 13 (match Life.ofCode (byteAt p 12), Life.ofCode (byteAt p 13) with
     | some a, some b => transition a b
     | _, _ => false)] ++ (blockReserved p 32).map fun o => (true, o, whyReserved, noRef)

/-- The record names this member, its pending state and its challenge, and is signed as R553 asks (R555). -/
def State.advanceSigned (s : State) (p : List Byte) : Bool :=
  let msg := p.take 32
  match Life.ofCode (byteAt p 12), Life.ofCode (byteAt p 13), sigBlocks (p.drop 32) with
  | some a, some b, some xs =>
    let need := signersNeeded a b s.nv.customerRoot.isSome
    fieldAt p 4 8 == Config.deviceId % 2 ^ 64 && a == s.pendingState && (p.drop 16).take 16 == s.boot.challenge
      && xs.all (fun x => x.verifies s.nv.customerRoot msg)
      && (!need.1 || xs.any fun x => x.signer == 0) && (!need.2 || xs.any fun x => x.signer == 1)
  | _, _, _ => false

/-- The record is the partner's, to which it goes over ETH1 (R573). -/
def State.advancePartner (s : State) (p : List Byte) : Bool :=
  s.boot.pair.paired && s.mem.eth1 && s.mem.partnerKnown && fieldAt p 4 8 != Config.deviceId % 2 ^ 64

/-- `life.advance` (R553–R556, R573, R575). What a partner answers is a free value (log 3). -/
def lifeAdvanceDef : CmdDef :=
  { opcode := 0x1110, len := fun n => decide (32 ≤ n), form := fun s p => firstBad (advanceTests s p),
    act := fun f c s =>
      let p := c.payload
      let dst := Life.ofCode (byteAt p 13)
      if !(f.carsUp.all Car.out) || s.stagingJob.isSome then .refuse stState []
      else if s.advancePartner p then
        let q := s.drawNat
        if q.1 % 2 = 0 then .result stSignature [] q.2 else .done [byte (byteAt p 13), 0, 0, 0] q.2
      else if dst = some .sealed ∧ s.nv.customerRoot.isNone then .refuse stState []
      else if !s.advanceSigned p then .refuse stSignature []
      else
        let s := { s with nv := { s.nv with pendingLife := dst.map fun x => (x, bit (byteAt p 14) 0) } }
        let q := s.drawBytes 16
        let t := { q.2 with boot := { q.2.boot with challenge := q.1 } }
        .done [byte (byteAt p 13), 0, 0, 0] t }

/-- KEYS (R565, R576). -/
def Nv.keys (nv : Nv) : Nat := flagBit nv.customerRoot.isSome 0 + flagBit nv.netKey.isSome 1 + flagBit nv.cosign 2

/-- ATTEST_REMAINING (R566, R567). -/
def State.attestLeft (s : State) : Nat := 1048576 - s.boot.nextQ

/-- The reply of `life.status` (R576). -/
def State.lifeStatusReply (s : State) : List Byte :=
  [byte s.boot.life.code, byte s.pendingState.code, byte s.nv.keys, byte s.nv.security] ++ leBytes 8 Config.deviceId
    ++ padTo 16 s.boot.challenge ++ leBytes 4 s.attestLeft ++ leBytes 2 s.nv.attestBlocks ++ [byte s.boot.lastReset, 0]
    ++ leBytes 4 s.boot.dramCorrected ++ leBytes 4 s.boot.cacheCorrected ++ leBytes 4 s.nv.nandCorrected ++ leBytes 4 s.boot.scrubPasses
    ++ zeros 4 ++ leBytes 8 (if s.running then s.figureFrame else 0)

/-- `life.status` (R576). -/
def lifeStatusDef : CmdDef := statusCmd 0x1111 4 (fun _ p => [rsv p 0 4]) fun s _ => s.lifeStatusReply

/-- The form of `life.provision` (R559, R577). -/
def provisionTests (s : State) (p : List Byte) : List Test :=
  let fl := byteAt p 1
  let root := (p.drop 4).take 60
  [rsvFrom p 0 2, rng 0 (s.membersOk (byteAt p 0)), rsvFrom p 1 4, rsv p 2 2,
   rul 1 (!(bit fl 3 && (bit fl 0 || bit fl 1 || bit fl 2))), rul 1 (!bit fl 2 || bit fl 0 || s.nv.customerRoot.isSome),
   (!bit fl 0 && !zeroAt p 4 60, 4, whyReserved, 0xFFFFFF), rul 4 (!bit fl 0 || hssKeyOk root),
   (!bit fl 1 && !zeroAt p 64 32, 64, whyReserved, 0xFFFFFF), rsv p 96 32]

/-- The keys after a `life.provision` (R557). -/
def Nv.provision (nv : Nv) (p : List Byte) : Nv :=
  let fl := byteAt p 1
  if bit fl 3 then { nv with customerRoot := none, netKey := none, cosign := false }
  else { nv with customerRoot := if bit fl 0 then some ((p.drop 4).take 60) else nv.customerRoot,
                 netKey := if bit fl 1 then some ((p.drop 64).take 32) else nv.netKey, cosign := nv.cosign || bit fl 2 }

/-- `life.provision` (R557, R573, R577): on each member named. -/
def lifeProvisionDef : CmdDef :=
  { opcode := 0x1112, len := fun n => n = 128, form := fun s p => firstBad (provisionTests s p),
    act := fun _ c s =>
      let s := if s.namesSelf (byteAt c.payload 0) then { s with nv := s.nv.provision c.payload } else s
      .done [byte s.nv.keys, 0, 0, 0] s }

/-- The statement of R565. -/
def State.statement (s : State) (q : Nat) (nonce : List Byte) : List Byte :=
  leBytes 4 0x5441584F ++ leBytes 8 Config.deviceId ++ [byte s.boot.life.code, byte s.nv.keys, byte s.nv.security, byte s.boot.running.val]
    ++ leBytes 2 s.boot.fwVersion ++ leBytes 2 s.boot.fwPatch ++ leBytes 3 (min s.nv.epoch 0xFFFFFF) ++ [0#8] ++ leBytes 4 s.time.1 ++ leBytes 4 q
    ++ padTo 32 s.nv.facts[s.boot.running.val].hash
    ++ padTo 32 (match s.nv.customerRoot with
      | some k => sha256 k
      | none => []) ++ padTo 32 nonce

/-- This member signs with its next leaf, blowing the reservation fuse of a new block first (R566). -/
def State.attest (s : State) (nonce : List Byte) : List Byte × State :=
  let q := s.boot.nextQ
  let st := s.statement q nonce
  let s := { s with nv := { s.nv with attestBlocks := max s.nv.attestBlocks (q / 1024 + 1) }, boot := { s.boot with nextQ := q + 1 } }
  (st ++ leBytes 4 1772 ++ padTo 1772 (Config.attestSignature q st), s)

/-- MEMBER of a request: this member itself, its partner, or neither. -/
def State.memberNamed (s : State) (m : Nat) : Option Bool :=
  if m = 0xFF ∨ m = s.selfBit then some true else if m ≤ 1 then some false else none

/-- `life.attest` (R565–R567, R578). What a partner signs is a free value (log 3). -/
def lifeAttestDef : CmdDef :=
  { opcode := 0x1113, len := fun n => n = 36,
    form := fun s p => firstBad [rng 0 (s.memberNamed (byteAt p 0)).isSome, rsv p 1 3],
    act := fun _ c s =>
      let nonce := (c.payload.drop 4).take 32
      if s.memberNamed (byteAt c.payload 0) = some true then
        if s.attestLeft = 0 then .refuse stState []
        else
          let q := s.attest nonce
          .done q.1 q.2
      else if s.boot.pair.paired && s.mem.partnerState == 3 then
        let q := s.drawBytes (92 + 1772)
        .done (leBytes 4 0x5441584F ++ q.1.take 92 ++ padTo 32 nonce ++ leBytes 4 1772 ++ q.1.drop 92) q.2
      else .refuse stState [] }

/-- `life.cert` (R568, R579). A partner's device certificate is a free value (log 3). -/
def lifeCertDef : CmdDef :=
  { opcode := 0x1114, len := fun n => n = 4,
    form := fun s p => firstBad [rng 0 (s.memberNamed (byteAt p 0)).isSome, rng 1 (decide (byteAt p 1 ≤ 1)), rsv p 2 2],
    act := fun _ c s =>
      let reply (b : List Byte) : List Byte := leBytes 2 (b.take 16364).length ++ zeros 2 ++ b.take 16364
      if s.memberNamed (byteAt c.payload 0) = some true then .done (reply (Config.certificate (byteAt c.payload 1))) s
      else if s.boot.pair.paired && s.mem.partnerKnown then
        .done (reply (Config.freeBytes s.free)) { s with free := s.free + 1 }
      else .refuse stState [] }

end Sys2Proof.Machine
end

