-- ==== Sys2Proof/Machine/CmdPair.lean ====
section
/-! DEFINITION. The commands of the pair (R445–R449). -/

namespace Sys2Proof.Machine

/-- A bank that holds an output lane of a safety set (R439). -/
def State.safetyBank (s : State) (b : BankId) : Bool :=
  s.grp.alm.any fun q => q.2.isOutput && (match q.2.lane with
    | some (k, l) => k == b && (laneOwner s.grp.alm s.grp.cars k l).isSome
    | none => false)

/-- The configuration of a `pair.config` request (R447). -/
def pairCfgOf (p : List Byte) : PairCfg :=
  { paired := bit (byteAt p 0) 0, diodeBanks := BitVec.ofNat 16 (fieldAt p 2 2),
    coldWaitMs := if fieldAt p 4 2 = 0 then 2000 else fieldAt p 4 2 }

/-- The form of `pair.config` (R439, R447). -/
def pairConfigTests (s : State) (p : List Byte) : List Test :=
  let cold := fieldAt p 4 2
  [rsvFrom p 0 1, rsv p 1 1,
   rul 2 ((List.finRange 16).all fun b => !(bit (fieldAt p 2 2) b.val && s.safetyBank b)),
   rng 4 (cold == 0 || (decide (500 ≤ cold) && decide (cold ≤ 10000))), rsv p 6 10]

/-- Every limit, under a pair configuration and at the frame length of the next start-up (R429, R447, R494). -/
def State.pairBreach (s : State) (cfg : PairCfg) : Option Breach :=
  let after : State := { s with nv := { s.nv with pair := cfg } }
  breachAt s.nextStart after.nextStart s.nv.frameLen s.boot.mode true

/-- `pair.config` (R447): stored for the next start-up. -/
def pairConfigDef : CmdDef :=
  { opcode := 0x0C10, len := fun n => n = 16, form := fun s p => firstBad (pairConfigTests s p),
    act := fun f c s =>
      let cfg := pairCfgOf c.payload
      match (if cfg.paired then f.pairBreach cfg else none) with
      | some b => .refuse stAdmission (b.bytes 0xFF)
      | none => .done [] { s with nv := { s.nv with pair := cfg } } }

/-- Every car stands idle with its doors at rest and nothing under way (R445). -/
def State.leapQuiet (s : State) : Bool :=
  s.carsUp.all fun c => c.motion.phase == .idle && c.safe.test.isNone && c.pos.state != .learning && c.pos.state != .correcting &&
    c.doors.toList.all fun d => !d.configured || d.phase == .closed || d.phase == .opened

/-- `pair.leap` is accepted now (R445). -/
def State.leapOk (s : State) : Bool :=
  s.boot.pair.paired && s.holds && decide (s.mem.partnerState = 3) && decide (64 ≤ s.mem.vigilFrames) && s.leapQuiet

/-- `pair.leap` (R445, R448): the holder releases after the Calends that follows. -/
def pairLeapDef : CmdDef :=
  { opcode := 0x0C11, len := fun n => n = 4, form := fun _ p => firstBad [rsv p 0 4],
    act := fun f c s =>
      if s.jobsFull then .refuse stLimit []
      else if !(f.leapOk && f.mem.releaseDue.isNone && s.grp.jobs.all fun j => j.kind != .leap) then .refuse stState []
      else match startJob .leap 0x0C11 c s with
        | .later s => .later (s.stage (.cmd 0x0C11 c.payload))
        | v => v }

/-- The drill is due (R445): another cause already decided on stands (R446). -/
def applyPairLeap (_p : List Byte) (s : State) : State :=
  s.modMem fun m => { m with releaseDue := match m.releaseDue with
    | some c => some c
    | none => some 1 }

/-- PAIR member state code (R415). -/
def PairState.code : PairState → Nat
  | .starting => 0
  | .holder => 1
  | .syncing => 2
  | .vigil => 3
  | .released => 4

/-- The delta's limit (R428, R449). -/
def FrameLen.budget : FrameLen → Nat
  | .us250 => 16384
  | .us125 => 8192

/-- The reply of `pair.status` (R449). -/
def State.pairStatusReply (s : State) : List Byte :=
  let m := s.mem
  let running := decide (m.partnerState = 2) && decide (m.progress < 256)
  [byte s.boot.pairSel.toNat, byte m.state.code, byte m.partnerState,
   byte (flagBit s.boot.pair.paired 0 + flagBit m.eth1 1 + flagBit m.locked 2 + flagBit m.holdiActive 3 + flagBit running 4)]
    ++ leBytes 8 s.figureFrame ++ leInt 4 m.offsetNs ++ leBytes 2 m.deltaLast ++ leBytes 2 m.deltaPeak
    ++ leBytes 2 (s.deltaBytes s.boot.mode) ++ leBytes 2 s.grp.frameLen.budget ++ leBytes 4 m.vigilFrames ++ leBytes 4 m.vigilLosses
    ++ leBytes 4 m.divergences ++ leBytes 4 m.leaps ++ leBytes 8 m.lastLeapFrame ++ [byte m.lastLeapCause, byte (min 255 m.progress)]
    ++ zeros 2 ++ leBytes 4 m.heldAgeA ++ leBytes 4 m.heldAgeB

/-- `pair.status` (R449). -/
def pairStatusDef : CmdDef := statusCmd 0x0C12 4 (fun _ p => [rsv p 0 4]) fun s _ => s.pairStatusReply

end Sys2Proof.Machine
end

