-- ==== Sys2Proof/Machine/Commands.lean ====
section
/-! DEFINITION. The table of commands, what each does at its Calends, and the configuration as it will stand (R202, R484,
R487, R589). -/

namespace Sys2Proof.Machine

/-- What an accepted command does at the Calends at which it takes effect. -/
def applyCmd (opcode : Nat) (p : List Byte) (s : State) : State :=
  match opcode with
  | 0x0122 => applyFrameResume p s
  | 0x0410 => applyPosConfig p s
  | 0x0411 => applyPosLanding p s
  | 0x0414 => applyPosLearn p s
  | 0x0415 => applyPosCorrect p s
  | 0x0416 => applyPosWipe p s
  | 0x0510 => applyProfConfig p s
  | 0x0511 => applyProfLimits p s
  | 0x0512 => applyProfZone p s
  | 0x0610 => applyService p s
  | 0x0611 => applyStopAdd p s
  | 0x0612 => applyStopRemove p s
  | 0x0620 => applyDispConfig p s
  | 0x0621 => applyDispWeights p s
  | 0x0622 => applyTerminal p s
  | 0x0624 => applyCancel p s
  | 0x0710 => applyDoorConfig p s
  | 0x0711 => applyDoorAxis p s
  | 0x0712 => applyDoorOpen p s
  | 0x0713 => applyDoorClose p s
  | 0x0714 => applyDoorStop p s
  | 0x0715 => applyDoorLearn p s
  | 0x0810 => applySafeConfig p s
  | 0x0811 => applySafeTerminal p s
  | 0x0910 => applyBankConfig p s
  | 0x0A10 => applyCanConfig p s
  | 0x0A13 => applyRecover p s
  | 0x0A14 => applyCanMap p s
  | 0x0A20 => applyClConfig p s
  | 0x0B10 => applySigLoad p s
  | 0x0B11 => applySigStart p s
  | 0x0B12 => applySigStop p s
  | 0x0B13 => applySigUnload p s
  | 0x0B14 => applySigParam p s
  | 0x0C11 => applyPairLeap p s
  | 0x0D10 => applyRingConfig p s
  | 0x0F10 => applyUl40Config p s
  | _ => s

/-- Bytes of a configuration command that name its subject, none for a command that configures nothing (R589). -/
def subjectBytes (opcode : Nat) : Option Nat :=
  match opcode with
  | 0x0410 => some 1
  | 0x0510 => some 1
  | 0x0512 => some 2
  | 0x0620 => some 0
  | 0x0621 => some 0
  | 0x0622 => some 2
  | 0x0710 => some 2
  | 0x0711 => some 3
  | 0x0810 => some 1
  | 0x0811 => some 2
  | 0x0910 => some 1
  | 0x0A10 => some 1
  | 0x0A14 => some 2
  | 0x0A20 => some 1
  | 0x0F10 => some 1
  | _ => none

/-- Opcodes of the commands that configure a car. -/
def carOpcodes : List Nat := [0x0410, 0x0510, 0x0512, 0x0710, 0x0711, 0x0810, 0x0811, 0x0F10]

/-- A record of a REAR door that a `pos.config` without REAR zone lanes leaves the car without (R216). -/
def CfgRec.rearLost (p : List Byte) (r : CfgRec) : Bool :=
  (posCfgOf p).dz[1][0] == noRef && (r.opcode == 0x0710 || r.opcode == 0x0711) && byteAt r.payload 0 == byteAt p 0 && byteAt r.payload 1 == 1

/-- A configuration command's record reaches NAND (R589); REMOVE takes the car's records away (R25). -/
def saveConfig (opcode : Nat) (p : List Byte) (rs : List CfgRec) : List CfgRec :=
  match subjectBytes opcode with
  | none => rs
  | some n =>
    let rs := if opcode = 0x0410 then rs.filter fun r => !r.rearLost p else rs
    if opcode = 0x0410 ∧ posRemoves p then rs.filter fun r => !(carOpcodes.contains r.opcode && byteAt r.payload 0 == byteAt p 0)
    else (rs.filter fun r => !(r.opcode == opcode && r.payload.take n == p.take n)) ++ [⟨opcode, p⟩]

/-- What was accepted in a frame acts at its Calends (R6, R28, R202). -/
def applyDeferred (s : State) (d : Deferred) : State :=
  match d with
  | .cmd op p =>
    let s := { s with nv := { s.nv with config := saveConfig op p s.nv.config } }
    applyCmd op p s
  | .edits es => s.commitEdits es
  | .result chan v stamp => s.setResult chan v stamp
  | .announce chan car => s.applyAnnounce chan car
  | .assign chan car => s.applyAssign chan car
  | .register chan o d fl fx => s.applyRegister chan o d fl fx
  | .call chan => s.applyCall chan
  | .send job p => applySend job p s
  | .answer op c n => if op = 0x0911 then applyBankAck c n s else applyCancelSend c n s
  | .image car reg v => applyImage car reg v s

/-- The configuration as it will stand after every command already accepted (R202, R487). -/
def future (s : State) : State := s.grp.deferred.foldl applyDeferred s

/-- The commands of R484 by OPCODE. -/
def commandTable (opcode : Nat) : Option CmdDef :=
  match opcode with
  | 0x0100 => some sysNopDef
  | 0x0101 => some sysInfoDef
  | 0x0102 => some sysJobsDef
  | 0x0120 => some frameStatusDef
  | 0x0121 => some frameConfigDef
  | 0x0122 => some frameResumeDef
  | 0x0310 => some almWriteDef
  | 0x0311 => some (almMoveDef 0x0311 true)
  | 0x0312 => some (almMoveDef 0x0312 false)
  | 0x0313 => some almCommitDef
  | 0x0314 => some almDiscardDef
  | 0x0315 => some almReadDef
  | 0x0316 => some almSaveDef
  | 0x0317 => some almStatusDef
  | 0x0410 => some posConfigDef
  | 0x0411 => some posLandingDef
  | 0x0412 => some posTableDef
  | 0x0413 => some posStatusDef
  | 0x0414 => some posLearnDef
  | 0x0415 => some posCorrectDef
  | 0x0416 => some posWipeDef
  | 0x0510 => some profConfigDef
  | 0x0511 => some profLimitsDef
  | 0x0512 => some profZoneDef
  | 0x0513 => some profStatusDef
  | 0x0610 => some carServiceDef
  | 0x0611 => some carStopAddDef
  | 0x0612 => some carStopRemoveDef
  | 0x0613 => some carStopListDef
  | 0x0620 => some dispConfigDef
  | 0x0621 => some dispWeightsDef
  | 0x0622 => some dispTerminalDef
  | 0x0623 => some dispRegisterDef
  | 0x0624 => some dispCancelDef
  | 0x0625 => some dispStatusDef
  | 0x0710 => some doorConfigDef
  | 0x0711 => some doorAxisDef
  | 0x0712 => some doorOpenDef
  | 0x0713 => some doorCloseDef
  | 0x0714 => some doorStopDef
  | 0x0715 => some doorLearnDef
  | 0x0716 => some doorStatusDef
  | 0x0810 => some safeConfigDef
  | 0x0811 => some safeTerminalDef
  | 0x0812 => some safeStatusDef
  | 0x0813 => some safeResetDef
  | 0x0814 => some safeBrakeTestDef
  | 0x0910 => some bankConfigDef
  | 0x0911 => some bankAckDef
  | 0x0912 => some bankStatusDef
  | 0x0A10 => some canConfigDef
  | 0x0A11 => some canSendDef
  | 0x0A12 => some canCancelDef
  | 0x0A13 => some canRecoverDef
  | 0x0A14 => some canMapDef
  | 0x0A15 => some canStatusDef
  | 0x0A20 => some clConfigDef
  | 0x0A21 => some clStatusDef
  | 0x0B10 => some sigLoadDef
  | 0x0B11 => some sigStartDef
  | 0x0B12 => some sigStopDef
  | 0x0B13 => some sigUnloadDef
  | 0x0B14 => some sigParamDef
  | 0x0B15 => some sigStatusDef
  | 0x0B16 => some sigSpectrumDef
  | 0x0C10 => some pairConfigDef
  | 0x0C11 => some pairLeapDef
  | 0x0C12 => some pairStatusDef
  | 0x0D10 => some ringConfigDef
  | 0x0D11 => some ringStatusDef
  | 0x0D12 => some ringReadDef
  | 0x0D13 => some netConfigDef
  | 0x0E10 => some fwStageDef
  | 0x0E11 => some fwActivateDef
  | 0x0E12 => some fwStatusDef
  | 0x0F10 => some ul40ConfigDef
  | 0x0F11 => some ul40StatusDef
  | 0x1010 => some recReadDef
  | 0x1011 => some recAnnotateDef
  | 0x1012 => some recExportDef
  | 0x1013 => some recStatusDef
  | 0x1110 => some lifeAdvanceDef
  | 0x1111 => some lifeStatusDef
  | 0x1112 => some lifeProvisionDef
  | 0x1113 => some lifeAttestDef
  | 0x1114 => some lifeCertDef
  | _ => none

/-- A mailbox command arrives and is judged, executed and answered (R487–R492). -/
def serve (d : CmdDef) (c : Cmd) (s : State) : State := judge future d.opcode (some d) c s

end Sys2Proof.Machine
end

