-- ==== Sys2Proof/Machine/Service.lean ====
section
/-! DEFINITION. The mailbox at work: slots become commands (R465, R470–R472, R475, R476), and each command of R484. -/

namespace Sys2Proof.Machine

/-- The command that an assembled chain spells (R468). -/
def cmdOf (src : Source) (b : List Byte) : Cmd :=
  { src := src, tag := fieldAt b 2 2, target := byteAt b 6, flags := byteAt b 7, seq := fieldAt b 8 4, hdrCheck := fieldAt b 12 2,
    payCheck := fieldAt b 14 2, payload := (b.drop 16).take (fieldAt b 4 2),
    cut := if 16368 < fieldAt b 4 2 then fieldAt b 4 2 - (b.length - 16) else 0 }

/-- A first slot's header passes its check (R471). -/
def headerPasses (b : List Byte) : Bool := decide (16 ≤ b.length) && crc16 (b.take 12) == fieldAt b 12 2

/-- The reply ring or session of the command that begins in a slot has a free slot; to start a command is to take its
first slot (R472; log 364). -/
def State.startRoom (s : State) (src : Source) (b : List Byte) : Bool :=
  match s.replyDest src (if headerPasses b then byteAt b 6 else 0xFF) with
  | some x => (s.replyRoom x).1
  | none => true

/-- One slot of a source reaches its assembly buffer (R470, R471): the last one of a command starts it. A LENGTH above 16,368
does not fit the buffer, so its first slot is judged alone (log 336). -/
def takeSlot (src : Source) (b : List Byte) (s : State) : State :=
  let x := s.grp.sources[src.val]
  if x.asm.isEmpty ∧ !headerPasses b then s.discardChain src (unsolicited ⟨0xFFFF, whyCheck, 0xFFFFFF⟩)
  else
    let asm := x.asm ++ b
    if 16 + fieldAt asm 4 2 ≤ asm.length ∨ 16368 < fieldAt asm 4 2 then
      let s := s.modSource src fun x => { x with asm := [] }
      judge future (fieldAt asm 0 2) (commandTable (fieldAt asm 0 2)) (cmdOf src asm) s
    else s.modSource src fun x => { x with asm := asm, asmAt := s.grp.frame }

/-- A COMMAND ring's published slots are copied, at most `n` of them (R470, R472). -/
def serveSlots : Nat → RingId → State → State
  | 0, _, s => s
  | n + 1, r, s =>
    let q := s.host.rings[r.val]
    let src := Source.ofRing r
    let b := q.slotBytes q.cons
    if q.use ≠ .command ∨ q.used = 0 then s
    else if (s.grp.sources[src.val]).asm.isEmpty ∧ !s.startRoom src b then s
    else serveSlots n r (takeSlot src b (s.freeSlot r))

/-- The module examines a ring (R465): commands of a COMMAND ring, replies and an export that wait for room. -/
def serviceRing (r : RingId) (s : State) : State :=
  if !((s.holds && s.running) || s.boot.phase == .retired) then s
  else
    let s := { s with host := { s.host with rung := s.host.rung.set r.val false } }
    let q := s.host.rings[r.val]
    match q.use with
    | .command => serveSlots q.used r s
    | .reply =>
      let x := Source.ofRing r
      State.postHeld (s.heldSlots x) x s
    | .dataOut => s.goExport
    | _ => s

/-- RING_SERVICE (R465). -/
def execRingService (ring : RingId) (s : State) : Host.Outcome State Fault Refusal := .next (s.within serviceParts (serviceRing ring s))

/-- A SLOT datagram of an open session (R475, R476): the next expected one is accepted and acknowledged, an older one
acknowledged again, a later one discarded. One that would start a command without room for its reply waits for a resend. -/
def acceptSlot (d : Datagram) (n : CarId) (s : State) : State :=
  let x := s.grp.sessions[n.val]
  let src := Source.ofSession n
  if 1024 < d.data.length then s
  else if d.index = x.rxIndex then
    if (s.grp.sources[src.val]).asm.isEmpty && !s.startRoom src d.data then s
    else
      let next := (x.rxIndex + 1) % 2 ^ 32
      let s := s.modSession n fun y => { y with rxIndex := next }
      takeSlot src d.data (s.sessionSend n 3 next [])
  else if d.index < x.rxIndex then s.sessionSend n 3 x.rxIndex []
  else s

/-- NET_SLOT (R476). -/
def execNetSlot (d : Datagram) (s : State) : Host.Outcome State Fault Refusal := .next (s.within serviceParts (withSession 2 d s (acceptSlot d)))

/-- SYS_NOP (R496). -/
def execSysNop (c : Cmd) (s : State) : Host.Outcome State Fault Refusal := .next (s.within mailParts (serve sysNopDef c s))

/-- SYS_INFO (R497). -/
def execSysInfo (c : Cmd) (s : State) : Host.Outcome State Fault Refusal := .next (s.within mailParts (serve sysInfoDef c s))

/-- SYS_JOBS (R498). -/
def execSysJobs (c : Cmd) (s : State) : Host.Outcome State Fault Refusal := .next (s.within mailParts (serve sysJobsDef c s))

/-- FRAME_STATUS (R55). -/
def execFrameStatus (c : Cmd) (s : State) : Host.Outcome State Fault Refusal := .next (s.within (.frame :: mailParts) (serve frameStatusDef c s))

/-- FRAME_CONFIG (R56). -/
def execFrameConfig (c : Cmd) (s : State) : Host.Outcome State Fault Refusal := .next (s.within (.stored :: mailParts) (serve frameConfigDef c s))

/-- FRAME_RESUME (R57). -/
def execFrameResume (c : Cmd) (s : State) : Host.Outcome State Fault Refusal := .next (s.within (.deferred :: mailParts) (serve frameResumeDef c s))

/-- ALM_WRITE (R499). -/
def execAlmWrite (c : Cmd) (s : State) : Host.Outcome State Fault Refusal := .next (s.within mailParts (serve almWriteDef c s))

/-- ALM_PROMOTE (R502). -/
def execAlmPromote (c : Cmd) (s : State) : Host.Outcome State Fault Refusal := .next (s.within mailParts (serve (almMoveDef 0x0311 true) c s))

/-- ALM_DEMOTE (R502). -/
def execAlmDemote (c : Cmd) (s : State) : Host.Outcome State Fault Refusal := .next (s.within mailParts (serve (almMoveDef 0x0312 false) c s))

/-- ALM_COMMIT (R503). -/
def execAlmCommit (c : Cmd) (s : State) : Host.Outcome State Fault Refusal := .next (s.within ([.alm, .deferred] ++ mailParts) (serve almCommitDef c s))

/-- ALM_DISCARD (R504). -/
def execAlmDiscard (c : Cmd) (s : State) : Host.Outcome State Fault Refusal := .next (s.within mailParts (serve almDiscardDef c s))

/-- ALM_READ (R505). -/
def execAlmRead (c : Cmd) (s : State) : Host.Outcome State Fault Refusal := .next (s.within mailParts (serve almReadDef c s))

/-- ALM_SAVE (R506). -/
def execAlmSave (c : Cmd) (s : State) : Host.Outcome State Fault Refusal := .next (s.within ([.jobs, .saves] ++ mailParts) (serve almSaveDef c s))

/-- ALM_STATUS (R507). -/
def execAlmStatus (c : Cmd) (s : State) : Host.Outcome State Fault Refusal := .next (s.within mailParts (serve almStatusDef c s))

/-- POS_CONFIG (R133). -/
def execPosConfig (c : Cmd) (s : State) : Host.Outcome State Fault Refusal := .next (s.within (.deferred :: mailParts) (serve posConfigDef c s))

/-- POS_LANDING (R134). -/
def execPosLanding (c : Cmd) (s : State) : Host.Outcome State Fault Refusal := .next (s.within (.deferred :: mailParts) (serve posLandingDef c s))

/-- POS_TABLE (R135). -/
def execPosTable (c : Cmd) (s : State) : Host.Outcome State Fault Refusal := .next (s.within (.free :: mailParts) (serve posTableDef c s))

/-- POS_STATUS (R136). -/
def execPosStatus (c : Cmd) (s : State) : Host.Outcome State Fault Refusal := .next (s.within mailParts (serve posStatusDef c s))

/-- POS_LEARN (R137). -/
def execPosLearn (c : Cmd) (s : State) : Host.Outcome State Fault Refusal := .next (s.within ([.deferred, .jobs] ++ mailParts) (serve posLearnDef c s))

/-- POS_CORRECT (R138). -/
def execPosCorrect (c : Cmd) (s : State) : Host.Outcome State Fault Refusal := .next (s.within (.deferred :: mailParts) (serve posCorrectDef c s))

/-- POS_WIPE (R139). -/
def execPosWipe (c : Cmd) (s : State) : Host.Outcome State Fault Refusal := .next (s.within (.deferred :: mailParts) (serve posWipeDef c s))

/-- PROF_CONFIG (R169). -/
def execProfConfig (c : Cmd) (s : State) : Host.Outcome State Fault Refusal := .next (s.within (.deferred :: mailParts) (serve profConfigDef c s))

/-- PROF_LIMITS (R170). -/
def execProfLimits (c : Cmd) (s : State) : Host.Outcome State Fault Refusal := .next (s.within (.deferred :: mailParts) (serve profLimitsDef c s))

/-- PROF_ZONE (R171). -/
def execProfZone (c : Cmd) (s : State) : Host.Outcome State Fault Refusal := .next (s.within (.deferred :: mailParts) (serve profZoneDef c s))

/-- PROF_STATUS (R172). -/
def execProfStatus (c : Cmd) (s : State) : Host.Outcome State Fault Refusal := .next (s.within mailParts (serve profStatusDef c s))

/-- CAR_SERVICE (R206). -/
def execCarService (c : Cmd) (s : State) : Host.Outcome State Fault Refusal := .next (s.within (.deferred :: mailParts) (serve carServiceDef c s))

/-- CAR_STOP_ADD (R207). -/
def execCarStopAdd (c : Cmd) (s : State) : Host.Outcome State Fault Refusal := .next (s.within ([.cars, .deferred] ++ mailParts) (serve carStopAddDef c s))

/-- CAR_STOP_REMOVE (R208). -/
def execCarStopRemove (c : Cmd) (s : State) : Host.Outcome State Fault Refusal := .next (s.within (.deferred :: mailParts) (serve carStopRemoveDef c s))

/-- CAR_STOP_LIST (R209). -/
def execCarStopList (c : Cmd) (s : State) : Host.Outcome State Fault Refusal := .next (s.within mailParts (serve carStopListDef c s))

/-- DISP_CONFIG (R210). -/
def execDispConfig (c : Cmd) (s : State) : Host.Outcome State Fault Refusal := .next (s.within (.deferred :: mailParts) (serve dispConfigDef c s))

/-- DISP_WEIGHTS (R211). -/
def execDispWeights (c : Cmd) (s : State) : Host.Outcome State Fault Refusal := .next (s.within (.deferred :: mailParts) (serve dispWeightsDef c s))

/-- DISP_TERMINAL (R212). -/
def execDispTerminal (c : Cmd) (s : State) : Host.Outcome State Fault Refusal := .next (s.within (.deferred :: mailParts) (serve dispTerminalDef c s))

/-- DISP_REGISTER (R213). -/
def execDispRegister (c : Cmd) (s : State) : Host.Outcome State Fault Refusal := .next (s.within ([.free, .disp, .deferred, .recorder] ++ mailParts) (serve dispRegisterDef c s))

/-- DISP_CANCEL (R214). -/
def execDispCancel (c : Cmd) (s : State) : Host.Outcome State Fault Refusal := .next (s.within (.deferred :: mailParts) (serve dispCancelDef c s))

/-- DISP_STATUS (R215). -/
def execDispStatus (c : Cmd) (s : State) : Host.Outcome State Fault Refusal := .next (s.within mailParts (serve dispStatusDef c s))

/-- DOOR_CONFIG (R247). -/
def execDoorConfig (c : Cmd) (s : State) : Host.Outcome State Fault Refusal := .next (s.within (.deferred :: mailParts) (serve doorConfigDef c s))

/-- DOOR_AXIS (R248). -/
def execDoorAxis (c : Cmd) (s : State) : Host.Outcome State Fault Refusal := .next (s.within (.deferred :: mailParts) (serve doorAxisDef c s))

/-- DOOR_OPEN (R249). -/
def execDoorOpen (c : Cmd) (s : State) : Host.Outcome State Fault Refusal := .next (s.within (.deferred :: mailParts) (serve doorOpenDef c s))

/-- DOOR_CLOSE (R250). -/
def execDoorClose (c : Cmd) (s : State) : Host.Outcome State Fault Refusal := .next (s.within (.deferred :: mailParts) (serve doorCloseDef c s))

/-- DOOR_STOP (R251). -/
def execDoorStop (c : Cmd) (s : State) : Host.Outcome State Fault Refusal := .next (s.within (.deferred :: mailParts) (serve doorStopDef c s))

/-- DOOR_LEARN (R252). -/
def execDoorLearn (c : Cmd) (s : State) : Host.Outcome State Fault Refusal := .next (s.within (.deferred :: mailParts) (serve doorLearnDef c s))

/-- DOOR_STATUS (R253). -/
def execDoorStatus (c : Cmd) (s : State) : Host.Outcome State Fault Refusal := .next (s.within mailParts (serve doorStatusDef c s))

/-- SAFE_CONFIG (R292). -/
def execSafeConfig (c : Cmd) (s : State) : Host.Outcome State Fault Refusal := .next (s.within (.deferred :: mailParts) (serve safeConfigDef c s))

/-- SAFE_TERMINAL (R293). -/
def execSafeTerminal (c : Cmd) (s : State) : Host.Outcome State Fault Refusal := .next (s.within (.deferred :: mailParts) (serve safeTerminalDef c s))

/-- SAFE_STATUS (R296). -/
def execSafeStatus (c : Cmd) (s : State) : Host.Outcome State Fault Refusal := .next (s.within mailParts (serve safeStatusDef c s))

/-- SAFE_RESET (R294). -/
def execSafeReset (c : Cmd) (s : State) : Host.Outcome State Fault Refusal := .next (s.within (.cars :: mailParts) (serve safeResetDef c s))

/-- SAFE_BRAKE_TEST (R295). -/
def execSafeBrakeTest (c : Cmd) (s : State) : Host.Outcome State Fault Refusal := .next (s.within ([.cars, .jobs] ++ mailParts) (serve safeBrakeTestDef c s))

/-- BANK_CONFIG (R325). -/
def execBankConfig (c : Cmd) (s : State) : Host.Outcome State Fault Refusal := .next (s.within (.deferred :: mailParts) (serve bankConfigDef c s))

/-- BANK_ACK (R326). -/
def execBankAck (c : Cmd) (s : State) : Host.Outcome State Fault Refusal := .next (s.within (.deferred :: mailParts) (serve bankAckDef c s))

/-- BANK_STATUS (R327). -/
def execBankStatus (c : Cmd) (s : State) : Host.Outcome State Fault Refusal := .next (s.within mailParts (serve bankStatusDef c s))

/-- CAN_CONFIG (R366). -/
def execCanConfig (c : Cmd) (s : State) : Host.Outcome State Fault Refusal := .next (s.within (.deferred :: mailParts) (serve canConfigDef c s))

/-- CAN_SEND (R367). -/
def execCanSend (c : Cmd) (s : State) : Host.Outcome State Fault Refusal := .next (s.within ([.deferred, .jobs] ++ mailParts) (serve canSendDef c s))

/-- CAN_CANCEL (R368). -/
def execCanCancel (c : Cmd) (s : State) : Host.Outcome State Fault Refusal := .next (s.within (.deferred :: mailParts) (serve canCancelDef c s))

/-- CAN_RECOVER (R369). -/
def execCanRecover (c : Cmd) (s : State) : Host.Outcome State Fault Refusal := .next (s.within (.deferred :: mailParts) (serve canRecoverDef c s))

/-- CAN_MAP (R370). -/
def execCanMap (c : Cmd) (s : State) : Host.Outcome State Fault Refusal := .next (s.within (.deferred :: mailParts) (serve canMapDef c s))

/-- CAN_STATUS (R371). -/
def execCanStatus (c : Cmd) (s : State) : Host.Outcome State Fault Refusal := .next (s.within mailParts (serve canStatusDef c s))

/-- CL_CONFIG (R372). -/
def execClConfig (c : Cmd) (s : State) : Host.Outcome State Fault Refusal := .next (s.within (.deferred :: mailParts) (serve clConfigDef c s))

/-- CL_STATUS (R373). -/
def execClStatus (c : Cmd) (s : State) : Host.Outcome State Fault Refusal := .next (s.within mailParts (serve clStatusDef c s))

/-- SIG_LOAD (R409). -/
def execSigLoad (c : Cmd) (s : State) : Host.Outcome State Fault Refusal := .next (s.within ([.deferred, .kernels] ++ mailParts) (serve sigLoadDef c s))

/-- SIG_START (R410). -/
def execSigStart (c : Cmd) (s : State) : Host.Outcome State Fault Refusal := .next (s.within (.deferred :: mailParts) (serve sigStartDef c s))

/-- SIG_STOP (R410). -/
def execSigStop (c : Cmd) (s : State) : Host.Outcome State Fault Refusal := .next (s.within (.deferred :: mailParts) (serve sigStopDef c s))

/-- SIG_UNLOAD (R410). -/
def execSigUnload (c : Cmd) (s : State) : Host.Outcome State Fault Refusal := .next (s.within (.deferred :: mailParts) (serve sigUnloadDef c s))

/-- SIG_PARAM (R411). -/
def execSigParam (c : Cmd) (s : State) : Host.Outcome State Fault Refusal := .next (s.within (.deferred :: mailParts) (serve sigParamDef c s))

/-- SIG_STATUS (R412). -/
def execSigStatus (c : Cmd) (s : State) : Host.Outcome State Fault Refusal := .next (s.within mailParts (serve sigStatusDef c s))

/-- SIG_SPECTRUM (R413). -/
def execSigSpectrum (c : Cmd) (s : State) : Host.Outcome State Fault Refusal := .next (s.within mailParts (serve sigSpectrumDef c s))

/-- PAIR_CONFIG (R447). -/
def execPairConfig (c : Cmd) (s : State) : Host.Outcome State Fault Refusal := .next (s.within (.stored :: mailParts) (serve pairConfigDef c s))

/-- PAIR_LEAP (R448). -/
def execPairLeap (c : Cmd) (s : State) : Host.Outcome State Fault Refusal := .next (s.within ([.deferred, .jobs] ++ mailParts) (serve pairLeapDef c s))

/-- PAIR_STATUS (R449). -/
def execPairStatus (c : Cmd) (s : State) : Host.Outcome State Fault Refusal := .next (s.within mailParts (serve pairStatusDef c s))

/-- RING_CONFIG (R479). -/
def execRingConfig (c : Cmd) (s : State) : Host.Outcome State Fault Refusal := .next (s.within (.deferred :: mailParts) (serve ringConfigDef c s))

/-- RING_STATUS (R480). -/
def execRingStatus (c : Cmd) (s : State) : Host.Outcome State Fault Refusal := .next (s.within mailParts (serve ringStatusDef c s))

/-- RING_READ (R481). -/
def execRingRead (c : Cmd) (s : State) : Host.Outcome State Fault Refusal := .next (s.within mailParts (serve ringReadDef c s))

/-- NET_CONFIG (R482). -/
def execNetConfig (c : Cmd) (s : State) : Host.Outcome State Fault Refusal := .next (s.within (.stored :: mailParts) (serve netConfigDef c s))

/-- FW_STAGE (R508). -/
def execFwStage (c : Cmd) (s : State) : Host.Outcome State Fault Refusal := .next (s.within ([.jobs, .staging, .firmware] ++ mailParts) (serve fwStageDef c s))

/-- FW_ACTIVATE (R509). -/
def execFwActivate (c : Cmd) (s : State) : Host.Outcome State Fault Refusal := .next (s.within ([.free, .firmware] ++ mailParts) (serve fwActivateDef c s))

/-- FW_STATUS (R510). -/
def execFwStatus (c : Cmd) (s : State) : Host.Outcome State Fault Refusal := .next (s.within (.free :: mailParts) (serve fwStatusDef c s))

/-- UL40_CONFIG (R530). -/
def execUl40Config (c : Cmd) (s : State) : Host.Outcome State Fault Refusal := .next (s.within (.deferred :: mailParts) (serve ul40ConfigDef c s))

/-- UL40_STATUS (R531). -/
def execUl40Status (c : Cmd) (s : State) : Host.Outcome State Fault Refusal := .next (s.within mailParts (serve ul40StatusDef c s))

/-- REC_READ (R545). -/
def execRecRead (c : Cmd) (s : State) : Host.Outcome State Fault Refusal := .next (s.within mailParts (serve recReadDef c s))

/-- REC_ANNOTATE (R546). -/
def execRecAnnotate (c : Cmd) (s : State) : Host.Outcome State Fault Refusal := .next (s.within (.recorder :: mailParts) (serve recAnnotateDef c s))

/-- REC_EXPORT (R547). -/
def execRecExport (c : Cmd) (s : State) : Host.Outcome State Fault Refusal := .next (s.within ([.free, .jobs] ++ mailParts) (serve recExportDef c s))

/-- REC_STATUS (R548). -/
def execRecStatus (c : Cmd) (s : State) : Host.Outcome State Fault Refusal := .next (s.within mailParts (serve recStatusDef c s))

/-- LIFE_ADVANCE (R575). -/
def execLifeAdvance (c : Cmd) (s : State) : Host.Outcome State Fault Refusal := .next (s.within ([.free, .counts, .life] ++ mailParts) (serve lifeAdvanceDef c s))

/-- LIFE_STATUS (R576). -/
def execLifeStatus (c : Cmd) (s : State) : Host.Outcome State Fault Refusal := .next (s.within mailParts (serve lifeStatusDef c s))

/-- LIFE_PROVISION (R577). -/
def execLifeProvision (c : Cmd) (s : State) : Host.Outcome State Fault Refusal := .next (s.within (.life :: mailParts) (serve lifeProvisionDef c s))

/-- LIFE_ATTEST (R578). -/
def execLifeAttest (c : Cmd) (s : State) : Host.Outcome State Fault Refusal := .next (s.within ([.free, .leaf] ++ mailParts) (serve lifeAttestDef c s))

/-- LIFE_CERT (R579). -/
def execLifeCert (c : Cmd) (s : State) : Host.Outcome State Fault Refusal := .next (s.within (.free :: mailParts) (serve lifeCertDef c s))

end Sys2Proof.Machine
end

