-- ==== Sys2Proof/Machine/Calends.lean ====
section
/-! DEFINITION. The frame (02): the end of one frame, the latch and the commit that join it to the next, and the phases of
the next: Gather, SG, Sequence, Kernels and Plan. A pair's members share these parts (12). -/

namespace Sys2Proof.Machine

/-- Do something for every car slot. -/
def eachCar (f : State → CarId → State) (s : State) : State := (List.finRange 8).foldl f s

/-- Do something for every bank or bus. -/
def eachPort (f : State → Fin 16 → State) (s : State) : State := (List.finRange 16).foldl f s

/-- Do something for every engine. -/
def eachEngine (f : State → EngId → State) (s : State) : State := (List.finRange 4).foldl f s

/-- The events of a frame that are due at its end and that no row has brought come now (log 2). -/
def State.settleFrame (s : State) : State :=
  let s := eachCar State.settleMotion s
  let s := eachCar State.settlePosition s
  let s := eachCar State.settleSafe s
  let s := eachCar (fun s c => (List.finRange 2).foldl (State.settleDoor c) s) s
  let s := s.settleDispatcher
  let s := eachPort State.settleBus s
  let s := s.settleMap
  let s := eachEngine State.settleFrameLevel s
  if octaveStart (s.grp.frame + 1) then eachEngine State.settleBackground s else s

/-- What a member does at its own frame's end, holder or not: the safe-state timers of its banks, its seconds, what its NAND
keeps (R533, R539; log 2). -/
def State.settleOwn (s : State) : State :=
  let s := eachPort (fun s b => if s.timerMust b && !s.io.banks[b.val].timerExpired then s.timerExpires b else s) s
  let s := eachPort State.settleHoldoff s
  let s := s.tickSecond
  let s : State := { s with nv := { s.nv with recorder := s.nv.recorder.age (s.msFrames 1000) } }
  if s.nv.secondsSaved + 60 ≤ s.time.1 then s.saveSeconds else s

/-- The next frame begins (R33): its number, its place in the second (R534), and the events dropped in the frame before
(R540). -/
def State.nextFrame (s : State) : State :=
  let d := s.nv.recorder.dropped
  let s : State := { s with grp := { s.grp with frame := s.grp.frame + 1, fis := s.grp.fis + 1 },
                            nv := { s.nv with recorder := { s.nv.recorder with fresh := 0, dropped := 0 } },
                            host := { s.host with ethOut := [] } }
  if d = 0 then s else s.record 0x1002 0xFF (leBytes 4 d)

/-- The motion at an encoder input since the latch before, as its receiver decodes it (R615): the count change under DECODE
and INVERT_DIR, and the line state. -/
def State.encoderRuns (x : FrameIn) (s : State) (n : CarId) : Int × Fin 4 :=
  let p := match s.encChan n with
    | some c => (s.entry c).params
    | none => 0
  let q := runsCount (bits p 2 1) s.io.encPhase[n.val] ((x.enc.filter fun q => q.1 == n).map fun q => q.2)
  (if bit p 0 then -q.1 else q.1, q.2)

/-- The count change and the faults of every encoder input in the image (R64, R104, R615): no count without an Encoder
entry. -/
def State.latchEncoders (x : FrameIn) (s : State) : State :=
  let runs := Vector.ofFn (s.encoderRuns x)
  { s with io := { s.io with
      encPhase := runs.map fun q => q.2,
      image := { s.io.image with
        enc := Vector.ofFn fun (n : CarId) => if (s.encChan n).isSome then runs[n.val].1 else 0,
        encFault := s.io.encFault, encBlock := Vector.ofFn fun n => x.receiverFault.contains n } } }

/-- The latch of the car links and of their PHYs' faults (R19, R64). -/
def State.latchLinks (x : FrameIn) (s : State) : State :=
  eachCar (fun s c => (s.latchLink c).modLink c fun y => { y with phyFault := x.phyFault.contains c }) s

/-- The latch of a holder (R19). -/
def State.latch (x : FrameIn) (s : State) : State :=
  let s := eachCar State.markPulses s
  let s := { s with io := { s.io with image := { s.io.image with frame := s.grp.frame } },
                    boot := { s.boot with cacheCorrected := satAdd 32 s.boot.cacheCorrected (countReads .corrected x.cacheWords) } }
  let s := eachPort (State.gatherBank x) s
  let s := s.latchEncoders x
  (eachPort State.latchBus s).latchLinks x

/-- SG's command for a safety lane as the Calends commits it, none when no car has the channel as an output (R18). -/
def State.sgCommitted (s : State) (chan : Nat) : Option Bool :=
  (List.finRange 8).findSome? fun c =>
    let x := s.grp.cars[c.val].safe
    if x.configured then (x.cfg.outOf chan).map fun o => x.outs[o.val].cmd else none

/-- The command that a Calends commits to an output lane (R20, R48, R76): SG's in a safety set, else what the entry last
evaluated to, else in the group safe state the lane's programmed safe state. -/
def State.laneCommit (s : State) (b : BankId) (l : LaneId) : Bool :=
  match laneChan s.grp.alm b l with
  | none => false
  | some ch =>
    match s.sgCommitted ch with
    | some v => v
    | none =>
      if s.grp.safeState then
        match bits (s.entry ch).params 21 20 with
        | 1 => true
        | 2 => s.io.banks[b.val].lanes[l.val].committed
        | _ => false
      else bit (s.entry ((leadChan s.grp.alm (s.entry ch)).getD ch)).value 0

/-- A safety lane that the ending frame commanded on as CC0's own, and that SG commands off in the same refresh (R18): the
conflict is recorded against the car that owns the lane. `old` is the state before the Calends' changes. -/
def State.laneConflict (old s : State) (c : CarId) : State :=
  let x := (s.car c).safe
  if !x.configured || s.grp.safeState then s
  else (List.finRange 6).foldl (fun s o =>
    let ch := x.cfg.outChan o
    if ch != noRef && !x.outs[o.val].cmd && (old.entry ch).isOutput && (old.sgCommitted ch).isNone && bit (old.entry ch).value 0 then
      s.record 0x0103 c.val (leBytes 3 ch)
    else s) s

/-- The field-lane commands of a Calends (R20). -/
def State.commitLanes (s : State) : State :=
  { s with io := { s.io with banks := Vector.ofFn fun b => (s.io.banks[b.val]).commit fun l => s.laneCommit b l } }

/-- A car-link stream's instance that waits for its exchange is discarded like a queued one (R48). -/
def State.dropUserArea (s : State) (link : CarId) : State :=
  match (s.io.links[link.val]).userArea, s.linkStream link with
  | some _, some c => (s.modLink link fun x => { x with userArea := none }).countDiscard c
  | _, _ => s.modLink link fun x => { x with userArea := none }

/-- The group safe state begins at the ending Calends (R48): trips end, doors freeze, no stream instance starts any more. -/
def State.enterSafe (s : State) : State :=
  if s.grp.overrun.isSome && !s.grp.safeState then
    let s := ({ s with grp := { s.grp with safeState := true, streams := [] } } : State).irqEvent 2
    let s := eachCar (fun s c => s.modCar c fun x =>
      let x := if x.motion.phase = .idle then x else x.endTrip
      { x with motion := { x.motion with refDone := true, waitPermit := true }, doors := x.doors.map Door.freeze }) s
    let s := eachCar State.dropUserArea s
    eachPort (fun s b => s.dropTx b fun t => match t.kind with
      | .stream _ => true
      | _ => false) s
  else s

/-- A `frame.resume` accepted in the frame that ends lets its Calends commit outputs again (R50). -/
def State.resumeDue (s : State) : Bool :=
  s.grp.deferred.any fun d => match d with
    | .cmd op _ => op == 0x0122
    | _ => false

/-- The encoder track is anchored where the brake channels are commanded set (R115); a SET of the trip's own end has anchored it
in its frame (`State.setBrakes`). -/
def Car.anchorTrack (x : Car) (k : Nat) : Car :=
  if x.safe.brakesUp && !(x.safe.commit k).brakesUp && x.motion.phase != .stopping then
    { x with pos := { x.pos with trackQ := x.pos.posQ, anchored := true } }
  else x

/-- A car's outputs are committed (R20): safety outputs, and at an exchange the door records (R217). -/
def State.commitCar (s : State) (c : CarId) : State :=
  let k := s.grp.frame
  s.modCar c fun x =>
    let x := x.anchorTrack k
    { x with safe := x.safe.commit k,
             doors := if exchangeAt s.grp.frameLen k && !s.grp.safeState then x.doors.map (Door.commit k) else x.doors }

/-- What has been served, the doors that open for it, what has left service, and what a learning trip has found, at a Calends
(R122, R180, R190, R200): a boarding precedes the break of its car (R203). -/
def State.applyCar (s : State) (c : CarId) : State :=
  (((s.openServed c).applyServed c).leaveService c).modPos c Pos.takeLearnt

/-- A commit of the dispatcher. Those of a frame come after what was accepted in it (R203): a cancellation, a break of the car
or a served call of the same frame stands, and the commit is void. -/
def Deferred.late (d : Deferred) : Bool :=
  match d with
  | .announce _ _ => true
  | .assign _ _ => true
  | _ => false

/-- The part of a Calends that acts on the group's state (R6, R20, R27, R28): what the ending frame computed is
committed, then what was accepted in it takes effect. -/
def State.groupCommit (s : State) : State :=
  let s := eachPort State.expireBus s.enterSafe
  let s := if s.resumeDue then applyFrameResume [] s else s
  let s := eachCar State.commitCar s
  let s := s.swapImages
  let s := eachCar (fun s c => s.modCar c fun x => { x with asks := x.asks.filter fun a => !(a.image && a.result.isSome) }) s
  let s := { s with grp := { s.grp with shownCars := s.grp.cars, shownDispatch := s.grp.disp.cfg.cars,
                                        sg := { s.grp.sg with shownEcc := s.grp.sg.eccCorrected, shownPasses := s.grp.sg.selfTestPasses } } }
  let s := eachCar State.endReset s
  let s := eachCar State.applyCar s
  let ds := lastLimits s.grp.deferred
  let s := (ds.filter fun d => !d.late).foldl applyDeferred { s with grp := { s.grp with deferred := [] } }
  let s := eachCar State.applyCar s
  let s := (ds.filter Deferred.late).foldl applyDeferred s
  let s := eachCar State.syncIdle { s with io := { s.io with banks := bindBanks s.grp.alm s.io.banks } }
  let s := eachCar State.applyCar s
  let s := if exchangeAt s.grp.frameLen s.grp.frame && !s.grp.safeState then
      eachCar (fun s c => s.modCar c fun x => { x with doors := x.doors.map (Door.sendClear s.grp.frame) }) s else s
  let s := eachCar (fun s c => s.modCar c fun x => { x with forced := false, stoppedAt := none, broke := false }) s
  let s := s.answerTerminals
  { s with grp := { s.grp with shown := s.grp.alm } }

/-- A stream's payload with the answer words that lie in it (R194, R196). -/
def State.answered (s : State) (chan : Nat) (p : List Byte) : List Byte :=
  s.grp.disp.terminals.foldl (fun p q =>
    if q.2.enabled && q.2.stream == chan then p.take q.2.offset ++ leBytes 4 q.2.word ++ p.drop (q.2.offset + 4) else p) p

/-- An instance assembled in the ending frame goes to its bus, or into its link's user area (R74, R354). -/
def State.sendStream (s : State) (q : Nat × List Byte) : State :=
  let e := s.entry q.1
  let p := s.answered q.1 q.2
  if e.type ≠ 11 then s
  else if bit e.binding 30 then s.modLink (Fin.ofNat 8 (bits e.params 2 0)) fun x => { x with userArea := some p }
  else s.queueStream q.1 p

/-- What a holder's Calends puts on CAN and the car links (R48, R163, R336, R350). -/
def State.commitPorts (s : State) : State :=
  let k := s.grp.frame
  let s := if s.grp.safeState then s else eachCar State.queueReference (s.grp.streams.foldl State.sendStream s)
  let s := { s with grp := { s.grp with streams := [] } }
  let s := eachPort (fun s b => (s.startMode b).modBus b fun x => x.admitWaiting k) s
  eachCar State.commitDownlink s

/-- Asks whose test is made are answered (R207, R521): PAST_EVE is a status of its own, and sets STOP_REFUSED of the car's
image, whoever asked (R519). -/
def State.answerAsks (s : State) (car : CarId) : State :=
  let s := s.answerImage car
  let refused := (s.car car).asks.any fun a => a.result.map Prod.fst == some 2
  let s := if refused then s.modUl car fun u => { u with raised := u.raised ||| 2#5 } else s
  let done := (s.car car).asks.filter fun a => !a.image && a.result.isSome
  let s := s.modCar car fun x => { x with asks := x.asks.filter fun a => a.image || a.result.isNone }
  done.foldl (fun s a => match a.result with
    | some (d, dir) => s.replyLate 0x0611 a.cmd a.serial (if d = 2 then stPastEve else stOk) [byte d, byte dir, 0, 0]
    | none => s) s

/-- What NAND keeps of a car's learned data (R590). -/
def Car.learnedData (c : Car) : Learned :=
  { table := c.pos.table, scale := c.pos.scale, ever := c.pos.everLearned,
    axes := c.doors.map fun d => d.axes.map fun x => { samples := x.samples, friction := x.friction, learned := x.learned } }

/-- The vendor kernels of a configured car in a frame (R41, R111, R403). -/
def State.vendorCar (s : State) (car : CarId) : State :=
  if !(s.car car).configured then s
  else
    let k := s.grp.frame
    let s := s.fuseCar car
    let s := if latchAt s.grp.frameLen k then
        s.modRide car fun r => r.take (s.io.image.uplink[car.val].map fun u => u.bytes)
      else s
    if octaveStart k then s.ridePass car else s

/-- The Kernels and Plan phases (R38): profiles, doors, terminals, stream assembly, CiA 417 outputs. -/
def State.planFrame (s : State) : State :=
  let s := eachCar State.vendorCar s
  let s := eachEngine State.startFrameLevel s
  let s := eachCar (fun s c => (List.finRange 2).foldl (State.planDoor c) ((s.planCar c).planTest c)) s
  s.planTerminals.planStreams.planMap

/-- What of the Kernels and Plan phases goes on in the group safe state (R48): no engine runs a frame level, no stream is
assembled, and the CANopen system share sends its output entries. -/
def State.safePlan (s : State) : State :=
  let s := eachEngine State.startFrameLevel s
  let s := if octaveStart s.grp.frame then eachCar (fun s c => s.modRide c Ride.publish) s else s
  s.calmPoints.planMap

/-- A frame's phases after the latch (R38, R48): in the group safe state Gather, Sequence, SG and the system share. -/
def State.runFrame (x : FrameIn) (s : State) : State :=
  let s := eachCar State.gatherDrive s
  let s := s.sgFrame x
  let s := s.sequence
  let s := s.feedKernels
  let s := if s.grp.safeState then s.safePlan else s.planFrame
  let s := eachCar (fun s c => (s.modCar c Car.settleAsks).answerAsks c) s
  { s with nv := { s.nv with learned := s.grp.cars.map Car.learnedData } }

end Sys2Proof.Machine
end

