-- ==== Sys2Proof/Machine/Pair.lean ====
section
/-! DEFINITION. The redundant pair at work (12): the Calends of a holder and of a member that follows, the parts of the
delta, VIGIL and its loss, and the leap. -/

namespace Sys2Proof.Machine

/-- A pair member that follows the holder (R415). -/
def State.follows (s : State) : Bool :=
  s.running && s.boot.pair.paired && (s.mem.state == .syncing || s.mem.state == .vigil)

/-- A standby's own results (R431): they reach neither its recorder, nor its host port, nor its transmissions, the downlinks
among them. -/
def State.shadow (f : State → State) (s : State) : State :=
  let t := f s
  let buses := Vector.ofFn fun (b : Fin 16) =>
    { t.io.buses[b.val] with queue := s.io.buses[b.val].queue, waiting := s.io.buses[b.val].waiting }
  let links := Vector.ofFn fun (c : Fin 8) =>
    let x := s.io.links[c.val]
    { t.io.links[c.val] with downlink := x.downlink, header := x.header, starts := x.starts }
  { s with free := t.free, grp := t.grp, io := { t.io with buses := buses, links := links }, nv := { t.nv with recorder := s.nv.recorder } }

/-- A member in VIGIL loses it (R433): it enters SYNCING with one event. In SYNCING its run of complete frames ends. -/
def State.loseVigil (part reason : Nat) (s : State) : State :=
  if s.mem.state = .vigil then
    (s.record 0x0105 0xFF [byte part, byte reason]).modMem fun m =>
      { m with state := .syncing, vigilReady := false, completeRun := 0, resynced := false, progress := 0,
               vigilLosses := satInc 32 m.vigilLosses }
  else s.modMem fun m => { m with completeRun := 0 }

/-- The frame's Calends, as far as a standby computes it for itself (R431). -/
def State.followCommit (s : State) : State :=
  if s.mem.committed then s
  else (s.shadow fun s => s.groupCommit.commitPorts).modMem fun m => { m with committed := true }

/-- The frame's phases on the standby's own image (R364, R431): its receive rings are written like the holder's. -/
def State.followRun (s : State) : State :=
  let s := s.followCommit
  if s.mem.ran then s
  else
    let s := eachPort State.ringFrames s
    let s := s.shadow fun s => (eachPort State.gatherMaster s).runFrame {}
    s.modMem fun m => { m with ran := true }

/-- A member enters VIGIL when every condition of R433 and R434 holds; a former holder after a drill, at a Calends alone. -/
def State.tryVigil (atCalends : Bool) (s : State) : State :=
  let m := s.mem
  let whole := if m.afterDrill then atCalends && decide (1 ≤ m.completeRun) else m.resynced && decide (64 ≤ m.completeRun)
  if m.state == .syncing && m.locked && whole && m.configMatch && !m.selConflict then
    s.modMem fun m => { m with state := .vigil, afterDrill := false, resynced := true, progress := 256 }
  else s

/-- A frame has arrived complete (R434). -/
def State.completeFrame (s : State) : State :=
  (s.modMem fun m => { m with completeRun := m.completeRun + 1 }).tryVigil false

/-- The copy of a member in SYNCING goes on (R434): how far it has come is a free value that does not fall (log 3). -/
def State.copyOn (s : State) : State :=
  if s.mem.state = .syncing ∧ s.mem.resynced = false ∧ s.mem.afterDrill = false then
    let q := s.drawNat
    q.2.modMem fun m => { m with progress := max m.progress (q.1 % 256) }
  else s

/-- The field-lane commands of the DECISION part, committed behind closed gates (R431). -/
def State.commitDecision (d : DecisionPart) (s : State) : State :=
  { s with io := { s.io with banks := Vector.ofFn fun b => (s.io.banks[b.val]).commit fun l => d.lanes[b.val].getLsbD l.val } }

/-- An echo enters a bus's queue (R435, R436): TRAILER is the committing Calends. -/
def State.echoReference (s : State) (q : CarId × List Byte) : State :=
  let m := (s.car q.1).motion
  if m.present && m.cfg.refDup then
    let data := q.2 ++ leBytes 2 (s.grp.frame % 65536) ++ [0, 0]
    let f : CanFrame := { id := s.dupId m.cfg.refId, fd := true, brs := m.cfg.brs, data := data }
    s.modBus (Fin.ofNat 16 (2 * q.1.val)) fun x =>
      { x with queue := x.queue ++ [{ kind := .reference q.1, frame := f, queuedAt := s.grp.frame, maxAge := 1 }] }
  else s

/-- A downlink of the DECISION part with this member's own SOURCE and SAMPLE_AT (R352, R353, R435). -/
def State.echoDownlink (s : State) (q : CarId × List Byte) : State :=
  let x := s.io.links[q.1.val]
  if !x.active then s
  else
    let d := s.drawNat
    let s := d.2
    let start := 2000 + d.1 % 3001
    let b := padTo 120 q.2
    let own := byteAt b 4 / 2 * 2 + s.boot.pairSel.toNat
    let h := leBytes 4 (s.grp.frame % 2 ^ 32) ++ [byte own, byte (byteAt b 5)]
      ++ leBytes 2 (sampleAt s.grp.frameLen x start) ++ (b.drop 8).take 110
    s.modLink q.1 (CarLink.sendDown s.grp.frame (h ++ leBytes 2 (crc16 h)) start)

/-- What a member in VIGIL sends at its Calends (R435): PAIR_DUP frames, downlinks, and the ETH0 frames of the STATE part
under its own address. -/
def State.echo (d : DecisionPart) (s : State) : State :=
  let s := d.refs.foldl State.echoReference s
  let s := d.streams.foldl (fun s q => if (s.entry q.1).pairDup then s.queueStream q.1 (q.2 ++ [0, 0]) else s) s
  let s := d.downlinks.foldl State.echoDownlink s
  s.mem.ethDue.foldl (fun s f => s.ethSend (f.take 6 ++ padTo 6 Config.macAddress ++ f.drop 12)) s

/-- Frames of the standby's own queue at their age limit go, counted like the holder's (R339, R364, R436). -/
def Bus.expire (k : Nat) (b : Bus) : Bus :=
  let gone := b.queue.filter fun t => t.due k && !t.started && (match t.kind with
    | .stream _ => false
    | _ => true)
  { b with txDiscarded := gone.foldl (fun n _ => satInc 32 n) b.txDiscarded, queue := (b.queue.filter fun t => !(t.due k && !t.started)).map fun t => if t.due k then { t with last := true } else t }

/-- A Calends passes in a member that neither holds nor follows. -/
def State.idleCalends (s : State) : State :=
  let s := s.settleOwn.nextFrame
  eachPort (fun s b => s.modBank b Bank.tick) s

/-- SG findings of a frame in a member that does not hold (R256, R426). -/
def State.selfFindings (x : FrameIn) (s : State) : State :=
  let s := if x.selfTestBad then s.causeRelease 17 else s
  if x.sgMemoryBad then s.causeRelease 20 else s

/-- The Calends of a member that follows (R420, R431, R433, R435). -/
def State.followCalends (x : FrameIn) (s : State) : State :=
  let m := s.mem
  let s := if !m.gotImage then s.loseVigil 0 0 else if !m.gotDecision then s.loseVigil 1 0 else if m.stateDue then s.loseVigil 2 0 else s
  let s := if m.gotState then s else s.followRun.shadow State.settleFrame
  let s := x.attempts.foldl State.markAttempt s
  let whole := m.gotImage && m.gotDecision
  let d := m.decision.getD {}
  let s := if m.gotDecision then s.commitDecision d else s
  let s := s.idleCalends
  let s := eachPort (fun s b => s.modBus b fun y => y.expire s.grp.frame) s
  let s := (eachPort State.latchBus s).latchLinks x
  let s := s.modMem fun m => { m with
    prior := whole, stateDue := !m.gotState, gotImage := false, gotDecision := false, gotState := false, committed := false, ran := false,
    diverged := false, divergedPrior := m.diverged, divergedOctave := m.divergedOctave && !octaveStart s.grp.frame, received := none, decision := none,
    queued := none }
  let s := if m.gotState then (if whole then s.followCommit.completeFrame else s.followCommit) else s
  let s := s.copyOn.tryVigil true
  let s := s.modMem fun m => { m with vigilReady := m.state == .vigil }
  let s := if s.mem.state = .vigil then s.echo d else s
  (s.modMem fun m => { m with ethDue := [] }).selfFindings x

/-- The CAN stream instances that wait when a member gives up HOLD and that its partner does not duplicate (R31, rung 5): each
misses its frame for the leap, which keeps rung 2. -/
def State.streamBreaks (s : State) : State :=
  eachPort (fun s b => s.io.buses[b.val].queue.foldl (fun s t => match t.kind with
    | .stream c => if (s.entry c).pairDup then s else s.ladderBreak 2 5 (b.val / 2) c
    | _ => s) s) s

/-- The CAN stream instances of the old holder's last Calends that the image of a silent leap does not show (R31, rung 5): the
new holder knows them by their PERIOD and their identifier alone (DESIGN CHOICE, log 346). -/
def State.lostStreams (s : State) : State :=
  let due (e : Entry) : Bool := e.type == 11 && !bit e.binding 30 && !e.pairDup && e.period != 0 && decide (2 ≤ s.grp.frame)
    && (s.grp.frame - 2) % e.period == 0
  (s.grp.alm.filter fun q => due q.2).foldl (fun s q =>
    let b : BusId := Fin.ofNat 16 (bits q.2.params 3 0)
    if s.io.image.can[b.val].any fun f => f.id == bits q.2.binding 28 0 && f.ide == bit q.2.binding 29 then s
    else s.ladderBreak 2 5 (b.val / 2) q.1) s

/-- Release (R423, R424): HOLDO stops, the gates close and every transmission with them; the release record carries the
cause and the latched per-car causes. -/
def State.release (cause : Nat) (s : State) : State :=
  let causes := s.grp.cars.map fun c => c.safe.causes
  let s := s.record 0x0104 0xFF ([byte cause] ++ leBytes 8 s.grp.frame)
  let s := (s.setGates false).streamBreaks
  let s := eachPort (fun s b => s.modBus b fun y => { y with queue := [], waiting := [] }) s
  let back := cause == 1 || (cause == 2 && s.boot.pairSel)
  s.modMem fun m =>
    { m with state := if back then .syncing else .released, vigilReady := false, afterDrill := cause == 1, resynced := cause == 1,
             progress := if cause = 1 then 256 else 0, completeRun := 0, queued := some { cause := cause, causes := causes },
             received := none, sinceLeap := none, releaseDue := none, contention := false, leaps := satInc 32 m.leaps,
             lastLeapFrame := s.grp.frame, lastLeapCause := cause, vigilFrames := 0, committed := true, ran := true,
             gotImage := false, gotDecision := false, gotState := false, stateDue := false, decision := none, ethDue := [] }

/-- The gratuitous ARP of a new holder (R443; RFC 5227's announcement form). -/
def State.gratuitousArp (s : State) : List Byte :=
  let mac := padTo 6 Config.macAddress
  List.replicate 6 0xFF ++ mac ++ [0x08, 0x06, 0, 1, 0x08, 0, 6, 4, 0, 1] ++ mac ++ s.boot.net.ip ++ zeros 6 ++ s.boot.net.ip

/-- A new holder's first commit (R424, R443, R458): LEAP, the gratuitous ARP, a SILENT leap's event, and the catch-up pass. -/
def State.firstCommit (s : State) : State :=
  let s := s.irqEvent 4
  let s := if s.boot.net.enabled then s.ethSend s.gratuitousArp else s
  let s := if s.mem.received.isSome then s else (s.record 0x0104 0xFF ([34] ++ leBytes 8 s.mem.lastLeapFrame)).lostStreams
  eachEngine (fun s e => if s.hostsCar e then s.modEngine e fun g => { g with catchUp := true } else s) s

/-- The first-frame readback is judged (R443, R448): the drill's job ends with the cars that it locked out. -/
def State.endLeap (s : State) : State :=
  let n := (s.grp.cars.toList.filter fun c => bit c.safe.raised 3).length
  let result := if s.mem.lastLeapCause = 1 then 0 else 1
  let s := s.modMem fun m => { m with sinceLeap := some 1, leapLocked := n, received := none }
  match s.findJob fun j => j.kind == .leap with
  | some j => endJob j 0 ([byte result, byte n, 0, 0] ++ leBytes 4 (s.mem.lastLeapFrame % 2 ^ 32)) s
  | none => s

/-- What a pair's holder learns of its delta (R428, R449): the bytes of its parts are a free value within the budget. -/
def State.countDelta (s : State) : State :=
  if !s.boot.pair.paired then s
  else
    let q := s.drawNat
    let n := q.1 % (s.grp.frameLen.budget + 1)
    q.2.modMem fun m => { m with deltaLast := n, deltaPeak := max m.deltaPeak n,
                                 vigilFrames := if m.partnerState = 3 then satInc 32 m.vigilFrames else 0 }

/-- The breaks of rungs 7 and 9 that the ending frame's window has brought (R30, R31, R51): a ring with work whose service
was put off, and a recorder export that paused. -/
def State.windowBreaks (x : FrameIn) (s : State) : State :=
  let s := x.deferredRings.foldl (fun s q =>
    let r := s.host.rings[q.1.val]
    if decide (q.2 < 7) && (s.host.rung[q.1.val] || (r.use == .command && decide (0 < r.used))) then s.ladderBreak q.2 7 0xFF q.1.val else s) s
  match x.exportPaused, s.exportRing with
  | some kept, some r => if kept < 9 then s.ladderBreak kept 9 0xFF r.val else s
  | _, _ => s

/-- A holder's frame ends: the events that no row has brought, its own seconds and timers, its load (R46), and the breaks
of its window. A frame whose Staging reaches the commit guard is an overrun (R47). -/
def State.closeFrame (x : FrameIn) (s : State) : State :=
  let s := (s.settleFrame.settleOwn.measure x.measured).windowBreaks x
  let s := if s.grp.frameLen.guard ≤ x.measured then s.latchOverrun s.grp.frame else s
  let s := x.attempts.foldl State.markAttempt s
  s.modMem fun m => { m with sinceLeap := if m.sinceLeap == some 0 then some 0 else none }

/-- A holder's Calends and the frame that it begins: latch, commit and phases (R20, R38, R443). -/
def State.openFrame (x : FrameIn) (s : State) : State :=
  let first := s.mem.sinceLeap == some 0
  let old := s.latch x
  let s := (eachCar old.laneConflict old.groupCommit).commitLanes
  let s := if octaveStart s.grp.frame then eachCar State.darkSchedule s else s
  let s := (if first then s.firstCommit else s).commitPorts
  let s := ((eachPort State.gatherBus s).runFrame x).selfFindings x
  (if first then s.endLeap else s).countDelta

/-- The Calends of a holder: the frame's number advances between the two frames' work (R33). -/
def State.holderCalends (x : FrameIn) (s : State) : State :=
  let s := (s.within (.clock :: phaseParts) (s.closeFrame x)).nextFrame
  s.within phaseParts (s.openFrame x)

/-- 2 ms of contention are over (R422): member A keeps holding only if it has learned that its partner is B. -/
def State.contentionOver (s : State) : State :=
  if s.mem.partnerKnown && s.mem.partnerB then s.modMem fun m => { m with contention := false }
  else s.modMem fun m => { m with releaseDue := some (m.releaseDue.getD 2) }

/-- Member A holds in contention. -/
def State.contends (s : State) : Bool := s.holds && s.mem.contention && !s.boot.pairSel

/-- The 2 ms of R422 end with the frame though no row has said so (log 2). -/
def State.settleContention (s : State) : State :=
  if s.contends && decide (s.msFrames 2 ≤ s.grp.frame - s.mem.contentionAt) then s.contentionOver else s

/-- A Calends (R20, R38): the holder's, a follower's, or one of a member in RELEASED. -/
def State.calends (x : FrameIn) (s : State) : State :=
  if !s.running then s
  else if s.holds then
    let s := s.settleContention
    match s.mem.releaseDue with
    | some c =>
      let s := s.release c
      if s.follows then s.followCalends x else s.idleCalends
    | none => s.holderCalends x
  else if s.follows then s.followCalends x
  else s.idleCalends

/-- CALENDS (R38). -/
def execCalends (x : FrameIn) (s : State) : Host.Outcome State Fault Refusal := .next (s.within frameParts (s.calends x))

/-- The per-car causes of a release record, with a code below 16 (R443): the module cause is not taken (R290). -/
def State.applyRelease (r : ReleaseRec) (s : State) : State :=
  let s := eachCar (fun s c => (List.range 16).foldl (fun s n =>
    if bit r.causes[c.val] n && (s.car c).configured && !bit (s.car c).safe.causes n then s.raise c n noRef else s) s) s
  s.modMem fun m => { m with received := some r, lastLeapCause := r.cause }

/-- Raw sends that the old holder had queued are lost with it (R443): their jobs end DISCARDED. -/
def State.endLostSends (s : State) : State :=
  let staged (j : Job) : Bool := s.grp.deferred.any fun d => match d with
    | .send i _ => i == j.id
    | _ => false
  (s.grp.jobs.filter fun j => (match j.kind with
    | .canSend _ => true
    | _ => false) && !staged j).foldl (fun s j => s.endSend j.id 1) s

/-- A member acquires HOLD: HOLDO toggles and the gates open (R419, R420). -/
def State.acquire (s : State) : State :=
  (s.modMem fun m =>
    { m with state := .holder, vigilReady := false, holdiActive := false, holdiQuiet := false, afterDrill := false, resynced := false,
             progress := 0, vigilFrames := 0, committed := true, ran := true, gotImage := false, gotDecision := false,
             gotState := false, stateDue := false, decision := none }).setGates true

/-- The lane and encoder values of the image before stand in for a missing IMAGE part (R443): no count has moved since. -/
def State.repeatImage (s : State) : State :=
  { s with io := { s.io with image := { s.io.image with enc := Vector.replicate 8 0 } } }

/-- A standby takes HOLD (R420, R442, R443): it completes the frame from its own image, and the old holder's module cause
and a brake test end with it (R281, R290). -/
def State.takeOver (s : State) : State :=
  let s := (if s.mem.gotImage then s else s.repeatImage).followRun
  let s := s.acquire
  let sg := s.grp.sg.causes
  let s : State := { s with grp := { s.grp with sg := { s.grp.sg with causes := sg - (sg &&& 0x3E0000) } } }
  let s := s.modMem fun m => { m with leaps := satInc 32 m.leaps, lastLeapFrame := s.grp.frame, lastLeapCause := 34,
                                      sinceLeap := some 0, leapLocked := 0 }
  let s := eachCar State.abortTest s
  let s := s.endLostSends
  match s.mem.received with
  | some r => s.applyRelease r
  | none => s

/-- HOLD_SILENCE (R418, R420, R446): without VIGIL_READY no acquisition. -/
def execHoldSilence (s : State) : Host.Outcome State Fault Refusal :=
  .next (s.within standbyParts (whenRunning s fun s =>
    let s := s.modMem fun m => { m with holdiActive := false }
    if s.mem.state == .vigil && s.mem.vigilReady then s.takeOver else s))

/-- COLD_WAIT_EXPIRY (R421): member B acquires when HOLDI has stayed silent from its first Calends. -/
def execColdWaitExpiry (s : State) : Host.Outcome State Fault Refusal :=
  .next (s.within [.member, .banks] (whenRunning s fun s =>
    if s.boot.pair.paired && s.boot.pairSel && s.mem.state == .syncing && s.mem.holdiQuiet
        && decide (s.msFrames s.boot.pair.coldWaitMs ≤ s.grp.frame) then
      s.acquire
    else s))

/-- CONTENTION (R422). -/
def execContention (s : State) : Host.Outcome State Fault Refusal :=
  .next (s.within [.member, .recorder] (whenRunning s fun s =>
    if s.boot.pair.paired && s.holds then
      let s := (s.record 0x0107 0xFF [0]).modMem fun m =>
        { m with contention := true, contentionAt := if m.contention then m.contentionAt else s.grp.frame, holdiActive := true, holdiQuiet := false }
      if s.boot.pairSel then s.modMem fun m => { m with releaseDue := some (m.releaseDue.getD 2) } else s
    else s))

/-- CONTENTION_TIMEOUT (R422): member A has not learned within 2 ms that its partner is B. -/
def execContentionTimeout (s : State) : Host.Outcome State Fault Refusal :=
  .next (s.within [.member] (whenRunning s fun s =>
    if s.contends && decide (s.msFrames 2 ≤ s.grp.frame + 1 - s.mem.contentionAt) then s.contentionOver else s))

/-- HOLD_RELEASE (R423, R424): the release of a decided cause, no host cycle standing in its way. -/
def execHoldRelease (cause : Nat) (s : State) : Host.Outcome State Fault Refusal :=
  .next (s.within [.member, .banks, .buses, .recorder] (whenRunning s fun s =>
    if s.boot.pair.paired && s.holds && s.mem.releaseDue == some cause then s.release cause else s))

/-- RELEASE_RECORD (R443, R446): one that comes after the commit guard of the leap frame is an event only. -/
def execReleaseRecord (r : ReleaseRec) (s : State) : Host.Outcome State Fault Refusal :=
  .next (s.within ([.member] ++ lockoutParts) (whenRunning s fun s =>
    if !s.boot.pair.paired then s
    else if s.holds then
      if s.mem.sinceLeap == some 0 && !r.late && s.mem.received.isNone then s.applyRelease r else s.record 0x0107 0xFF [1]
    else if r.late then s.record 0x0107 0xFF [1]
    else if s.mem.state = .vigil then s.modMem fun m => { m with received := some r }
    else s))

/-- The standby's results differ from the holder's (R432): counted once a frame, one event an Octave. The class code is a
free value (log 3). -/
def State.diverge (car : Nat) (s : State) : State :=
  if s.mem.diverged then s
  else
    let s := s.modMem fun m => { m with diverged := true, divergences := satInc 32 m.divergences }
    if s.mem.divergedOctave then s
    else
      let q := s.drawNat
      (q.2.modMem fun m => { m with divergedOctave := true }).record 0x0106 car ([byte q.1] ++ leBytes 8 s.grp.frame)

/-- A difference that a STATE part shows after its Calends counts for the frame before (R428, R432). -/
def State.divergeLate (car : Nat) (s : State) : State :=
  let now := s.mem.diverged
  ((s.modMem fun m => { m with diverged := m.divergedPrior }).diverge car).modMem fun m => { m with diverged := now, divergedPrior := true }

/-- The bytes of a frame under the IMAGE part's CRC-16; the part's format is private (R428, DESIGN CHOICE). -/
def CanFrame.wire (f : CanFrame) : List Byte :=
  leBytes 4 f.id ++ [byte (flagBit f.ide 0 + flagBit f.rtr 1 + flagBit f.fd 2 + flagBit f.brs 3), byte f.data.length] ++ f.data

/-- A bank's lanes behind its closed gate take the holder's filter states (R440, R441). -/
def Bank.seed (im : BankImage) (b : Bank) : Bank :=
  { b with lanes := Vector.ofFn fun (l : LaneId) =>
      let y := b.lanes[l.val]
      let v := im.lanes[l.val]
      if y.use = .input ∧ !b.gateOpen then
        { y with filtered := v.state, broken := v.broken && y.wireBreak, count := if v.state then y.limit else 0,
                 wireCount := if v.broken && y.wireBreak then y.limit else 0, current := 0 }
      else y }

/-- The standby's image from the IMAGE part (R431). -/
def State.formImage (p : ImagePart) (s : State) : State :=
  let im := s.io.image
  let can := Vector.ofFn fun (b : Fin 16) => im.can[b.val].take p.counts[b.val]
  let up := Vector.ofFn fun (c : Fin 8) => im.uplink[c.val].filter fun u => fieldAt u.bytes 4 4 == p.upSeqs[c.val]
  let banks := Vector.ofFn fun (b : Fin 16) => (s.io.banks[b.val]).seed p.image.banks[b.val]
  { s with io := { s.io with banks := banks, image :=
      { im with banks := p.image.banks, enc := p.image.enc, encFault := p.image.encFault, can := can, uplink := up } } }

/-- PAIR_IMAGE_PART (R427, R431, R440): the standby forms its image and, its state at hand, runs the frame. -/
def execPairImagePart (p : ImagePart) (s : State) : Host.Outcome State Fault Refusal :=
  .next (s.within standbyParts (if !s.follows || s.mem.gotImage then s
    else
      let s := s.modMem fun m => { m with gotImage := true, holdiActive := true, holdiQuiet := false }
      let s := s.formImage p
      let bad := (List.finRange 16).find? fun b => crc16 (s.io.image.can[b.val].flatMap CanFrame.wire) != p.crcs[b.val]
      let s := match bad with
        | some b => s.diverge (b.val / 2)
        | none => s
      if s.mem.stateDue then s else s.followRun))

/-- The lane commands of a bank as the standby would commit them. -/
def State.laneWord (s : State) (b : BankId) : BitVec 8 :=
  (List.finRange 8).foldl (fun v l => if s.io.banks[b.val].lanes[l.val].use == .output && s.laneCommit b l then v ||| (1#8 <<< l.val) else v) 0

/-- What the standby itself would commit at the coming Calends (R431, R432). -/
def State.ownDecision (s : State) : DecisionPart :=
  let t : State := { s with grp := { s.grp with frame := s.grp.frame + 1 } }
  let t := eachCar State.commitCar t.enterSafe
  let refs := if t.grp.safeState then []
    else (List.finRange 8).filterMap fun c =>
      let m := (t.car c).motion
      if m.present then some (c, (t.car c).refBytes) else none
  let streams := (t.grp.streams.filter fun q => (t.entry q.1).pairDup).map fun q =>
    (q.1, (t.answered q.1 q.2).take ((t.entry q.1).streamLength - 2))
  let downs := (List.finRange 8).filterMap fun c =>
    if t.io.links[c.val].active && exchangeAt t.grp.frameLen t.grp.frame then some (c, t.downlinkBytes c 2000) else none
  { lanes := Vector.ofFn t.laneWord, refs := refs, streams := streams, downlinks := downs }

/-- The car of the first item in which two decisions differ, in the order of R428, 0xFF for an item of no car; none when they
agree (R432). A lane is of the car that owns it, a CAN frame of the slot that owns its bus. -/
def State.differs (s : State) (a b : DecisionPart) : Option Nat :=
  let lane (i : Nat) (d : DecisionPart) : Bool := (d.lanes[i / 8 % 16]).getLsbD (i % 8)
  let at_ (l : List (CarId × List Byte)) (c : CarId) : Option (List Byte) := (l.find? fun q => q.1 == c).map fun q => q.2
  let form (d : DecisionPart) (c : CarId) : Option (List Byte) := (at_ d.downlinks c).map fun p => (p.drop 8).take 96
  let stream (l : List (Nat × List Byte)) (c : Nat) : Option (List Byte) := (l.find? fun q => q.1 == c).map fun q => q.2
  match (List.range 128).find? fun i => lane i a != lane i b with
  | some i => some (((laneOwner s.grp.alm s.grp.cars (Fin.ofNat 16 (i / 8)) (Fin.ofNat 8 i)).map fun c => c.val).getD 0xFF)
  | none => match (List.finRange 8).find? fun c => at_ a.refs c != at_ b.refs c || form a c != form b c with
    | some c => some c.val
    | none => ((a.streams ++ b.streams).find? fun q => stream a.streams q.1 != stream b.streams q.1).map fun q =>
        bits (s.entry q.1).params 3 0 / 2

/-- PAIR_DECISION_PART (R431, R432): kept for the coming Calends, and compared with the standby's own results. -/
def execPairDecisionPart (p : DecisionPart) (s : State) : Host.Outcome State Fault Refusal :=
  .next (s.within standbyParts (if !s.follows || s.mem.gotDecision then s
    else
      let s := s.modMem fun m => { m with gotDecision := true, decision := some p }
      if s.mem.stateDue || !s.mem.gotImage then s
      else
        let s := s.followRun
        match s.differs s.ownDecision p with
        | some car => s.diverge car
        | none => s))

/-- The port configuration of the STATE part (R434): a bus whose configuration changes starts anew. -/
def State.takePorts (p : PortCfg) (s : State) : State :=
  let buses := Vector.ofFn fun (b : Fin 16) =>
    let y := s.io.buses[b.val]
    if y.cfg = p.can[b.val] then y
    else { y with cfg := p.can[b.val], integrating := p.can[b.val].mode != .off, modeStarted := false, queue := [], waiting := [] }
  let links := Vector.ofFn fun (c : Fin 8) => { s.io.links[c.val] with cfg := p.links[c.val] }
  let banks := Vector.ofFn fun (b : Fin 16) => { s.io.banks[b.val] with safeTimerMs := p.timers[b.val] }
  { s with io := { s.io with buses := buses, map := p.map, links := links, banks := banks } }

/-- A ring of the STATE part (R438): the standby has observed the host's side, and takes the module's. -/
def Ring.takeState (p q : Ring) : Ring :=
  if p.use ≠ q.use ∨ p.slotsLog2 ≠ q.slotsLog2 ∨ p.sizeCode ≠ q.sizeCode then p
  else match p.use with
    | .command | .dataIn => { p with prod := q.prod, data := q.data }
    | .reply | .dataOut => { p with cons := q.cons }
    | .off => p

/-- A record of the STATE part enters this member's recorder (R428, R543): the open record's newer copy replaces it. -/
def Recorder.takeRec (r : Recorder) (x : Rec) : Recorder :=
  match r.recs with
  | top :: rest => if r.isOpen && sameEvent top x && decide (top.reps ≤ x.reps) then { r with recs := x :: rest } else r.push x
  | [] => r.push x

/-- The STATE part overwrites the standby's own state (R431, R434). -/
def State.takeState (p : StatePart) (s : State) : State :=
  let wrong := (List.finRange 8).find? fun c => p.group.cars[c.val].safe.causes != (s.car c).safe.causes
  let s := match wrong with
    | some c =>
      if s.mem.ran && p.group.frame == s.grp.frame then s.diverge c.val
      else if s.mem.stateDue && p.group.frame + 1 == s.grp.frame then s.divergeLate c.val
      else s
    | none => s
  let s := { s with grp := p.group }.takePorts p.ports
  let rings := Vector.ofFn fun (r : Fin 64) => (p.ports.rings[r.val]).takeState s.host.rings[r.val]
  let s : State := { s with
    host := { s.host with rings := rings, held := p.ports.held },
    nv := { s.nv with frameLen := p.stored.frameLen, pair := p.stored.pair, net := p.stored.net, config := p.stored.config,
                      saved := p.stored.saved, kernels := p.stored.kernels, recorder := p.records.foldl Recorder.takeRec s.nv.recorder,
                      causes := p.group.cars.map fun c => c.safe.causes },
    io := { s.io with banks := bindBanks p.group.alm s.io.banks } }
  let keys := [s.nv.customerRoot.map sha256, s.nv.netKey.map sha256].map fun k => k.getD []
  let s := s.modMem fun m => { m with ethDue := p.eth, configMatch := p.pair == s.boot.pair && p.protocol == s.boot.fwProtocol
    && p.mode == s.boot.mode && p.life == s.boot.life && p.keys == keys }
  if s.mem.state = .vigil ∧ s.mem.configMatch = false then s.loseVigil 2 1 else s

/-- PAIR_STATE_PART (R428, R431, R434): the state after the frame that has just ended, or after the present one when it
comes before this member's Calends; a member in SYNCING takes the holder's frame number with it (R427). -/
def execPairStatePart (p : StatePart) (s : State) : Host.Outcome State Fault Refusal :=
  .next (s.within standbyParts (if !s.follows then s
    else if p.group.frame = s.grp.frame ∧ !s.mem.stateDue ∧ !s.mem.gotState then
      (s.takeState p).modMem fun m => { m with gotState := true, committed := true, ran := true }
    else if s.mem.stateDue ∧ (p.group.frame + 1 = s.grp.frame ∨ s.mem.state = .syncing) then
      let step := decide (p.group.frame + 1 ≠ s.grp.frame)
      let s := s.takeState p
      let s : State := { s with grp := { s.grp with frame := s.grp.frame + 1, fis := s.grp.fis + 1 } }
      let s := s.modMem fun m => { m with stateDue := false, committed := false, ran := false,
                                          locked := m.locked && !step, lockRun := if step then 0 else m.lockRun }
      let s := if s.mem.gotImage then s.followRun else s.followCommit
      if s.mem.prior then s.completeFrame else s
    else s))

/-- The first part of the frame that has not arrived (R541): 0 IMAGE, 1 DECISION, 2 STATE. -/
def Member.missingPart (m : Member) : Nat := if !m.gotImage then 0 else if !m.gotDecision then 1 else 2

/-- VIGIL_LOST (R430, R433): the member in VIGIL finds a part missing, failing its check or marked; its holder sees it leave
VIGIL, and an OVERFLOW that left a safeguard record out is a ladder break, of no car and of subject 0 (DESIGN CHOICE, log 347). -/
def execVigilLost (cause : VigilCause) (s : State) : Host.Outcome State Fault Refusal :=
  .next (s.within [.member, .recorder] (whenRunning s fun s =>
    if s.follows then
      match cause with
      | .late => s.loseVigil s.mem.missingPart 0
      | .check => s.loseVigil s.mem.missingPart 1
      | .overflow _ => s.loseVigil 2 2
    else if s.boot.pair.paired && s.holds then
      let s := s.modMem fun m => { m with partnerState := 2, vigilFrames := 0, vigilLosses := satInc 32 m.vigilLosses }
      if cause = .overflow true then s.ladderBreak 1 2 0xFF 0 else s
    else s))

/-- ETH1_LINK_LOSS (R425, R446): the standby enters SYNCING, the holder keeps HOLD. -/
def execEth1LinkLoss (up : Bool) (s : State) : Host.Outcome State Fault Refusal :=
  .next (s.within [.member, .recorder] (whenRunning s fun s =>
    let s := s.modMem fun m => { m with eth1 := up }
    if up then s
    else
      let s := s.modMem fun m => { m with partnerState := 0xFF, vigilFrames := 0 }
      if s.follows then s.loseVigil 0 0 else s))

/-- CALENDS_LOCK (R427): one measurement of the offset. Loss of lock ends VIGIL (R433). -/
def execCalendsLock (offsetNs : Int) (s : State) : Host.Outcome State Fault Refusal :=
  .next (s.within [.member, .recorder] (whenRunning s fun s =>
    if !s.boot.pair.paired then s
    else
      let near := decide (-200 ≤ offsetNs) && decide (offsetNs ≤ 200)
      let s := s.modMem fun m =>
        let lock := if near then min 64 (m.lockRun + 1) else 0
        let unlock := if near then 0 else min 4 (m.unlockRun + 1)
        { m with offsetNs := offsetNs, lockRun := lock, unlockRun := unlock,
                 locked := if decide (64 ≤ lock) then true else if decide (4 ≤ unlock) then false else m.locked }
      if s.follows && !s.mem.locked && s.mem.state == .vigil then s.loseVigil 0 0 else s))

/-- RESYNC_COMPLETE (R434): the copy is complete; VIGIL follows with the run of complete frames. -/
def execResyncComplete (s : State) : Host.Outcome State Fault Refusal :=
  .next (s.within [.member] (if s.follows then (s.modMem fun m => { m with resynced := true, progress := 256 }).tryVigil false else s))

/-- SELF_CAUSE (R426): a member that does not hold finds a cause of codes 17–33 in itself. -/
def execSelfCause (cause : Nat) (s : State) : Host.Outcome State Fault Refusal :=
  .next (s.within [.member] (whenRunning s fun s => if s.follows then s.causeRelease cause else s))

/-- PAIR_SEL_REPORT (R422, R434, R449): two members of one PAIR_SEL never pair, and each records the conflict. A holder takes its
partner's state and the progress of its copy. -/
def execPairSelReport (b : Bool) (x : SelReport) (s : State) : Host.Outcome State Fault Refusal :=
  .next (s.within [.member, .recorder] (whenRunning s fun s =>
    if !s.boot.pair.paired then s
    else
      let conflict := b == s.boot.pairSel
      let s := if conflict && !s.mem.selConflict then s.record 0x0107 0xFF [2] else s
      let s := s.modMem fun m =>
        { m with partnerKnown := true, partnerB := b, partnerState := min x.state 255,
                 progress := if m.state = .holder then min x.progress 256 else m.progress, selConflict := conflict,
                 vigilFrames := if x.state = 3 then m.vigilFrames else 0 }
      if conflict && s.mem.state == .vigil then s.loseVigil 0 0 else s))

end Sys2Proof.Machine
end

