-- ==== Sys2Proof/Machine/Startup.lean ====
section
/-! DEFINITION. Power, resets, the start-up steps and the first Calends (18), the watchdogs and the memory codes (17), and
the test access port (R549–R551). -/

namespace Sys2Proof.Machine

/-- What of the recorder is in NAND when power fails or a reset comes (R539): the open record's last copy is closed. -/
def Recorder.afterReset (r : Recorder) : Recorder :=
  let closed := if r.isOpen then r.recs.drop 1 else r.recs
  let gone := min r.unsaved closed.length
  let kept := closed.drop gone
  let recs := match r.openCopy with
    | some c => c :: kept
    | none => kept
  { r with recs := recs, next := r.next - (r.recs.length - recs.length), isOpen := false, unsaved := 0, openCopy := none,
           dirtyFor := 0, fresh := 0, dropped := 0 }

/-- The life-cycle state of the fuse groups (R552): the highest group that counts as blown. -/
def lifeOf (g : Vector Nat 4) : Life :=
  if 5 ≤ g[3] then .retired else if 5 ≤ g[2] then .returned else if 5 ≤ g[1] then .sealed else if 5 ≤ g[0] then .issued else .maker

/-- What a reset leaves (R582): fuses, NAND and the car-top endpoints, which are no part of the module. -/
def State.afterReset (cause : Nat) (phase : Phase) (s : State) : State :=
  { pending := s.pending, free := s.free, nv := { s.nv with recorder := s.nv.recorder.afterReset },
    boot := { phase := phase, lastReset := cause, life := lifeOf s.nv.groups }, mem := {}, grp := {}, io := { ends := s.io.ends }, host := {} }

/-- Code of LAST_RESET (R576). -/
def ResetCause.code : ResetCause → Nat
  | .pin => 0
  | .memory => 1
  | .watchdog => 2

/-- A reset begins (R582). A memory reset keeps the bank dies powered: each bank's safe-state timer expires and puts the
lanes in their safe states (R571). -/
def State.reboot (cause : ResetCause) (s : State) : State :=
  if s.boot.phase = .off then s
  else
    let t := s.afterReset cause.code .powered
    if cause = .memory then
      { t with io := { t.io with banks := (eachPort State.timerExpires s).io.banks.map fun b => { b with gateOpen := false } } }
    else t

/-- RESET (R582, R594). -/
def execReset (cause : ResetCause) (s : State) : Host.Outcome State Fault Refusal := .next (s.within resetParts (s.reboot cause))

/-- BROWN_OUT (R583): the module is held until the rails have recovered. -/
def execBrownOut (s : State) : Host.Outcome State Fault Refusal := .next (s.within resetParts (s.afterReset 0 .off))

/-- POWER_GOOD (R580): the rails and the reference have been valid for 1 ms. -/
def execPowerGood (s : State) : Host.Outcome State Fault Refusal :=
  .next (s.within [.straps] (if s.boot.phase = .off then { s with boot := { s.boot with phase := .powered } } else s))

/-- The control plane, or the service of RETIRED, is up. -/
def State.up (s : State) : Bool := s.running || s.boot.phase == .retired

/-- A core or a memory fails beyond repair (R424, R426, R571, R572): a pair's member gives up HOLD or its vigil, a single
module resets itself. -/
def State.failModule (code : Nat) (cause : ResetCause) (s : State) : State :=
  if !s.up then s
  else if s.running && s.boot.pair.paired then s.causeRelease code
  else s.reboot cause

/-- WATCHDOG (R424, R572): a core has not serviced its watchdog within 2 frames. -/
def execWatchdog (_cc : Fin 2) (s : State) : Host.Outcome State Fault Refusal := .next (s.within resetParts (s.failModule 33 .watchdog))

/-- Words read from DRAM, or from the channel cache, are decoded (R569–R571): what is corrected is counted, and a word beyond
correction fails the module. -/
def State.readWords (cache : Bool) (ms : List MemWord) (s : State) : State :=
  if !s.up then s
  else
    let n := countReads .corrected ms
    let s := if cache then { s with boot := { s.boot with cacheCorrected := satAdd 32 s.boot.cacheCorrected n } }
      else { s with boot := { s.boot with dramCorrected := satAdd 32 s.boot.dramCorrected n } }
    if countReads .uncorrectable ms = 0 then s else s.failModule 32 .memory

/-- MEMORY_UNCORRECTABLE (R571): a word of DRAM or of the channel cache as it is read. -/
def execMemoryUncorrectable (m : MemWord) (s : State) : Host.Outcome State Fault Refusal :=
  .next (s.within resetParts (s.readWords m.cache [m]))

/-- PATROL_SCRUB (R570): one pass over the DRAM is complete, `ms` being the words that it did not find clean. -/
def execPatrolScrub (ms : List MemWord) (s : State) : Host.Outcome State Fault Refusal :=
  .next (s.within resetParts (if s.up then
      State.readWords false ms { s with boot := { s.boot with scrubPasses := satInc 32 s.boot.scrubPasses } }
    else s))

/-- The fuse group of a state (R552). -/
def Life.group : Life → Option (Fin 4)
  | .maker => none
  | .issued => some 0
  | .sealed => some 1
  | .returned => some 2
  | .retired => some 3

/-- Fuses of a pending transition's group are blown, up to `n` of the 8 (R552). -/
def Nv.blowGroup (n : Nat) (nv : Nv) : Nv :=
  match nv.pendingLife.bind fun q => q.1.group with
  | some g => { nv with groups := nv.groups.set g.val (max nv.groups[g.val] (min 8 n)) }
  | none => nv

/-- What the entry into a state erases (R553): the customer keys and, with WIPE_RECORDER, the recorder. -/
def Nv.eraseFor (life : Life) (wipe : Bool) (nv : Nv) : Nv :=
  if life = .returned ∨ life = .retired then
    { nv with customerRoot := none, netKey := none, cosign := false,
              recorder := if wipe && life == .returned then { nv.recorder with recs := [] } else nv.recorder }
  else nv

/-- A pending transition is made (R552, R553). -/
def Nv.transit (nv : Nv) : Nv :=
  match nv.pendingLife with
  | none => nv
  | some (life, wipe) => { (nv.blowGroup 8).eraseFor life wipe with pendingLife := none }

/-- The power fails while a pending transition's fuses are blown (R552, R574): the module is in the old state, whose next
`life.advance` blows the rest, or in the new one, whose erasures the next start-up makes. -/
def Nv.cutTransit (n : Nat) (nv : Nv) : Nv :=
  let cut := nv.blowGroup n
  if nv.pendingLife.map (fun q => q.1) = some (lifeOf cut.groups) then cut else { cut with pendingLife := none }

/-- EPOCH advances (R593). -/
def Nv.newEpoch (nv : Nv) : Nv := { nv with epoch := min 0xFFFFFF (nv.epoch + 1) }

/-- SECONDS as a start-up restores it (R533). -/
def Nv.restoredSeconds (nv : Nv) : Nat :=
  min (2 ^ 32 - 1) (1 + max nv.secondsSaved ((nv.recorder.recs.head?.map fun r => r.seconds).getD 0))

/-- Step 1 (R450, R414, R550, R555, R566, R584, R593). -/
def State.stepFuses (x : ReleaseIn) (s : State) : State :=
  let nv := { s.nv.transit.newEpoch with nandCorrected := min x.nandCorrected (2 ^ 32 - 1) }
  let q := ({ s with nv := nv } : State).drawBytes 16
  let s := q.2
  let last := s.boot.lastReset
  { s with boot := { phase := .powered, mode := x.mode % 4, pairSel := x.pairSel, scanEn := x.scanEn, life := lifeOf nv.groups,
                     lastReset := last, challenge := q.1, pair := nv.pair, net := nv.net, nextQ := 1024 * nv.attestBlocks },
           grp := { s.grp with frameLen := nv.frameLen, seconds := nv.restoredSeconds, fis := 0xFFFF } }

/-- The copy that runs (R509, R562, R584): the preferred one, else the other. -/
def Nv.pickCopy (nv : Nv) (x : ReleaseIn) : Option (Fin 2 × Bool) :=
  let passes (i : Fin 2) : Bool := nv.copyPasses i && !x.badCopy[i.val]
  if passes nv.preferred then some (nv.preferred, false)
  else if passes (1 - nv.preferred) then some (1 - nv.preferred, true)
  else none

/-- A copy that has failed its check is INVALID (R562). -/
def Nv.markFailed (nv : Nv) (i : Fin 2) : Nv :=
  { nv with copies := nv.copies.set i.val { nv.copies[i.val] with
      state := if nv.copies[i.val].state = .valid then .invalid else nv.copies[i.val].state } }

/-- Step 2 (R509, R584): the running copy. -/
def State.stepSignature (i : Fin 2) (fallback : Bool) (s : State) : State :=
  let c := s.nv.copies[i.val]
  let nv := if fallback then { s.nv.markFailed (1 - i) with preferred := i } else s.nv
  { s with nv := nv, boot := { s.boot with running := i, fallback := fallback, fwVersion := c.version, fwPatch := c.patch,
                                           fwProtocol := c.protocol, security := s.nv.facts[i.val].security } }

/-- A configuration record is restored (R589): as its command, without a lockout cause; in UL-40 mode DISPATCH_CARS is 0
(R187). -/
def restoreCmd (s : State) (r : CfgRec) : State :=
  let p := r.payload
  match r.opcode with
  | 0x0410 => setPosConfig p s
  | 0x0510 => applyProfConfig p s
  | 0x0512 => applyProfZone p s
  | 0x0620 => applyDispConfig (if s.boot.mode = 1 then p.set 2 0 else p) s
  | 0x0621 => applyDispWeights p s
  | 0x0622 => applyTerminal p s
  | 0x0710 => applyDoorConfig p s
  | 0x0711 => applyDoorAxis p s
  | 0x0810 => setSafeConfig p s
  | 0x0811 => setTerminal p s
  | 0x0910 => applyBankConfig p s
  | 0x0A10 => setCanConfig p s
  | 0x0A14 => applyCanMap p s
  | 0x0A20 => applyClConfig p s
  | 0x0F10 => applyUl40Config p s
  | _ => s

/-- Remove the items at these places. -/
def dropPlaces {α : Type} (bad : List Nat) (l : List α) : List α :=
  ((List.range l.length).zip l).filterMap fun q => if bad.contains q.1 then none else some q.2

/-- The opcodes of configuration commands, in the order in which their records are restored. -/
def restoreOrder : List Nat :=
  [0x0410, 0x0510, 0x0512, 0x0620, 0x0621, 0x0622, 0x0710, 0x0711, 0x0810, 0x0811, 0x0910, 0x0A10, 0x0A14, 0x0A20, 0x0F10]

/-- The car and port configuration of R590: a record whose check fails is absent, and without `pos.config` the car's
slot is unconfigured (R24). -/
def State.restoreConfig (bad : List Nat) (s : State) : State :=
  let rs := dropPlaces bad s.nv.config
  let s := restoreOrder.foldl (fun s op => (rs.filter fun r => r.opcode == op).foldl restoreCmd s) s
  eachCar (fun s c => if (s.car c).configured then s else s.setCar c {}) s

/-- A car's learned data and stored lockout causes (R590, R592): module causes are cleared (R285), and a failed brake test
still asks for a passed one of either set (R282). -/
def State.restoreCar (bad : Bool) (s : State) (c : CarId) : State :=
  if !(s.car c).configured then s
  else
    let l := if bad then {} else s.nv.learned[c.val]
    let causes := s.nv.causes[c.val] % 65536
    s.modCar c fun x =>
      { x with pos := { x.pos with table := l.table, scale := l.scale, everLearned := l.ever },
               doors := Vector.ofFn fun d =>
                 let door := x.doors[d.val]
                 let axes := Vector.ofFn fun (a : Fin 2) =>
                   let k := l.axes[d.val][a.val]
                   { door.axes[a.val] with samples := k.samples, friction := k.friction, learned := k.learned }
                 { door with axes := axes, learnMoves := if axes.toList.any fun a => a.configured && a.learned then 0 else 10 },
               safe := { x.safe with causes := causes, needTest := if bit causes 12 then 3 else 0 },
               service := if causes = 0 then .outOfService else .lockedOut }

/-- A stored kernel slot (R590): the outputs of a SUSPENDED one carry FAULT (R395). -/
def State.restoreKernel (bad : Bool) (s : State) (k : SlotId) : State :=
  let q := s.nv.kernels[k.val]
  if bad || q.1 == .empty then s
  else
    let s := (s.install k q.2).modKernel k fun x => { x with state := q.1 }
    if q.1 = .suspended then s.faultOutputs k true else s

/-- What step 5 restores (R94, R590). -/
def State.restoreAll (x : ReleaseIn) (s : State) : State :=
  let alm := s.nv.saved.filter fun q => !x.badEntries.contains q.1
  let s : State := { s with grp := { s.grp with alm := alm } }
  let s := s.restoreConfig x.badConfig
  let s := (List.finRange 8).foldl (fun s c => s.restoreCar x.badLearned[c.val] c) s
  let s := (List.finRange 32).foldl (fun s k => s.restoreKernel x.badSlots[k.val] k) s
  { s with io := { s.io with banks := bindBanks s.grp.alm s.io.banks } }

/-- Step 5 (R94, R590, R591). -/
def State.stepLoad (x : ReleaseIn) (s : State) : State :=
  let s := s.within loadParts (s.restoreAll x)
  let kind := ((breachAt s s s.grp.frameLen s.boot.mode true).map fun b => b.kind).getD 0
  { s with grp := { s.grp with shown := s.grp.alm, shownCars := s.grp.cars, shownDispatch := s.grp.disp.cfg.cars }, boot := { s.boot with heldKind := kind } }

/-- The START record (R541, R591). -/
def State.recordStart (s : State) : State :=
  s.record 0x1003 0xFF [byte s.boot.running.val, byte s.boot.fallback.toNat, byte s.boot.mode, byte s.boot.life.code, byte s.boot.heldKind]

/-- The start-up stops (R586, R587). -/
def State.stop (phase : Phase) (s : State) : State := { s with boot := { s.boot with phase := phase } }

/-- RING00 and RING01 in native mode (R467). -/
def State.firstRings (s : State) : State :=
  if s.boot.mode ≠ 0 then s
  else
    let r : Ring := { slotsLog2 := 4, sizeCode := 2 }
    { s with host := { s.host with
        rings := (s.host.rings.set 0 { r with use := .command, partner := 1 }).set 1 { r with use := .reply } } }

/-- Steps 2 to 5 (R584–R587, R590, R591). -/
def State.stepsOn (x : ReleaseIn) (s : State) : State :=
  match s.nv.pickCopy x with
  | none => s.stop (.stopped 2)
  | some (i, fallback) =>
    let s := s.stepSignature i fallback
    if x.scrubBad then s.recordStart.stop (.stopped 3)
    else
      let s := if s.boot.life = .retired then s
        else { s with io := { s.io with banks := Vector.ofFn fun b => { Bank.powerUp with linkFault := x.noReport.getLsbD b.val } } }
      let s := (s.stepLoad x).recordStart
      let lost := (s.nv.saved.filter fun q => x.badEntries.contains q.1).map fun q => q.1
      let s := lost.foldl (fun s ch => s.record 0x0302 0xFF (leBytes 3 ch)) s
      if s.boot.life = .retired then s.firstRings.stop .retired else s.stop .ready

/-- RESET_RELEASE (R584–R587, R594): the start-up, up to the first Calends. -/
def execResetRelease (x : ReleaseIn) (s : State) : Host.Outcome State Fault Refusal :=
  .next (s.within startParts (if s.boot.phase ≠ .powered then s
    else if let some n := x.cut then
      let nv := s.nv.cutTransit n
      { s with nv := nv, boot := { s.boot with phase := .off, life := lifeOf nv.groups } }
    else
      let s := s.stepFuses x
      if x.fuseMismatch then s.stop (.stopped 1)
      else if x.scanEn then s.stop .scanHold
      else if s.boot.mode = 3 ∧ s.boot.life ≠ .returned then s.stop .refused
      else s.stepsOn x))

/-- HOLD at the first Calends (R414, R421). -/
def State.firstHold (holdiActive : Bool) (s : State) : State :=
  let p := s.boot.pair.paired
  if !p || (!s.boot.pairSel && !holdiActive) then (s.modMem fun m => { m with state := .holder, holdiActive := p && holdiActive }).setGates true
  else s.modMem fun m => { m with state := .syncing, holdiActive := holdiActive, holdiQuiet := !holdiActive }

/-- Restored lockouts latch under a new LOCKOUT_ID (R286, R592). -/
def State.firstLockouts (s : State) : State :=
  eachCar (fun s c =>
    if (s.car c).configured && (s.car c).safe.causes != 0 then
      let id := nextLockId s.grp.sg.counter
      ({ s with grp := { s.grp with sg := { s.grp.sg with counter := id } } } : State).modSafe c fun x => { x with lockId := id }
    else s) s

/-- An admission hold begins with the control plane (R591). -/
def State.firstAdmission (s : State) : State :=
  if s.boot.heldKind = 0 then s
  else ({ s with grp := { s.grp with overrun := some (2 ^ 64 - 1), admissionHeld := true } } : State).raiseModule 16

/-- The first frame (R33, R38). A bank without a report in step 4 fails in the first image (R584). -/
def State.firstFrame (s : State) : State :=
  let x : FrameIn := { badReport := (List.finRange 16).filter fun b => s.io.banks[b.val].linkFault }
  let s : State := { s with io := { s.io with banks := s.io.banks.map fun b => if b.linkFault then { b with badReports := 1 } else b } }
  let s := ((s.latch x).groupCommit).commitLanes
  let s := eachCar State.darkSchedule s
  s.commitPorts.runFrame x

/-- The fuse counter follows the image that runs (R563). -/
def Nv.blowSecurity (nv : Nv) (v : Nat) : Nv := { nv with security := max nv.security v }

/-- What the first Calends does once the control plane runs (R421, R467, R585, R591, R592). -/
def State.firstWork (holdiActive : Bool) (s : State) : State :=
  let s := (s.firstRings.firstHold holdiActive).firstLockouts.firstAdmission
  if s.holds then s.firstFrame else s

/-- FIRST_CALENDS (R585, R591–R593). -/
def execFirstCalends (holdiActive : Bool) (s : State) : Host.Outcome State Fault Refusal :=
  .next (s.within ([.straps, .fuses] ++ frameParts) (if s.boot.phase ≠ .ready then s
    else
      let s : State := { s with boot := { s.boot with phase := .running }, grp := { s.grp with frame := 0, fis := 0 },
                                nv := s.nv.blowSecurity s.boot.security }
      s.within phaseParts (s.firstWork holdiActive)))

/-- An IEEE 1149.1 instruction other than IDCODE and BYPASS is allowed (R549). -/
def State.scanAllowed (s : State) : Bool :=
  s.boot.phase != .off && (s.boot.phase == .scanHold || s.boot.life == .maker || s.boot.life == .issued)

/-- The engine debugger works (R549, R551): customer kernels alone are halted. -/
def State.debugAllowed (s : State) : Bool := s.running && (s.boot.life == .maker || s.boot.life == .issued)

/-- The pins leave or enter boundary scan (R550). -/
def State.setExtest (v : Bool) (s : State) : State := { s with boot := { s.boot with extest := v } }

/-- TAP_INSTRUCTION (R549–R551): IDCODE and BYPASS always, the others as the life cycle allows; a private test mode is not
documented. -/
def execTapInstruction (ir : TapIr) (s : State) : Host.Outcome State Fault Refusal :=
  match ir with
  | .idcode | .bypass => .next (s.within [.counts] (s.setExtest false))
  | .extest => .next (s.within [.counts] (if s.scanAllowed then s.setExtest true else s))
  | .sample => .next (s.within [.counts] (if s.scanAllowed then s.setExtest false else s))
  | .debugHalt k =>
    .next (s.within [.kernels] (if s.debugAllowed && (s.kernel k).state != .empty then s.modKernel k fun x => { x with halted := true } else s))
  | .debugResume k => .next (s.within [.kernels] (if s.debugAllowed then s.modKernel k fun x => { x with halted := false } else s))
  | .privateMode => if s.boot.phase ≠ .off ∧ (s.boot.life = .maker ∨ s.boot.life = .returned) then .refused .privateTest else .next s

end Sys2Proof.Machine
end

