-- ==== Sys2Proof/Machine/Dispatch.lean ====
section
/-! DEFINITION. One arm per command: a direct call of its meaning. -/

namespace Sys2Proof.Machine

/-- What a command does to the state, its queue apart. -/
def exec (i : Instr) (s : State) : Host.Outcome State Fault Refusal :=
  match i with
  | .calends x => Sys2Proof.Machine.execCalends x s
  | .controlPlaneOverrun => Sys2Proof.Machine.execControlPlaneOverrun s
  | .sgCycle => Sys2Proof.Machine.execSgCycle s
  | .sgClock => Sys2Proof.Machine.execSgClock s
  | .sgSupply => Sys2Proof.Machine.execSgSupply s
  | .apsDisagree car => Sys2Proof.Machine.execApsDisagree car s
  | .apsLost car => Sys2Proof.Machine.execApsLost car s
  | .correctionFailed car => Sys2Proof.Machine.execCorrectionFailed car s
  | .autoCorrect car => Sys2Proof.Machine.execAutoCorrect car s
  | .autoLearn car => Sys2Proof.Machine.execAutoLearn car s
  | .shaftLearnComplete car => Sys2Proof.Machine.execShaftLearnComplete car s
  | .stretchSample car => Sys2Proof.Machine.execStretchSample car s
  | .relevelDemand car => Sys2Proof.Machine.execRelevelDemand car s
  | .following car => Sys2Proof.Machine.execFollowing car s
  | .referenceLost car => Sys2Proof.Machine.execReferenceLost car s
  | .driveStatusLost car => Sys2Proof.Machine.execDriveStatusLost car s
  | .driveStartTimeout car => Sys2Proof.Machine.execDriveStartTimeout car s
  | .settleTimeout car => Sys2Proof.Machine.execSettleTimeout car s
  | .stopComplete car => Sys2Proof.Machine.execStopComplete car s
  | .reversalDwellEnd car => Sys2Proof.Machine.execReversalDwellEnd car s
  | .dispatchPass chan => Sys2Proof.Machine.execDispatchPass chan s
  | .terminalRequest terminal => Sys2Proof.Machine.execTerminalRequest terminal s
  | .regRetainExpiry chan => Sys2Proof.Machine.execRegRetainExpiry chan s
  | .coldEvaluation chan => Sys2Proof.Machine.execColdEvaluation chan s
  | .almanacTimer chan => Sys2Proof.Machine.execAlmanacTimer chan s
  | .doorObstruction car side => Sys2Proof.Machine.execDoorObstruction car side s
  | .doorMoveComplete car side => Sys2Proof.Machine.execDoorMoveComplete car side s
  | .dwellEnd car side => Sys2Proof.Machine.execDwellEnd car side s
  | .notClosed car side => Sys2Proof.Machine.execNotClosed car side s
  | .gearSync car side => Sys2Proof.Machine.execGearSync car side s
  | .reportLost car side => Sys2Proof.Machine.execReportLost car side s
  | .loadAngleValid car side => Sys2Proof.Machine.execLoadAngleValid car side s
  | .referenceFailed car side => Sys2Proof.Machine.execReferenceFailed car side s
  | .discrepancy car pair => Sys2Proof.Machine.execDiscrepancy car pair s
  | .source car => Sys2Proof.Machine.execSource car s
  | .xcheck car => Sys2Proof.Machine.execXcheck car s
  | .terminalSpeed car => Sys2Proof.Machine.execTerminalSpeed car s
  | .mirror car ch => Sys2Proof.Machine.execMirror car ch s
  | .lift car ch => Sys2Proof.Machine.execLift car ch s
  | .darkTest car out passed => Sys2Proof.Machine.execDarkTest car out passed s
  | .brakeTestTimeout car => Sys2Proof.Machine.execBrakeTestTimeout car s
  | .resetWindowExpiry car => Sys2Proof.Machine.execResetWindowExpiry car s
  | .laneFilterChange bank lane samples => Sys2Proof.Machine.execLaneFilterChange bank lane samples s
  | .laneBroken bank lane samples => Sys2Proof.Machine.execLaneBroken bank lane samples s
  | .supplyLowChange bank runs => Sys2Proof.Machine.execSupplyLowChange bank runs s
  | .supplyMissing x => Sys2Proof.Machine.execSupplyMissing x s
  | .releaseReady x => Sys2Proof.Machine.execReleaseReady x s
  | .safeTimerExpiry bank => Sys2Proof.Machine.execSafeTimerExpiry bank s
  | .laneThermalShutdown bank lane => Sys2Proof.Machine.execLaneThermalShutdown bank lane s
  | .thermalHoldoffEnd bank lane => Sys2Proof.Machine.execThermalHoldoffEnd bank lane s
  | .bankRefreshReceived bank good => Sys2Proof.Machine.execBankRefreshReceived bank good s
  | .bankLinkFault bank => Sys2Proof.Machine.execBankLinkFault bank s
  | .encoderLineFault enc bad => Sys2Proof.Machine.execEncoderLineFault enc bad s
  | .canFrameReceived bus f => Sys2Proof.Machine.execCanFrameReceived bus f s
  | .canFrameSent bus timeUs => Sys2Proof.Machine.execCanFrameSent bus timeUs s
  | .canTxError bus cause => Sys2Proof.Machine.execCanTxError bus cause s
  | .canFrameDiscard bus => Sys2Proof.Machine.execCanFrameDiscard bus s
  | .canBusOff bus => Sys2Proof.Machine.execCanBusOff bus s
  | .canRecoveryComplete bus => Sys2Proof.Machine.execCanRecoveryComplete bus s
  | .canIntegrated bus => Sys2Proof.Machine.execCanIntegrated bus s
  | .protocolException bus => Sys2Proof.Machine.execProtocolException bus s
  | .heartbeatProducer bus => Sys2Proof.Machine.execHeartbeatProducer bus s
  | .canopenSync bus => Sys2Proof.Machine.execCanopenSync bus s
  | .canopenNodeLost bus node => Sys2Proof.Machine.execCanopenNodeLost bus node s
  | .canopenOutRefresh entry => Sys2Proof.Machine.execCanopenOutRefresh entry s
  | .uplinkReceived link frame atNs => Sys2Proof.Machine.execUplinkReceived link frame atNs s
  | .clPhyLinkChange link up => Sys2Proof.Machine.execClPhyLinkChange link up s
  | .clLinkDown link => Sys2Proof.Machine.execClLinkDown link s
  | .endpointDownlink link port frame atNs => Sys2Proof.Machine.execEndpointDownlink link port frame atNs s
  | .endpointSample link x => Sys2Proof.Machine.execEndpointSample link x s
  | .endpointLossLatch link => Sys2Proof.Machine.execEndpointLossLatch link s
  | .endpointDisable link => Sys2Proof.Machine.execEndpointDisable link s
  | .kernelCyclesStop eng => Sys2Proof.Machine.execKernelCyclesStop eng s
  | .bgCycles eng => Sys2Proof.Machine.execBgCycles eng s
  | .handlerCycles eng => Sys2Proof.Machine.execHandlerCycles eng s
  | .add eng gd ga gb => Sys2Proof.Machine.execAdd eng gd ga gb s
  | .sub eng gd ga gb => Sys2Proof.Machine.execSub eng gd ga gb s
  | .and eng gd ga gb => Sys2Proof.Machine.execAnd eng gd ga gb s
  | .or eng gd ga gb => Sys2Proof.Machine.execOr eng gd ga gb s
  | .xor eng gd ga gb => Sys2Proof.Machine.execXor eng gd ga gb s
  | .asr eng gd ga shamt => Sys2Proof.Machine.execAsr eng gd ga shamt s
  | .lsr eng gd ga shamt => Sys2Proof.Machine.execLsr eng gd ga shamt s
  | .shl eng gd ga shamt => Sys2Proof.Machine.execShl eng gd ga shamt s
  | .cmp eng ga gb => Sys2Proof.Machine.execCmp eng ga gb s
  | .abs eng gd ga => Sys2Proof.Machine.execAbs eng gd ga s
  | .neg eng gd ga => Sys2Proof.Machine.execNeg eng gd ga s
  | .mov eng gd ga => Sys2Proof.Machine.execMov eng gd ga s
  | .movsRead eng gd sreg => Sys2Proof.Machine.execMovsRead eng gd sreg s
  | .movsWrite eng sreg ga => Sys2Proof.Machine.execMovsWrite eng sreg ga s
  | .clsa eng gd ga => Sys2Proof.Machine.execClsa eng gd ga s
  | .addi eng gd imm => Sys2Proof.Machine.execAddi eng gd imm s
  | .movi eng gd imm => Sys2Proof.Machine.execMovi eng gd imm s
  | .movhi eng gd imm => Sys2Proof.Machine.execMovhi eng gd imm s
  | .andi eng gd imm => Sys2Proof.Machine.execAndi eng gd imm s
  | .cmpi eng gd imm => Sys2Proof.Machine.execCmpi eng gd imm s
  | .ld eng f => Sys2Proof.Machine.execLd eng f s
  | .st eng f => Sys2Proof.Machine.execSt eng f s
  | .mpy eng f => Sys2Proof.Machine.execMpy eng f s
  | .mac eng f => Sys2Proof.Machine.execMac eng f s
  | .msu eng f => Sys2Proof.Machine.execMsu eng f s
  | .clra eng f => Sys2Proof.Machine.execClra eng f s
  | .sac eng f => Sys2Proof.Machine.execSac eng f s
  | .sacg eng f => Sys2Proof.Machine.execSacg eng f s
  | .lda eng f => Sys2Proof.Machine.execLda eng f s
  | .adda eng f => Sys2Proof.Machine.execAdda eng f s
  | .suba eng f => Sys2Proof.Machine.execSuba eng f s
  | .bexpclr eng => Sys2Proof.Machine.execBexpclr eng s
  | .b eng cond imm => Sys2Proof.Machine.execB eng cond imm s
  | .call eng cond imm => Sys2Proof.Machine.execCall eng cond imm s
  | .ret eng => Sys2Proof.Machine.execRet eng s
  | .reti eng => Sys2Proof.Machine.execReti eng s
  | .repImm eng imm => Sys2Proof.Machine.execRepImm eng imm s
  | .repG eng g => Sys2Proof.Machine.execRepG eng g s
  | .kend eng => Sys2Proof.Machine.execKend eng s
  | .yield eng => Sys2Proof.Machine.execYield eng s
  | .nop eng => Sys2Proof.Machine.execNop eng s
  | .rget eng g => Sys2Proof.Machine.execRget eng g s
  | .rput eng g => Sys2Proof.Machine.execRput eng g s
  | .holdSilence => Sys2Proof.Machine.execHoldSilence s
  | .coldWaitExpiry => Sys2Proof.Machine.execColdWaitExpiry s
  | .contention => Sys2Proof.Machine.execContention s
  | .contentionTimeout => Sys2Proof.Machine.execContentionTimeout s
  | .holdRelease cause => Sys2Proof.Machine.execHoldRelease cause s
  | .releaseRecord r => Sys2Proof.Machine.execReleaseRecord r s
  | .pairImagePart p => Sys2Proof.Machine.execPairImagePart p s
  | .pairDecisionPart p => Sys2Proof.Machine.execPairDecisionPart p s
  | .pairStatePart p => Sys2Proof.Machine.execPairStatePart p s
  | .vigilLost cause => Sys2Proof.Machine.execVigilLost cause s
  | .eth1LinkLoss up => Sys2Proof.Machine.execEth1LinkLoss up s
  | .calendsLock offsetNs => Sys2Proof.Machine.execCalendsLock offsetNs s
  | .resyncComplete => Sys2Proof.Machine.execResyncComplete s
  | .selfCause cause => Sys2Proof.Machine.execSelfCause cause s
  | .watchdog cc => Sys2Proof.Machine.execWatchdog cc s
  | .memoryUncorrectable word => Sys2Proof.Machine.execMemoryUncorrectable word s
  | .patrolScrub words => Sys2Proof.Machine.execPatrolScrub words s
  | .reset cause => Sys2Proof.Machine.execReset cause s
  | .brownOut => Sys2Proof.Machine.execBrownOut s
  | .powerGood => Sys2Proof.Machine.execPowerGood s
  | .resetRelease x => Sys2Proof.Machine.execResetRelease x s
  | .firstCalends holdiActive => Sys2Proof.Machine.execFirstCalends holdiActive s
  | .secondsTick => Sys2Proof.Machine.execSecondsTick s
  | .secondsSave => Sys2Proof.Machine.execSecondsSave s
  | .recorderFlush => Sys2Proof.Machine.execRecorderFlush s
  | .ringService ring => Sys2Proof.Machine.execRingService ring s
  | .chainTimeout src => Sys2Proof.Machine.execChainTimeout src s
  | .replyPost src => Sys2Proof.Machine.execReplyPost src s
  | .jobProgress id fraction cycles => Sys2Proof.Machine.execJobProgress id fraction cycles s
  | .hostStrobeTimeout => Sys2Proof.Machine.execHostStrobeTimeout s
  | .prodWrite ring v => Sys2Proof.Machine.execProdWrite ring v s
  | .consWrite ring v => Sys2Proof.Machine.execConsWrite ring v s
  | .doorbell ring => Sys2Proof.Machine.execDoorbell ring s
  | .slotWindowWrite window offset v => Sys2Proof.Machine.execSlotWindowWrite window offset v s
  | .frame0Read => Sys2Proof.Machine.execFrame0Read s
  | .registerWrite cs addr v => Sys2Proof.Machine.execRegisterWrite cs addr v s
  | .posLoRead car => Sys2Proof.Machine.execPosLoRead car s
  | .eventsRead car => Sys2Proof.Machine.execEventsRead car s
  | .doorCmdOpen car v => Sys2Proof.Machine.execDoorCmdOpen car v s
  | .doorCmdClose car v => Sys2Proof.Machine.execDoorCmdClose car v s
  | .doorCmdStop car v => Sys2Proof.Machine.execDoorCmdStop car v s
  | .stopCmdAdd car v => Sys2Proof.Machine.execStopCmdAdd car v s
  | .stopCmdRemove car v => Sys2Proof.Machine.execStopCmdRemove car v s
  | .stopCmdClearTarget car v => Sys2Proof.Machine.execStopCmdClearTarget car v s
  | .serviceCmd car v => Sys2Proof.Machine.execServiceCmd car v s
  | .vmaxCmd car v => Sys2Proof.Machine.execVmaxCmd car v s
  | .outWord car v => Sys2Proof.Machine.execOutWord car v s
  | .dwell car v => Sys2Proof.Machine.execDwell car v s
  | .accessDwell car v => Sys2Proof.Machine.execAccessDwell car v s
  | .nudgeCount car v => Sys2Proof.Machine.execNudgeCount car v s
  | .tapInstruction ir => Sys2Proof.Machine.execTapInstruction ir s
  | .netOpen d => Sys2Proof.Machine.execNetOpen d s
  | .netSlot d => Sys2Proof.Machine.execNetSlot d s
  | .netAck d => Sys2Proof.Machine.execNetAck d s
  | .netClose d => Sys2Proof.Machine.execNetClose d s
  | .netResend session => Sys2Proof.Machine.execNetResend session s
  | .netSessionTimeout session => Sys2Proof.Machine.execNetSessionTimeout session s
  | .netArpIcmp request => Sys2Proof.Machine.execNetArpIcmp request s
  | .sysNop c => Sys2Proof.Machine.execSysNop c s
  | .sysInfo c => Sys2Proof.Machine.execSysInfo c s
  | .sysJobs c => Sys2Proof.Machine.execSysJobs c s
  | .frameStatus c => Sys2Proof.Machine.execFrameStatus c s
  | .frameConfig c => Sys2Proof.Machine.execFrameConfig c s
  | .frameResume c => Sys2Proof.Machine.execFrameResume c s
  | .almWrite c => Sys2Proof.Machine.execAlmWrite c s
  | .almPromote c => Sys2Proof.Machine.execAlmPromote c s
  | .almDemote c => Sys2Proof.Machine.execAlmDemote c s
  | .almCommit c => Sys2Proof.Machine.execAlmCommit c s
  | .almDiscard c => Sys2Proof.Machine.execAlmDiscard c s
  | .almRead c => Sys2Proof.Machine.execAlmRead c s
  | .almSave c => Sys2Proof.Machine.execAlmSave c s
  | .almSaveComplete interrupted => Sys2Proof.Machine.execAlmSaveComplete interrupted s
  | .almStatus c => Sys2Proof.Machine.execAlmStatus c s
  | .posConfig c => Sys2Proof.Machine.execPosConfig c s
  | .posLanding c => Sys2Proof.Machine.execPosLanding c s
  | .posTable c => Sys2Proof.Machine.execPosTable c s
  | .posStatus c => Sys2Proof.Machine.execPosStatus c s
  | .posLearn c => Sys2Proof.Machine.execPosLearn c s
  | .posCorrect c => Sys2Proof.Machine.execPosCorrect c s
  | .posWipe c => Sys2Proof.Machine.execPosWipe c s
  | .profConfig c => Sys2Proof.Machine.execProfConfig c s
  | .profLimits c => Sys2Proof.Machine.execProfLimits c s
  | .profZone c => Sys2Proof.Machine.execProfZone c s
  | .profStatus c => Sys2Proof.Machine.execProfStatus c s
  | .carService c => Sys2Proof.Machine.execCarService c s
  | .carStopAdd c => Sys2Proof.Machine.execCarStopAdd c s
  | .carStopRemove c => Sys2Proof.Machine.execCarStopRemove c s
  | .carStopList c => Sys2Proof.Machine.execCarStopList c s
  | .dispConfig c => Sys2Proof.Machine.execDispConfig c s
  | .dispWeights c => Sys2Proof.Machine.execDispWeights c s
  | .dispTerminal c => Sys2Proof.Machine.execDispTerminal c s
  | .dispRegister c => Sys2Proof.Machine.execDispRegister c s
  | .dispCancel c => Sys2Proof.Machine.execDispCancel c s
  | .dispStatus c => Sys2Proof.Machine.execDispStatus c s
  | .doorConfig c => Sys2Proof.Machine.execDoorConfig c s
  | .doorAxis c => Sys2Proof.Machine.execDoorAxis c s
  | .doorOpen c => Sys2Proof.Machine.execDoorOpen c s
  | .doorClose c => Sys2Proof.Machine.execDoorClose c s
  | .doorStop c => Sys2Proof.Machine.execDoorStop c s
  | .doorLearn c => Sys2Proof.Machine.execDoorLearn c s
  | .doorStatus c => Sys2Proof.Machine.execDoorStatus c s
  | .safeConfig c => Sys2Proof.Machine.execSafeConfig c s
  | .safeTerminal c => Sys2Proof.Machine.execSafeTerminal c s
  | .safeStatus c => Sys2Proof.Machine.execSafeStatus c s
  | .safeReset c => Sys2Proof.Machine.execSafeReset c s
  | .safeBrakeTest c => Sys2Proof.Machine.execSafeBrakeTest c s
  | .bankConfig c => Sys2Proof.Machine.execBankConfig c s
  | .bankAck c => Sys2Proof.Machine.execBankAck c s
  | .bankStatus c => Sys2Proof.Machine.execBankStatus c s
  | .canConfig c => Sys2Proof.Machine.execCanConfig c s
  | .canSend c => Sys2Proof.Machine.execCanSend c s
  | .canSendOutcome id => Sys2Proof.Machine.execCanSendOutcome id s
  | .canCancel c => Sys2Proof.Machine.execCanCancel c s
  | .canRecover c => Sys2Proof.Machine.execCanRecover c s
  | .canMap c => Sys2Proof.Machine.execCanMap c s
  | .canStatus c => Sys2Proof.Machine.execCanStatus c s
  | .clConfig c => Sys2Proof.Machine.execClConfig c s
  | .clStatus c => Sys2Proof.Machine.execClStatus c s
  | .sigLoad c => Sys2Proof.Machine.execSigLoad c s
  | .sigStart c => Sys2Proof.Machine.execSigStart c s
  | .sigStop c => Sys2Proof.Machine.execSigStop c s
  | .sigUnload c => Sys2Proof.Machine.execSigUnload c s
  | .sigParam c => Sys2Proof.Machine.execSigParam c s
  | .sigStatus c => Sys2Proof.Machine.execSigStatus c s
  | .sigSpectrum c => Sys2Proof.Machine.execSigSpectrum c s
  | .pairConfig c => Sys2Proof.Machine.execPairConfig c s
  | .pairLeap c => Sys2Proof.Machine.execPairLeap c s
  | .pairStatus c => Sys2Proof.Machine.execPairStatus c s
  | .ringConfig c => Sys2Proof.Machine.execRingConfig c s
  | .ringStatus c => Sys2Proof.Machine.execRingStatus c s
  | .ringRead c => Sys2Proof.Machine.execRingRead c s
  | .netConfig c => Sys2Proof.Machine.execNetConfig c s
  | .fwStage c => Sys2Proof.Machine.execFwStage c s
  | .fwStageComplete x => Sys2Proof.Machine.execFwStageComplete x s
  | .fwActivate c => Sys2Proof.Machine.execFwActivate c s
  | .fwStatus c => Sys2Proof.Machine.execFwStatus c s
  | .ul40Config c => Sys2Proof.Machine.execUl40Config c s
  | .ul40Status c => Sys2Proof.Machine.execUl40Status c s
  | .recRead c => Sys2Proof.Machine.execRecRead c s
  | .recAnnotate c => Sys2Proof.Machine.execRecAnnotate c s
  | .recExport c => Sys2Proof.Machine.execRecExport c s
  | .recStatus c => Sys2Proof.Machine.execRecStatus c s
  | .lifeAdvance c => Sys2Proof.Machine.execLifeAdvance c s
  | .lifeStatus c => Sys2Proof.Machine.execLifeStatus c s
  | .lifeProvision c => Sys2Proof.Machine.execLifeProvision c s
  | .lifeAttest c => Sys2Proof.Machine.execLifeAttest c s
  | .lifeCert c => Sys2Proof.Machine.execLifeCert c s
  | .canRxError bus e => Sys2Proof.Machine.execCanRxError bus e s
  | .pairSelReport b x => Sys2Proof.Machine.execPairSelReport b x s
  | .powerStageFault link stage cause => Sys2Proof.Machine.execPowerStageFault link stage cause s

end Sys2Proof.Machine
end

