-- ==== Sys2Proof/WellFormed.lean ====
section
/-! DEFINITION. The commands whose operands lie in the ranges that the spec's fields give them. -/

namespace Sys2Proof

open Sys2Proof.Machine

/-- A channel ID of the Almanac (R60). -/
def chanOk (c : Nat) : Bool := decide (c < 0x100000)

/-- A frame of a bus (R329, R367): identifier, payload of a length that the format has, and a time in its interval. -/
def Machine.CanFrame.ok (f : CanFrame) : Bool :=
  decide (f.id < if f.ide then 2 ^ 29 else 2 ^ 11)
    && (if f.fd then !f.rtr && ([0, 1, 2, 3, 4, 5, 6, 7, 8, 12, 16, 20, 24, 32, 48, 64].contains f.data.length)
        else !f.brs && !f.esi && decide (f.data.length ≤ 8))
    && (if f.rtr then f.data == [] && decide (f.dlc < 16) else f.dlc == 0) && decide (f.timeUs < 65536)

/-- A frame on a car link (R349). -/
def Machine.LinkFrame.ok (f : LinkFrame) : Bool := decide (f.etherType < 2 ^ 16) && decide (f.payload.length ≤ 1500)

/-- The fields of a command's header and the payload's LENGTH (R468). -/
def Machine.Cmd.ok (c : Cmd) : Bool :=
  decide (c.tag < 2 ^ 16) && decide (c.target < 2 ^ 8) && decide (c.flags < 2 ^ 8) && decide (c.seq < 2 ^ 32)
    && decide (c.hdrCheck < 2 ^ 16) && decide (c.payCheck < 2 ^ 16) && decide (c.payload.length + c.cut < 2 ^ 16)
    && (c.cut == 0 || decide (16368 < c.payload.length + c.cut))

/-- The fields of a datagram (R473). -/
def Machine.Datagram.ok (d : Datagram) : Bool :=
  decide (d.magic < 2 ^ 16) && decide (d.session < 2 ^ 8) && decide (d.index < 2 ^ 32) && decide (d.mac.length = 32)
    && decide (d.data.length ≤ 1024)

/-- A codeword as it is read (R569): its address, 32 data bytes, 6 check symbols. -/
def Machine.MemWord.ok (m : MemWord) : Bool := decide (m.addr < 2 ^ 25) && decide (m.data.length = 32) && decide (m.check.length = 6)

/-- What the outside gives a frame (R19, R46). -/
def Machine.FrameIn.ok (x : FrameIn) : Bool :=
  decide (x.measured < 2 ^ 32) && (x.outCurrents.all fun q => decide (q.2.2 < 2 ^ 16)) && x.cacheWords.all MemWord.ok

/-- Runs of a field supply (R315, R327): at least one, each of a voltage that FIELD_MV can show. -/
def runsOk (l : List SupplyRun) : Bool := !l.isEmpty && l.all fun x => decide (x.mv < 2 ^ 16)

/-- What the endpoint measures (R355): four stage reports, three acceleration words. -/
def Machine.EndpointIn.ok (x : EndpointIn) : Bool :=
  decide (x.axes.length ≤ 4) && decide (x.accel.length ≤ 6) && decide (x.ports < 8) && decide (x.downToUp < 2 ^ 16)
    && decide (x.vSupply < 2 ^ 16) && decide (x.temp < 2 ^ 16) && decide (x.user.length ≤ 84)

/-- The straps (R450) and the places of damaged data (R590). -/
def Machine.ReleaseIn.ok (x : ReleaseIn) : Bool := decide (x.mode < 4) && x.badEntries.all chanOk

/-- The well-formed commands. -/
def Instr.wf : Instr → Bool
  | .calends x => x.ok
  | .dispatchPass c | .regRetainExpiry c | .coldEvaluation c | .almanacTimer c => chanOk c
  | .terminalRequest i => decide (i < 1024)
  | .laneFilterChange _ _ l | .laneBroken _ _ l => !l.isEmpty
  | .supplyLowChange _ l | .supplyMissing ⟨_, l⟩ | .releaseReady ⟨_, l⟩ => runsOk l
  | .canFrameReceived _ f => f.ok
  | .canFrameSent _ t => decide (t < 65536)
  | .canopenNodeLost _ n => decide (1 ≤ n) && decide (n ≤ 127)
  | .canopenOutRefresh i => decide (i < 512)
  | .uplinkReceived _ f _ => f.ok
  | .endpointDownlink _ _ f _ => f.ok
  | .endpointSample _ x => x.ok
  | .holdRelease c => decide (1 ≤ c) && decide (c ≤ 34)
  | .releaseRecord r => decide (1 ≤ r.cause) && decide (r.cause ≤ 34)
  | .selfCause c => decide (17 ≤ c) && decide (c ≤ 33)
  | .patrolScrub ws => ws.all MemWord.ok
  | .memoryUncorrectable w => w.ok
  | .resetRelease x => x.ok
  | .jobProgress i f c => decide (1 ≤ i) && decide (i < 2 ^ 16) && decide (f ≤ 256) && decide (c < 2 ^ 64)
  | .slotWindowWrite _ o _ => decide (o < 0x4000)
  | .registerWrite _ a _ => decide (a < 0x20000)
  | .netOpen d | .netSlot d | .netAck d | .netClose d => d.ok
  | .netArpIcmp r => decide (r.length ≤ 1514)
  | .fwStageComplete x => decide (x.partner < 256) && decide (x.partnerCopy < 256)
  | .canSendOutcome i => decide (1 ≤ i) && decide (i < 2 ^ 16)
  | .pairSelReport _ x => decide (x.state < 256) && decide (x.progress ≤ 256)
  | .sysNop c | .sysInfo c | .sysJobs c | .frameStatus c | .frameConfig c | .frameResume c | .almWrite c | .almPromote c
  | .almDemote c | .almCommit c | .almDiscard c | .almRead c | .almSave c | .almStatus c | .posConfig c | .posLanding c
  | .posTable c | .posStatus c | .posLearn c | .posCorrect c | .posWipe c | .profConfig c | .profLimits c | .profZone c
  | .profStatus c | .carService c | .carStopAdd c | .carStopRemove c | .carStopList c | .dispConfig c | .dispWeights c
  | .dispTerminal c | .dispRegister c | .dispCancel c | .dispStatus c | .doorConfig c | .doorAxis c | .doorOpen c
  | .doorClose c | .doorStop c | .doorLearn c | .doorStatus c | .safeConfig c | .safeTerminal c | .safeStatus c
  | .safeReset c | .safeBrakeTest c | .bankConfig c | .bankAck c | .bankStatus c | .canConfig c | .canSend c
  | .canCancel c | .canRecover c | .canMap c | .canStatus c | .clConfig c | .clStatus c | .sigLoad c | .sigStart c
  | .sigStop c | .sigUnload c | .sigParam c | .sigStatus c | .sigSpectrum c | .pairConfig c | .pairLeap c
  | .pairStatus c | .ringConfig c | .ringStatus c | .ringRead c | .netConfig c | .fwStage c | .fwActivate c
  | .fwStatus c | .ul40Config c | .ul40Status c | .recRead c | .recAnnotate c | .recExport c | .recStatus c
  | .lifeAdvance c | .lifeStatus c | .lifeProvision c | .lifeAttest c | .lifeCert c => c.ok
  | .controlPlaneOverrun | .sgCycle | .sgClock | .sgSupply | .apsDisagree _ | .apsLost _ | .correctionFailed _
  | .autoCorrect _ | .autoLearn _ | .shaftLearnComplete _ | .stretchSample _ | .relevelDemand _ | .following _
  | .referenceLost _ | .driveStatusLost _ | .driveStartTimeout _ | .settleTimeout _ | .stopComplete _
  | .reversalDwellEnd _ | .doorObstruction _ _ | .doorMoveComplete _ _ | .dwellEnd _ _ | .notClosed _ _
  | .gearSync _ _ | .reportLost _ _ | .loadAngleValid _ _ | .referenceFailed _ _ | .discrepancy _ _ | .source _
  | .xcheck _ | .terminalSpeed _ | .mirror _ _ | .lift _ _ | .darkTest _ _ _ | .brakeTestTimeout _
  | .resetWindowExpiry _ | .safeTimerExpiry _
  | .laneThermalShutdown _ _ | .thermalHoldoffEnd _ _ | .bankRefreshReceived _ _ | .bankLinkFault _
  | .encoderLineFault _ _ | .canTxError _ _ | .canFrameDiscard _ | .canBusOff _ | .canRecoveryComplete _
  | .canIntegrated _ | .protocolException _ | .heartbeatProducer _ | .canopenSync _ | .clPhyLinkChange _ _
  | .clLinkDown _ | .endpointLossLatch _ | .endpointDisable _ | .kernelCyclesStop _ | .bgCycles _ | .handlerCycles _
  | .add _ _ _ _ | .sub _ _ _ _ | .and _ _ _ _ | .or _ _ _ _ | .xor _ _ _ _ | .asr _ _ _ _ | .lsr _ _ _ _
  | .shl _ _ _ _ | .cmp _ _ _ | .abs _ _ _ | .neg _ _ _ | .mov _ _ _ | .movsRead _ _ _ | .movsWrite _ _ _
  | .clsa _ _ _ | .addi _ _ _ | .movi _ _ _ | .movhi _ _ _ | .andi _ _ _ | .cmpi _ _ _ | .ld _ _ | .st _ _ | .mpy _ _
  | .mac _ _ | .msu _ _ | .clra _ _ | .sac _ _ | .sacg _ _ | .lda _ _ | .adda _ _ | .suba _ _ | .bexpclr _ | .b _ _ _
  | .call _ _ _ | .ret _ | .reti _ | .repImm _ _ | .repG _ _ | .kend _ | .yield _ | .nop _ | .rget _ _ | .rput _ _
  | .holdSilence | .coldWaitExpiry | .contention | .contentionTimeout | .pairImagePart _ | .pairDecisionPart _
  | .pairStatePart _ | .vigilLost _ | .eth1LinkLoss _ | .calendsLock _ | .resyncComplete | .watchdog _
  | .reset _ | .brownOut | .powerGood | .firstCalends _ | .secondsTick | .secondsSave
  | .recorderFlush | .ringService _ | .chainTimeout _ | .replyPost _ | .hostStrobeTimeout | .prodWrite _ _
  | .consWrite _ _ | .doorbell _ | .frame0Read | .posLoRead _ | .eventsRead _ | .doorCmdOpen _ _ | .doorCmdClose _ _
  | .doorCmdStop _ _ | .stopCmdAdd _ _ | .stopCmdRemove _ _ | .stopCmdClearTarget _ _ | .serviceCmd _ _
  | .vmaxCmd _ _ | .outWord _ _ | .dwell _ _ | .accessDwell _ _ | .nudgeCount _ _ | .tapInstruction _ | .netResend _
  | .netSessionTimeout _ | .almSaveComplete _ | .canRxError _ _ | .powerStageFault _ _ _ => true

end Sys2Proof
end

