-- ==== Sys2Proof/Safety.lean ====
section
/-! DEFINITION. The terms in which claims about the module are stated: which parts of the state each command may change, what
every reachable state has, and when a mailbox command is accepted. -/

namespace Sys2Proof

open Sys2Proof.Machine

/-- The parts of the state that a command may change. -/
def Instr.parts : Instr → List Part
  | .calends _ => frameParts
  | .controlPlaneOverrun => [.frame, .deferred] ++ lockoutParts
  | .shaftLearnComplete _ => [.cars, .jobs, .sessions, .rings, .irq, .net]
  | .dispatchPass _ => [.free, .deferred]
  | .terminalRequest _ => [.free, .disp, .deferred, .recorder]
  | .regRetainExpiry _ => [.alm]
  | .doorMoveComplete _ _ => [.free, .cars, .recorder]
  | .brakeTestTimeout _ => [.cars, .jobs, .sessions, .rings, .irq, .net, .recorder]
  | .encoderLineFault _ _ => [.image]
  | .canFrameReceived _ _ => [.free, .cars, .buses]
  | .canFrameSent _ _ => [.alm, .cars, .jobs, .sessions, .buses, .rings, .irq, .net]
  | .canopenOutRefresh _ => [.buses, .map]
  | .uplinkReceived _ _ _ => [.links, .recorder]
  | .coldWaitExpiry => [.member, .banks]
  | .holdRelease _ => [.member, .banks, .buses, .recorder]
  | .powerGood => [.straps]
  | .resetRelease _ => startParts
  | .firstCalends _ => [.straps, .fuses] ++ frameParts
  | .secondsTick => [.clock, .member]
  | .secondsSave => [.saveTime]
  | .recorderFlush => [.recorder]
  | .replyPost _ => [.sessions, .rings, .irq, .net]
  | .jobProgress _ _ _ => [.jobs, .sessions, .rings, .irq, .net]
  | .hostStrobeTimeout => [.irq, .window]
  | .frame0Read => [.window]
  | .registerWrite _ _ _ => [.cars, .deferred, .rings, .irq, .window]
  | .tapInstruction _ => [.kernels, .counts]
  | .netOpen _ => [.free, .sources, .sessions, .net, .recorder]
  | .netAck _ => [.sessions, .rings, .irq, .net, .recorder]
  | .netClose _ => [.sources, .sessions, .rings, .net, .recorder]
  | .netResend _ => [.sources, .sessions, .rings, .net]
  | .netSessionTimeout _ => [.sources, .sessions, .rings]
  | .netArpIcmp _ => [.net]
  | .frameStatus _ => .frame :: mailParts
  | .almCommit _ => [.alm, .deferred] ++ mailParts
  | .almSave _ => [.jobs, .saves] ++ mailParts
  | .almSaveComplete _ => [.free, .jobs, .sessions, .saves, .rings, .irq, .net, .stored]
  | .carStopAdd _ => [.cars, .deferred] ++ mailParts
  | .dispRegister _ => [.free, .disp, .deferred, .recorder] ++ mailParts
  | .safeReset _ => .cars :: mailParts
  | .safeBrakeTest _ => [.cars, .jobs] ++ mailParts
  | .sigLoad _ => [.deferred, .kernels] ++ mailParts
  | .fwStage _ => [.jobs, .staging, .firmware] ++ mailParts
  | .fwStageComplete _ => [.jobs, .sessions, .staging, .rings, .irq, .net, .firmware]
  | .fwActivate _ => [.free, .firmware] ++ mailParts
  | .recAnnotate _ => .recorder :: mailParts
  | .recExport _ => [.free, .jobs] ++ mailParts
  | .lifeAdvance _ => [.free, .counts, .life] ++ mailParts
  | .lifeProvision _ => .life :: mailParts
  | .lifeAttest _ => [.free, .leaf] ++ mailParts
  | .coldEvaluation _ | .almanacTimer _ => [.alm, .deferred, .recorder]
  | .canBusOff _ | .canopenNodeLost _ _ => [.buses, .recorder]
  | .clPhyLinkChange _ _ | .clLinkDown _ => [.links]
  | .ringService _ | .netSlot _ => serviceParts
  | .canTxError _ _ | .canFrameDiscard _
  | .canSendOutcome _ => [.alm, .jobs, .sessions, .buses, .rings, .irq, .net, .recorder]
  | .contentionTimeout | .resyncComplete | .selfCause _ => [.member]
  | .frameConfig _ | .pairConfig _ | .netConfig _ => .stored :: mailParts
  | .posTable _ | .fwStatus _ | .lifeCert _ => .free :: mailParts
  | .posLearn _ | .canSend _ | .pairLeap _ => [.deferred, .jobs] ++ mailParts
  | .sgCycle | .sgClock | .sgSupply | .releaseRecord _ => [.member] ++ lockoutParts
  | .holdSilence | .pairImagePart _ | .pairDecisionPart _ | .pairStatePart _ => standbyParts
  | .watchdog _ | .memoryUncorrectable _ | .patrolScrub _ | .reset _ | .brownOut => resetParts
  | .prodWrite _ _ | .consWrite _ _ | .doorbell _ | .slotWindowWrite _ _ _ => [.rings, .irq]
  | .endpointDownlink _ _ _ _ | .endpointSample _ _ | .endpointLossLatch _ | .endpointDisable _
  | .powerStageFault _ _ _ => [.ends]
  | .contention | .vigilLost _ | .eth1LinkLoss _ | .calendsLock _ | .pairSelReport _ _ => [.member, .recorder]
  | .canRecoveryComplete _ | .canIntegrated _ | .protocolException _ | .heartbeatProducer _ | .canopenSync _
  | .canRxError _ _ => [.buses]
  | .discrepancy _ _ | .source _ | .xcheck _ | .terminalSpeed _ | .mirror _ _ | .lift _ _
  | .darkTest _ _ _ => lockoutParts
  | .bankLinkFault _ | .laneFilterChange _ _ _ | .laneBroken _ _ _ | .supplyLowChange _ _ | .supplyMissing _ | .releaseReady _
  | .safeTimerExpiry _ | .laneThermalShutdown _ _ | .thermalHoldoffEnd _ _ | .bankRefreshReceived _ _ => [.banks]
  | .autoCorrect _ | .autoLearn _ | .relevelDemand _ | .stopComplete _ | .reversalDwellEnd _ | .dwellEnd _ _
  | .loadAngleValid _ _ | .resetWindowExpiry _ | .posLoRead _ | .eventsRead _ => [.cars]
  | .doorCmdOpen _ _ | .doorCmdClose _ _ | .doorCmdStop _ _ | .stopCmdAdd _ _ | .stopCmdRemove _ _
  | .stopCmdClearTarget _ _ | .serviceCmd _ _ | .vmaxCmd _ _ | .outWord _ _ | .dwell _ _ | .accessDwell _ _
  | .nudgeCount _ _ => [.cars, .deferred]
  | .apsDisagree _ | .apsLost _ | .correctionFailed _ | .stretchSample _ | .following _ | .referenceLost _
  | .driveStatusLost _ | .driveStartTimeout _ | .settleTimeout _ | .doorObstruction _ _ | .notClosed _ _
  | .gearSync _ _ | .reportLost _ _ | .referenceFailed _ _ => [.cars, .recorder]
  | .chainTimeout _ | .sysNop _ | .sysInfo _ | .sysJobs _ | .almWrite _ | .almPromote _ | .almDemote _
  | .almDiscard _ | .almRead _ | .almStatus _ | .posStatus _ | .profStatus _ | .carStopList _ | .dispStatus _
  | .doorStatus _ | .safeStatus _ | .bankStatus _ | .canStatus _ | .clStatus _ | .sigStatus _ | .sigSpectrum _
  | .pairStatus _ | .ringStatus _ | .ringRead _ | .ul40Status _ | .recRead _ | .recStatus _
  | .lifeStatus _ => mailParts
  | .frameResume _ | .posConfig _ | .posLanding _ | .posCorrect _ | .posWipe _ | .profConfig _ | .profLimits _
  | .profZone _ | .carService _ | .carStopRemove _ | .dispConfig _ | .dispWeights _ | .dispTerminal _ | .dispCancel _
  | .doorConfig _ | .doorAxis _ | .doorOpen _ | .doorClose _ | .doorStop _ | .doorLearn _ | .safeConfig _
  | .safeTerminal _ | .bankConfig _ | .bankAck _ | .canConfig _ | .canCancel _ | .canRecover _ | .canMap _
  | .clConfig _ | .sigStart _ | .sigStop _ | .sigUnload _ | .sigParam _ | .ringConfig _
  | .ul40Config _ => .deferred :: mailParts
  | .kernelCyclesStop _ | .bgCycles _ | .handlerCycles _ | .add _ _ _ _ | .sub _ _ _ _ | .and _ _ _ _ | .or _ _ _ _
  | .xor _ _ _ _ | .asr _ _ _ _ | .lsr _ _ _ _ | .shl _ _ _ _ | .cmp _ _ _ | .abs _ _ _ | .neg _ _ _ | .mov _ _ _
  | .movsRead _ _ _ | .movsWrite _ _ _ | .clsa _ _ _ | .addi _ _ _ | .movi _ _ _ | .movhi _ _ _ | .andi _ _ _
  | .cmpi _ _ _ | .ld _ _ | .st _ _ | .mpy _ _ | .mac _ _ | .msu _ _ | .clra _ _ | .sac _ _ | .sacg _ _ | .lda _ _
  | .adda _ _ | .suba _ _ | .bexpclr _ | .b _ _ _ | .call _ _ _ | .ret _ | .reti _ | .repImm _ _ | .repG _ _
  | .kend _ | .yield _ | .nop _ | .rget _ _ | .rput _ _ => engineParts

/-- The commands of R484: what the row means, and the command it carries. -/
def Instr.mail : Instr → Option (CmdDef × Cmd)
  | .sysNop c => some (sysNopDef, c)
  | .sysInfo c => some (sysInfoDef, c)
  | .sysJobs c => some (sysJobsDef, c)
  | .frameStatus c => some (frameStatusDef, c)
  | .frameConfig c => some (frameConfigDef, c)
  | .frameResume c => some (frameResumeDef, c)
  | .almWrite c => some (almWriteDef, c)
  | .almPromote c => some ((almMoveDef 0x0311 true), c)
  | .almDemote c => some ((almMoveDef 0x0312 false), c)
  | .almCommit c => some (almCommitDef, c)
  | .almDiscard c => some (almDiscardDef, c)
  | .almRead c => some (almReadDef, c)
  | .almSave c => some (almSaveDef, c)
  | .almStatus c => some (almStatusDef, c)
  | .posConfig c => some (posConfigDef, c)
  | .posLanding c => some (posLandingDef, c)
  | .posTable c => some (posTableDef, c)
  | .posStatus c => some (posStatusDef, c)
  | .posLearn c => some (posLearnDef, c)
  | .posCorrect c => some (posCorrectDef, c)
  | .posWipe c => some (posWipeDef, c)
  | .profConfig c => some (profConfigDef, c)
  | .profLimits c => some (profLimitsDef, c)
  | .profZone c => some (profZoneDef, c)
  | .profStatus c => some (profStatusDef, c)
  | .carService c => some (carServiceDef, c)
  | .carStopAdd c => some (carStopAddDef, c)
  | .carStopRemove c => some (carStopRemoveDef, c)
  | .carStopList c => some (carStopListDef, c)
  | .dispConfig c => some (dispConfigDef, c)
  | .dispWeights c => some (dispWeightsDef, c)
  | .dispTerminal c => some (dispTerminalDef, c)
  | .dispRegister c => some (dispRegisterDef, c)
  | .dispCancel c => some (dispCancelDef, c)
  | .dispStatus c => some (dispStatusDef, c)
  | .doorConfig c => some (doorConfigDef, c)
  | .doorAxis c => some (doorAxisDef, c)
  | .doorOpen c => some (doorOpenDef, c)
  | .doorClose c => some (doorCloseDef, c)
  | .doorStop c => some (doorStopDef, c)
  | .doorLearn c => some (doorLearnDef, c)
  | .doorStatus c => some (doorStatusDef, c)
  | .safeConfig c => some (safeConfigDef, c)
  | .safeTerminal c => some (safeTerminalDef, c)
  | .safeStatus c => some (safeStatusDef, c)
  | .safeReset c => some (safeResetDef, c)
  | .safeBrakeTest c => some (safeBrakeTestDef, c)
  | .bankConfig c => some (bankConfigDef, c)
  | .bankAck c => some (bankAckDef, c)
  | .bankStatus c => some (bankStatusDef, c)
  | .canConfig c => some (canConfigDef, c)
  | .canSend c => some (canSendDef, c)
  | .canCancel c => some (canCancelDef, c)
  | .canRecover c => some (canRecoverDef, c)
  | .canMap c => some (canMapDef, c)
  | .canStatus c => some (canStatusDef, c)
  | .clConfig c => some (clConfigDef, c)
  | .clStatus c => some (clStatusDef, c)
  | .sigLoad c => some (sigLoadDef, c)
  | .sigStart c => some (sigStartDef, c)
  | .sigStop c => some (sigStopDef, c)
  | .sigUnload c => some (sigUnloadDef, c)
  | .sigParam c => some (sigParamDef, c)
  | .sigStatus c => some (sigStatusDef, c)
  | .sigSpectrum c => some (sigSpectrumDef, c)
  | .pairConfig c => some (pairConfigDef, c)
  | .pairLeap c => some (pairLeapDef, c)
  | .pairStatus c => some (pairStatusDef, c)
  | .ringConfig c => some (ringConfigDef, c)
  | .ringStatus c => some (ringStatusDef, c)
  | .ringRead c => some (ringReadDef, c)
  | .netConfig c => some (netConfigDef, c)
  | .fwStage c => some (fwStageDef, c)
  | .fwActivate c => some (fwActivateDef, c)
  | .fwStatus c => some (fwStatusDef, c)
  | .ul40Config c => some (ul40ConfigDef, c)
  | .ul40Status c => some (ul40StatusDef, c)
  | .recRead c => some (recReadDef, c)
  | .recAnnotate c => some (recAnnotateDef, c)
  | .recExport c => some (recExportDef, c)
  | .recStatus c => some (recStatusDef, c)
  | .lifeAdvance c => some (lifeAdvanceDef, c)
  | .lifeStatus c => some (lifeStatusDef, c)
  | .lifeProvision c => some (lifeProvisionDef, c)
  | .lifeAttest c => some (lifeAttestDef, c)
  | .lifeCert c => some (lifeCertDef, c)
  | .calends _ | .controlPlaneOverrun | .sgCycle | .sgClock | .sgSupply | .apsDisagree _ | .apsLost _
  | .correctionFailed _ | .autoCorrect _ | .autoLearn _ | .shaftLearnComplete _ | .stretchSample _ | .relevelDemand _
  | .following _ | .referenceLost _ | .driveStatusLost _ | .driveStartTimeout _ | .settleTimeout _ | .stopComplete _
  | .reversalDwellEnd _ | .dispatchPass _ | .terminalRequest _ | .regRetainExpiry _ | .coldEvaluation _
  | .almanacTimer _ | .doorObstruction _ _ | .doorMoveComplete _ _ | .dwellEnd _ _ | .notClosed _ _ | .gearSync _ _
  | .reportLost _ _ | .loadAngleValid _ _ | .referenceFailed _ _ | .discrepancy _ _ | .source _ | .xcheck _
  | .terminalSpeed _ | .mirror _ _ | .lift _ _ | .darkTest _ _ _ | .brakeTestTimeout _ | .resetWindowExpiry _
  | .laneFilterChange _ _ _ | .laneBroken _ _ _ | .supplyLowChange _ _ | .supplyMissing _ | .releaseReady _
  | .safeTimerExpiry _ | .laneThermalShutdown _ _ | .thermalHoldoffEnd _ _ | .bankRefreshReceived _ _
  | .bankLinkFault _ | .encoderLineFault _ _ | .canFrameReceived _ _ | .canFrameSent _ _ | .canTxError _ _
  | .canFrameDiscard _ | .canBusOff _ | .canRecoveryComplete _ | .canIntegrated _ | .protocolException _
  | .heartbeatProducer _ | .canopenSync _ | .canopenNodeLost _ _ | .canopenOutRefresh _ | .uplinkReceived _ _ _
  | .clPhyLinkChange _ _ | .clLinkDown _ | .endpointDownlink _ _ _ _ | .endpointSample _ _ | .endpointLossLatch _
  | .endpointDisable _ | .kernelCyclesStop _ | .bgCycles _ | .handlerCycles _ | .add _ _ _ _ | .sub _ _ _ _
  | .and _ _ _ _ | .or _ _ _ _ | .xor _ _ _ _ | .asr _ _ _ _ | .lsr _ _ _ _ | .shl _ _ _ _ | .cmp _ _ _ | .abs _ _ _
  | .neg _ _ _ | .mov _ _ _ | .movsRead _ _ _ | .movsWrite _ _ _ | .clsa _ _ _ | .addi _ _ _ | .movi _ _ _
  | .movhi _ _ _ | .andi _ _ _ | .cmpi _ _ _ | .ld _ _ | .st _ _ | .mpy _ _ | .mac _ _ | .msu _ _ | .clra _ _
  | .sac _ _ | .sacg _ _ | .lda _ _ | .adda _ _ | .suba _ _ | .bexpclr _ | .b _ _ _ | .call _ _ _ | .ret _ | .reti _
  | .repImm _ _ | .repG _ _ | .kend _ | .yield _ | .nop _ | .rget _ _ | .rput _ _ | .holdSilence | .coldWaitExpiry
  | .contention | .contentionTimeout | .holdRelease _ | .releaseRecord _ | .pairImagePart _ | .pairDecisionPart _
  | .pairStatePart _ | .vigilLost _ | .eth1LinkLoss _ | .calendsLock _ | .resyncComplete | .selfCause _ | .watchdog _
  | .memoryUncorrectable _ | .patrolScrub _ | .reset _ | .brownOut | .powerGood | .resetRelease _ | .firstCalends _
  | .secondsTick | .secondsSave | .recorderFlush | .ringService _ | .chainTimeout _ | .replyPost _
  | .jobProgress _ _ _ | .hostStrobeTimeout | .prodWrite _ _ | .consWrite _ _ | .doorbell _ | .slotWindowWrite _ _ _
  | .frame0Read | .registerWrite _ _ _ | .posLoRead _ | .eventsRead _ | .doorCmdOpen _ _ | .doorCmdClose _ _
  | .doorCmdStop _ _ | .stopCmdAdd _ _ | .stopCmdRemove _ _ | .stopCmdClearTarget _ _ | .serviceCmd _ _
  | .vmaxCmd _ _ | .outWord _ _ | .dwell _ _ | .accessDwell _ _ | .nudgeCount _ _ | .tapInstruction _ | .netOpen _
  | .netSlot _ | .netAck _ | .netClose _ | .netResend _ | .netSessionTimeout _ | .netArpIcmp _ | .almSaveComplete _
  | .canSendOutcome _ | .fwStageComplete _ | .canRxError _ _ | .pairSelReport _ _ | .powerStageFault _ _ _ => none

namespace Machine

/-- What every state has that the module can reach: at most eight fuses of a group are blown and LIFE is what they say
(R552, R584); EPOCH has 24 bits (R593); the straps of a running module are ones under which it runs (R451, R550, R587); and a module without a running
control plane takes no part in the pair (R415). -/
structure Sound (s : State) : Prop where
  fuses   : ∀ g : Fin 4, s.nv.groups[g.val] ≤ 8
  epoch   : s.nv.epoch ≤ 0xFFFFFF
  life    : s.boot.life = lifeOf s.nv.groups
  straps  : s.boot.mode < 4
  started : s.boot.phase = .running ∨ s.boot.phase = .ready →
    s.boot.scanEn = false ∧ (s.boot.mode = 3 → s.boot.life = .returned) ∧ s.boot.life ≠ .retired
  retired : s.boot.phase = .retired → s.boot.life = .retired
  member  : s.boot.phase ≠ .running → s.mem.state = .starting

/-- A command is consumed (R485): its SEQUENCE, its checks and, until it is answered, STATUS OK are kept for its source. -/
def State.consumed (c : Cmd) (s : State) : State :=
  s.modSource c.src fun x => { x with last := some c.seq, lastHdr := c.hdrCheck, lastPay := c.payCheck, lastStatus := 0 }

/-- An accepted command is counted (R480). -/
def State.counted (c : Cmd) (s : State) : State := s.modSource c.src fun x => { x with accepted := satInc 32 x.accepted }

/-- A copy of the last consumed command (R486). -/
def Cmd.repeats (c : Cmd) (s : State) : Prop :=
  s.grp.sources[c.src.val].last = some c.seq ∧ s.grp.sources[c.src.val].lastHdr = c.hdrCheck
    ∧ s.grp.sources[c.src.val].lastPay = c.payCheck

/-- The command carries the next SEQUENCE of its source, or the first one (R485). -/
def Cmd.inOrder (c : Cmd) (s : State) : Prop :=
  ∀ l, s.grp.sources[c.src.val].last = some l → c.seq = (l + 1) % 2 ^ 32

/-- A command of row `d` reaches tests 7 to 10 of R487: its source is open, its header and payload pass their checks, it is the
next of its source and no copy, the life cycle allows it, and its header and payload have the form that its row asks for. -/
structure Judged (d : CmdDef) (c : Cmd) (s : State) : Prop where
  takes   : s.takes c.src = true
  header  : c.hdrCheck = crc16 (c.header d.opcode)
  new     : ¬ c.repeats s
  order   : c.inOrder s
  life    : lifeAllows s.boot.life d.opcode = true
  whole   : c.cut = 0
  check   : c.payCheck = crc16 c.payload
  len     : d.len c.payload.length = true
  chain   : c.payload.length ≤ 16368
  target  : headerBad s c = none
  form    : d.form (future (s.consumed c)) c.payload = none

/-- The answer to an accepted command: it is counted, and its final reply posted (R491). -/
def State.answer (opcode : Nat) (c : Cmd) (status : Nat) (p : List Byte) (s : State) : State :=
  (s.counted c).replyTo opcode c status p

/-- An accepted command whose effect waits for the next Calends (R28): it joins what takes effect there, and is answered OK
without a payload. -/
def State.staged (opcode : Nat) (c : Cmd) (s : State) : State :=
  ((s.consumed c).stage (.cmd opcode c.payload)).answer opcode c stOk []

end Machine

end Sys2Proof
end

