-- ==== Sys2Proof/Certificates/Slice0/Obligations.lean ====
section
/-! DEFINITION. The statements about the module, for the provers. -/

open Sys2Proof Sys2Proof.Machine

/-- A step takes the command at the front of the queue and does what it does to the state with the queue's rest; on an empty
queue the block idles (log 1, the model's choice). -/
def Obligations.StepRunsFront : Prop :=
  (∀ (c : Instr) (rest : List Instr) (s : State), step { s with pending := c :: rest } = exec c { s with pending := rest })
  ∧ ∀ s : State, s.pending = [] → step s = .next s

/-- Every command answers a next state in every state, but for a private test mode of the TAP while the life cycle lets the TAP
obey it (R549): that one the spec does not describe. -/
def Obligations.OnlyPrivateTestStops : Prop :=
  ∀ (i : Instr) (s : State),
    (i = .tapInstruction .privateMode ∧ s.boot.phase ≠ .off ∧ (s.boot.life = .maker ∨ s.boot.life = .returned) →
      exec i s = .refused .privateTest)
    ∧ (¬ (i = .tapInstruction .privateMode ∧ s.boot.phase ≠ .off ∧ (s.boot.life = .maker ∨ s.boot.life = .returned)) →
      ∃ t, exec i s = .next t)

/-- The frame of every command: what it answers has the queue's rest as it was, and every part of the state that the command does
not name is unchanged. -/
def Obligations.Footprint : Prop :=
  ∀ (i : Instr) (s t : State), exec i s = .next t → t.pending = s.pending ∧ ∀ p : Part, p ∉ i.parts → p.same s t

/-- The parts are all of the state: two states that agree in every part and in the queue are one state. -/
def Obligations.PartsAreTheState : Prop :=
  ∀ s t : State, s.pending = t.pending → (∀ p : Part, p.same s t) → s = t

/-- Every step keeps what every reachable state has: no fuse group beyond eight, LIFE as the fuses say, the straps of a running
module ones under which it runs, and no pair state without a running control plane. -/
def Obligations.SoundKept : Prop :=
  ∀ s t : State, Sound s → step s = .next t → Sound t

/-- The state at power-on is sound. -/
def Obligations.ResetSound : Prop := Sound State.reset

/-- Nothing takes back what fuses and NAND have counted: no step lowers a fuse group, the fused security version or EPOCH, and
a module once RETIRED stays RETIRED. -/
def Obligations.NothingUnblown : Prop :=
  ∀ s t : State, Sound s → step s = .next t →
    (∀ g : Fin 4, s.nv.groups[g.val] ≤ t.nv.groups[g.val]) ∧ s.nv.security ≤ t.nv.security ∧ s.nv.epoch ≤ t.nv.epoch
      ∧ (s.boot.life = .retired → t.boot.life = .retired)

/-- POWER_GOOD ends the module's own reset hold; RESET_RELEASE samples the straps, carries out a pending transition, counts EPOCH
and comes to the phase that the start-up steps say, and one that loses power in a transition leaves the old state or the new one
(R574); FIRST_CALENDS starts the control plane at frame 0, and a member of a pair
that starts as a standby is SYNCING. -/
def Obligations.StartUp : Prop :=
  (∀ s : State, s.boot.phase = .off → ∃ t, exec .powerGood s = .next t ∧ t.boot = { s.boot with phase := .powered })
  ∧ (∀ (x : ReleaseIn) (s : State), s.boot.phase = .powered → x.cut = none →
      ∃ t, exec (.resetRelease x) s = .next t
        ∧ t.boot.mode = x.mode % 4 ∧ t.boot.pairSel = x.pairSel ∧ t.boot.scanEn = x.scanEn
        ∧ t.nv.groups = s.nv.transit.groups ∧ t.nv.pendingLife = none ∧ t.boot.life = lifeOf t.nv.groups
        ∧ t.nv.epoch = min 0xFFFFFF (s.nv.epoch + 1) ∧ t.boot.nextQ = 1024 * t.nv.attestBlocks
        ∧ t.grp.seconds = s.nv.transit.restoredSeconds
        ∧ t.boot.phase =
            (if x.fuseMismatch then .stopped 1
             else if x.scanEn then .scanHold
             else if x.mode % 4 = 3 ∧ t.boot.life ≠ .returned then .refused
             else match s.nv.transit.pickCopy x with
               | none => .stopped 2
               | some _ => if x.scrubBad then .stopped 3 else if t.boot.life = .retired then .retired else .ready))
  ∧ (∀ (x : ReleaseIn) (n : Nat) (s : State), s.boot.phase = .powered → x.cut = some n →
      ∃ t, exec (.resetRelease x) s = .next t ∧ t.boot.phase = .off ∧ t.boot.life = lifeOf t.nv.groups
        ∧ (t.boot.life = lifeOf s.nv.groups ∨ s.nv.pendingLife.map (fun q => q.1) = some t.boot.life)
        ∧ (∀ g : Fin 4, s.nv.groups[g.val] ≤ t.nv.groups[g.val]) ∧ t.grp = s.grp ∧ t.nv.epoch = s.nv.epoch)
  ∧ ∀ (h : Bool) (s : State), s.boot.phase = .ready →
      ∃ t, exec (.firstCalends h) s = .next t ∧ t.boot.phase = .running ∧ t.boot.mode = s.boot.mode ∧ t.boot.life = s.boot.life
        ∧ t.grp.frame = 0 ∧ t.nv.security = max s.nv.security s.boot.security
        ∧ (s.boot.pair.paired = true → (s.boot.pairSel = true ∨ h = true) → s.boot.heldKind = 0 → t.mem.state = .syncing)

/-- One sample of the counter filter of R302: the counter and the filtered state, under a limit. -/
def filterStep (limit : Nat) (q : Nat × Bool) (up : Bool) : Nat × Bool :=
  let n := if up then min (q.1 + 1) limit else q.1 - 1
  (n, if n = limit then true else if n = 0 then false else q.2)

/-- A sample is ON (R300, R306): above the rising threshold, or above the falling one while the filtered state is 1; of the
current on a lane with WIRE_BREAK, else of the voltage by the lane's type. -/
def sampleOn (b : BankId) (l : LaneId) (y : Lane) (was : Bool) (x : Sample) : Bool :=
  let q : Int × Limit × Limit :=
    if y.wireBreak then (x.ua, .onRise, .onFall) else if y.type3 then (x.mv, .rise3, .fall3) else (x.mv, .rise1, .fall1)
  decide ((limitAt b l.val q.2.1 : Int) < q.1) || (was && decide ((limitAt b l.val q.2.2 : Int) < q.1))

/-- A lane after samples (R301, R302, R306, R307): an input lane behind an open gate counts them, any other lane is as it was. -/
def laneAfter (b : BankId) (l : LaneId) (gate : Bool) (y : Lane) (xs : List Sample) : Lane :=
  if y.use = .input ∧ 0 < y.limit ∧ gate = true then
    let q := xs.foldl (fun q x => filterStep y.limit q (sampleOn b l y q.2 x)) (y.count, y.filtered)
    let w := if y.wireBreak then
        xs.foldl (fun q x => filterStep y.limit q (decide ((x.ua : Int) < limitAt b l.val .broken))) (y.wireCount, y.broken)
      else (y.wireCount, y.broken)
    { y with count := q.1, filtered := q.2, wireCount := w.1, broken := w.2,
             curSum := xs.foldl (fun n x => n + x.ua) y.curSum, curN := y.curN + xs.length }
  else y

/-- LANE_FILTER_CHANGE and LANE_BROKEN (R300–R302, R306, R307) answer, whenever the banks have power, the state in which the lane has
counted the samples that the row brings and nothing else is changed, and without power the state as it was. So LIMIT samples in a
row above every tolerance of the thresholds turn a lane's filtered state on, LIMIT below every tolerance turn it off, and LIMIT
below 0.15 mA make a lane with WIRE_BREAK BROKEN, whatever the counters were. Where a threshold lies within its tolerance is the
implementation's own (log 360). -/
def Obligations.LaneCountersFollowSamples : Prop :=
  (∀ (b : BankId) (l : LaneId) (xs : List Sample) (s : State), ∀ i ∈ [Instr.laneFilterChange b l xs, .laneBroken b l xs],
      (s.boot.phase ≠ .off →
        let k := s.io.banks[b.val]
        let after := k.lanes.set l.val (laneAfter b l k.gateOpen k.lanes[l.val] xs)
        exec i s = .next { s with io := { s.io with banks := s.io.banks.set b.val { k with lanes := after } } })
      ∧ (s.boot.phase = .off → exec i s = .next s))
  ∧ (∀ (b : BankId) (l : LaneId) (y : Lane) (xs : List Sample), y.use = .input → 0 < y.limit → y.count ≤ y.limit →
      xs.length = y.limit →
      ((∀ x ∈ xs, 14500 < x.mv ∧ 2000 < x.ua) →
        (laneAfter b l true y xs).filtered = true ∧ (laneAfter b l true y xs).count = y.limit)
      ∧ ((∀ x ∈ xs, x.mv ≤ 6000 ∧ x.ua ≤ 1400) →
        (laneAfter b l true y xs).filtered = false ∧ (laneAfter b l true y xs).count = 0)
      ∧ ((∀ x ∈ xs, x.ua < 150) → y.wireBreak = true → y.wireCount ≤ y.limit → (laneAfter b l true y xs).broken = true))

/-- A bank after a run of its field supply (R315–R317): below the LOW falling threshold for the LOW time it is SUPPLY_LOW, at or
above both LOW thresholds for that time no longer, and ready after the good time; below the MISSING threshold for the detection
time every output is off and SUPPLY_MISSING latched. -/
def supplyAfter (b : BankId) (k : Bank) (x : SupplyRun) : Bank :=
  let low := if limitAt b 8 .lowFall ≤ x.mv then 0 else k.lowUs + x.us
  let good := if limitAt b 8 .lowRise ≤ x.mv ∧ limitAt b 8 .lowFall ≤ x.mv then k.goodUs + x.us else 0
  let miss := if limitAt b 8 .missing ≤ x.mv then 0 else k.missUs + x.us
  let gone := decide (miss ≠ 0) && decide (limitAt b 8 .missTime ≤ miss)
  { k with
    fieldMv := x.mv, lowUs := low, goodUs := if gone then 0 else good, missUs := miss,
    supplyLow := if limitAt b 8 .lowTime ≤ low then true else if limitAt b 8 .lowTime ≤ good then false else k.supplyLow,
    supplyReady := !gone && decide (limitAt b 8 .goodTime ≤ good), supplyMissing := k.supplyMissing || gone,
    lanes := if gone then k.lanes.map fun y => { y with driven := false } else k.lanes }

/-- The field supply of a bank (R315–R317) and its report (R321): the three supply rows answer the state in which the bank has
measured the runs that they bring; 2.1 ms below 18.2 V set SUPPLY_LOW, as long at 19.3 V or more end it, 52 ms of that make the
bank ready, and 50 µs below 11.5 V turn every output off and latch SUPPLY_MISSING. A failed link makes the next two reports fail,
which leave the lane values as they were and the second of which sets BANK_LINK_FAULT, and an encoder input shows its line fault
(R104). -/
def Obligations.BankSupplies : Prop :=
  (∀ (b : BankId) (xs : List SupplyRun) (s : State), s.boot.phase ≠ .off →
      ∀ i ∈ [Instr.supplyLowChange b xs, .supplyMissing ⟨b, xs⟩, .releaseReady ⟨b, xs⟩],
        exec i s = .next { s with io := { s.io with banks := s.io.banks.set b.val (xs.foldl (supplyAfter b) s.io.banks[b.val]) } })
  ∧ (∀ (b : BankId) (k : Bank) (x : SupplyRun),
      (x.mv < 18200 → 2100 ≤ x.us → (supplyAfter b k x).supplyLow = true)
      ∧ (19300 ≤ x.mv → 2100 ≤ x.us → (supplyAfter b k x).supplyLow = false)
      ∧ (19300 ≤ x.mv → 52000 ≤ x.us → (supplyAfter b k x).supplyReady = true)
      ∧ (x.mv < 19300 → x.mv < 18200 → (supplyAfter b k x).supplyReady = false)
      ∧ (x.mv < 11500 → 50 ≤ x.us → (supplyAfter b k x).supplyMissing = true ∧ (supplyAfter b k x).supplyReady = false
          ∧ ∀ l : LaneId, (supplyAfter b k x).lanes[l.val] = { k.lanes[l.val] with driven := false })
      ∧ (12500 ≤ x.mv → (supplyAfter b k x).supplyMissing = k.supplyMissing ∧ (supplyAfter b k x).lanes = k.lanes))
  ∧ (∀ (b : BankId) (s : State), s.running = true → ∃ t, exec (.bankLinkFault b) s = .next t
      ∧ 2 ≤ t.io.banks[b.val].badReports + t.io.banks[b.val].failing ∧ t.io.image = s.io.image
      ∧ t.io.banks[b.val].badReports = s.io.banks[b.val].badReports ∧ t.io.banks[b.val].lanes = s.io.banks[b.val].lanes)
  ∧ (∀ (x : FrameIn) (us : Nat) (b : BankId) (k : Bank) (old : BankImage), k.failing ≠ 0 →
      (k.latch x us b old).1.badReports = k.badReports + 1 ∧ (k.latch x us b old).1.failing = k.failing - 1
      ∧ (k.latch x us b old).1.linkErrors = satInc 32 k.linkErrors ∧ (k.latch x us b old).1.lanes = k.lanes
      ∧ (k.latch x us b old).2 =
          { old with linkFault := k.linkFault || decide (1 ≤ k.badReports), linkErrors := satInc 32 k.linkErrors })
  ∧ ∀ (e : Fin 8) (bad : Bool) (s : State), s.running = true → ∃ t, exec (.encoderLineFault e bad) s = .next t
      ∧ ∀ e' : Fin 8, t.io.encFault[e'.val] = if e' = e then bad else s.io.encFault[e'.val]

/-- The outputs of a bank (R309, R310, R312, R319–R321, R324): a safe-state timer that expires puts every output lane that no safety
set holds in its SAFE_STATE and turns off those that one holds, and one that expires again while latched begins the 50 ms of its
release anew; a thermal shutdown turns the lane off and latches it; when the 1,000 ms end, every lane of the group whose command
has since been off and on drives again unless the bank's outputs are latched off, and one that waits still stays off; a valid
refresh restarts the timer and drives the committed command, ends a THERMAL latch only where the outputs are not latched off, and
one whose check fails is counted and changes nothing else. -/
def Obligations.BankOutputs : Prop :=
  (∀ (b : BankId) (s : State), s.boot.phase ≠ .off →
      (s.running = true → 950 * s.io.banks[b.val].safeTimerMs ≤ (s.io.banks[b.val].sinceRefresh + 1) * s.grp.frameLen.us) →
      ∃ t, exec (.safeTimerExpiry b) s = .next t ∧ t.io.banks[b.val].timerExpired = true ∧ t.io.banks[b.val].refreshRun = 0
        ∧ (s.io.banks[b.val].timerExpired = true → t.io.banks[b.val].lanes = s.io.banks[b.val].lanes)
        ∧ (s.io.banks[b.val].timerExpired = false → ∀ l : LaneId,
            let y := s.io.banks[b.val].lanes[l.val]
            t.io.banks[b.val].lanes[l.val] = { y with driven :=
              if s.io.banks[b.val].supplyMissing || !s.io.banks[b.val].gateOpen || y.thermal || y.use != .output
                  || (laneOwner s.grp.alm s.grp.cars b l).isSome then false
              else if y.safeState = 1 then true else if y.safeState = 2 then y.command else false }))
  ∧ (∀ (b : BankId) (l : LaneId) (s : State), s.boot.phase ≠ .off → s.io.banks[b.val].lanes[l.val].use = .output →
      ∃ t, exec (.laneThermalShutdown b l) s = .next t
        ∧ t.io.banks[b.val].lanes[l.val].driven = false ∧ t.io.banks[b.val].lanes[l.val].thermal = true
        ∧ t.io.banks[b.val].lanes[l.val].thermalOff = false ∧ t.io.banks[b.val].lanes[l.val].thermalOn = false
        ∧ t.io.banks[b.val].thermalEvents = satInc 32 s.io.banks[b.val].thermalEvents)
  ∧ (∀ (b : BankId) (l : LaneId) (s : State), s.boot.phase ≠ .off →
      (s.running = true → 1000000 ≤ (s.io.banks[b.val].lanes[l.val].sinceShut + 1) * s.grp.frameLen.us) →
      let k := s.io.banks[b.val]
      let blocked := k.supplyMissing || k.timerExpired || !k.gateOpen
      ∃ t, exec (.thermalHoldoffEnd b l) s = .next t
        ∧ ∀ m : LaneId, t.io.banks[b.val].lanes[m.val] =
            let y := k.lanes[m.val]
            if sameGroup k.lanes[l.val].parallel l m && y.thermal then
              (if y.thermalOff && y.thermalOn && y.command && !blocked then
                { y with holdoffEnd := true, thermal := false, driven := true }
              else { y with holdoffEnd := true })
            else y)
  ∧ ∀ (b : BankId) (good : Bool) (s : State), s.running = true →
      ∃ t, exec (.bankRefreshReceived b good) s = .next t
        ∧ (good = false → t.io.banks[b.val] =
            { s.io.banks[b.val] with linkErrors := satInc 32 s.io.banks[b.val].linkErrors })
        ∧ (good = true → t.io.banks[b.val].sinceRefresh = 0 ∧
            ∀ l : LaneId,
              let k := s.io.banks[b.val]
              let y := k.lanes[l.val]
              let z := t.io.banks[b.val].lanes[l.val]
              let blocked := k.supplyMissing || k.timerExpired || !k.gateOpen
              z.command = (y.use == .output && y.committed)
              ∧ (y.thermal = false → z.driven = if blocked then y.driven else z.command)
              ∧ (y.thermal = true →
                  z.thermal = !(z.command && y.thermalOff && y.holdoffEnd && !blocked)
                  ∧ z.driven = if z.thermal then y.driven else true))

/-- What reaches a CAN controller (R329, R331, R332, R342, R344): a frame that completes without error is counted, lowers REC by
one or takes it from above 127 to a value of 119 to 127, ends a lonely bus, and waits for the image with at most seven others
unless it is a PAIR_DUP frame of the group; a receive error raises REC by 1, or by 9 when the module is the first to see it,
and by 8 for each further 8 dominant bits (log 30, PRESUMED); a protocol exception is counted; integration ends, and recovery
once 128 times 11 recessive bits may have passed. -/
def Obligations.CanReceives : Prop :=
  (∀ (b : BusId) (f : CanFrame) (s : State), s.running = true → s.io.buses[b.val].live = true →
      (f.fd = true → s.io.buses[b.val].cfg.fdEnable = true) →
      ∃ t, exec (.canFrameReceived b f) s = .next t ∧
        let x := s.io.buses[b.val]
        let y := t.io.buses[b.val]
        y.rxFrames = satInc 32 x.rxFrames ∧ y.lonely = false ∧ y.ackRun = 0 ∧ y.queue = x.queue ∧ y.tec = x.tec
        ∧ (x.recv ≤ 127 → y.recv = x.recv - 1) ∧ (127 < x.recv → 119 ≤ y.recv ∧ y.recv ≤ 127)
        ∧ (s.ownDup b f = false → y.received = (x.received ++ [{ f with data := f.data.take 64 }]).take 8)
        ∧ (s.ownDup b f = true → y.received = x.received)
        ∧ y.errorState = if 127 < y.tec ∨ 127 < y.recv then .passive else .active)
  ∧ (∀ (b : BusId) (primary : Bool) (more : Nat) (s : State), s.running = true → s.io.buses[b.val].live = true →
      ∃ t, exec (.canRxError b ⟨primary, more⟩) s = .next t
        ∧ t.io.buses[b.val].recv = min 255 (s.io.buses[b.val].recv + (if primary then 9 else 1) + 8 * more)
        ∧ t.io.buses[b.val].errorState =
            (if 127 < t.io.buses[b.val].tec ∨ 127 < t.io.buses[b.val].recv then .passive else .active)
        ∧ t.io.buses[b.val].queue = s.io.buses[b.val].queue)
  ∧ (∀ (b : BusId) (s : State), s.running = true → s.io.buses[b.val].live = true →
      ∃ t, exec (.protocolException b) s = .next t ∧ t.io.buses[b.val] =
        { s.io.buses[b.val] with protocolExceptions := satInc 16 s.io.buses[b.val].protocolExceptions })
  ∧ (∀ (b : BusId) (s : State), s.running = true →
      ∃ t, exec (.canIntegrated b) s = .next t ∧ t.io.buses[b.val] = { s.io.buses[b.val] with integrating := false })
  ∧ ∀ (b : BusId) (s : State), s.running = true → s.io.buses[b.val].errorState = .busOff → s.io.buses[b.val].recovering = true →
      1408000 ≤ s.io.buses[b.val].cfg.nominalKbps * ((s.grp.frame + 1 - s.io.buses[b.val].recoverAt) * s.grp.frameLen.us) →
      ∃ t, exec (.canRecoveryComplete b) s = .next t ∧ t.io.buses[b.val].errorState = .active ∧ t.io.buses[b.val].tec = 0
        ∧ t.io.buses[b.val].recv = 0 ∧ t.io.buses[b.val].recovering = false ∧ t.io.buses[b.val].queue = s.io.buses[b.val].queue

/-- What a CAN controller sends (R338–R340, R342–R345): an acknowledged frame leaves the queue, is counted and lowers TEC, and a
drive reference that completes in its own frame is known as done; a frame that is not acknowledged stays pending and raises TEC by
8, and 8 more for each further 8 dominant bits, unless it lost arbitration or an error-passive sender met an ACK error
without a dominant bit (log 30, PRESUMED); a frame that has reached its age limit leaves the
queue, one in an attempt after that attempt; sixteen attempts in a row without an acknowledgement make the bus lonely for the
holder; bus-off is counted, ends an attempt under way and keeps the queue, and the eighth within 10 s holds recovery. -/
def Obligations.CanTransmits : Prop :=
  (∀ (b : BusId) (us i : Nat) (s : State), s.running = true → s.offered s.io.buses[b.val] = some i →
      s.io.buses[b.val].mayTry = true →
      ∃ t, exec (.canFrameSent b us) s = .next t ∧
        let x := s.io.buses[b.val]
        let y := t.io.buses[b.val]
        y.queue = x.queue.eraseIdx i ∧ y.txFrames = satInc 32 x.txFrames ∧ y.tec = x.tec - 1 ∧ y.ackRun = 0 ∧ y.lonely = false
        ∧ ∀ c : CarId, (x.queue.getD i {}).kind = .reference c →
            if (x.queue.getD i {}).queuedAt = s.grp.frame then (t.car c).motion.refDone = true else t.car c = s.car c)
  ∧ (∀ (b : BusId) (cause : TxError) (i : Nat) (s : State), s.running = true → s.offered s.io.buses[b.val] = some i →
      s.io.buses[b.val].mayTry = true → (s.io.buses[b.val].queue.getD i {}).last = false →
      let x := s.io.buses[b.val]
      let rise := match cause with
        | .arbitration => 0
        | .ack dominant => if x.errorState = .passive ∧ dominant = false then 0 else 8
        | .other more => 8 + 8 * more
      x.tec + rise ≤ 255 →
      ∃ t, exec (.canTxError b cause) s = .next t ∧
        let y := t.io.buses[b.val]
        y.tec = x.tec + rise ∧ y.queue = x.queue.modify i (fun e => { e with started := false, offered := true })
        ∧ y.errorState = (if 127 < y.tec ∨ 127 < y.recv then .passive else .active)
        ∧ y.ackRun = (if cause = .ack true ∨ cause = .ack false then x.ackRun + 1 else 0)
        ∧ y.lonely = (x.lonely || (s.holds && decide (16 ≤ y.ackRun))))
  ∧ (∀ (b : BusId) (s : State), s.running = true →
      ∃ t, exec (.canFrameDiscard b) s = .next t ∧ t.io.buses[b.val].queue =
        (s.io.buses[b.val].queue.filter fun e => e.started || !decide (e.queuedAt + e.maxAge ≤ s.grp.frame)).map
          fun e => if decide (e.queuedAt + e.maxAge ≤ s.grp.frame) then { e with last := true } else e)
  ∧ ∀ (b : BusId) (s : State), s.running = true → s.io.buses[b.val].live = true →
      ∃ t, exec (.canBusOff b) s = .next t ∧
        let x := s.io.buses[b.val]
        let y := t.io.buses[b.val]
        let recent := x.busOffAt.filter fun f => decide (s.grp.frame < f + 10 * s.grp.frameLen.perSecond)
        y.errorState = .busOff
        ∧ ((∀ e ∈ x.queue, e.started = false) → y.queue = x.queue)
        ∧ (∀ i, (x.queue.findIdx? fun e => e.started) = some i → (x.queue.getD i {}).last = false →
            y.queue = x.queue.modify i fun e => { e with started := false, offered := true })
        ∧ y.busOffCount = satInc 16 x.busOffCount
        ∧ y.recoveryHeld = (x.recoveryHeld || decide (7 ≤ recent.length))
        ∧ y.recovering = (x.cfg.autoRecover && !y.recoveryHeld)

/-- The queue offers one frame at a time (R338): the one in an attempt if there is one, else a frame that no other sendable frame
of the queue goes before in arbitration, one that a lonely bus has offered in this interval aside (R343). -/
def Obligations.CanOffersLowest : Prop :=
  ∀ (b : Bus) (s : State) (i : Nat), s.offered b = some i →
    ∃ e, b.queue[i]? = some e ∧ s.maySend e = true
      ∧ (e.started = true ∨
          ∀ (j : Nat) (g : TxEntry), b.queue[j]? = some g → s.maySend g = true → g.due s.grp.frame = false → b.throttles g = false →
            g.started = false ∧ e.frame.rank ≤ g.frame.rank)

/-- The CANopen producer and consumer times (R346, R348): when a heartbeat, a SYNC or an output's refresh is due its frame joins
what waits for the next Calends, and a listed node that has been silent for twice HEARTBEAT_MS is marked and recorded as lost. -/
def Obligations.CanOpenTimes : Prop :=
  (∀ (b : BusId) (s : State), s.running = true → s.io.buses[b.val].canopen = true → s.io.buses[b.val].modeStarted = true →
      s.io.buses[b.val].heartbeatAt + s.io.buses[b.val].cfg.heartbeatMs * s.grp.frameLen.perMs ≤ s.grp.frame →
      ∃ t, exec (.heartbeatProducer b) s = .next t ∧ t.io.buses[b.val].heartbeatAt = s.grp.frame
        ∧ t.io.buses[b.val].waiting =
            s.io.buses[b.val].waiting ++ [{ id := 0x700 + s.io.buses[b.val].cfg.nodeId, data := [5] }])
  ∧ (∀ (b : BusId) (s : State), s.running = true → s.io.buses[b.val].canopen = true → s.io.buses[b.val].modeStarted = true →
      s.io.buses[b.val].cfg.syncFrames ≠ 0 → s.io.buses[b.val].syncAt + s.io.buses[b.val].cfg.syncFrames ≤ s.grp.frame →
      ∃ t, exec (.canopenSync b) s = .next t ∧ t.io.buses[b.val].syncAt = s.grp.frame
        ∧ t.io.buses[b.val].waiting = s.io.buses[b.val].waiting ++ [{ id := 0x080, data := [] }])
  ∧ (∀ (b : BusId) (n : Nat) (s : State), s.running = true → s.nodeLostDue s.io.buses[b.val] n = true →
      ∃ t, exec (.canopenNodeLost b n) s = .next t ∧ t.io.buses[b.val].nodesLost.getLsbD n = true
        ∧ (∀ m : Nat, m ≠ n → t.io.buses[b.val].nodesLost.getLsbD m = s.io.buses[b.val].nodesLost.getLsbD m)
        ∧ t.nv.recorder = s.nv.recorder.add (s.mkRec 0x0A03 0xFF ([byte b.val, byte n, 0] ++ zeros 8)))
  ∧ ∀ (i : Fin 512) (s : State), s.running = true → s.outRefreshDue s.io.map[i.val] = true →
      ∃ t, exec (.canopenOutRefresh i.val) s = .next t ∧
        let m := s.io.map[i.val]
        t.io.map[i.val] = { m with lastSent := some (m.lastSent.getD 0), sentAt := s.grp.frame }
        ∧ t.io.buses[m.busId.val].waiting = s.io.buses[m.busId.val].waiting ++
            [m.pdo s.io.buses[m.busId.val].cfg.voutCobId (m.lastSent.getD 0)]

/-- What reaches the module's side of a car link (R361, R362): an uplink frame of EtherType 0x88B5 whose FCS and CHECK hold, of 180
bytes, that echoes its link and comes after the last one accepted is accepted and waits for the latch; one that fails a test is
rejected and changes nothing else; the PHY's link state is kept; the eighth exchange without an accepted uplink sets
LINK_DOWN. -/
def Obligations.CarLinkUplinks : Prop :=
  (∀ (l : CarId) (f : LinkFrame) (ns : Nat) (s : State), s.running = true →
      s.io.links[l.val].active = true → s.io.links[l.val].phyUp = true → f.fcsGood = true → f.etherType = 0x88B5 →
      let bytes := f.payload
      bytes.length = 180 → fieldAt bytes 178 2 = crc16 (bytes.take 178) → byteAt bytes 15 = l.val →
      (s.io.links[l.val].fresh = true ∨ seqAdvances (fieldAt bytes 4 4) s.io.links[l.val].upSeq = true) →
      ∃ t, exec (.uplinkReceived l f ns) s = .next t ∧
        let x := s.io.links[l.val]
        let y := t.io.links[l.val]
        y.accepted = satInc 32 x.accepted ∧ y.rejected = x.rejected ∧ y.fresh = false ∧ y.upSeq = fieldAt bytes 4 4
        ∧ y.seqEcho = fieldAt bytes 0 4 ∧ y.health = byteAt bytes 8 ∧ y.ports = byteAt bytes 9
        ∧ (x.pendingUp = none → y.pendingUp = some ⟨bytes⟩))
  ∧ (∀ (l : CarId) (f : LinkFrame) (ns : Nat) (s : State), s.running = true →
      s.io.links[l.val].active = true → s.io.links[l.val].phyUp = true →
      (f.fcsGood = false ∨ f.etherType ≠ 0x88B5 ∨ f.payload.length ≠ 180
        ∨ fieldAt f.payload 178 2 ≠ crc16 (f.payload.take 178)) →
      ∃ t, exec (.uplinkReceived l f ns) s = .next t
        ∧ t.io.links[l.val] = { s.io.links[l.val] with rejected := satInc 32 s.io.links[l.val].rejected })
  ∧ (∀ (l : CarId) (up : Bool) (s : State), ∃ t, exec (.clPhyLinkChange l up) s = .next t
      ∧ t.io.links[l.val] = { s.io.links[l.val] with phyUp := up })
  ∧ ∀ (l : CarId) (s : State), s.running = true → s.io.links[l.val].active = true → 7 ≤ s.io.links[l.val].missRun →
      s.io.links[l.val].linkDown = false → s.io.links[l.val].pendingUp = none →
      s.io.links[l.val].ends s.grp.frameLen (s.grp.frame + 1) = true →
      ∃ t, exec (.clLinkDown l) s = .next t ∧ t.io.links[l.val] = { s.io.links[l.val] with linkDown := true, fresh := true }

/-- The car-top endpoint (R220, R355, R357–R359): a downlink frame of EtherType 0x88B5 and 120 bytes whose FCS and CHECK hold and
whose sequence number is the first or comes after the last one is accepted, and each stage takes its ENABLE and, unless it is held, its ANGLE and its CURRENT, which
is 0 while it is faulted or not enabled; one that fails a test changes nothing. At a sample instant an uplink of 180 bytes leaves,
with the next UP_SEQ and its own check. The fourth period without a downlink latches the loss and turns outputs and buzzer off; 1
s later every stage goes to ENABLE 0. A stage that detects a fault reduces its current to 0 and latches the cause. -/
def Obligations.Endpoints : Prop :=
  (∀ (l : CarId) (port : Side) (f : LinkFrame) (ns : Nat) (s : State), f.fcsGood = true → f.etherType = 0x88B5 →
      let b := f.payload
      b.length = 120 → fieldAt b 118 2 = crc16 (b.take 118) →
      (s.io.ends[l.val].started = false ∨ seqAdvances (fieldAt b 0 4) s.io.ends[l.val].lastSeq = true) →
      ∃ t, exec (.endpointDownlink l port f ns) s = .next t ∧
        let e := t.io.ends[l.val]
        e.started = true ∧ e.lastSeq = fieldAt b 0 4 ∧ e.got = true ∧ e.sampleAt = fieldAt b 6 2 ∧ e.port1Used = (port == 1)
        ∧ ∀ i : Fin 4, e.stages[i.val].enabled = bit (byteAt ((b.drop (8 + 8 * i.val)).take 8) 6) 0
          ∧ (s.io.ends[l.val].lossLatched = false → e.stages[i.val].angle = intAt ((b.drop (8 + 8 * i.val)).take 8) 0 4
            ∧ e.stages[i.val].current =
                if !e.stages[i.val].enabled || e.stages[i.val].overcurrent || e.stages[i.val].overtemp || e.stages[i.val].undervolt then 0
                else fieldAt ((b.drop (8 + 8 * i.val)).take 8) 4 2))
  ∧ (∀ (l : CarId) (port : Side) (f : LinkFrame) (ns : Nat) (s : State),
      (f.fcsGood = false ∨ f.etherType ≠ 0x88B5 ∨ f.payload.length ≠ 120 ∨ fieldAt f.payload 118 2 ≠ crc16 (f.payload.take 118)) →
      ∃ t, exec (.endpointDownlink l port f ns) s = .next t ∧ t.io.ends[l.val] = s.io.ends[l.val])
  ∧ (∀ (l : CarId) (x : EndpointIn) (s : State), s.io.ends[l.val].started = true →
      ∃ t, exec (.endpointSample l x) s = .next t ∧ t.io.ends[l.val].upSeq = (s.io.ends[l.val].upSeq + 1) % 2 ^ 32
        ∧ t.io.ends[l.val].got = false
        ∧ t.io.ends[l.val].missed = (if s.io.ends[l.val].got then 0 else min 65535 (s.io.ends[l.val].missed + 1))
        ∧ ∃ h : List Byte, t.io.ends[l.val].uplink = h ++ leBytes 2 (crc16 h) ∧ h.length = 178
          ∧ h.take 4 = leBytes 4 s.io.ends[l.val].lastSeq ∧ (h.drop 4).take 4 = leBytes 4 t.io.ends[l.val].upSeq)
  ∧ (∀ (l : CarId) (s : State), s.io.ends[l.val].started = true → s.io.ends[l.val].got = false → 3 ≤ s.io.ends[l.val].missed →
      s.io.ends[l.val].lossLatched = false →
      ∃ t, exec (.endpointLossLatch l) s = .next t ∧ t.io.ends[l.val].lossLatched = true ∧ t.io.ends[l.val].outputs = 0
        ∧ t.io.ends[l.val].buzzer = false ∧ ∀ i : Fin 4, t.io.ends[l.val].stages[i.val].lossHeld = true)
  ∧ (∀ (l : CarId) (s : State), s.io.ends[l.val].started = true → s.io.ends[l.val].got = false → 4003 ≤ s.io.ends[l.val].missed →
      ∃ t, exec (.endpointDisable l) s = .next t ∧ ∀ i : Fin 4,
        t.io.ends[l.val].stages[i.val].enabled = false ∧ t.io.ends[l.val].stages[i.val].current = 0)
  ∧ ∀ (l : CarId) (i : Fin 4) (c : Fin 3) (s : State), ∃ t, exec (.powerStageFault l i c) s = .next t ∧
      let x := s.io.ends[l.val].stages[i.val]
      let y := t.io.ends[l.val].stages[i.val]
      y.current = 0 ∧ y.overcurrent = (x.overcurrent || decide (c = 0)) ∧ y.overtemp = (x.overtemp || decide (c = 1))
      ∧ y.undervolt = (x.undervolt || decide (c = 2)) ∧ y.enabled = x.enabled ∧ y.angle = x.angle

/-- The position events of a car (R102, R103, R119, R120, R124, R126, R129, R130, R132): a fault that is due is recorded once in
its frame and counted, APS_DISAGREE and CORRECTION_FAILED unplace a configured car, APS_LOST takes the APS out of use, an automatic
correction run or learning trip starts, a settling sample is taken or discarded, and a levelling error demands re-levelling. -/
def Obligations.PositionEvents : Prop :=
  (∀ (c : CarId) (s : State), s.running = true →
      let p := (s.car c).pos
      p.cfg.aps = true → p.apsOut = false → p.rejectRun = p.cfg.apsReject → bit p.raised 1 = false →
      ∃ t, exec (.apsDisagree c) s = .next t ∧ t.nv.recorder = s.nv.recorder.add (s.mkRec 0x0401 c.val [1])
        ∧ (t.car c).pos.faults = satInc 32 p.faults ∧ (t.car c).pos.raised = p.raised + 2
        ∧ (t.car c).pos.state = if p.state = .unconfigured then .unconfigured else .unplaced)
  ∧ (∀ (c : CarId) (s : State), s.running = true →
      let p := (s.car c).pos
      p.cfg.aps = true → p.apsOut = false → p.apsAge = p.cfg.apsMaxAge + 1 → bit p.raised 2 = false →
      ∃ t, exec (.apsLost c) s = .next t ∧ (t.car c).pos.apsOut = true ∧ (t.car c).pos.apsPair = none
        ∧ (p.cfg.enc = true → p.encOut = false → (t.car c).pos.state = p.state
            ∧ t.nv.recorder = s.nv.recorder.add (s.mkRec 0x0401 c.val [2]))
        ∧ (p.cfg.enc = false ∨ p.encOut = true → p.state ≠ .unconfigured → bit p.raised 8 = false →
            (t.car c).pos.state = .unplaced))
  ∧ (∀ (c : CarId) (s : State), s.running = true →
      let p := (s.car c).pos
      p.state = .correcting → p.corrLimitQ ≤ p.corrTravel.natAbs → bit p.raised 7 = false →
      ∃ t, exec (.correctionFailed c) s = .next t ∧ t.nv.recorder = s.nv.recorder.add (s.mkRec 0x0401 c.val [7])
        ∧ (t.car c).pos.state = .unplaced ∧ (t.car c).pos.corrBlocked = true)
  ∧ (∀ (c : CarId) (s : State), s.running = true → (s.car c).autoCorrectDue = true →
      ∃ t, exec (.autoCorrect c) s = .next t ∧ (t.car c).pos = { (s.car c).pos with
          state := .correcting, corrTravel := 0, corrMoved := false, onEdge := Vector.replicate 2 none }
        ∧ (t.car c).motion = (s.car c).motion)
  ∧ (∀ (c : CarId) (s : State), s.running = true → (s.car c).autoLearnDue = true →
      ∃ t, exec (.autoLearn c) s = .next t ∧ (t.car c).pos =
        { (s.car c).pos with state := .learning, learn := some { shaft := true, scale := false, speed := min 16000 (s.car c).motion.cfg.rated } })
  ∧ (∀ (c : CarId) (x : Settle) (s : State), s.running = true →
      let p := (s.car c).pos
      p.settle = some x → x.at_ + 500 * s.grp.frameLen.perMs ≤ s.grp.frame →
      ∃ t, exec (.stretchSample c) s = .next t ∧ (t.car c).pos.settle = none
        ∧ (x.good = false ∨ p.state ≠ .placed → (t.car c).pos.table = p.table
            ∧ t.nv.recorder = s.nv.recorder.add (s.mkRec 0x0403 c.val [byte x.landing, byte x.band]))
        ∧ (x.good = true → p.state = .placed → t.nv.recorder = s.nv.recorder ∧ ∃ r : LandingRec,
            (t.car c).pos.table = Mem.set {} p.table (x.landing * 2 + x.side) r
            ∧ r.stretch[(Fin.ofNat 8 x.band).val] = (p.record x.landing x.side).stretch[(Fin.ofNat 8 x.band).val]
                + (p.units - x.pos - (p.record x.landing x.side).stretch[(Fin.ofNat 8 x.band).val]).tdiv 8))
  ∧ ∀ (c : CarId) (s : State), s.running = true → 4 ≤ (s.car c).pos.relevelRun → (s.car c).pos.relevel = false →
      ∃ t, exec (.relevelDemand c) s = .next t ∧ (t.car c).pos.relevel = true ∧ (t.car c).pos.state = (s.car c).pos.state

/-- SHAFT_LEARN_COMPLETE (R122): a learning trip that is due to end leaves no trip, a car that was LEARNING is PLACED again, the
job that started it ends, and a trip that failed leaves nothing for the next Calends, where a scale learned takes effect; the
landing table and the scale in force stay as they are until then. -/
def Obligations.LearningTripEnds : Prop :=
  ∀ (c : CarId) (l : Learn) (s : State), s.running = true → (s.car c).pos.learn = some l → (s.car c).learnDue = true →
    ∃ t, exec (.shaftLearnComplete c) s = .next t ∧ (t.car c).pos.learn = none
      ∧ (t.car c).pos.state = (if (s.car c).pos.state = .learning then .placed else (s.car c).pos.state)
      ∧ (t.car c).pos.table = (s.car c).pos.table ∧ (t.car c).pos.scale = (s.car c).pos.scale
      ∧ (l.failed = true ∨ l.done = false → (t.car c).pos.learnt = (s.car c).pos.learnt)
      ∧ (l.done = true → l.failed = false → (s.car c).pos.state = .learning → l.shaft = false → l.scale = true →
          ∀ k, (s.car c).pos.learnScale l = some k → (t.car c).pos.learnt = some (none, some k))
      ∧ (∀ j, s.findJob (fun j => j.kind == .posLearn c) = some j → ∀ x ∈ t.grp.jobs, x.id ≠ j.id)

/-- The profile events of a car (R151, R153, R158, R161, R162, R165, R200): a fault that is due is recorded, it ends the car's
target or its trip or tells SG to drop the brakes, and, but for a lost drive status, it makes a car that is not locked out
FAULTED; the end of SETTLE_MS requests
the brakes; brakes reported set end the trip in IDLE; and the reversal dwell ends. -/
def Obligations.ProfileEvents : Prop :=
  (∀ (c : CarId) (s : State), s.running = true →
      let m := (s.car c).motion
      m.present = true → m.followRun = m.cfg.followFrames → bit m.raised 1 = false →
      ∃ t, exec (.following c) s = .next t ∧ t.nv.recorder = s.nv.recorder.add (s.mkRec 0x0501 c.val [1, 0])
        ∧ (t.car c).motion.target = none ∧ (t.car c).motion.committed = false
        ∧ (m.phase = .running → (t.car c).motion.posStop = true)
        ∧ (t.car c).service = if (s.car c).service = .lockedOut then .lockedOut else .faulted)
  ∧ (∀ (c : CarId) (s : State), s.running = true →
      let m := (s.car c).motion
      m.present = true → m.missed = 4 → bit m.raised 5 = false →
      ∃ t, exec (.referenceLost c) s = .next t ∧ t.nv.recorder = s.nv.recorder.add (s.mkRec 0x0501 c.val [5, 0])
        ∧ (t.car c).motion.tellDrop = m.tellDrop ||| 4
        ∧ (t.car c).service = if (s.car c).service = .lockedOut then .lockedOut else .faulted)
  ∧ (∀ (c : CarId) (s : State), s.running = true →
      let m := (s.car c).motion
      m.present = true → m.statusAge = m.cfg.maxAge + 1 → bit m.raised 3 = false →
      ∃ t, exec (.driveStatusLost c) s = .next t ∧ t.nv.recorder = s.nv.recorder.add (s.mkRec 0x0501 c.val [3, 0])
        ∧ (t.car c).service = (s.car c).service ∧ (m.phase = .running → (t.car c).motion.posStop = true))
  ∧ (∀ (c : CarId) (s : State), s.running = true → s.startTimeoutDue (s.car c) = true →
      ∃ t, exec (.driveStartTimeout c) s = .next t ∧ t.nv.recorder = s.nv.recorder.add (s.mkRec 0x0501 c.val [4, 0])
        ∧ (t.car c).motion.phase = .idle ∧ (t.car c).safe.req.run = false
        ∧ (t.car c).service = if (s.car c).service = .lockedOut then .lockedOut else .faulted)
  ∧ (∀ (c : CarId) (s : State), s.running = true → (s.car c).motion.phase = .settling →
      (s.car c).motion.since + (s.car c).motion.cfg.settleMs * s.grp.frameLen.perMs ≤ s.grp.frame →
      ∃ t, exec (.settleTimeout c) s = .next t
        ∧ t.nv.recorder = s.nv.recorder.add (s.mkRec 0x0503 c.val [byte ((s.car c).motion.targetLanding.getD 0xFF)])
        ∧ (t.car c).motion.phase = .stopping ∧ (t.car c).motion.since = s.grp.frame
        ∧ (t.car c).safe.req.lift = false ∧ (t.car c).safe.req.set = true)
  ∧ (∀ (c : CarId) (s : State), s.running = true → (s.car c).motion.phase = .stopping → (s.sgOf c).set = true →
      (s.car c).safe.req.set = false →
      ∃ t, exec (.stopComplete c) s = .next t ∧ (t.car c).motion.phase = .idle ∧ (t.car c).motion.target = none
        ∧ (t.car c).safe.req.run = false ∧ (t.car c).motion.waiting = Vector.replicate 4 none
        ∧ (t.car c).motion.limits.v = (s.car c).motion.waiting[0].getD (s.car c).motion.limits.v
        ∧ ((s.car c).motion.kind = .normal → ∀ l, (s.car c).motion.targetLanding = some l →
            ∃ sides acc, (t.car c).servedAt = some (l, sides, acc)))
  ∧ ∀ (c : CarId) (f : Nat) (s : State), s.running = true → (s.car c).motion.dwellFrom = some f →
      f + (s.car c).motion.cfg.dwellMs * s.grp.frameLen.perMs ≤ s.grp.frame →
      ∃ t, exec (.reversalDwellEnd c) s = .next t ∧ (t.car c).motion = { (s.car c).motion with dwellFrom := none }

/-- The dispatcher's events (R71, R80, R192, R193, R195–R197): a pass over a registration that waits, or over a hall call without
a car, stages one of the cars that can serve it, or none when none can, and the one that it stages has the lowest weighted sum of
the terms predicted for each, a registration's PRIORITY counting its wait twice; a terminal's new request is taken once, with the
result of R191 in its answer word; a closed registration's entry is free when its time has run; a cold entry is evaluated, a hot
one is not. -/
def Obligations.DispatcherEvents : Prop :=
  (∀ (chan : Nat) (s : State), s.running = true →
      let e := s.entry chan
      e.type = 8 → (e.regState = 1 ∨ e.regState = 4) → s.regMode = true → s.cancelStaged chan = false →
      ∃ t, exec (.dispatchPass chan) s = .next t
        ∧ (s.carsForReg e = [] → t.grp.deferred = s.grp.deferred)
        ∧ (s.carsForReg e ≠ [] → ∃ c ∈ s.carsForReg e, t.grp.deferred = s.grp.deferred ++ [.announce chan c]))
  ∧ (∀ (e : Entry) (cs : List CarId) (s : State), cs.Nodup → cs ≠ [] →
      ∃ (terms : CarId → CostTerms) (c : CarId), (s.choose e cs).1 = some c ∧ c ∈ cs
        ∧ (∀ x ∈ cs, (terms x).stops = (e.callStops.filter fun k => !((s.car x).stop k.1).listed).length
            ∧ (terms x).load = 100 * s.peakLoad x e / s.grp.disp.cfg.capacity[x.val] ∧ (terms x).access = (s.car x).addedDwell e)
        ∧ ∀ x ∈ cs, (terms c).cost s.grp.disp.weights (e.type == 8 && bit e.regProfile 1)
            ≤ (terms x).cost s.grp.disp.weights (e.type == 8 && bit e.regProfile 1))
  ∧ (∀ (chan : Nat) (s : State), s.running = true →
      let e := s.entry chan
      e.type = 9 → bit e.value 0 = true → bit e.value 1 = false → s.hallMode = true →
      ∃ t, exec (.dispatchPass chan) s = .next t
        ∧ (s.carsForHall e = [] → t.grp.deferred = s.grp.deferred)
        ∧ (s.carsForHall e ≠ [] → ∃ c ∈ s.carsForHall e, t.grp.deferred = s.grp.deferred ++ [.assign chan c]))
  ∧ (∀ (i w q : Nat) (x : Terminal) (s : State), s.running = true → s.grp.safeState = false → s.terminal i = some x → s.requestWord x = some w →
      x.lastSeq = some q → bits w 23 16 ≠ q →
      ∃ t, exec (.terminalRequest i) s = .next t ∧
        let r := s.regResult x.landing (bits w 7 0) (x.side + 2 * bits w 8 8 + 4 * bits w 14 9)
        (r ≠ 0x01 → t.terminal i = some { x with lastSeq := some (bits w 23 16), reg := none, word := r + 65536 * bits w 23 16 })
        ∧ (r = 0x10 → t.grp.disp.refusedFull = satInc 32 s.grp.disp.refusedFull
            ∧ t.nv.recorder = s.nv.recorder.add (s.mkRec 0x0601 0xFF [byte x.landing, byte (bits w 7 0)]))
        ∧ (r ≠ 0x10 → t.nv.recorder = s.nv.recorder)
        ∧ (r ≠ 0x01 → t.grp.deferred = s.grp.deferred)
        ∧ (r = 0x01 → ∀ c : Nat, (s.allocReg s).1 = some c →
            t.terminal i = some
              { x with lastSeq := some (bits w 23 16), reg := some (c, (s.grp.frame + 1) % 2 ^ 32), word := 0x01 + 65536 * bits w 23 16 }
            ∧ t.grp.deferred = s.grp.deferred ++
                [.register c x.landing (bits w 7 0) (x.side + 2 * bits w 8 8 + 4 * bits w 14 9) x.point]))
  ∧ (∀ (chan : Nat) (s : State), s.running = true → (s.entry chan).type = 8 → 5 ≤ (s.entry chan).regState →
      (s.entry chan).mark + s.msFrames s.grp.disp.cfg.retainMs ≤ s.grp.frame + 1 →
      ∃ t, exec (.regRetainExpiry chan) s = .next t ∧ t.grp.alm = Mem.set Entry.free s.grp.alm chan Entry.free)
  ∧ (∀ (chan : Nat) (s : State), s.running = true →
      let e := s.entry chan
      e.hot = true → ∃ t, exec (.coldEvaluation chan) s = .next t ∧ t.grp.alm = s.grp.alm ∧ t.grp.deferred = s.grp.deferred)
  ∧ ∀ (chan : Nat) (s : State), s.running = true →
      let e := s.entry chan
      e.hot = false → e.type = 6 →
      ∀ i ∈ [Instr.coldEvaluation chan, Instr.almanacTimer chan],
        ∃ t, exec i s = .next t ∧ t.grp.deferred = s.grp.deferred ∧
          t.grp.alm = Mem.set Entry.free s.grp.alm chan
            { (s.evalEntry s.grp.shown s.grp.frame chan e).1 with stamp := coldStamp s.grp.shown s.grp.frame e }

/-- The events of a door's move (R224, R233–R243). DOOR_OBSTRUCTION: the tripped sources of a frame are recorded once under their
lowest code; a closing door turns and its reversal is counted, in a nudging close in the total alone; a closing reference move and
an opening door stop at D_REV; a door that is already turning goes on. DOOR_MOVE_COMPLETE: a move that reaches its end is OPEN or
CLOSED, with REVERSALS 0 at CLOSED, a back-off waits in UNREFERENCED, a reference move references the door, and an opening that
waited for the close begins. DWELL_END: the close begins, nudging after NUDGE_COUNT reversals; an unreferenced door makes its
reference move; a door whose automatic closing has stopped or is suspended does neither. LOAD_ANGLE_VALID: the load angle is valid 120 ms after the first commit of a move. The other side's door never
changes. -/
def Obligations.DoorMoves : Prop :=
  (∀ (c : CarId) (side : Side) (s : State), s.running = true → s.grp.safeState = false → (s.door c side).tripped ≠ 0 →
      ∃ t, exec (.doorObstruction c side) s = .next t ∧
        let d := s.door c side
        let e := t.door c side
        e.tripped = 0 ∧ e.lastSource = lowSource d.tripped
        ∧ (d.phase = .closing → d.refMove = false → e.phase = .reversing ∧ e.goal = .toOpen
            ∧ e.reversals = (if d.nudging then d.reversals else min 255 (d.reversals + 1)) ∧ e.nudgeAsk = (d.nudgeAsk || d.nudging)
            ∧ e.total = d.total + 1 ∧ e.decel = d.reversalDecel ∧ e.jerk = d.cfg.jRev ∧ e.dwellMs = none)
        ∧ (d.phase = .closing → d.refMove = true → e.phase = .closing ∧ e.goal = .standstill ∧ e.decel = d.cfg.dRev
            ∧ e.jerk = d.cfg.jRev ∧ e.reversals = d.reversals ∧ e.total = d.total)
        ∧ (d.phase = .opening → e.phase = .opening ∧ e.goal = .standstill ∧ e.decel = d.cfg.dRev ∧ e.jerk = d.cfg.jRev
            ∧ e.reversals = d.reversals)
        ∧ (d.phase ≠ .closing → d.phase ≠ .opening →
            e = ({ d with tripped := 0, lastSource := lowSource d.tripped, clean := false } : Door).replan)
        ∧ (d.phase ≠ .closing ∨ d.refMove = true ∨ d.cfg.dRev ≤ d.reversalDecel → t.nv.recorder =
            s.nv.recorder.add (s.mkRec 0x0701 c.val [byte side.val, byte (lowSource d.tripped), byte (d.phase == .opening).toNat]))
        ∧ ∀ side' : Side, side' ≠ side → t.door c side' = s.door c side')
  ∧ (∀ (c : CarId) (side : Side) (s : State), s.running = true → s.grp.safeState = false →
      let d := s.door c side
      d.ready = true → d.goal = .toOpen → d.ref.v = 0 → d.ref.a = 0 →
      d.ref.s = (if d.backOff then d.backTo else (d.cfg.width : Int)) * unitS →
      ∃ t, exec (.doorMoveComplete c side) s = .next t ∧
        let e := t.door c side
        e.goal = .stay ∧ e.dwellFrom = none ∧ e.reversals = d.reversals
        ∧ (d.backOff = false → e.phase = .opened ∧ e.dwellMs = some (d.dwellMs.getD d.dwellTime) ∧ e.nudging = false)
        ∧ (d.backOff = true → e.phase = .unreferenced ∧ e.dwellMs = some d.dwellTime)
        ∧ ∀ side' : Side, side' ≠ side → t.door c side' = s.door c side')
  ∧ (∀ (c : CarId) (side : Side) (s : State), s.running = true → s.grp.safeState = false →
      let d := s.door c side
      d.ready = true → d.goal = .toClosed → s.refTrue d.cfg.closedPoint = true →
      (d.refMove = true ∨ (d.ref.v = 0 ∧ d.ref.a = 0 ∧ d.ref.s = 0)) →
      ∃ t, exec (.doorMoveComplete c side) s = .next t ∧
        let e := t.door c side
        e.reversals = 0 ∧ e.nudging = false ∧ e.notClosedRun = 0 ∧ (d.refMove = true → e.referenced = true)
        ∧ (d.openAfter = false → e.phase = .closed ∧ e.goal = .stay ∧ e.refMove = false)
        ∧ (d.openAfter = true → d.referenced = true ∨ d.refMove = true → e.phase = .opening ∧ e.goal = .toOpen ∧ e.openAfter = false)
        ∧ ∀ side' : Side, side' ≠ side → t.door c side' = s.door c side')
  ∧ (∀ (c : CarId) (side : Side) (ms f : Nat) (s : State), s.running = true → s.grp.safeState = false →
      let d := s.door c side
      d.ready = true → d.dwellMs = some ms → d.dwellFrom = some f → f + s.msFrames ms ≤ s.grp.frame →
      ((d.phase = .opened ∧ d.goal = .stay ∧ (s.car c).mayClose d = true) ∨
        (d.backOff = true ∧ d.phase = .unreferenced ∧ d.autoOff = false ∧ d.suspended = false)) →
      ∃ t, exec (.dwellEnd c side) s = .next t ∧
        let e := t.door c side
        e.phase = .closing ∧ e.goal = .toClosed ∧ e.dwellMs = none ∧ e.dwellFrom = none ∧ e.reversals = d.reversals
        ∧ (d.referenced = true → e.nudging = (d.nudgeAsk || decide (d.cfg.nudgeCount ≤ d.reversals)) ∧ e.nudgeAsk = false
            ∧ e.hold = false ∧ e.refMove = d.refMove)
        ∧ (d.referenced = false → e.refMove = true ∧ e.nudging = false ∧ e.enabled = true)
        ∧ ∀ side' : Side, side' ≠ side → t.door c side' = s.door c side')
  ∧ (∀ (c : CarId) (side : Side) (s : State), ((s.door c side).autoOff = true ∨ (s.door c side).suspended = true) →
      ∃ t, exec (.dwellEnd c side) s = .next t ∧ t.grp.cars = s.grp.cars)
  ∧ ∀ (c : CarId) (side : Side) (s : State), s.running = true → s.grp.safeState = false →
      let d := s.door c side
      d.ready = true → d.goal ≠ .stay → d.laValid = false → d.still = false → d.moveAt + s.msFrames 120 ≤ s.grp.frame →
      ∃ t, exec (.loadAngleValid c side) s = .next t ∧ t.door c side = { d with laValid := true }
        ∧ ∀ side' : Side, side' ≠ side → t.door c side' = s.door c side'

/-- A door whose move goes wrong (R228, R241, R242, R244): every fault is recorded with its code, stops the door, and makes a car
that is not locked out FAULTED; a close that CLOSED_POINT does not confirm turns and counts as a reversal. -/
def Obligations.DoorFaults : Prop :=
  (∀ (c : CarId) (side : Side) (s : State), s.running = true → s.grp.safeState = false →
      ∀ q ∈ [(Instr.gearSync c side, (s.door c side).gearSyncDue, 3), (Instr.reportLost c side, (s.door c side).reportLostDue, 2),
          (Instr.referenceFailed c side, s.referenceFailedDue (s.door c side), 4)],
        q.2.1 = true → ∃ t, exec q.1 s = .next t ∧
          let d := s.door c side
          let e := t.door c side
          e.phase = .faulted ∧ e.fault = q.2.2 ∧ e.goal = .standstill ∧ e.decel = d.cfg.dRev ∧ e.jerk = d.cfg.jRev
          ∧ e.refMove = false ∧ e.nudging = false ∧ e.hold = false
          ∧ t.nv.recorder = s.nv.recorder.add (s.mkRec 0x0702 c.val [byte side.val, byte q.2.2])
          ∧ ((s.car c).service ≠ .lockedOut → (t.car c).service = .faulted)
          ∧ ((s.car c).service = .lockedOut → (t.car c).service = .lockedOut))
  ∧ ∀ (c : CarId) (side : Side) (s : State), s.running = true → s.grp.safeState = false → s.notClosedDue (s.door c side) = true →
      ∃ t, exec (.notClosed c side) s = .next t ∧
        let d := s.door c side
        let e := t.door c side
        (d.nudging = false → e.phase = .reversing ∧ e.goal = .toOpen ∧ e.reversals = min 255 (d.reversals + 1)
            ∧ e.notClosedRun = 0 ∧ (t.car c).service = (s.car c).service)
        ∧ (d.nudging = true → d.notClosedRun + 1 < d.cfg.nudgeCount → e.phase = .reversing ∧ e.reversals = d.reversals
            ∧ e.notClosedRun = d.notClosedRun + 1)
        ∧ (d.nudging = true → d.cfg.nudgeCount ≤ d.notClosedRun + 1 → e.phase = .faulted ∧ e.fault = 5
            ∧ t.nv.recorder = s.nv.recorder.add (s.mkRec 0x0702 c.val [byte side.val, 5]))

/-- The causes that the safety core finds in a frame's image (R261, R264, R265, R272, R275, R276, R285, R286): one that is due
adds to the car's set, under the LOCKOUT_ID of the causes of this frame or else a new one, turns every safety output of the car
off, withdraws its grants, locks the car out, is stored and signalled, and touches no other car; a DISCREPANCY adds its pair. A
finding that stands raises its cause once (the model's choice: log 4). -/
def Obligations.LockoutsLatch : Prop :=
  ∀ (c : CarId) (p : Fin 5) (ch : Side) (s : State), s.running = true →
      let x := (s.car c).safe
      ∀ q ∈ [(Instr.discrepancy c p, x.discDue p, 2, p.val), (Instr.source c, x.sourceDue, 11, 5),
          (Instr.xcheck c, x.xcheckDue, 10, 6), (Instr.terminalSpeed c, x.terminalDue, 9, 7),
          (Instr.mirror c ch, x.mirrorDue ch, 4, 8 + ch.val), (Instr.lift c ch, x.liftDue ch, 5, 10 + ch.val)],
        (q.2.1 = true → ∃ t, exec q.1 s = .next t ∧
          let y := (t.car c).safe
          y.causes = x.causes ||| 2 ^ q.2.2.1 ∧ y.raised = x.raised ||| 2 ^ q.2.2.1 ∧ y.told = x.told ||| 2 ^ q.2.2.2
          ∧ y.pairs = (if q.2.2.1 = 2 then x.pairs ||| 2 ^ p.val else x.pairs)
          ∧ y.lockId = (if x.raised = 0 then nextLockId s.grp.sg.counter else x.lockId)
          ∧ t.grp.sg.counter = (if x.raised = 0 then nextLockId s.grp.sg.counter else s.grp.sg.counter)
          ∧ y.latchedAt = (if x.causes = 0 then s.grp.frame + 1 else x.latchedAt)
          ∧ (∀ o : Fin 6, y.outs[o.val] = { x.outs[o.val] with want := false })
          ∧ y.liftGranted = false ∧ y.runGranted = false ∧ y.test = none
          ∧ (t.car c).service = .lockedOut ∧ (t.car c).forced = true
          ∧ t.nv.causes[c.val] = x.causes ||| 2 ^ q.2.2.1 ∧ t.host.irqEvent.getLsbD 3 = true
          ∧ ∀ c' : CarId, c' ≠ c → t.car c' = s.car c' ∧ t.nv.causes[c'.val] = s.nv.causes[c'.val])
        ∧ (bit x.told q.2.2.2 = true → ∃ t, exec q.1 s = .next t ∧ t.grp = s.grp ∧ t.nv = s.nv)

/-- Module causes of the safety core (R256, R286), and an overrun of the control plane (R47–R50): one ID for every configured car,
that of the frame's causes where it has one (R286), each of which latches the cause and is locked out; the first overrun's frame number stays. -/
def Obligations.ModuleLockouts : Prop :=
  (∀ s : State, s.running = true → s.holds = true →
      ∀ q ∈ [(Instr.sgCycle, 21), (Instr.sgClock, 18), (Instr.sgSupply, 19), (Instr.controlPlaneOverrun, 16)],
        ∃ t, exec q.1 s = .next t ∧ t.grp.sg.causes = s.grp.sg.causes ||| 2 ^ q.2 ∧
          let id := s.moduleId
          t.grp.sg.frameId = some id
          ∧ ∀ c : CarId,
              ((s.car c).configured = true → (t.car c).safe.causes = (s.car c).safe.causes ||| 2 ^ q.2 ∧ (t.car c).safe.lockId = id
                ∧ (t.car c).service = .lockedOut ∧ ∀ o : Fin 6, (t.car c).safe.outs[o.val].want = false)
              ∧ ((s.car c).configured = false → t.car c = s.car c))
  ∧ (∀ s : State, s.running = true →
      ∃ t, exec .controlPlaneOverrun s = .next t ∧ t.grp.overrun = some (s.grp.overrun.getD s.grp.frame))
  ∧ ∀ s : State, s.running = true → s.holds = false → s.boot.pair.paired = true → s.mem.state = .vigil →
      ∀ i ∈ [Instr.sgCycle, Instr.sgClock, Instr.sgSupply], ∃ t, exec i s = .next t ∧ t.mem.state = .released
        ∧ t.mem.vigilReady = false ∧ t.grp = s.grp

/-- Tests and windows of the safety core (R280, R284, R287): a dark-test pulse that passed restarts the lane's time and latches
nothing, one that failed latches READBACK; TEST_MS ends step 4 of a brake test, and the other limits abort it with every output
off; a reset window whose 10 s have run closes. -/
def Obligations.SafetyTests : Prop :=
  (∀ (c : CarId) (o : Fin 6) (s : State), s.running = true → (s.car c).safe.outs[o.val].testing = true →
      ∃ t, exec (.darkTest c o true) s = .next t ∧
        let y := (s.car c).safe.outs[o.val]
        (t.car c).safe.outs[o.val] = { y with testing := false, onSince := y.pulsed.getD y.onSince }
        ∧ (t.car c).safe.causes = (s.car c).safe.causes ∧ (t.car c).service = (s.car c).service)
  ∧ (∀ (c : CarId) (o : Fin 6) (s : State), s.running = true → (s.car c).safe.outs[o.val].testing = true →
      ∃ t, exec (.darkTest c o false) s = .next t ∧ (t.car c).safe.outs[o.val].testing = false
        ∧ (t.car c).safe.outs[o.val].onSince = (s.car c).safe.outs[o.val].onSince
        ∧ (t.car c).safe.causes = (s.car c).safe.causes ||| 2 ^ 3 ∧ (t.car c).service = .lockedOut
        ∧ ∀ o' : Fin 6, (t.car c).safe.outs[o'.val].want = false)
  ∧ (∀ (c : CarId) (x : BrakeTest) (s : State), s.running = true → (s.car c).safe.test = some x → x.step = 4 →
      x.since + s.msFrames x.testMs ≤ s.grp.frame →
      ∃ t, exec (.brakeTestTimeout c) s = .next t
        ∧ (t.car c).safe = { (s.car c).safe with test := some { x with step := 5, since := s.grp.frame } })
  ∧ (∀ (c : CarId) (x : BrakeTest) (s : State), s.running = true → (s.car c).safe.test = some x →
      (x.step = 1 ∧ x.since + s.msFrames (s.car c).motion.cfg.enableMs ≤ s.grp.frame
        ∨ x.step = 3 ∧ x.since + s.msFrames 2000 ≤ s.grp.frame) →
      ∃ t, exec (.brakeTestTimeout c) s = .next t ∧ (t.car c).safe.test = none ∧ (t.car c).safe.req.run = false
        ∧ (t.car c).safe.causes = (s.car c).safe.causes ∧ t.nv.recorder = s.nv.recorder.add (s.mkRec 0x0802 c.val [3])
        ∧ (∀ j, s.findJob (fun j => j.kind == .brakeTest c) = some j → ∀ y ∈ t.grp.jobs, y.id ≠ j.id)
        ∧ ∀ o : Fin 6, (t.car c).safe.outs[o.val].want = false)
  ∧ ∀ (c : CarId) (e : Nat) (s : State), s.running = true → (s.car c).safe.window = some e → e + s.windowFrames < s.grp.frame →
      ∃ t, exec (.resetWindowExpiry c) s = .next t
        ∧ (t.car c).safe = { (s.car c).safe with window := none, windowExpired := true }

/-- HOLD changes hands (R418–R424): a standby with VIGIL_READY takes HOLD on silence with its gates open and the drill's, the
release's or code 34 as the cause, any other member only notes the silence; member B acquires when its cold wait ends unheard; a
decided release closes the gates, drops what was to be sent, sends the cause with the cars' causes, and lets causes 1 and, in
member B, 2 follow again; its event is the only one where no stream instance waits that the partner does not duplicate. -/
def Obligations.HoldChangesHands : Prop :=
  (∀ s : State, s.running = true → s.mem.state = .vigil → s.mem.vigilReady = true →
      ∃ t, exec .holdSilence s = .next t ∧ t.mem.state = .holder ∧ t.mem.vigilReady = false ∧ t.mem.holdiActive = false
        ∧ t.mem.sinceLeap = some 0 ∧ t.mem.leaps = satInc 32 s.mem.leaps
        ∧ t.mem.lastLeapCause = ((s.mem.received.map fun r => r.cause).getD 34)
        ∧ ∀ b : BankId, t.io.banks[b.val].gateOpen = true)
  ∧ (∀ s : State, s.running = true → ¬ (s.mem.state = .vigil ∧ s.mem.vigilReady = true) →
      exec .holdSilence s = .next { s with mem := { s.mem with holdiActive := false } })
  ∧ (∀ s : State, s.running = true → s.boot.pair.paired = true → s.boot.pairSel = true → s.mem.state = .syncing →
      s.mem.holdiQuiet = true → s.msFrames s.boot.pair.coldWaitMs ≤ s.grp.frame →
      ∃ t, exec .coldWaitExpiry s = .next t ∧ t.mem.state = .holder ∧ ∀ b : BankId, t.io.banks[b.val].gateOpen = true)
  ∧ (∀ s : State, s.running = true → s.mem.holdiQuiet = false → exec .coldWaitExpiry s = .next s)
  ∧ ∀ (cause : Nat) (s : State), s.running = true → s.boot.pair.paired = true → s.holds = true → s.mem.releaseDue = some cause →
      ∃ t, exec (.holdRelease cause) s = .next t
        ∧ t.mem.state = (if cause = 1 ∨ (cause = 2 ∧ s.boot.pairSel = true) then .syncing else .released)
        ∧ t.mem.leaps = satInc 32 s.mem.leaps ∧ t.mem.lastLeapFrame = s.grp.frame ∧ t.mem.lastLeapCause = cause
        ∧ t.mem.queued = some { cause := cause, causes := s.grp.cars.map fun c => c.safe.causes }
        ∧ (∀ b : BankId, t.io.banks[b.val].gateOpen = false ∧ ∀ l : LaneId, t.io.banks[b.val].lanes[l.val].driven = false)
        ∧ (∀ b : BusId, t.io.buses[b.val].queue = [])
        ∧ ((∀ b : BusId, ∀ e ∈ s.io.buses[b.val].queue, ∀ ch : Nat, e.kind = .stream ch →
              (s.entry ch).pairDup = true) →
            t.nv.recorder = s.nv.recorder.add (s.mkRec 0x0104 0xFF ([byte cause] ++ leBytes 8 s.grp.frame)))
        ∧ t.grp = s.grp

/-- Contention and conflicts of a pair (R422, R424, R426, R443, R446): two holders record it, B decides on release at once and A
when it has not learned within 2 ms that its partner is B; a new holder in its first frame takes the causes of the release record,
one that comes late is an event only; a standby with a cause of codes 17 to 33 enters RELEASED; two members of one PAIR_SEL record
it once and do not pair, and a holder takes the progress of its partner's copy. -/
def Obligations.PairConflicts : Prop :=
  (∀ s : State, s.running = true → s.boot.pair.paired = true → s.holds = true →
      ∃ t, exec .contention s = .next t ∧ t.mem.contention = true
        ∧ t.nv.recorder = s.nv.recorder.add (s.mkRec 0x0107 0xFF [0])
        ∧ t.mem.releaseDue = if s.boot.pairSel then some (s.mem.releaseDue.getD 2) else s.mem.releaseDue)
  ∧ (∀ s : State, s.running = true → s.holds = true → s.mem.contention = true → s.boot.pairSel = false →
      s.msFrames 2 ≤ s.grp.frame + 1 - s.mem.contentionAt →
      ∃ t, exec .contentionTimeout s = .next t
        ∧ (s.mem.partnerKnown = true ∧ s.mem.partnerB = true → t.mem = { s.mem with contention := false })
        ∧ (¬ (s.mem.partnerKnown = true ∧ s.mem.partnerB = true) →
            t.mem = { s.mem with releaseDue := some (s.mem.releaseDue.getD 2) }))
  ∧ (∀ (r : ReleaseRec) (s : State), s.running = true → s.boot.pair.paired = true → s.holds = true → s.mem.sinceLeap = some 0 →
      r.late = false → s.mem.received = none →
      ∃ t, exec (.releaseRecord r) s = .next t ∧ t.mem.received = some r ∧ t.mem.lastLeapCause = r.cause
        ∧ ∀ (c : CarId) (n : Fin 16), (s.car c).configured = true → bit r.causes[c.val] n.val = true →
            bit (t.car c).safe.causes n.val = true)
  ∧ (∀ (r : ReleaseRec) (s : State), s.running = true → s.boot.pair.paired = true → r.late = true →
      ∃ t, exec (.releaseRecord r) s = .next t ∧ t.grp = s.grp ∧ t.mem = s.mem
        ∧ t.nv.recorder = s.nv.recorder.add (s.mkRec 0x0107 0xFF [1]))
  ∧ (∀ (cause : Nat) (s : State), s.follows = true → 17 ≤ cause → cause ≤ 33 →
      ∃ t, exec (.selfCause cause) s = .next t
        ∧ t.mem = { s.mem with state := .released, vigilReady := false, completeRun := 0 })
  ∧ ∀ (b : Bool) (n copied : Nat) (s : State), s.running = true → s.boot.pair.paired = true →
      ∃ t, exec (.pairSelReport b ⟨n, copied⟩) s = .next t ∧ (s.mem.state = .holder → t.mem.progress = min copied 256)
        ∧ t.mem.partnerKnown = true ∧ t.mem.partnerB = b
        ∧ t.mem.partnerState = min n 255 ∧ t.mem.selConflict = decide (b = s.boot.pairSel)
        ∧ (b = s.boot.pairSel → s.mem.state ≠ .vigil → t.nv.recorder =
            if s.mem.selConflict then s.nv.recorder else s.nv.recorder.add (s.mkRec 0x0107 0xFF [2]))
        ∧ (b = s.boot.pairSel → s.mem.state = .vigil → t.mem.state = .syncing)
        ∧ (b ≠ s.boot.pairSel → t.mem.state = s.mem.state ∧ t.nv.recorder = s.nv.recorder)

/-- How a member follows (R425, R427, R428, R431, R433, R434): the first IMAGE part of a frame gives the standby its image, the
first DECISION part is kept for the coming Calends, the STATE part of the present frame overwrites the group's state and what is
stored with it; a part that is missing, fails its check or is marked OVERFLOW, a lost link and a lost Calends lock end VIGIL with
one event; 64 measurements within 200 ns lock
and four outside unlock; a complete copy is known. -/
def Obligations.PairFollows : Prop :=
  (∀ (p : ImagePart) (s : State), s.follows = true → s.mem.gotImage = false → s.mem.stateDue = true →
      ∃ t, exec (.pairImagePart p) s = .next t ∧ t.mem.gotImage = true ∧ t.mem.holdiActive = true
        ∧ t.io.image.banks = p.image.banks ∧ t.io.image.enc = p.image.enc ∧ t.io.image.encFault = p.image.encFault
        ∧ (∀ b : BusId, t.io.image.can[b.val] = s.io.image.can[b.val].take p.counts[b.val]) ∧ t.grp = s.grp)
  ∧ (∀ (p : ImagePart) (s : State), s.mem.gotImage = true → exec (.pairImagePart p) s = .next s)
  ∧ (∀ (p : DecisionPart) (s : State), s.follows = true → s.mem.gotDecision = false →
      (s.mem.stateDue = true ∨ s.mem.gotImage = false) →
      exec (.pairDecisionPart p) s = .next { s with mem := { s.mem with gotDecision := true, decision := some p } })
  ∧ (∀ (p : DecisionPart) (s : State), s.mem.gotDecision = true → exec (.pairDecisionPart p) s = .next s)
  ∧ (∀ (p : StatePart) (s : State), s.follows = true → p.group.frame = s.grp.frame → s.mem.stateDue = false →
      s.mem.gotState = false →
      ∃ t, exec (.pairStatePart p) s = .next t ∧ t.grp = p.group ∧ t.mem.gotState = true
        ∧ t.nv.config = p.stored.config ∧ t.nv.saved = p.stored.saved ∧ t.nv.kernels = p.stored.kernels
        ∧ t.nv.frameLen = p.stored.frameLen ∧ t.nv.pair = p.stored.pair ∧ t.nv.net = p.stored.net
        ∧ (∀ c : CarId, t.nv.causes[c.val] = (t.car c).safe.causes)
        ∧ (∀ b : BusId, t.io.buses[b.val].cfg = p.ports.can[b.val]) ∧ t.mem.ethDue = p.eth)
  ∧ (∀ (cause : VigilCause) (s : State), s.running = true → s.follows = false → s.boot.pair.paired = true → s.holds = true →
      ∃ t, exec (.vigilLost cause) s = .next t ∧ t.grp = s.grp
        ∧ t.mem = { s.mem with partnerState := 2, vigilFrames := 0, vigilLosses := satInc 32 s.mem.vigilLosses }
        ∧ (cause ≠ .overflow true → t.nv.recorder = s.nv.recorder))
  ∧ (∀ (cause : VigilCause) (s : State), s.follows = true → s.mem.state = .vigil →
      let missing : Nat := if s.mem.gotImage = false then 0 else if s.mem.gotDecision = false then 1 else 2
      let why : List Byte := match cause with
        | .late => [byte missing, 0]
        | .check => [byte missing, 1]
        | .overflow _ => [2, 2]
      ∃ t, exec (.vigilLost cause) s = .next t ∧ t.mem.state = .syncing ∧ t.mem.vigilReady = false ∧ t.mem.completeRun = 0
        ∧ t.mem.vigilLosses = satInc 32 s.mem.vigilLosses
        ∧ t.nv.recorder = s.nv.recorder.add (s.mkRec 0x0105 0xFF why))
  ∧ (∀ (up : Bool) (s : State), s.running = true → ∃ t, exec (.eth1LinkLoss up) s = .next t ∧ t.mem.eth1 = up
        ∧ (up = true → t.mem.state = s.mem.state)
        ∧ (up = false → t.mem.partnerState = 0xFF)
        ∧ (up = false → s.follows = true → t.mem.state = .syncing)
        ∧ (s.holds = true → t.mem.state = s.mem.state))
  ∧ (∀ (ns : Int) (s : State), s.running = true → s.boot.pair.paired = true → ∃ t, exec (.calendsLock ns) s = .next t
        ∧ t.mem.offsetNs = ns
        ∧ (ns.natAbs ≤ 200 → t.mem.lockRun = min 64 (s.mem.lockRun + 1) ∧ t.mem.unlockRun = 0
            ∧ (63 ≤ s.mem.lockRun → t.mem.locked = true))
        ∧ (200 < ns.natAbs → t.mem.lockRun = 0 ∧ t.mem.unlockRun = min 4 (s.mem.unlockRun + 1)
            ∧ (3 ≤ s.mem.unlockRun → t.mem.locked = false ∧ (s.mem.state = .vigil → t.mem.state = .syncing))))
  ∧ ∀ s : State, s.follows = true → ∃ t, exec .resyncComplete s = .next t ∧ t.mem.resynced = true ∧ t.mem.progress = 256
      ∧ (s.mem.state = .syncing → s.mem.locked = true → s.mem.afterDrill = false → 64 ≤ s.mem.completeRun →
          s.mem.configMatch = true → s.mem.selConflict = false → t.mem.state = .vigil)

/-- Resets (R569–R572, R582, R583, R424, R426): a reset of a powered module leaves fuses, NAND and the car-top endpoints and nothing
else of its state, and its cause is known; a brown-out holds the module until its rails are back; a watchdog or an uncorrectable
word resets a single module and makes a pair's member give up HOLD or its vigil; a clean word changes nothing and a corrected one is
counted for its memory; a word counts as corrected only where a codeword that differs from it in at most three symbols, none of them
an address symbol, stands for it; a patrol pass is counted with the words that it corrects. -/
def Obligations.Resets : Prop :=
  (∀ (x : ResetCause) (s : State), s.boot.phase ≠ .off → ∃ t, exec (.reset x) s = .next t
      ∧ t.boot.phase = .powered ∧ t.boot.lastReset = x.code ∧ t.boot.life = lifeOf s.nv.groups ∧ t.boot.pair = {} ∧ t.boot.net = {}
      ∧ t.grp = {} ∧ t.mem = {} ∧ t.host = {} ∧ t.io.ends = s.io.ends ∧ t.io.buses = Vector.replicate 16 { idle := true }
      ∧ t.nv = { s.nv with recorder := s.nv.recorder.afterReset }
      ∧ (x ≠ .memory → t.io.banks = Vector.replicate 16 {})
      ∧ (x = .memory → ∀ b : BankId, t.io.banks[b.val].timerExpired = true ∧ t.io.banks[b.val].gateOpen = false))
  ∧ (∀ (x : ResetCause) (s : State), s.boot.phase = .off → exec (.reset x) s = .next s)
  ∧ (∀ s : State, ∃ t, exec .brownOut s = .next t ∧ t.boot.phase = .off ∧ t.grp = {} ∧ t.mem = {} ∧ t.host = {}
      ∧ t.nv = { s.nv with recorder := s.nv.recorder.afterReset } ∧ t.io.ends = s.io.ends)
  ∧ (∀ s : State, s.running = true → s.boot.pair.paired = false →
      (∀ cc : Fin 2, ∃ t, exec (.watchdog cc) s = .next t ∧ exec (.reset .watchdog) s = .next t)
      ∧ ∀ m : MemWord, m.read = .uncorrectable → ∃ t, exec (.memoryUncorrectable m) s = .next t ∧ exec (.reset .memory) s = .next t)
  ∧ (∀ (s : State) (cc : Fin 2) (m : MemWord), s.running = true → s.boot.pair.paired = true → m.read = .uncorrectable →
      s.boot.cacheCorrected < 2 ^ 32 → s.boot.dramCorrected < 2 ^ 32 →
      ∀ q ∈ [(Instr.watchdog cc, 33), (Instr.memoryUncorrectable m, 32)],
        (s.mem.state = .holder → s.mem.releaseDue = none →
          exec q.1 s = .next { s with mem := { s.mem with releaseDue := some q.2 } })
        ∧ (s.mem.state = .vigil ∨ s.mem.state = .syncing →
          exec q.1 s = .next { s with mem := { s.mem with state := .released, vigilReady := false, completeRun := 0 } }))
  ∧ (∀ (m : MemWord) (s : State), s.running = true → s.boot.cacheCorrected < 2 ^ 32 → s.boot.dramCorrected < 2 ^ 32 →
      (m.read = .clean → exec (.memoryUncorrectable m) s = .next s)
      ∧ (m.read = .corrected → m.cache = true → exec (.memoryUncorrectable m) s =
          .next { s with boot := { s.boot with cacheCorrected := satInc 32 s.boot.cacheCorrected } })
      ∧ (m.read = .corrected → m.cache = false → exec (.memoryUncorrectable m) s =
          .next { s with boot := { s.boot with dramCorrected := satInc 32 s.boot.dramCorrected } }))
  ∧ (∀ m : MemWord, m.read = .corrected →
      let w := padTo 32 m.data ++ addressSymbols m.addr ++ padTo 6 m.check
      ∃ x : List Byte, isCodeword x = true ∧ x.length = 40 ∧ x ≠ w ∧ ((List.range 40).countP fun i => x.getD i 0 != w.getD i 0) ≤ 3
        ∧ (x.drop 32).take 2 = addressSymbols m.addr)
  ∧ (∀ (ms : List MemWord) (s : State), s.running = true → (∀ m ∈ ms, m.read ≠ .uncorrectable) →
      exec (.patrolScrub ms) s = .next { s with boot := { s.boot with
        dramCorrected := satAdd 32 s.boot.dramCorrected (ms.filter fun m => m.read == .corrected).length,
        scrubPasses := satInc 32 s.boot.scrubPasses } })
  ∧ ∀ (ms : List MemWord) (m : MemWord) (s : State), s.running = true → s.boot.pair.paired = false → m ∈ ms →
      m.read = .uncorrectable → ∃ t, exec (.patrolScrub ms) s = .next t ∧ exec (.reset .memory) s = .next t

/-- A Calends (R33, R20): while a member holds HOLD, and not as member A in contention, each one begins the next frame, whatever
the frame's inputs are, and it leaves the module running with its straps and counts the frame's corrected cache words; before the
control plane runs nothing counts. -/
def Obligations.CalendsCounts : Prop :=
  (∀ (x : FrameIn) (s : State), s.running = true → s.holds = true → s.mem.releaseDue = none → s.contends = false →
      ∃ t, exec (.calends x) s = .next t ∧ t.grp.frame = s.grp.frame + 1 ∧ t.io.ends = s.io.ends
        ∧ t.boot = { s.boot with cacheCorrected := satAdd 32 s.boot.cacheCorrected (x.cacheWords.filter fun m => m.read == .corrected).length }
        ∧ t.nv.groups = s.nv.groups ∧ t.nv.copies = s.nv.copies ∧ t.nv.epoch = s.nv.epoch)
  ∧ ∀ (x : FrameIn) (s : State), s.running = false → exec (.calends x) s = .next s

/-- Time (R532, R533, R539): SECONDS advances when its Calends are counted, and sticks at its largest value; the save keeps the
group's second; a flush leaves no record unsaved. -/
def Obligations.TimeKept : Prop :=
  (∀ s : State, s.running = true → s.grp.fis ≠ 0xFFFF → s.grp.frameLen.perSecond ≤ s.grp.fis →
      ∃ t, exec .secondsTick s = .next t ∧ t.grp.seconds = satInc 32 s.grp.seconds
        ∧ t.grp.fis = s.grp.fis - s.grp.frameLen.perSecond)
  ∧ (∀ s : State, s.grp.fis < s.grp.frameLen.perSecond → exec .secondsTick s = .next s)
  ∧ (∀ s : State, s.running = true → exec .secondsSave s = .next { s with nv := { s.nv with secondsSaved := s.time.1 } })
  ∧ ∀ s : State, ∃ t, exec .recorderFlush s = .next t ∧ t.nv.recorder.unsaved = 0 ∧ t.nv.recorder.recs = s.nv.recorder.recs
      ∧ (s.nv.recorder.isOpen = true → t.nv.recorder.openCopy = s.nv.recorder.recs.head?)
      ∧ (s.nv.recorder.isOpen = false → t.nv.recorder.openCopy = none)

/-- The test access port (R549–R551): IDCODE and BYPASS are obeyed always and leave the pins; EXTEST takes the pins and SAMPLE
leaves them in MAKER, ISSUED and scan-hold, and neither does anything elsewhere; the debugger halts and resumes one loaded kernel
of a running module in MAKER and ISSUED, and in no other life-cycle state. -/
def Obligations.TestPort : Prop :=
  (∀ (s : State), ∀ ir ∈ [TapIr.idcode, TapIr.bypass],
      exec (.tapInstruction ir) s = .next { s with boot := { s.boot with extest := false } })
  ∧ (∀ s : State,
      let allowed := s.boot.phase ≠ .off ∧ (s.boot.life = .maker ∨ s.boot.life = .issued ∨ s.boot.phase = .scanHold)
      (allowed → exec (.tapInstruction .extest) s = .next { s with boot := { s.boot with extest := true } }
        ∧ exec (.tapInstruction .sample) s = .next { s with boot := { s.boot with extest := false } })
      ∧ (¬ allowed → exec (.tapInstruction .extest) s = .next s ∧ exec (.tapInstruction .sample) s = .next s))
  ∧ ∀ (k : SlotId) (s : State),
      let allowed := s.running = true ∧ (s.boot.life = .maker ∨ s.boot.life = .issued)
      (allowed → (s.kernel k).state ≠ .empty →
        (∃ t, exec (.tapInstruction (.debugHalt k)) s = .next t ∧ t.kernel k = { s.kernel k with halted := true }
          ∧ ∀ k' : SlotId, k' ≠ k → t.kernel k' = s.kernel k')
        ∧ ∃ t, exec (.tapInstruction (.debugResume k)) s = .next t ∧ t.kernel k = { s.kernel k with halted := false }
          ∧ ∀ k' : SlotId, k' ≠ k → t.kernel k' = s.kernel k')
      ∧ (¬ allowed → ∀ ir ∈ [TapIr.debugHalt k, TapIr.debugResume k], exec (.tapInstruction ir) s = .next s)

/-- The state after a host write that concerns a ring: it is taken, or it is ignored, sets BAD_INDEX and is counted (R462–R465). -/
def ringTakes (s : State) (r : RingId) (taken : Bool) (q : Ring) : State :=
  if taken then { s with host := { s.host with rings := s.host.rings.set r.val q } }
  else { s with host := { s.host with
    rings := s.host.rings.set r.val
      { s.host.rings[r.val] with badIndex := true, badEvents := satInc 32 s.host.rings[r.val].badEvents },
    irqEvent := s.host.irqEvent ||| 2#6 } }

/-- The native window's rings (R456, R458, R461–R465), each write answering the state that the rules give: PROD of a ring that the host
produces into moves forward no further than CONS and SLOTS allow, CONS of one that it consumes no further than PROD, and any other
index write is ignored, sets BAD_INDEX and is counted; a doorbell rings a ring that is not OFF; a slot window writes both bytes of a
word into a slot that the host owns and no other byte, and into no other slot; a window on an OFF ring does nothing; before the
window answers, none of them does anything. A read of FRAME0 latches the words above it. A strobe held too long is counted as a bus
error and sets HOST_BUS. -/
def Obligations.RingWrites : Prop :=
  (∀ (r : RingId) (v : BitVec 16) (s : State), s.nativeUp = true →
      let q := s.host.rings[r.val]
      let n := (v.setWidth 13).toNat
      let m := 2 * 2 ^ q.slotsLog2
      exec (.prodWrite r v) s = .next (ringTakes s r
        (decide ((q.use = .command ∨ q.use = .dataIn) ∧ n < m
          ∧ (n + m - q.prod) % m ≤ (q.cons + 2 ^ q.slotsLog2 + m - q.prod) % m)) { q with prod := n }))
  ∧ (∀ (r : RingId) (v : BitVec 16) (s : State), s.nativeUp = true →
      let q := s.host.rings[r.val]
      let n := (v.setWidth 13).toNat
      let m := 2 * 2 ^ q.slotsLog2
      exec (.consWrite r v) s = .next (ringTakes s r
        (decide ((q.use = .reply ∨ q.use = .dataOut) ∧ n < m ∧ (n + m - q.cons) % m ≤ (q.prod + m - q.cons) % m))
        { q with cons := n }))
  ∧ (∀ (r : RingId) (s : State), s.nativeUp = true →
      (s.host.rings[r.val].use ≠ .off → exec (.doorbell r) s = .next { s with host := { s.host with rung := s.host.rung.set r.val true } })
      ∧ (s.host.rings[r.val].use = .off → exec (.doorbell r) s = .next (ringTakes s r false {})))
  ∧ (∀ (w : Fin 4) (o : Nat) (v : BitVec 16) (s : State), s.nativeUp = true →
      let o' := o % 0x4000 / 2 * 2
      let r := (s.windowSlot w o').1
      let p := (s.windowSlot w o').2
      let q := s.host.rings[r.val]
      let at_ := p * q.size + o' % q.size
      let data := Mem.set 0 (Mem.set 0 q.data at_ (v.setWidth 8)) (at_ + 1) (v.extractLsb' 8 8)
      (q.use = .off → exec (.slotWindowWrite w o v) s = .next s)
      ∧ (q.use = .reply ∨ q.use = .dataOut ∨ (q.use ≠ .off ∧ q.published p = true) →
          exec (.slotWindowWrite w o v) s = .next (ringTakes s r false {}))
      ∧ (q.use = .command ∨ q.use = .dataIn → q.published p = false →
          exec (.slotWindowWrite w o v) s = .next (ringTakes s r true { q with data := data }))
      ∧ (Mem.wf 0 q.data = true → Mem.get 0 data at_ = v.setWidth 8 ∧ Mem.get 0 data (at_ + 1) = v.extractLsb' 8 8
          ∧ ∀ a : Nat, a ≠ at_ → a ≠ at_ + 1 → Mem.get 0 data a = Mem.get 0 q.data a))
  ∧ (∀ (r : RingId) (w : Fin 4) (o : Nat) (v : BitVec 16) (s : State), s.nativeUp = false →
      ∀ i ∈ [Instr.prodWrite r v, .consWrite r v, .doorbell r, .slotWindowWrite w o v], exec i s = .next s)
  ∧ (∀ s : State,
      (s.boot.mode = 0 → exec .frame0Read s = .next { s with host := { s.host with frameLatch := s.grp.frame / 2 ^ 16 } })
      ∧ (s.boot.mode ≠ 0 → exec .frame0Read s = .next s))
  ∧ ∀ s : State,
      (s.boot.mode = 0 → exec .hostStrobeTimeout s = .next { s with host := { s.host with
        busErrors := satInc 16 s.host.busErrors, irqEvent := s.host.irqEvent ||| 1#6 } })
      ∧ (s.boot.mode ≠ 0 → exec .hostStrobeTimeout s = .next { s with host := { s.host with
        ul40BusErrors := satInc 32 s.host.ul40BusErrors, irqEvent := s.host.irqEvent ||| 1#6 } })

/-- Every ring that a write through the native window can reach keeps its bytes in canonical form: addresses rise, and no listed
byte is zero. -/
def Obligations.RingBytesCanonical : Prop :=
  ∀ (i : Instr) (r : RingId) (v : BitVec 16) (w : Fin 4) (o : Nat) (cs : BusSelect) (a : Nat) (s t : State),
    i ∈ [Instr.prodWrite r v, .consWrite r v, .doorbell r, .slotWindowWrite w o v, .registerWrite cs a v] →
    (∀ r : RingId, Mem.wf 0 s.host.rings[r.val].data = true) → exec i s = .next t →
    ∀ r : RingId, Mem.wf 0 t.host.rings[r.val].data = true

/-- The UL-40 image (R515, R518, R519): every command write of an image that serves its car is counted and waits for the next
Calends, a second write of a register in a frame taking the first one's place; POS_LO latches POS_HI; a read of EVENTS clears
them; an image that does not serve takes nothing. -/
def Obligations.ImageAccesses : Prop :=
  (∀ (c : CarId) (v : BitVec 16) (s : State), s.imageUp c = true →
      ∀ q ∈ [(Instr.doorCmdOpen c v, 0x0E), (.doorCmdClose c v, 0x0E), (.doorCmdStop c v, 0x0E), (.stopCmdAdd c v, 0x0F),
          (.stopCmdRemove c v, 0x0F), (.stopCmdClearTarget c v, 0x0F), (.serviceCmd c v, 0x11), (.vmaxCmd c v, 0x12),
          (.outWord c v, 0x14), (.dwell c v, 0x0B), (.accessDwell c v, 0x0C), (.nudgeCount c v, 0x0D)],
        ∃ t, exec q.1 s = .next t ∧ (t.car c).ul40 = { (s.car c).ul40 with writes := satInc 32 (s.car c).ul40.writes }
          ∧ ∃ kept : List Deferred, t.grp.deferred = kept ++ [.image c q.2 v.toNat]
              ∧ kept.Sublist s.grp.deferred ∧ (∀ n : Nat, Deferred.image c q.2 n ∉ kept)
              ∧ ∀ d ∈ s.grp.deferred, (∀ n : Nat, d ≠ .image c q.2 n) → d ∈ kept)
  ∧ (∀ (c : CarId) (v : BitVec 16) (s : State), s.imageUp c = false →
      ∀ i ∈ [Instr.doorCmdOpen c v, .doorCmdClose c v, .doorCmdStop c v, .stopCmdAdd c v, .stopCmdRemove c v, .stopCmdClearTarget c v,
          .serviceCmd c v, .vmaxCmd c v, .outWord c v, .dwell c v, .accessDwell c v, .nudgeCount c v, .posLoRead c, .eventsRead c],
        exec i s = .next s)
  ∧ (∀ (c : CarId) (s : State), s.imageUp c = true → ∃ t, exec (.posLoRead c) s = .next t
      ∧ (t.car c).ul40.posHi =
          (clampInt 0 0xFFFFFF (s.grp.shownCars[c.val].pos.units / 16 + (s.car c).ul40.offsetMm)).toNat / 65536
      ∧ (t.car c).ul40.reads = satInc 32 (s.car c).ul40.reads ∧ (t.car c).ul40.events = (s.car c).ul40.events)
  ∧ (∀ (c : CarId) (s : State), s.imageUp c = true → ∃ t, exec (.eventsRead c) s = .next t
      ∧ (t.car c).ul40 = { (s.car c).ul40 with events := 0, reads := satInc 32 (s.car c).ul40.reads })

/-- REGISTER_WRITE (R453, R458, R459, R466, R512): in UL-40 and mixed mode it is a write of the image's register, in native mode
of the native window: interrupt bits written 1 clear, masks and window pages are taken, identification words take nothing. A cycle
with both strobes low in native mode, or with two selects low in the others, is counted and taken nowhere; an image cycle with
both strobes low is not counted (log 337, the model's choice). -/
def Obligations.RegisterWrites : Prop :=
  (∀ (c : CarId) (a : Nat) (v : BitVec 16) (s : State), s.imageUp c = true → imageWs (a / 2 % 64) = true →
      ∃ t, exec (.registerWrite { cs := c } a v) s = .next t ∧ (t.car c).ul40.writes = satInc 32 (s.car c).ul40.writes
        ∧ Deferred.image c (a / 2 % 64) v.toNat ∈ t.grp.deferred ∧ t.host = s.host)
  ∧ (∀ (k : Fin 4) (v : BitVec 16) (s : State), s.nativeUp = true →
      (∃ t, exec (.registerWrite {} (0x100 + 2 * k.val) v) s = .next t ∧ t.host.irqMask = s.host.irqMask
        ∧ ∀ n : Fin 64, t.host.irqRing.getLsbD n.val =
            (s.host.irqRing.getLsbD n.val && !(decide (n.val / 16 = k.val) && v.getLsbD (n.val % 16))))
      ∧ (∃ t, exec (.registerWrite {} (0x108 + 2 * k.val) v) s = .next t ∧ t.host.irqRing = s.host.irqRing
        ∧ ∀ n : Fin 64, t.host.irqMask.getLsbD n.val =
            if n.val / 16 = k.val then v.getLsbD (n.val % 16) else s.host.irqMask.getLsbD n.val)
      ∧ (exec (.registerWrite {} (0x120 + 4 * k.val) v) s = .next { s with host := { s.host with
            pageRing := s.host.pageRing.set k.val (v.toNat % 64) } })
      ∧ (exec (.registerWrite {} (0x122 + 4 * k.val) v) s = .next { s with host := { s.host with
            pageSlot := s.host.pageSlot.set k.val (v.toNat % 4096) } }))
  ∧ (∀ (v : BitVec 16) (s : State), s.nativeUp = true →
      ∃ t, exec (.registerWrite {} 0x110 v) s = .next t ∧ t.host.irqEventMask = s.host.irqEventMask
        ∧ ∀ n : Fin 6, t.host.irqEvent.getLsbD n.val = (s.host.irqEvent.getLsbD n.val && !v.getLsbD n.val))
  ∧ (∀ (r : RingId) (v : BitVec 16) (s : State), s.nativeUp = true →
      exec (.registerWrite {} (0x200 + 8 * r.val) v) s = exec (.prodWrite r v) s
      ∧ exec (.registerWrite {} (0x202 + 8 * r.val) v) s = exec (.consWrite r v) s
      ∧ exec (.registerWrite {} (0x400 + 2 * r.val) v) s = exec (.doorbell r) s)
  ∧ (∀ (a : Nat) (v : BitVec 16) (s : State), s.nativeUp = true → a < 0x100 → exec (.registerWrite {} a v) s = .next s)
  ∧ (∀ (b : BusSelect) (a : Nat) (v : BitVec 16) (s : State), s.boot.mode = 1 ∨ s.boot.mode = 2 →
      (b.others = true → exec (.registerWrite b a v) s =
          .next { s with host := { s.host with ul40BusErrors := satInc 32 s.host.ul40BusErrors } })
      ∧ (b.others = false → b.rd = true → exec (.registerWrite b a v) s = .next s))
  ∧ ∀ (b : BusSelect) (a : Nat) (v : BitVec 16) (s : State), s.boot.mode = 0 →
      (b.cs ≠ 0 → exec (.registerWrite b a v) s = .next s)
      ∧ (b.cs = 0 → b.rd = true → exec (.registerWrite b a v) s =
          .next { s with host := { s.host with busErrors := satInc 16 s.host.busErrors } })

/-- The network mailbox (R473–R477): a valid OPEN opens the first closed session and answers; an older SLOT is acknowledged again
and a later one discarded; ACK forgets the slots below it, and the next oldest has its own 50 ms; CLOSE, 60 s of silence and the
21st resend close the session; a datagram without a valid MAC changes no session; each opening has a number of its own; an ARP
request for the group's address is answered. -/
def Obligations.NetworkSessions : Prop :=
  (∀ (d : Datagram) (key : List Byte) (n : CarId) (s : State), s.netUp = true → s.nv.netKey = some key → s.freeSession = some n →
      d.magic = 0x4758 → d.session = 0 → d.data.length = 16 → d.mac = hmacSha256 key (zeros 32 ++ datagramHead 0 0 d.index d.data) →
      ∃ t, exec (.netOpen d) s = .next t ∧
        let x := t.grp.sessions[n.val]
        x.isOpen = true ∧ x.key = key ∧ x.hostNonce = d.data ∧ x.rxIndex = 0 ∧ x.txIndex = 0 ∧ x.unacked = []
        ∧ x.serial = s.grp.sessions[n.val].serial + 1
        ∧ (∃ nonce : List Byte, x.moduleNonce = nonce
            ∧ t.host.ethOut = s.host.ethOut ++ [datagram key (zeros 32) 1 (n.val + 1) 0 (nonce ++ d.data)])
        ∧ ∀ m : CarId, m ≠ n → t.grp.sessions[m.val] = s.grp.sessions[m.val])
  ∧ (∀ (d : Datagram) (n : CarId) (s : State), s.netUp = true → s.authSession 2 d = some n → d.data.length ≤ 1024 →
      d.index ≠ s.grp.sessions[n.val].rxIndex →
      ∃ t, exec (.netSlot d) s = .next t
        ∧ t.grp.sessions[n.val] = { s.grp.sessions[n.val] with lastValid := s.grp.frame } ∧ t.grp.sources = s.grp.sources
        ∧ (s.grp.sessions[n.val].rxIndex < d.index → t.host.ethOut = s.host.ethOut)
        ∧ (d.index < s.grp.sessions[n.val].rxIndex → t.host.ethOut.length = s.host.ethOut.length + 1))
  ∧ (∀ (d : Datagram) (n : CarId) (s : State), s.netUp = true → s.authSession 2 d = some n → d.data.length = 1024 →
      d.index = s.grp.sessions[n.val].rxIndex →
      let src := Source.ofSession n
      s.grp.sources[src.val].asm ≠ [] → fieldAt (s.grp.sources[src.val].asm ++ d.data) 4 2 ≤ 16368 →
      s.grp.sources[src.val].asm.length + 1024 < 16 + fieldAt (s.grp.sources[src.val].asm ++ d.data) 4 2 →
      ∃ t, exec (.netSlot d) s = .next t ∧ t.grp.sessions[n.val].rxIndex = (d.index + 1) % 2 ^ 32
        ∧ t.grp.sources[src.val].asm = s.grp.sources[src.val].asm ++ d.data ∧ t.host.ethOut.length = s.host.ethOut.length + 1)
  ∧ (∀ (d : Datagram) (n : CarId) (s : State), s.netUp = true → s.authSession 3 d = some n →
      s.host.held[(Source.ofSession n).val] = [] →
      ∃ t, exec (.netAck d) s = .next t
        ∧ t.grp.sessions[n.val].unacked = s.grp.sessions[n.val].unacked.filter (fun u => decide (d.index ≤ u.1))
        ∧ (t.grp.sessions[n.val].unacked.length = s.grp.sessions[n.val].unacked.length →
            t.grp.sessions[n.val] = { s.grp.sessions[n.val] with lastValid := s.grp.frame })
        ∧ (t.grp.sessions[n.val].unacked.length ≠ s.grp.sessions[n.val].unacked.length →
            t.grp.sessions[n.val].resends = 0 ∧ t.grp.sessions[n.val].resentAt = s.grp.frame))
  ∧ (∀ (d : Datagram) (n : CarId) (s : State), s.netUp = true → s.authSession 4 d = some n →
      ∃ t, exec (.netClose d) s = .next t ∧ t.grp.sessions[n.val] = { serial := s.grp.sessions[n.val].serial }
        ∧ t.grp.sources[(Source.ofSession n).val] = {}
        ∧ t.host.held[(Source.ofSession n).val] = [])
  ∧ (∀ (n : CarId) (i : Nat) (b : List Byte) (rest : List (Nat × List Byte)) (s : State), s.netUp = true →
      s.grp.sessions[n.val].isOpen = true → s.grp.sessions[n.val].resentAt + s.msFrames 50 ≤ s.grp.frame →
      s.grp.sessions[n.val].unacked = (i, b) :: rest →
      ∃ t, exec (.netResend n) s = .next t ∧ t.host.ethOut.length = s.host.ethOut.length + 1
        ∧ (s.grp.sessions[n.val].resends < 20 → t.grp.sessions[n.val] =
            { s.grp.sessions[n.val] with resends := s.grp.sessions[n.val].resends + 1, resentAt := s.grp.frame })
        ∧ (20 ≤ s.grp.sessions[n.val].resends → t.grp.sessions[n.val] = { serial := s.grp.sessions[n.val].serial }))
  ∧ (∀ (n : CarId) (s : State), s.netUp = true → s.grp.sessions[n.val].isOpen = true →
      s.grp.sessions[n.val].lastValid + s.msFrames 60000 ≤ s.grp.frame →
      ∃ t, exec (.netSessionTimeout n) s = .next t ∧ t.grp.sessions[n.val] = { serial := s.grp.sessions[n.val].serial }
        ∧ t.grp.jobs = s.grp.jobs)
  ∧ (∀ (d : Datagram) (s : State), s.netUp = true →
      ∀ q ∈ [(Instr.netSlot d, 2), (.netAck d, 3), (.netClose d, 4)], s.authSession q.2 d = none →
        ∃ t, exec q.1 s = .next t ∧ t.grp = s.grp ∧ t.host.ethOut = s.host.ethOut
          ∧ (s.host.authAt = some s.time.1 → t.host.authFailures = satInc 32 s.host.authFailures ∧ t.nv.recorder = s.nv.recorder)
          ∧ (s.host.authAt ≠ some s.time.1 → t.host.authFailures = 0 ∧ t.nv.recorder =
              s.nv.recorder.add (s.mkRec 0x0D01 0xFF (leBytes 4 (satInc 32 s.host.authFailures)))))
  ∧ ∀ (f : List Byte) (s : State), s.netUp = true →
      exec (.netArpIcmp f) s = .next { s with host := { s.host with ethOut := s.host.ethOut ++
        ((arpReply s.boot.net.ip f).orElse fun _ => echoReply s.boot.net.ip f).toList } }

/-- Rings at work (R465, R466, R470–R472, R491): a service takes the published slot of a whole command and serves it as its mailbox
row does; a chain that has waited 1,000 ms is discarded and said so; a reply that fits the free slot is published with its
interrupt; a job's progress is posted each 16/256. -/
def Obligations.RingsServed : Prop :=
  (∀ (r : RingId) (d : CmdDef) (s : State), s.running = true → s.holds = true →
      let q := s.host.rings[r.val]
      let src := Source.ofRing r
      let b := q.slotBytes q.cons
      q.use = .command → q.used = 1 → s.grp.sources[src.val].asm = [] → headerPasses b = true → 16 + fieldAt b 4 2 ≤ b.length →
      s.startRoom src b = true → commandTable (fieldAt b 0 2) = some d →
      ∃ u, exec (.ringService r) s = .next (s.within serviceParts (serve d (cmdOf src b) u))
        ∧ u.host.rings[r.val].cons = q.next q.cons ∧ u.host.rings[r.val].data = q.data ∧ u.host.rung[r.val] = false
        ∧ u.grp.sources = s.grp.sources)
  ∧ (∀ (r : RingId) (s : State), s.running = true → s.holds = true → s.host.rings[r.val].use = .dataIn →
      exec (.ringService r) s = .next { s with host := { s.host with rung := s.host.rung.set r.val false } })
  ∧ (∀ (src : Source) (s : State), s.running = true → s.grp.sources[src.val].asm ≠ [] →
      s.grp.sources[src.val].asmAt + s.msFrames 1000 ≤ s.grp.frame →
      ∃ t, exec (.chainTimeout src) s = .next t ∧ t.grp.sources[src.val].asm = []
        ∧ t.grp.sources[src.val].discarded = satInc 32 s.grp.sources[src.val].discarded
        ∧ ∀ r : RingId, src.ring = some r → t.host.rings[r.val].chainDiscarded = true ∧ t.host.irqEvent.getLsbD 5 = true)
  ∧ (∀ (r : RingId) (h : Held) (s : State), s.holds = true →
      let q := s.host.rings[r.val]
      s.host.held[(Source.ofRing r).val] = [h] → q.use = .reply → 0 < q.room → h.bytes ≠ [] → h.bytes.length ≤ q.size →
      ∃ t, exec (.replyPost (Source.ofRing r)) s = .next t ∧ t.host.held[(Source.ofRing r).val] = []
        ∧ t.host.rings[r.val] = q.publish h.bytes ∧ t.host.irqRing.getLsbD r.val = true)
  ∧ (∀ (id f n : Nat) (j : Job) (s : State), s.holds = true → s.findJob (fun j => j.id = id) = some j → f ≤ 256 → j.posted + 16 ≤ f →
      ∃ t, exec (.jobProgress id f n) s = .next t ∧
        t.grp.jobs = s.grp.jobs.map fun x => if x.id = id then { x with fraction := f, posted := f, cycles := n } else x)
  ∧ ∀ (id f n : Nat) (s : State), s.findJob (fun j => j.id = id) = none → exec (.jobProgress id f n) s = .next s

/-- An engine after one single-cycle instruction outside a delay slot and a repetition: the next address, one more cycle, and
the writes that the instruction makes visible, in order. -/
def engAfter (g : Engine) (ws : List PipeWrite) : Engine :=
  ws.foldl (fun h w => w.apply h) { g with pc := (g.pc + 1) % 16384, cycles := g.cycles + 1 }

/-- An engine that issues its next instruction with nothing under way: the control plane runs, the context has cycles left, no
delay slot or repetition is open, no write is on its way, and no handler waits for the boundary. -/
def EngCalm (s : State) (e : EngId) : Prop :=
  s.running = true ∧ s.cyclesOut e = false ∧ (s.eng e).delayed = none ∧ (s.eng e).rep = none ∧ (s.eng e).pipe = []
    ∧ ((s.eng e).queue = [] ∨ ∃ k, (s.eng e).ctx = .frame k ∨ (s.eng e).ctx = .ring k ∨ (s.eng e).ctx = .mbx k)

/-- A signed sum in 32 bits: it wraps, or with SAT stops at the ends of the range (R377). -/
def sum32 (sat : Bool) (n : Int) : BitVec 32 :=
  if sat = true ∧ 2147483647 < n then 0x7FFFFFFF#32 else if sat = true ∧ n < -2147483648 then 0x80000000#32 else BitVec.ofInt 32 n

/-- A figure fitted to the 40 bits of an accumulator (R391). -/
def acc40 (sat : Bool) (n : Int) : BitVec 40 :=
  if sat = true ∧ 549755813887 < n then 0x7FFFFFFFFF#40 else if sat = true ∧ n < -549755813888 then 0x8000000000#40
  else BitVec.ofInt 40 n

/-- The product of two signed 16-bit halves, doubled in fractional mode but for −1 × −1 (R390). -/
def mul16 (frac : Bool) (m n : BitVec 32) : Int :=
  let p := (m.setWidth 16).toInt * (n.setWidth 16).toInt
  if frac = false then p else if p = 1073741824 then 2147483647 else 2 * p

/-- One register access law of an engine (R376, R382): a write of a general register or a pointer changes that register, in the bank
of its level where it has two, and no other. -/
def Obligations.EngineRegisters : Prop :=
  (∀ (g : Engine) (r r' : GReg) (v : BitVec 32),
      ((PipeWrite.g g.interrupt r v).apply g).readG r' = if r' = r then v else g.readG r')
  ∧ (∀ (g : Engine) (r r' : GReg) (v : BitVec 32), r.val < 8 → ((PipeWrite.g (!g.interrupt) r v).apply g).readG r' = g.readG r')
  ∧ (∀ (g : Engine) (p p' : Fin 4) (v : BitVec 14),
      ((PipeWrite.p g.interrupt p v).apply g).readP p' = if p' = p then v else g.readP p')
  ∧ ∀ (g : Engine) (r : GReg) (p : Fin 4) (v : BitVec 32), ((PipeWrite.g g.interrupt r v).apply g).readP p = g.readP p

/-- Sums and differences of an engine (R377, R389): ADD, SUB, ADDI write GD and Z, N, C, V; CMP and CMPI write the flags alone;
nothing else of the engine changes but its address and its cycles. -/
def Obligations.EngineSums : Prop :=
  ∀ (e : EngId) (gd ga gb : GReg) (imm : BitVec 16) (s : State), EngCalm s e →
    let g := s.eng e
    let sat := g.bank.st.getLsbD 5
    let a := g.readG ga
    let b := g.readG gb
    let d := g.readG gd
    let w : BitVec 32 := imm.signExtend 32
    let out (n : Int) : Bool := decide (n < -2147483648) || decide (2147483647 < n)
    let flags (v : BitVec 32) (c : Bool) (n : Int) : PipeWrite := .flags g.interrupt (decide (v = 0)) v.msb c (out n)
    (∀ q ∈ [(Instr.add e gd ga gb, a.toInt + b.toInt, decide (2 ^ 32 ≤ a.toNat + b.toNat)),
          (.sub e gd ga gb, a.toInt - b.toInt, decide (b.toNat ≤ a.toNat)),
          (.addi e gd imm, d.toInt + w.toInt, decide (2 ^ 32 ≤ d.toNat + w.toNat))],
        ∃ t, exec q.1 s = .next t
          ∧ t.eng e = engAfter g [flags (sum32 sat q.2.1) q.2.2 q.2.1, .g g.interrupt gd (sum32 sat q.2.1)]
          ∧ ∀ e' : EngId, e' ≠ e → t.eng e' = s.eng e')
    ∧ ∀ q ∈ [(Instr.cmp e ga gb, a.toInt - b.toInt, decide (b.toNat ≤ a.toNat)),
          (.cmpi e gd imm, d.toInt - w.toInt, decide (w.toNat ≤ d.toNat))],
        ∃ t, exec q.1 s = .next t ∧ t.eng e = engAfter g [flags (sum32 sat q.2.1) q.2.2 q.2.1]

/-- Logical operations write GD and the flags, with C and V 0; shifts, ABS, NEG, MOV, MOVI and MOVHI write GD and no flag (R389). -/
def Obligations.EngineLogic : Prop :=
  ∀ (e : EngId) (gd ga gb : GReg) (n : Fin 32) (imm : BitVec 16) (s : State), EngCalm s e →
    let g := s.eng e
    let sat := g.bank.st.getLsbD 5
    let a := g.readG ga
    let b := g.readG gb
    (∀ q ∈ [(Instr.and e gd ga gb, a &&& b), (.or e gd ga gb, a ||| b), (.xor e gd ga gb, a ^^^ b),
          (.andi e gd imm, g.readG gd &&& imm.setWidth 32)],
        ∃ t, exec q.1 s = .next t
          ∧ t.eng e = engAfter g [.flags g.interrupt (decide (q.2 = 0)) q.2.msb false false, .g g.interrupt gd q.2])
    ∧ ∀ q ∈ [(Instr.asr e gd ga n, a.sshiftRight n.val), (.lsr e gd ga n, a >>> n.val), (.shl e gd ga n, a <<< n.val),
          (.abs e gd ga, sum32 sat a.toInt.natAbs), (.neg e gd ga, sum32 sat (-a.toInt)), (.mov e gd ga, a),
          (.movi e gd imm, imm.signExtend 32), (.movhi e gd imm, imm ++ (g.readG gd).setWidth 16)],
        ∃ t, exec q.1 s = .next t ∧ t.eng e = engAfter g [.g g.interrupt gd q.2]
          ∧ ∀ e' : EngId, e' ≠ e → t.eng e' = s.eng e'

/-- Special registers (R386, R388, R389): MOVS reads and writes each of P, M, ST, BEXP and the accumulators' two views, visible one
instruction later than a result; CLSA counts the redundant sign bits of an accumulator; BEXPCLR resets BEXP. -/
def Obligations.EngineSpecials : Prop :=
  ∀ (e : EngId) (gd ga : GReg) (s : State), EngCalm s e →
    let g := s.eng e
    let v := g.readG ga
    (∀ q ∈ [((0 : Fin 16), (g.readP 0).setWidth 32), (1, (g.readP 1).setWidth 32), (2, (g.readP 2).setWidth 32),
          (3, (g.readP 3).setWidth 32), (4, g.m[0]), (5, g.m[1]), (6, g.m[2]), (7, g.m[3]),
          (8, (stPut g.bank.st 9 g.interrupt).setWidth 32), (9, g.bexp.setWidth 32), (10, g.bank.a[0].setWidth 32),
          (11, (g.bank.a[0].extractLsb' 32 8).setWidth 32), (12, g.bank.a[1].setWidth 32),
          (13, (g.bank.a[1].extractLsb' 32 8).setWidth 32)],
        ∃ t, exec (.movsRead e gd q.1) s = .next t
          ∧ t.eng e = { engAfter g [] with pipe := [(0, .g g.interrupt gd q.2)] })
    ∧ (∀ q ∈ [((0 : Fin 16), PipeWrite.p g.interrupt 0 (v.setWidth 14)), (1, .p g.interrupt 1 (v.setWidth 14)),
          (2, .p g.interrupt 2 (v.setWidth 14)), (3, .p g.interrupt 3 (v.setWidth 14)), (4, .m 0 v), (5, .m 1 v), (6, .m 2 v),
          (7, .m 3 v), (8, .st g.interrupt (v.setWidth 16)), (9, .bexp (v.setWidth 4))],
        ∃ t, exec (.movsWrite e q.1 ga) s = .next t ∧ t.eng e = { engAfter g [] with pipe := [(0, q.2)] })
    ∧ (∀ q ∈ [((10 : Fin 16), (0 : Fin 2), v.signExtend 40), (11, 0, v.setWidth 8 ++ g.bank.fwd[0].setWidth 32),
          (12, 1, v.signExtend 40), (13, 1, v.setWidth 8 ++ g.bank.fwd[1].setWidth 32)],
        ∃ t, exec (.movsWrite e q.1 ga) s = .next t
          ∧ t.eng e = { engAfter (g.setBank g.interrupt { g.bank with fwd := g.bank.fwd.set q.2.1.val q.2.2 }) []
              with pipe := [(0, .acc g.interrupt q.2.1 q.2.2)] })
    ∧ (∃ t, exec (.bexpclr e) s = .next t ∧ t.eng e = { engAfter g [] with pipe := [(0, .bexp 15)] })
    ∧ ∃ t, exec (.clsa e gd ga) s = .next t ∧
        let a := if v.getLsbD 0 then g.bank.a[1] else g.bank.a[0]
        ∃ n : Nat, n ≤ 39 ∧ (∀ i : Nat, 39 - n ≤ i → i ≤ 39 → a.getLsbD i = a.msb) ∧ (n < 39 → a.getLsbD (38 - n) ≠ a.msb)
          ∧ t.eng e = engAfter g [.g g.interrupt gd (BitVec.ofNat 32 n), .setZ g.interrupt (decide (a = 0))]

/-- Loads and stores of format M (R375, R379, R380, R386, R389): a load reads one word, sign-extended, or two, and is visible one
instruction later; a store writes exactly its words at the address that its mode computes, and its pointer moves; every other
word of both data memories reads as before. -/
def Obligations.EngineMemory : Prop :=
  ∀ (e : EngId) (f : MForm) (a : Nat) (q : Option (BitVec 14)) (s : State), EngCalm s e →
    let g := s.eng e
    let r := s.regions g
    effAddr g f.mode f.p (f.addr.setWidth 14).toNat (f.addr.setWidth 8).toInt = .ok (a, q) → (f.wide && f.bx) = false →
    inRegion r f.spaceY (a % 16384) = true → (f.wide = true → inRegion r f.spaceY ((a + 1) % 16384) = true) →
    let ptr : List PipeWrite := match q with
      | none => []
      | some v => [.p g.interrupt f.p v]
    let word (h : Engine) (y : Bool) (n : Nat) : BitVec 16 := BitVec.ofNat 16 (Mem.get 0 (if y then h.y else h.x) n)
    (∃ t, exec (.ld e f) s = .next t ∧ t.eng e = { engAfter g ptr with pipe :=
        [(0, .g g.interrupt f.g (if f.wide then word g f.spaceY ((a + 1) % 16384) ++ word g f.spaceY (a % 16384)
          else (word g f.spaceY (a % 16384)).signExtend 32))] })
    ∧ (Mem.wf 0 g.x = true → Mem.wf 0 g.y = true → ∃ t, exec (.st e f) s = .next t
        ∧ { t.eng e with x := g.x, y := g.y } = { engAfter g ptr with pipe :=
            if f.bx then [(0, .bexpMin (headroom 16 ((g.readG f.g).setWidth 16)))] else [] }
        ∧ ∀ (y : Bool) (n : Nat), word (t.eng e) y n =
            if f.wide = true ∧ y = f.spaceY ∧ n = (a + 1) % 16384 then (g.readG f.g).extractLsb' 16 16
            else if y = f.spaceY ∧ n = a % 16384 then (g.readG f.g).setWidth 16
            else word g y n)

/-- The accumulates of format D (R386, R388–R391): MPY, MAC, MSU and CLRA give the accumulator to the next accumulate at once and to
its readers at the third instruction, an overflow sets OV, and each parallel load brings its word and moves its pointer. -/
def Obligations.EngineProducts : Prop :=
  ∀ (e : EngId) (f : DForm) (s : State), EngCalm s e →
    let g := s.eng e
    let r := s.regions g
    let xp : Fin 4 := ⟨f.xp.val, by omega⟩
    let yp : Fin 4 := ⟨f.yp.val + 2, by omega⟩
    let px := g.readP xp
    let py := g.readP yp
    (f.xmode.val ≠ 0 → inRegion r false (px.toNat % 16384) = true) → (f.ymode.val ≠ 0 → inRegion r true (py.toNat % 16384) = true) →
    ∀ qx qy : BitVec 14, (f.xmode.val = 3 → postModify px g.m[xp.val] = .ok qx) → (f.ymode.val = 3 → postModify py g.m[yp.val] = .ok qy) →
    let st := g.bank.st
    let old := g.bank.fwd[f.a.val].toInt
    let p := mul16 (st.getLsbD 6) (g.readG f.gm) (g.readG f.gn)
    let twice := st.getLsbD 6 && decide (((g.readG f.gm).setWidth 16).toInt * ((g.readG f.gn).setWidth 16).toInt = 1073741824)
    let out (n : Int) : Bool := decide (n < -549755813888) || decide (549755813887 < n)
    let moved (v q : BitVec 14) (m : Fin 4) : BitVec 14 := if m.val = 2 then v + 1 else if m.val = 3 then q else v
    let loads : List (Nat × PipeWrite) :=
      (if f.xmode.val = 0 then [] else
        [(0, .g g.interrupt ⟨f.xdst.val, by omega⟩ ((BitVec.ofNat 16 (Mem.get 0 g.x (px.toNat % 16384))).signExtend 32))])
      ++ (if f.ymode.val = 0 then [] else
        [(0, .g g.interrupt ⟨f.ydst.val + 4, by omega⟩ ((BitVec.ofNat 16 (Mem.get 0 g.y (py.toNat % 16384))).signExtend 32))])
    ∀ i ∈ [(Instr.mpy e f, acc40 (st.getLsbD 5) p, twice || out p), (.mac e f, acc40 (st.getLsbD 5) (old + p), twice || out (old + p)),
        (.msu e f, acc40 (st.getLsbD 5) (old - p), twice || out (old - p)), (.clra e f, 0, false)],
      ∃ t, exec i.1 s = .next t ∧
        let h := t.eng e
        h.bank.fwd = g.bank.fwd.set f.a.val i.2.1 ∧ h.bank.a = g.bank.a
        ∧ h.pipe = (1, .acc g.interrupt f.a i.2.1) :: loads
        ∧ h.bank.st = (if i.2.2 then st ||| 16#16 else st)
        ∧ (∀ n : Fin 4, h.readP n = if n = xp then moved px qx f.xmode else if n = yp then moved py qy f.ymode else g.readP n)
        ∧ (∀ n : GReg, h.readG n = g.readG n) ∧ h.m = g.m ∧ h.x = g.x ∧ h.y = g.y ∧ h.bexp = g.bexp ∧ h.stack = g.stack
        ∧ h.pc = (g.pc + 1) % 16384 ∧ h.cycles = g.cycles + 1

/-- The accumulator operations of format A (R386, R389, R391, R392): LDA, ADDA and SUBA take a shifted register; SACG and SAC give
the accumulator shifted right, rounded under RND and held to 16 bits under SAT, to a register or to the addressed word. -/
def Obligations.EngineAccumulators : Prop :=
  ∀ (e : EngId) (f : AForm) (s : State), EngCalm s e →
    let g := s.eng e
    let r := s.regions g
    let st := g.bank.st
    let old := g.bank.fwd[f.a.val].toInt
    let n := (g.readG f.g).toInt * 2 ^ f.shift.val
    let out (n : Int) : Bool := decide (n < -549755813888) || decide (549755813887 < n)
    let q := (g.bank.a[f.a.val].toInt + if st.getLsbD 7 = true ∧ 0 < f.shift.val then 2 ^ (f.shift.val - 1) else 0) / 2 ^ f.shift.val
    let lost := decide (q < -32768) || decide (32767 < q)
    let w : BitVec 16 := if lost && st.getLsbD 5 then (if q < 0 then 0x8000#16 else 0x7FFF#16) else BitVec.ofInt 16 q
    let ov : List PipeWrite := if lost then [.setOv g.interrupt] else []
    (∀ i ∈ [(Instr.lda e f, n), (.adda e f, old + n), (.suba e f, old - n)],
        ∃ t, exec i.1 s = .next t ∧
          let v := acc40 (st.getLsbD 5) i.2
          t.eng e = { engAfter (g.setBank g.interrupt { g.bank with fwd := g.bank.fwd.set f.a.val v })
            (if out i.2 then [.setOv g.interrupt] else []) with pipe := [(1, .acc g.interrupt f.a v)] })
    ∧ (∃ t, exec (.sacg e f) s = .next t ∧ t.eng e = engAfter g (.g g.interrupt f.g (w.signExtend 32) :: ov))
    ∧ ∀ (a : Nat) (p : Option (BitVec 14)), effAddr g f.mode f.p f.addr.toNat f.addr.toInt = .ok (a, p) →
        inRegion r f.spaceY (a % 16384) = true → Mem.wf 0 g.x = true → Mem.wf 0 g.y = true →
        ∃ t, exec (.sac e f) s = .next t
          ∧ { t.eng e with x := g.x, y := g.y } = { engAfter g ((match p with
              | none => []
              | some v => [.p g.interrupt f.p v]) ++ ov) with pipe := if f.bx then [(0, .bexpMin (headroom 16 w))] else [] }
          ∧ ∀ (y : Bool) (n : Nat), Mem.get 0 (if y then (t.eng e).y else (t.eng e).x) n =
              if y = f.spaceY ∧ n = a % 16384 then w.toNat else Mem.get 0 (if y then g.y else g.x) n

/-- Flow of control (R386, R387, R389, R393): a branch that is taken acts after its delay slot, CALL keeps the address after it, RET
takes it back, REP counts, NOP passes one issue; the delay slot's instruction ends in the target, and a repeated instruction
stays until its count is done. -/
def Obligations.EngineFlow : Prop :=
  (∀ (e : EngId) (c : Fin 16) (imm : BitVec 16) (s : State), EngCalm s e →
      let g := s.eng e
      let target := (((g.pc : Int) + imm.toInt) % 16384).toNat
      (condHolds g.bank.st c = some true → inProg (s.regions g) target = true →
        (∃ t, exec (.b e c imm) s = .next t ∧ t.eng e = { engAfter g [] with delayed := some (.jump target) })
        ∧ (g.stack.length < 8 → ∃ t, exec (.call e c imm) s = .next t ∧ t.eng e =
            { engAfter g [] with delayed := some (.jump target), stack := BitVec.ofNat 14 (g.pc + 2) :: g.stack }))
      ∧ (condHolds g.bank.st c = some false → ∀ i ∈ [Instr.b e c imm, .call e c imm],
          ∃ t, exec i s = .next t ∧ t.eng e = { engAfter g [] with delayed := some .notTaken }))
  ∧ (∀ (e : EngId) (s : State), EngCalm s e →
      let g := s.eng e
      (∀ (v : BitVec 14) (rest : List (BitVec 14)), g.stack = v :: rest → inProg (s.regions g) (v.toNat % 16384) = true →
        ∃ t, exec (.ret e) s = .next t ∧ t.eng e = { engAfter g [] with delayed := some (.jump (v.toNat % 16384)), stack := rest })
      ∧ (∃ t, exec (.reti e) s = .next t ∧ t.eng e = { engAfter g [] with delayed := some .reti })
      ∧ (∃ t, exec (.nop e) s = .next t ∧ t.eng e = engAfter g [])
      ∧ (∀ imm : BitVec 16, ∃ t, exec (.repImm e imm) s = .next t
          ∧ t.eng e = { engAfter g [] with rep := some (imm.toNat % 4096 + 1) })
      ∧ (∀ r : GReg, 1 ≤ (g.readG r).toNat → (g.readG r).toNat ≤ 4096 → ∃ t, exec (.repG e r) s = .next t
          ∧ t.eng e = { engAfter g [] with rep := some (g.readG r).toNat }))
  ∧ (∀ (e : EngId) (gd ga : GReg) (s : State), s.running = true → s.cyclesOut e = false → (s.eng e).pipe = [] → (s.eng e).queue = [] →
      let g := s.eng e
      let done := (PipeWrite.g g.interrupt gd (g.readG ga)).apply { g with cycles := g.cycles + 1 }
      (∀ a : Nat, g.delayed = some (.jump a) → g.rep = none →
        ∃ t, exec (.mov e gd ga) s = .next t ∧ t.eng e = { done with pc := a, delayed := none })
      ∧ (∀ n : Nat, g.delayed = none → g.rep = some (n + 2) →
        ∃ t, exec (.mov e gd ga) s = .next t ∧ t.eng e = { done with rep := some (n + 1) })
      ∧ (g.delayed = none → g.rep = some 1 →
        ∃ t, exec (.mov e gd ga) s = .next t ∧ t.eng e = { done with pc := (g.pc + 1) % 16384, rep := none }))
  ∧ ∀ (e : EngId) (s : State), s.running = true → s.cyclesOut e = false → (s.eng e).delayed = none → (s.eng e).rep = none →
      (s.eng e).queue = [] → ∃ t, exec (.nop e) s = .next t ∧
        let g := s.eng e
        t.eng e = { (g.pipe.filter fun x => decide (x.1 = 0)).foldl (fun h x => x.2.apply h)
            { g with pipe := (g.pipe.filter fun x => decide (x.1 ≠ 0)).map fun x => (x.1 - 1, x.2) } with
          pc := (g.pc + 1) % 16384, cycles := g.cycles + 1 }

/-- What ends a context (R383, R385, R399): END of a frame-level kernel commits its output words for the next Calends and ends its
run of CYCLES stops, YIELD ends a background task, and both only advance anywhere else. -/
def Obligations.EngineEnds : Prop :=
  (∀ (e : EngId) (k : SlotId) (s : State), EngCalm s e → (s.eng e).ctx = .frame k →
      ∃ t, exec (.kend e) s = .next t ∧ t.grp.deferred = s.grp.deferred ++ (s.outputWords k).map (fun q => .result q.1 q.2 s.grp.frame)
        ∧ (t.kernel k).frameLast = (s.eng e).cycles + 1 ∧ (t.kernel k).consecStops = 0 ∧ (t.kernel k).state = (s.kernel k).state
        ∧ t.grp.alm = s.grp.alm)
  ∧ (∀ (e : EngId) (k : SlotId) (s : State), EngCalm s e → (s.eng e).ctx = .bg k →
      ∃ t, exec (.yield e) s = .next t ∧ (t.kernel k).bgLast = (s.eng e).cycles + 1 ∧ t.grp.deferred = s.grp.deferred)
  ∧ (∀ (e : EngId) (s : State), EngCalm s e → (∀ k, (s.eng e).ctx ≠ .frame k) →
      ∃ t, exec (.kend e) s = .next t ∧ t.eng e = engAfter (s.eng e) [] ∧ t.grp.deferred = s.grp.deferred)
  ∧ ∀ (e : EngId) (s : State), EngCalm s e → (∀ k, (s.eng e).ctx ≠ .bg k) →
      ∃ t, exec (.yield e) s = .next t ∧ t.eng e = engAfter (s.eng e) [] ∧ t.grp.kernels = s.grp.kernels

/-- Rings of a kernel (R377, R389), in a handler of it: RGET without a slot gives length 0, with one it writes the slot's words to Y,
gives its length and frees it; RPUT beyond the free slots sets RF, is counted, and posts nothing, and one that fits publishes the
bytes it names and clears RF. No other engine is touched. -/
def Obligations.EngineRings : Prop :=
  (∀ (e : EngId) (r : GReg) (k : SlotId) (s : State), EngCalm s e → (s.eng e).ctx = .ring k ∨ (s.eng e).ctx = .mbx k →
      (s.ringsOf (s.eng e)).inSlot = none →
      ∃ t, exec (.rget e r) s = .next t ∧ t.host = s.host
        ∧ t.eng e = { engAfter (s.eng e) [.g (s.eng e).interrupt r 0] with cycles := (s.eng e).cycles + 2 }
        ∧ ∀ e' : EngId, e' ≠ e → t.eng e' = s.eng e')
  ∧ (∀ (e : EngId) (r : GReg) (k : SlotId) (x : RingId) (s : State), EngCalm s e →
      (s.eng e).ctx = .ring k ∨ (s.eng e).ctx = .mbx k →
      s.namedRing (s.kernel k).hdr.ringIn .dataIn = some x → 0 < s.host.rings[x.val].used →
      (∀ n : Nat, n < (s.host.rings[x.val].size + 1) / 2 →
        inRegion (s.regions (s.eng e)) true ((((s.eng e).readP ⟨r.val % 4, by omega⟩).toNat + n) % 16384) = true) →
      ∃ t, exec (.rget e r) s = .next t ∧ (t.eng e).readG r = BitVec.ofNat 32 s.host.rings[x.val].size
        ∧ t.host.rings[x.val] = (s.host.rings[x.val]).consume
        ∧ (t.eng e).cycles = (s.eng e).cycles + 2 + ((s.host.rings[x.val].size + 1) / 2 + 1) / 2
        ∧ ∀ e' : EngId, e' ≠ e → t.eng e' = s.eng e')
  ∧ (∀ (e : EngId) (r : GReg) (k : SlotId) (s : State), EngCalm s e → (s.eng e).ctx = .ring k ∨ (s.eng e).ctx = .mbx k →
      (s.ringsOf (s.eng e)).outRoom < ((s.eng e).readG r).toNat ∨ (s.ringsOf (s.eng e)).outRoom = 0 →
      ∃ t, exec (.rput e r) s = .next t ∧ t.host = s.host ∧ (t.kernel k).rfCount = satInc 32 (s.kernel k).rfCount
        ∧ t.eng e = { engAfter (s.eng e) [.rf (s.eng e).interrupt true] with cycles := (s.eng e).cycles + 2 }
        ∧ ∀ e' : EngId, e' ≠ e → t.eng e' = s.eng e')
  ∧ ∀ (e : EngId) (r : GReg) (k : SlotId) (x : RingId) (s : State), EngCalm s e →
      (s.eng e).ctx = .ring k ∨ (s.eng e).ctx = .mbx k →
      s.namedRing (s.kernel k).hdr.ringOut .dataOut = some x → 0 < s.host.rings[x.val].room →
      ((s.eng e).readG r).toNat ≤ s.host.rings[x.val].size →
      (∀ n : Nat, n < (((s.eng e).readG r).toNat + 1) / 2 →
        inRegion (s.regions (s.eng e)) true ((((s.eng e).readP ⟨r.val % 4, by omega⟩).toNat + n) % 16384) = true) →
      let g := s.eng e
      ∃ (t : State) (b : List Byte), exec (.rput e r) s = .next t ∧ b.length = (g.readG r).toNat
        ∧ t.host.rings[x.val] = (s.host.rings[x.val]).publish b ∧ t.host.irqRing.getLsbD x.val = true
        ∧ (∀ n : Nat, n < b.length → (b.getD n 0).toNat =
            Mem.get 0 g.y (((g.readP ⟨r.val % 4, by omega⟩).toNat + n / 2) % 16384) / 256 ^ (n % 2) % 256)
        ∧ stPut (t.eng e).bank.st 8 true = stPut g.bank.st 8 true ∧ (t.eng e).bank.st.getLsbD 8 = false
        ∧ ∀ e' : EngId, e' ≠ e → t.eng e' = s.eng e'

/-- Kernel faults (R375, R387, R393, R400): an illegal form, an access outside the kernel's regions, a full or empty return stack
and a REP count of 0 suspend a frame-level kernel under their codes with one event; a frame-level kernel out of cycles is stopped
and counted and suspended at STOP_LIMIT; a task or handler out of cycles is suspended. -/
def Obligations.EngineFaults : Prop :=
  (∀ (e : EngId) (k : SlotId) (f : MForm) (c : Fin 16) (imm : BitVec 16) (r : GReg) (s : State), EngCalm s e →
      (s.eng e).ctx = .frame k →
      let g := s.eng e
      let hdr := (s.kernel k).hdr
      ∀ q ∈ [(Instr.ld e f, decide (6 ≤ f.mode.val), 4), (.st e f, f.wide && f.bx, 4), (.b e c imm, decide (11 ≤ c.val), 4),
          (.ld e f, decide (f.mode = 0) && !(f.wide && f.bx) && !inRegion (some hdr) f.spaceY (f.addr.toNat % 16384), 5),
          (.ret e, g.stack.isEmpty, 6), (.call e 0 imm, decide (8 ≤ g.stack.length), 6), (.repG e r, decide (g.readG r = 0), 7),
          (.rget e r, true, 4)],
        q.2.1 = true → ∃ t, exec q.1 s = .next t ∧ (t.kernel k).state = .suspended ∧ (t.kernel k).lastFault = q.2.2
          ∧ t.nv.recorder = s.nv.recorder.add (s.mkRec 0x0B01 0xFF ([byte k.val, byte q.2.2] ++ leBytes 2 g.pc))
          ∧ t.grp.deferred = s.grp.deferred)
  ∧ (∀ (e : EngId) (k : SlotId) (s : State), s.running = true → (s.eng e).ctx = .frame k →
      (∀ x ∈ (s.eng e).queue ++ (s.eng e).bgQueue, x ≠ .frame k) →
      s.cyclesOut e = true → (s.kernel k).halted = false →
      ∃ t, exec (.kernelCyclesStop e) s = .next t ∧
        let x := s.kernel k
        let y := t.kernel k
        y.lastFault = 1 ∧ y.consecStops = x.consecStops + 1 ∧ y.stops = satInc 32 x.stops
        ∧ y.state = (if x.hdr.stopLimit ≤ x.consecStops + 1 then .suspended else x.state)
        ∧ t.nv.recorder = s.nv.recorder.add (s.mkRec 0x0B01 0xFF ([byte k.val, 1] ++ leBytes 2 (s.eng e).pc)))
  ∧ ∀ (e : EngId) (k : SlotId) (s : State), s.running = true → engOf k = e → s.cyclesOut e = true →
      ∀ q ∈ [(Instr.bgCycles e, EngCtx.bg k, 2), (.handlerCycles e, .ring k, 3), (.handlerCycles e, .mbx k, 3)],
        (s.eng e).ctx = q.2.1 → ∃ t, exec q.1 s = .next t ∧ (t.kernel k).state = .suspended ∧ (t.kernel k).lastFault = q.2.2
          ∧ t.nv.recorder = s.nv.recorder.add (s.mkRec 0x0B01 0xFF ([byte k.val, byte q.2.2] ++ leBytes 2 (s.eng e).pc))

/-- The data memories of the engines keep their canonical form under every instruction, and under every other command that does not
begin a frame, a run or the pair's work. -/
def Obligations.EngineMemoriesCanonical : Prop :=
  ∀ (i : Instr) (s t : State), (i.parts = engineParts ∨ Part.engines ∉ i.parts) →
    (∀ e : EngId, Mem.wf 0 (s.eng e).x = true ∧ Mem.wf 0 (s.eng e).y = true) → exec i s = .next t →
    ∀ e : EngId, Mem.wf 0 (t.eng e).x = true ∧ Mem.wf 0 (t.eng e).y = true

/-- Every mailbox command is judged in one order (R471, R485–R490): a source that is not open gives nothing; a header whose check
fails is discarded; a copy of the last command is answered DUPLICATE with its status, one out of order SEQUENCE with the
expected number, and neither is consumed; after that the command is consumed, and the first of the life cycle, a LENGTH that no
buffer takes (log 336 judges it before the check), the payload's check, its length and its form that fails is the answer, with
nothing else changed. -/
def Obligations.MailboxOrder : Prop :=
  ∀ (i : Instr) (d : CmdDef) (c : Cmd) (s : State), i.mail = some (d, c) →
    (s.takes c.src = false → exec i s = .next s)
    ∧ (s.takes c.src = true → c.hdrCheck ≠ crc16 (c.header d.opcode) → ∃ t, exec i s = .next t
        ∧ t.grp.sources[c.src.val] = { s.grp.sources[c.src.val] with
            asm := [], discarded := satInc 32 s.grp.sources[c.src.val].discarded }
        ∧ ∀ p : Part, p ∉ mailParts → p.same s t)
    ∧ (s.takes c.src = true → c.hdrCheck = crc16 (c.header d.opcode) →
        (c.repeats s → exec i s = .next (s.postReply (s.replyDest c.src c.target) none (replyBytes d.opcode c.tag stDuplicate 2 c.seq
          [byte s.grp.sources[c.src.val].lastStatus, 0, 0, 0])))
        ∧ (¬ c.repeats s → ∀ l : Nat, s.grp.sources[c.src.val].last = some l → c.seq ≠ (l + 1) % 2 ^ 32 →
            exec i s = .next (s.postReply (s.replyDest c.src c.target) none (replyBytes d.opcode c.tag stSequence 2 c.seq
              (leBytes 4 ((l + 1) % 2 ^ 32)))))
        ∧ (¬ c.repeats s → c.inOrder s →
            let answer (st : Nat) (p : List Byte) : Prop := exec i s = .next ((s.consumed c).replyTo d.opcode c st p)
            (lifeAllows s.boot.life d.opcode = false → answer stForbidden [])
            ∧ (lifeAllows s.boot.life d.opcode = true →
              (0 < c.cut → answer stMalformed (Bad.bytes ⟨0xFFFF, whyLength, 0xFFFFFF⟩))
              ∧ (c.cut = 0 → c.payCheck ≠ crc16 c.payload → answer stMalformed (Bad.bytes ⟨0xFFFF, whyCheck, 0xFFFFFF⟩))
              ∧ (c.cut = 0 → c.payCheck = crc16 c.payload →
                (d.len c.payload.length = false ∨ 16368 < c.payload.length →
                  answer stMalformed (Bad.bytes ⟨0xFFFF, whyLength, 0xFFFFFF⟩))
                ∧ (d.len c.payload.length = true → c.payload.length ≤ 16368 → headerBad s c = none →
                  ∀ b : Bad, d.form (future (s.consumed c)) c.payload = some b → answer stMalformed b.bytes)))))

/-- Status commands: each one that is judged well is answered OK with a payload of its length, and changes only its source. -/
def Obligations.StatusReplies : Prop :=
  ∀ (c : Cmd) (s : State),
    (∀ q ∈ [(Instr.sysInfo c, sysInfoDef, 48), (.almStatus c, almStatusDef, 32), (.posStatus c, posStatusDef, 44),
        (.profStatus c, profStatusDef, 56), (.dispStatus c, dispStatusDef, 32), (.doorStatus c, doorStatusDef, 52),
        (.safeStatus c, safeStatusDef, 44), (.bankStatus c, bankStatusDef, 32), (.canStatus c, canStatusDef, 56),
        (.clStatus c, clStatusDef, 40), (.sigStatus c, sigStatusDef, 40), (.pairStatus c, pairStatusDef, 60),
        (.ringStatus c, ringStatusDef, 24), (.ul40Status c, ul40StatusDef, 28), (.recStatus c, recStatusDef, 48),
        (.lifeStatus c, lifeStatusDef, 64)],
      Judged q.2.1 c s → ∃ p : List Byte, p.length = q.2.2 ∧ exec q.1 s = .next ((s.consumed c).answer q.2.1.opcode c stOk p))
    ∧ (Judged sysJobsDef c s → ∃ p : List Byte, 16 ≤ p.length ∧ fieldAt p 0 2 = s.grp.jobs.length % 65536
        ∧ exec (.sysJobs c) s = .next ((s.consumed c).answer 0x0102 c stOk p))
    ∧ (Judged almReadDef c s → ∃ p : List Byte, p.length ≤ 16 + 32 * fieldAt c.payload 4 2
        ∧ exec (.almRead c) s = .next ((s.consumed c).answer 0x0315 c stOk p))
    ∧ (Judged carStopListDef c s → ∃ p : List Byte, p.length = 16 + 4 * (s.grp.shownCars[(carOf c.payload).val]).order.length
        ∧ exec (.carStopList c) s = .next ((s.consumed c).answer 0x0613 c stOk p))
    ∧ (Judged recReadDef c s → ∃ p : List Byte, p.length ≤ 16 + 32 * fieldAt c.payload 8 2
        ∧ exec (.recRead c) s = .next ((s.consumed c).answer 0x1010 c stOk p))
    ∧ (Judged frameStatusDef c s → ∃ p : List Byte, p.length = 44 ∧ fieldAt p 8 8 = s.grp.frame % 2 ^ 64 ∧
        exec (.frameStatus c) s = .next (State.answer 0x0120 c stOk p
          (if bit (byteAt c.payload 0) 0 then { s.consumed c with grp := { (s.consumed c).grp with measuredPeak := 0 } }
           else s.consumed c)))
    ∧ (Judged sigSpectrumDef c s → ((future (s.consumed c)).car (carOf c.payload)).configured = true →
        ∃ p : List Byte, p.length = 2064 ∧ exec (.sigSpectrum c) s = .next ((s.consumed c).answer 0x0B16 c stOk p))

/-- Status commands whose reply can hold what the spec does not state (log 3): a landing that has not been written, the partner's
figures; each is answered OK with its length and draws at most its free values. -/
def Obligations.StatusRepliesWithFreeValues : Prop :=
  ∀ (c : Cmd) (s : State),
    (Judged posTableDef c s → ((future (s.consumed c)).car (carOf c.payload)).configured = true →
      ∃ (p : List Byte) (n : Nat), exec (.posTable c) s = .next (State.answer 0x0412 c stOk p { s.consumed c with free := n })
        ∧ p.take 3 = c.payload.take 3
        ∧ ((Mem.get {} s.grp.shownCars[(carOf c.payload).val].pos.table (landingKey c.payload)).written = true → n = s.free))
    ∧ (Judged fwStatusDef c s → ∃ (p : List Byte) (n : Nat),
        exec (.fwStatus c) s = .next (State.answer 0x0E12 c stOk p { s.consumed c with free := n })
        ∧ (s.boot.pair.paired = false → n = s.free ∧ p.length = 64))
    ∧ (Judged lifeCertDef c s → s.memberNamed (byteAt c.payload 0) = some true → ∃ p : List Byte, p.length ≤ 16368 ∧
        exec (.lifeCert c) s = .next ((s.consumed c).answer 0x1114 c stOk p))

/-- Commands that take effect at the next Calends (R28, R487): where the state as it will stand allows it, each joins what the
Calends applies and is answered OK without a payload. -/
def Obligations.StagedCommands : Prop :=
  ∀ (c : Cmd) (s : State),
    let f := future (s.consumed c)
    let x := f.car (carOf c.payload)
    let p := c.payload
    let k := f.kernel (slotOf p)
    ∀ q ∈ [(Instr.posLanding c, posLandingDef, x.configured && x.out), (.posWipe c, posWipeDef, x.configured && x.out),
        (.posCorrect c, posCorrectDef, x.mayCorrect && (s.sgOf (carOf p)).closedLocked),
        (.profLimits c, profLimitsDef, x.motion.present), (.profZone c, profZoneDef, x.configured && x.out),
        (.carService c, carServiceDef, serviceOk (s.consumed c) f (carOf p) (byteAt p 1)),
        (.carStopRemove c, carStopRemoveDef, x.configured),
        (.dispConfig c, dispConfigDef, s.boot.mode != 1 && (byteAt p 0 == f.grp.disp.cfg.mode || f.openRegs == 0)),
        (.dispWeights c, dispWeightsDef, true), (.bankConfig c, bankConfigDef, true),
        (.doorOpen c, doorOpenDef, (doorsOf p).all fun d => x.standsAt d && x.doors[d.val].mayAct (bit (byteAt p 2) 1)),
        (.doorClose c, doorCloseDef, x.configured && (doorsOf p).all fun d => x.doors[d.val].mayAct (bit (byteAt p 2) 1)),
        (.doorStop c, doorStopDef, x.configured && (doorsOf p).all fun d => x.doors[d.val].ready),
        (.doorLearn c, doorLearnDef, x.configured && (doorsOf p).all fun d => x.doors[d.val].ready && x.doors[d.val].goal == .stay
          && (x.doors[d.val].phase == .closed || x.doors[d.val].phase == .opened)),
        (.safeTerminal c, safeTerminalDef, x.configured && x.out && x.safe.test.isNone),
        (.canMap c, canMapDef, !f.mapClash (mapOf p)),
        (.canRecover c, canRecoverDef, f.io.buses[(busOf p).val].errorState == .busOff),
        (.sigStop c, sigStopDef, k.state != .empty), (.sigUnload c, sigUnloadDef, k.state != .empty),
        (.sigParam c, sigParamDef, k.state != .empty),
        (.ul40Config c, ul40ConfigDef, s.imageMode && x.configured && x.out),
        (.frameResume c, frameResumeDef, f.grp.overrun == some (fieldAt p 0 8)
          && (!f.grp.admissionHeld || (breachOf f f true).isNone))],
      Judged q.2.1 c s →
        (q.2.2 = true → exec q.1 s = .next (s.staged q.2.1.opcode c))
        ∧ (q.2.2 = false → exec q.1 s = .next ((s.consumed c).replyTo q.2.1.opcode c stState []))

/-- Commands that bring a configuration (R26, R28, R37, R487): one that the car's state or the module's allows and whose
configuration stays within every limit joins what the next Calends applies; one that breaks a limit is answered ADMISSION with the
limit, one at the wrong time STATE, and a terminal whose request point is not hot ADMISSION with KIND 5 (R212); none changes anything but its source. -/
def Obligations.AdmittedCommands : Prop :=
  ∀ (c : Cmd) (s : State),
    let f := future (s.consumed c)
    let x := f.car (carOf c.payload)
    let p := c.payload
    ∀ q ∈ [(Instr.posConfig c, posConfigDef, x.out && !(posRemoves p && x.safe.causes != 0), setPosConfig p, false, 0xFF),
        (.profConfig c, profConfigDef, x.configured && x.out, applyProfConfig p, false, 0xFF),
        (.dispTerminal c, dispTerminalDef, (f.entry (terminalOf p).point).hot, applyTerminal p, true, 0xFF),
        (.doorConfig c, doorConfigDef, x.configured && x.out, applyDoorConfig p, false, 0xFF),
        (.doorAxis c, doorAxisDef, x.configured && x.out, applyDoorAxis p, false, 0xFF),
        (.safeConfig c, safeConfigDef, x.configured && x.out && x.safe.test.isNone, setSafeConfig p, false, 0xFF),
        (.canConfig c, canConfigDef, (busOf p).val % 2 == 1 || (f.car (busCar (busOf p))).out, setCanConfig p, true, 0xFF),
        (.clConfig c, clConfigDef, x.out, applyClConfig p, true, 0xFF),
        (.sigStart c, sigStartDef, (f.kernel (slotOf p)).state == .loaded || (f.kernel (slotOf p)).state == .suspended,
          applySigStart p, true, (slotOf p).val),
        (.ringConfig c, ringConfigDef, s.running && !(s.consumed c).ringBusy f c, applyRingConfig p, true, 0xFF)],
      Judged q.2.1 c s →
        (q.2.2.1 = true → admitOf f (q.2.2.2.1 f) q.2.2.2.2.1 q.2.2.2.2.2 = none → exec q.1 s = .next (s.staged q.2.1.opcode c))
        ∧ (q.2.2.1 = true → ∀ r : List Byte, admitOf f (q.2.2.2.1 f) q.2.2.2.2.1 q.2.2.2.2.2 = some r →
            exec q.1 s = .next ((s.consumed c).replyTo q.2.1.opcode c stAdmission r))
        ∧ (q.2.2.1 = false → (q.2.1.opcode = 0x0D10 → s.running = true) →
            exec q.1 s = .next (if q.2.1.opcode = 0x0622 then
                (s.consumed c).replyTo 0x0622 c stAdmission (({ kind := 5, subject := (terminalOf p).point } : Breach).bytes 0xFF)
              else (s.consumed c).replyTo q.2.1.opcode c stState []))

/-- Commands that act as they are accepted (R35, R56, R447, R481, R482, R496, R546, R557, R577): each answers OK with what it did,
and what it did is all that it did. -/
def Obligations.ImmediateCommands : Prop :=
  ∀ (c : Cmd) (s : State),
    let f := future (s.consumed c)
    let s' := s.consumed c
    let p := c.payload
    (Judged sysNopDef c s → exec (.sysNop c) s = .next (s'.answer 0x0100 c stOk p))
    ∧ (Judged frameConfigDef c s →
        let l : FrameLen := if fieldAt p 0 2 = 125 then .us125 else .us250
        breachAt f.nextStart ({ f with nv := { f.nv with frameLen := l } } : State).nextStart l f.boot.mode true = none →
        exec (.frameConfig c) s = .next (State.answer 0x0121 c stOk [] { s' with nv := { s'.nv with frameLen := l } }))
    ∧ (Judged ringReadDef c s →
        let r := ringOf p
        let x := takeSlots (byteAt p 1) s.host.rings[r.val]
        exec (.ringRead c) s = .next (if s.host.rings[r.val].use = .dataOut then
            State.answer 0x0D12 c stOk (leBytes 2 x.2.1 ++ leBytes 2 s.host.rings[r.val].size ++ zeros 12 ++ x.1) (s'.modRing r fun _ => x.2.2)
          else s'.answer 0x0D12 c stOk (leBytes 2 0 ++ leBytes 2 f.host.rings[r.val].size ++ zeros 12)))
    ∧ (Judged netConfigDef c s → exec (.netConfig c) s = .next (State.answer 0x0D13 c stOk [] { s' with nv := { s'.nv with
        net := { ip := p.take 4, netmask := (p.drop 4).take 4, gateway := (p.drop 8).take 4, port := fieldAt p 12 2,
                 enabled := bit (byteAt p 14) 0 } } }))
    ∧ (Judged pairConfigDef c s → (bit (byteAt p 0) 0 = true → f.pairBreach (pairCfgOf p) = none) →
        exec (.pairConfig c) s = .next (State.answer 0x0C10 c stOk [] { s' with nv := { s'.nv with
          pair := { paired := bit (byteAt p 0) 0, diodeBanks := BitVec.ofNat 16 (fieldAt p 2 2),
                    coldWaitMs := if fieldAt p 4 2 = 0 then 2000 else fieldAt p 4 2 } } }))
    ∧ (Judged recAnnotateDef c s → exec (.recAnnotate c) s = .next (State.answer 0x1011 c stOk
        (leBytes 8 s.nv.recorder.next ++ leBytes 4 s.time.1 ++ leBytes 2 s.time.2 ++ zeros 2) (s'.record 0x1001 0xFF (p.take 12))))
    ∧ (Judged lifeProvisionDef c s → s.namesSelf (byteAt p 0) = true → ∃ (t : State) (k : Nat), exec (.lifeProvision c) s =
          .next (State.answer 0x1112 c stOk [byte k, 0, 0, 0] t)
        ∧ t.nv.customerRoot = (if bit (byteAt p 1) 3 then none else if bit (byteAt p 1) 0 then some ((p.drop 4).take 60) else s.nv.customerRoot)
        ∧ t.nv.netKey = (if bit (byteAt p 1) 3 then none else if bit (byteAt p 1) 1 then some ((p.drop 64).take 32) else s.nv.netKey)
        ∧ t.nv.cosign = (!bit (byteAt p 1) 3 && (s.nv.cosign || bit (byteAt p 1) 2))
        ∧ k = flagBit t.nv.customerRoot.isSome 0 + flagBit t.nv.netKey.isSome 1 + flagBit t.nv.cosign 2
        ∧ t.grp = s'.grp ∧ t.boot = s.boot)
    ∧ (Judged lifeAttestDef c s → s.memberNamed (byteAt p 0) = some true → s.boot.nextQ < 1048576 →
        ∃ (t : State) (b : List Byte), exec (.lifeAttest c) s = .next (State.answer 0x1113 c stOk b t)
          ∧ t.boot.nextQ = s.boot.nextQ + 1 ∧ t.nv.attestBlocks = max s.nv.attestBlocks (s.boot.nextQ / 1024 + 1)
          ∧ b.take 4 = leBytes 4 0x5441584F ∧ t.grp = s'.grp)
    ∧ (Judged lifeAdvanceDef c s → f.carsUp.all Car.out = true → s.stagingJob = none → s.advancePartner p = false →
        (Life.ofCode (byteAt p 13) = some .sealed → s.nv.customerRoot.isSome = true) →
        (s.advanceSigned p = true → ∃ t, exec (.lifeAdvance c) s = .next (State.answer 0x1110 c stOk [byte (byteAt p 13), 0, 0, 0] t)
          ∧ t.nv.pendingLife = (Life.ofCode (byteAt p 13)).map (fun x => (x, bit (byteAt p 14) 0)) ∧ t.boot.life = s.boot.life
          ∧ t.nv.groups = s.nv.groups)
        ∧ (s.advanceSigned p = false → exec (.lifeAdvance c) s = .next (s'.replyTo 0x1110 c stSignature [])))
    ∧ (Judged fwActivateDef c s → s.boot.pair.paired = false → byteAt p 0 = 1 → s.boot.pairSel = false → s.stagingJob = none →
        (s.nv.copies[s.otherCopy.val].state = .valid → ∃ b : List Byte, exec (.fwActivate c) s = .next (State.answer 0x0E11 c stOk b
          { s' with nv := { s'.nv with preferred := s.otherCopy } })))

/-- Edits of the Almanac (R84–R88, R500–R504): records join the source's staged set, at most 4,096 of them; a commit that passes
every test hands the set over for the next Calends, a dry one only reports; a record of another VERSION stops it and is named with
the VERSION in force (R503); a discard forgets the set. -/
def Obligations.AlmanacEdits : Prop :=
  ∀ (c : Cmd) (s : State),
    let f := future (s.consumed c)
    let s' := s.consumed c
    let p := c.payload
    let mine := s.grp.sources[c.src.val].staged
    (∀ q ∈ [(Instr.almWrite c, almWriteDef, (List.range (fieldAt p 0 2)).map (writeEdit p), true),
        (.almPromote c, almMoveDef 0x0311 true, (List.range (fieldAt p 0 2)).map (moveEdit true p), false),
        (.almDemote c, almMoveDef 0x0312 false, (List.range (fieldAt p 0 2)).map (moveEdit false p), false)],
      let l := q.2.2.1.foldl (fun l x => mergeEdit x l) mine
      Judged q.2.1 c s →
        (4096 < l.length → exec q.1 s = .next (s'.replyTo q.2.1.opcode c stLimit []))
        ∧ (l.length ≤ 4096 → (q.2.2.2 = true → ∀ x ∈ q.2.2.1, f.heldOutput x.chan = false) →
            exec q.1 s = .next (State.answer q.2.1.opcode c stOk (leBytes 4 l.length) (s'.modSource c.src fun y => { y with staged := l })))
        ∧ (l.length ≤ 4096 → q.2.2.2 = true → (∃ x ∈ q.2.2.1, f.heldOutput x.chan = true) →
            exec q.1 s = .next (s'.replyTo q.2.1.opcode c stState [])))
    ∧ (Judged almDiscardDef c s → exec (.almDiscard c) s =
        .next (State.answer 0x0314 c stOk (leBytes 4 mine.length) (s'.modSource c.src fun y => { y with staged := [] })))
    ∧ (Judged almCommitDef c s →
        let es := f.giveVersions mine
        let a := f.commitEdits es
        firstBad (commitTests f a es) = none → (∀ x ∈ mine, x.write.isSome = true → f.heldOutput x.chan = false) →
        (∀ x : Edit, es.find? (fun x => x.version != (f.entry x.chan).version) = some x →
          exec (.almCommit c) s = .next (s'.replyTo 0x0313 c stVersion (leBytes 3 x.chan ++ [byte (f.entry x.chan).version])))
        ∧ ((∀ x ∈ mine, x.version = (f.entry x.chan).version) →
            (∀ x ∈ mine, ¬ ((f.entry x.chan).hot = true ∧ (a.entry x.chan).type = 0 ∧ x.residency ≠ some false)) →
            admitOf f a true 0xFF = none →
            (bit (byteAt p 0) 0 = true → exec (.almCommit c) s = .next (s'.answer 0x0313 c stOk (commitReply a mine.length 0)))
            ∧ (bit (byteAt p 0) 0 = false → ∃ t, exec (.almCommit c) s =
                .next (State.answer 0x0313 c stOk (commitReply a mine.length (s.grp.frame + 1)) t)
                ∧ t.grp.sources[c.src.val].staged = []
                ∧ t.grp.deferred = (if mine = [] then s.grp.deferred else s.grp.deferred ++ [.edits es])
                ∧ t.grp.shown = s.grp.shown)))

/-- Commands answered later, and those whose answer is a RESULT (R191, R207, R213, R214, R287, R294, R326, R368): a stop and a
cancelled send wait for their Calends, a registration is opened or refused by its rule, an acceptance of `safe.reset` waits for
the next frame's test, an acknowledgement waits for the Calends at which it acts when its latched conditions are ready. -/
def Obligations.ResultCommands : Prop :=
  ∀ (c : Cmd) (s : State),
    let f := future (s.consumed c)
    let s' := s.consumed c
    let p := c.payload
    let car := carOf p
    let x := f.car car
    (Judged carStopAddDef c s →
      (x.configured = true → x.service ≠ .faulted → x.service ≠ .lockedOut → ∃ t : State, exec (.carStopAdd c) s = .next (t.counted c)
        ∧ t.grp.deferred = s.grp.deferred ++ [.cmd 0x0611 p]
        ∧ (t.car car).asks = (s.car car).asks ++ [{ key := 0xFFFF, cmd := c, serial := s.serial c.src }]
        ∧ (t.car car).stops = (s.car car).stops)
      ∧ ((x.configured = false ∨ x.service = .faulted ∨ x.service = .lockedOut) →
          exec (.carStopAdd c) s = .next (s'.replyTo 0x0611 c stState [])))
    ∧ (Judged canCancelDef c s → exec (.canCancel c) s = .next ((s'.stage (.answer 0x0A12 c (s.serial c.src))).counted c))
    ∧ (Judged dispRegisterDef c s →
        let r := ({ f with grp := { f.grp with deferred := [] } } : State).regResult (byteAt p 0) (byteAt p 1) (byteAt p 2)
        (r = 0x11 ∨ r = 0x12 → exec (.dispRegister c) s = .next (s'.answer 0x0623 c stState (leBytes 3 noRef ++ [byte r])))
        ∧ (r = 0x10 → exec (.dispRegister c) s = .next (State.answer 0x0623 c stState (leBytes 3 noRef ++ [byte 0x10])
            (({ s' with grp := { s'.grp with disp := { s'.grp.disp with refusedFull := satInc 32 s.grp.disp.refusedFull } } } : State).record
              0x0601 0xFF [byte (byteAt p 0), byte (byteAt p 1)])))
        ∧ (r = 0x01 → ∀ ch : Nat, (s.allocReg { f with grp := { f.grp with deferred := [] } }).1 = some ch → ∃ t, exec (.dispRegister c) s =
            .next (State.answer 0x0623 c stOk (leBytes 3 ch ++ [1]) t)
            ∧ t.grp.deferred = s.grp.deferred ++ [.register ch (byteAt p 0) (byteAt p 1) (byteAt p 2) noRef]))
    ∧ (Judged dispCancelDef c s → exec (.dispCancel c) s =
        .next (((s'.voidAnnounce (fieldAt p 0 3)).stage (.cmd 0x0624 p)).answer 0x0624 c stOk []))
    ∧ (Judged safeResetDef c s →
        let r := s.resetResult car (fieldAt p 2 2)
        (r = 0 → exec (.safeReset c) s =
          .next ((s'.modSafe car fun y => { y with resetCmd := some (s.grp.frame, c, s.serial c.src) }).counted c))
        ∧ (r ≠ 0 → exec (.safeReset c) s = .next (s'.answer 0x0813 c stState [byte r, 0, 0, 0])))
    ∧ (Judged bankAckDef c s →
        let r := s.ackResult p
        (r = 0 → exec (.bankAck c) s = .next ((s'.stage (.answer 0x0911 c (s.serial c.src))).counted c))
        ∧ (r ≠ 0 → exec (.bankAck c) s = .next (s'.answer 0x0911 c stState [byte r, 0, 0, 0])))
    ∧ (Judged sigLoadDef c s →
        let k := slotOf p
        let b := f.wholeImage p
        let ready := (f.kernel k).state = .empty ∧ (bit (byteAt p 1) 0 = true ∨ (f.kernel k).staging ≠ none)
        (bit (byteAt p 1) 1 = false → ready → b.length ≤ 82128 → exec (.sigLoad c) s =
          .next (State.answer 0x0B10 c stOk [] (s'.modKernel k fun y => { y with staging := some b })))
        ∧ (bit (byteAt p 1) 1 = true → f.imageBad b = none → ready → (∀ n ∈ (headerOf b).outputs, f.ul40Owns n = false) →
          (f.signed b = false → exec (.sigLoad c) s = .next ((s'.dropChunks k).replyTo 0x0B10 c stSignature []))
          ∧ (f.signed b = true → admitOf f (applySigLoad p f) true k.val = none → ∃ r : List Byte, r.length = 8 ∧
              exec (.sigLoad c) s = .next (State.answer 0x0B10 c stOk r (s'.stage (.cmd 0x0B10 (loadOf p b)))))))
    ∧ (Judged fwStageDef c s → s.stagingJob = none → bit (byteAt p 1) 1 = false → ∃ t, exec (.fwStage c) s =
          .next (State.answer 0x0E10 c stOk [] t)
        ∧ t.grp.staging = some (s.fwTransfer p)
        ∧ (bit (byteAt p 1) 0 = true → s.namesSelf (byteAt p 0) = true →
            t.nv.copies[s.otherCopy.val].state = .staging ∧ t.nv.preferred = s.boot.running)
        ∧ (bit (byteAt p 1) 0 = false → t.nv = s.nv))
    ∧ (Judged ringConfigDef c s → s.running = false → s'.ringBusy f c = false →
        overLimit 11 16777216 f.ringBytes (applyRingConfig p f).ringBytes = none →
        exec (.ringConfig c) s = .next ((applyRingConfig p s').answer 0x0D10 c stOk []))

/-- Jobs (R491–R493): a job starts under an ID that no running job has, its first reply posted, with what it asks of the next
Calends; with 256 jobs a new one is refused
before the present state of what it names is looked at (R487, R493); a job that ends leaves the list, its result in force. -/
def Obligations.Jobs : Prop :=
  (∀ (c : Cmd) (s : State),
    let f := future (s.consumed c)
    let p := c.payload
    let car := carOf p
    let x := f.car car
    s.grp.jobs.length < 256 →
    ∀ q ∈ [(Instr.almSave c, almSaveDef, JobKind.almSave, (s.findJob fun j => j.kind == .almSave).isNone, fun (_ : Nat) => ([] : List Deferred)),
        (.posLearn c, posLearnDef, .posLearn car, x.mayLearn (bit (byteAt p 1) 0) (bit (byteAt p 1) 1) && x.pos.learn.isNone,
          fun _ => [.cmd 0x0414 p]),
        (.safeBrakeTest c, safeBrakeTestDef, .brakeTest car, f.brakeTestOk car && s.brakeTestOk car, fun _ => []),
        (.canSend c, canSendDef, .canSend (busOf p), decide (f.io.buses[(busOf p).val].rawCount < 8), fun n => [.send n p]),
        (.pairLeap c, pairLeapDef, .leap, f.leapOk && f.mem.releaseDue.isNone && s.grp.jobs.all (fun j => j.kind != .leap),
          fun _ => [.cmd 0x0C11 p])],
      Judged q.2.1 c s →
        (q.2.2.2.1 = true → ∃ (t : State) (id : Nat), exec q.1 s = .next t ∧ (∀ j ∈ s.grp.jobs, j.id ≠ id)
          ∧ t.grp.jobs = s.grp.jobs ++ [{ id := id, kind := q.2.2.1, opcode := q.2.1.opcode, src := c.src, tag := c.tag, seq := c.seq,
                                          target := c.target, serial := s.serial c.src, quiet := bit c.flags 0 }]
          ∧ t.grp.deferred = s.grp.deferred ++ q.2.2.2.2 id
          ∧ t.grp.sources[c.src.val].accepted = satInc 32 s.grp.sources[c.src.val].accepted)
        ∧ (q.2.2.2.1 = false → exec q.1 s = .next ((s.consumed c).replyTo q.2.1.opcode c stState [])))
  ∧ (∀ (c : Cmd) (s : State), Judged safeBrakeTestDef c s → s.grp.jobs.length < 256 →
      (future (s.consumed c)).brakeTestOk (carOf c.payload) = true → s.brakeTestOk (carOf c.payload) = true →
      ∃ t, exec (.safeBrakeTest c) s = .next t ∧ ∃ b : BrakeTest, (t.car (carOf c.payload)).safe.test = some b
        ∧ b.sets = byteAt c.payload 1 ∧ b.torque = intAt c.payload 2 2 ∧ b.testMs = fieldAt c.payload 4 2
        ∧ b.limit = fieldAt c.payload 6 2 ∧ b.step = 1 ∧ b.since = s.grp.frame + 1)
  ∧ (∀ (c : Cmd) (s : State), 256 ≤ s.grp.jobs.length →
      ∀ q ∈ [(Instr.posLearn c, posLearnDef), (.safeBrakeTest c, safeBrakeTestDef), (.almSave c, almSaveDef), (.canSend c, canSendDef),
          (.pairLeap c, pairLeapDef), (.recExport c, recExportDef)], Judged q.2 c s →
        exec q.1 s = .next ((s.consumed c).replyTo q.2.opcode c stLimit []))
  ∧ (∀ (c : Cmd) (s : State), Judged recExportDef c s → s.exporting = none → s.grp.jobs.length < 256 →
      let r : RingId := Fin.ofNat 64 (byteAt c.payload 8)
      let first := fieldAt c.payload 0 8
      s.host.rings[r.val].room = 0 → first ≤ s.nv.recorder.newest → s.host.rings[r.val].use = .dataOut →
      ∃ (t : State) (id : Nat), exec (.recExport c) s = .next t ∧ (∀ j ∈ s.grp.jobs, j.id ≠ id)
        ∧ t.grp.jobs = s.grp.jobs ++ [{ id := id, kind := .exportRecs r first first s.nv.recorder.newest 0, opcode := 0x1012, src := c.src,
                                        tag := c.tag, seq := c.seq, target := c.target, serial := s.serial c.src,
                                        quiet := bit c.flags 0 }])
  ∧ (∀ (j : Job) (s : State), s.running = true → s.findJob (fun j => j.kind == .almSave) = some j →
      (∃ t, exec (.almSaveComplete false) s = .next t ∧ t.nv.saved = s.grp.saving ∧ t.grp.saveFrame = s.grp.frame
        ∧ ∀ x ∈ t.grp.jobs, x.id ≠ j.id)
      ∧ ∃ t, exec (.almSaveComplete true) s = .next t ∧ t.nv.saved = s.nv.saved ∧ t.grp.saveFrame = s.grp.saveFrame
        ∧ ∀ x ∈ t.grp.jobs, x.id ≠ j.id)
  ∧ (∀ (j : Job) (b : BusId) (id : Nat) (s : State), s.running = true → s.findJob (fun j => j.id == id) = some j → j.kind = .canSend b →
      ((∃ x ∈ s.io.buses[b.val].queue, x.kind = .raw id ∧ x.started = false ∧ x.queuedAt + x.maxAge ≤ s.grp.frame) →
        ∃ t, exec (.canSendOutcome id) s = .next t ∧ (∀ x ∈ t.grp.jobs, x.id ≠ id)
          ∧ ∀ x ∈ t.io.buses[b.val].queue, ¬ (x.kind = .raw id ∧ x.started = false ∧ x.queuedAt + x.maxAge ≤ s.grp.frame))
      ∧ ((∀ x ∈ s.io.buses[b.val].queue, x.kind ≠ .raw id) → (∀ p, Deferred.send id p ∉ s.grp.deferred) →
        ∃ t, exec (.canSendOutcome id) s = .next t ∧ (∀ x ∈ t.grp.jobs, x.id ≠ id) ∧ t.io.buses = s.io.buses))
  ∧ ∀ (x : FwCheck) (j : Job) (g : FwStaging) (s : State), s.running = true → s.holds = true → s.stagingJob = some j →
      s.grp.staging = some g → ∃ t, exec (.fwStageComplete x) s = .next t ∧ t.grp.staging = none ∧ (∀ y ∈ t.grp.jobs, y.id ≠ j.id)
        ∧ (s.namesSelf g.members = true →
            (x.writeFailed = true → t.nv.copies[s.otherCopy.val].state = .invalid)
            ∧ (t.nv.copies[s.otherCopy.val].state = .valid → x.writeFailed = false ∧ ∃ cosign : Bool,
                fwPasses s.nv.customerRoot cosign s.nv.security g.bytes = true))
        ∧ (s.namesSelf g.members = false → t.nv = s.nv)
end

