-- ==== Sys2Proof/Laws/Mem.lean ====
section
/-! SUPPORT. The sparse memories: what a write leaves to be read, and that every write keeps the canonical form. -/

namespace Sys2Proof.Machine

variable {β : Type} [DecidableEq β] (d : β)

/-- Addresses at or above a higher bound are at or above a lower one. -/
theorem Mem.wfFrom_mono {lo hi : Nat} {m : List (Nat × β)} (h : lo ≤ hi) (w : Mem.wfFrom d hi m = true) : Mem.wfFrom d lo m = true := by
  cases m with
  | nil => rfl
  | cons q r =>
    simp only [Mem.wfFrom, Bool.and_eq_true, decide_eq_true_eq] at *
    exact ⟨⟨h.trans w.1.1, w.1.2⟩, w.2⟩

/-- Below the bound of a canonical memory every address reads as an unlisted one. -/
theorem Mem.get_below {lo : Nat} {m : List (Nat × β)} (w : Mem.wfFrom d lo m = true) {a : Nat} (h : a < lo) : Mem.get d m a = d := by
  cases m with
  | nil => rfl
  | cons q r =>
    simp only [Mem.wfFrom, Bool.and_eq_true, decide_eq_true_eq] at w
    have : a < q.1 := lt_of_lt_of_le h w.1.1
    simp [Mem.get, this, Nat.ne_of_lt this]

/-- A write keeps the canonical form. -/
theorem Mem.wfFrom_set {lo : Nat} {m : List (Nat × β)} {a : Nat} (v : β) (h : lo ≤ a) (w : Mem.wfFrom d lo m = true) :
    Mem.wfFrom d lo (Mem.set d m a v) = true := by
  induction m generalizing lo with
  | nil => by_cases e : v = d <;> simp [Mem.set, Mem.wfFrom, e, h]
  | cons q r ih =>
    obtain ⟨b, x⟩ := q
    simp only [Mem.wfFrom, Bool.and_eq_true, decide_eq_true_eq] at w
    by_cases e1 : a = b
    · subst e1
      by_cases e : v = d
      · simpa [Mem.set, e] using Mem.wfFrom_mono d (Nat.le_succ_of_le w.1.1) w.2
      · simp [Mem.set, e, Mem.wfFrom, w.1.1, w.2]
    · by_cases e2 : a < b
      · by_cases e : v = d
        · simp [Mem.set, e1, e2, e, Mem.wfFrom, w.1.1, w.1.2, w.2]
        · simp [Mem.set, e1, e2, e, Mem.wfFrom, h, w.1.2, w.2]
      · have := ih (lo := b + 1) (by omega) w.2
        simp [Mem.set, e1, e2, Mem.wfFrom, w.1.1, w.1.2, this]

/-- A write keeps the canonical form. -/
theorem Mem.wf_set {m : List (Nat × β)} (a : Nat) (v : β) (w : Mem.wf d m = true) : Mem.wf d (Mem.set d m a v) = true :=
  Mem.wfFrom_set d v (Nat.zero_le a) w

/-- Consecutive writes keep the canonical form. -/
theorem Mem.wf_setAll {m : List (Nat × β)} (a : Nat) (vs : List β) (w : Mem.wf d m = true) : Mem.wf d (Mem.setAll d m a vs) = true := by
  induction vs generalizing m a with
  | nil => exact w
  | cons v r ih => exact ih (a + 1) (Mem.wf_set d a v w)

/-- What is written is read, in any list. -/
theorem Mem.get_set_self (m : List (Nat × β)) (a : Nat) (v : β) {lo : Nat} (w : Mem.wfFrom d lo m = true) : Mem.get d (Mem.set d m a v) a = v := by
  induction m generalizing lo with
  | nil => by_cases e : v = d <;> simp [Mem.set, Mem.get, e]
  | cons q r ih =>
    obtain ⟨b, x⟩ := q
    simp only [Mem.wfFrom, Bool.and_eq_true, decide_eq_true_eq] at w
    by_cases e1 : a = b
    · subst e1
      by_cases e : v = d
      · simpa [Mem.set, e] using Mem.get_below d w.2 (Nat.lt_succ_self a)
      · simp [Mem.set, Mem.get, e]
    · by_cases e2 : a < b
      · by_cases e : v = d <;> simp [Mem.set, Mem.get, e1, e2, e]
      · simp [Mem.set, Mem.get, e1, e2, ih w.2]

/-- Every other address reads as before. -/
theorem Mem.get_set_of_ne (m : List (Nat × β)) {a c : Nat} (v : β) (h : c ≠ a) {lo : Nat} (w : Mem.wfFrom d lo m = true) :
    Mem.get d (Mem.set d m a v) c = Mem.get d m c := by
  induction m generalizing lo with
  | nil => by_cases e : v = d <;> simp [Mem.set, Mem.get, e, h]
  | cons q r ih =>
    obtain ⟨b, x⟩ := q
    simp only [Mem.wfFrom, Bool.and_eq_true, decide_eq_true_eq] at w
    by_cases e1 : a = b
    · subst e1
      by_cases e : v = d
      · by_cases l : c < a
        · simp [Mem.set, Mem.get, e, h, l, Mem.get_below d w.2 (Nat.lt_succ_of_lt l)]
        · simp [Mem.set, Mem.get, e, h, l]
      · simp [Mem.set, Mem.get, e, h]
    · by_cases e2 : a < b
      · by_cases e : v = d
        · simp [Mem.set, e1, e2, e]
        · by_cases l : c < a
          · have : c < b := by omega
            have hb : c ≠ b := by omega
            simp [Mem.set, Mem.get, e1, e2, e, h, l, this, hb]
          · simp [Mem.set, Mem.get, e1, e2, e, h, l]
      · simp [Mem.set, Mem.get, e1, e2, ih w.2]

end Sys2Proof.Machine
end

