-- ==== Sys2Proof/Laws/Parts.lean ====
section
/-! SUPPORT. A command acts within its parts: each field of the state after it, and every part that it does not name. -/

namespace Sys2Proof.Machine

/-- What `take` does to a field holds of `within` for every list of parts. -/
theorem within_of_take {α : Type} (f : State → α) (p : Part)
    (h : ∀ q t u, f (State.take t q u) = if q = p then f t else f u) (s t : State) (ps : List Part) :
    f (s.within ps t) = if p ∈ ps then f t else f s := by
  induction ps with
  | nil => simp [State.within]
  | cons q r ih =>
    have e : s.within (q :: r) t = State.take t q (s.within r t) := rfl
    rw [e, h, ih]
    by_cases hq : q = p
    · simp [hq]
    · simp [hq, Ne.symm hq]

@[simp] theorem within_free (s t : State) (ps : List Part) :
    (s.within ps t).free = if Part.free ∈ ps then t.free else s.free :=
  within_of_take (fun u => u.free) .free (fun q _ _ => by cases q <;> rfl) s t ps

@[simp] theorem within_grp_frame (s t : State) (ps : List Part) :
    (s.within ps t).grp.frame = if Part.number ∈ ps then t.grp.frame else s.grp.frame :=
  within_of_take (fun u => u.grp.frame) .number (fun q _ _ => by cases q <;> rfl) s t ps

@[simp] theorem within_grp_frameLen (s t : State) (ps : List Part) :
    (s.within ps t).grp.frameLen = if Part.frame ∈ ps then t.grp.frameLen else s.grp.frameLen :=
  within_of_take (fun u => u.grp.frameLen) .frame (fun q _ _ => by cases q <;> rfl) s t ps

@[simp] theorem within_grp_measuredLast (s t : State) (ps : List Part) :
    (s.within ps t).grp.measuredLast = if Part.frame ∈ ps then t.grp.measuredLast else s.grp.measuredLast :=
  within_of_take (fun u => u.grp.measuredLast) .frame (fun q _ _ => by cases q <;> rfl) s t ps

@[simp] theorem within_grp_measuredPeak (s t : State) (ps : List Part) :
    (s.within ps t).grp.measuredPeak = if Part.frame ∈ ps then t.grp.measuredPeak else s.grp.measuredPeak :=
  within_of_take (fun u => u.grp.measuredPeak) .frame (fun q _ _ => by cases q <;> rfl) s t ps

@[simp] theorem within_grp_excursions (s t : State) (ps : List Part) :
    (s.within ps t).grp.excursions = if Part.frame ∈ ps then t.grp.excursions else s.grp.excursions :=
  within_of_take (fun u => u.grp.excursions) .frame (fun q _ _ => by cases q <;> rfl) s t ps

@[simp] theorem within_grp_overrun (s t : State) (ps : List Part) :
    (s.within ps t).grp.overrun = if Part.frame ∈ ps then t.grp.overrun else s.grp.overrun :=
  within_of_take (fun u => u.grp.overrun) .frame (fun q _ _ => by cases q <;> rfl) s t ps

@[simp] theorem within_grp_admissionHeld (s t : State) (ps : List Part) :
    (s.within ps t).grp.admissionHeld = if Part.frame ∈ ps then t.grp.admissionHeld else s.grp.admissionHeld :=
  within_of_take (fun u => u.grp.admissionHeld) .frame (fun q _ _ => by cases q <;> rfl) s t ps

@[simp] theorem within_grp_safeState (s t : State) (ps : List Part) :
    (s.within ps t).grp.safeState = if Part.frame ∈ ps then t.grp.safeState else s.grp.safeState :=
  within_of_take (fun u => u.grp.safeState) .frame (fun q _ _ => by cases q <;> rfl) s t ps

@[simp] theorem within_grp_seconds (s t : State) (ps : List Part) :
    (s.within ps t).grp.seconds = if Part.clock ∈ ps then t.grp.seconds else s.grp.seconds :=
  within_of_take (fun u => u.grp.seconds) .clock (fun q _ _ => by cases q <;> rfl) s t ps

@[simp] theorem within_grp_fis (s t : State) (ps : List Part) :
    (s.within ps t).grp.fis = if Part.clock ∈ ps then t.grp.fis else s.grp.fis :=
  within_of_take (fun u => u.grp.fis) .clock (fun q _ _ => by cases q <;> rfl) s t ps

@[simp] theorem within_grp_alm (s t : State) (ps : List Part) :
    (s.within ps t).grp.alm = if Part.alm ∈ ps then t.grp.alm else s.grp.alm :=
  within_of_take (fun u => u.grp.alm) .alm (fun q _ _ => by cases q <;> rfl) s t ps

@[simp] theorem within_grp_shown (s t : State) (ps : List Part) :
    (s.within ps t).grp.shown = if Part.shown ∈ ps then t.grp.shown else s.grp.shown :=
  within_of_take (fun u => u.grp.shown) .shown (fun q _ _ => by cases q <;> rfl) s t ps

@[simp] theorem within_grp_shownCars (s t : State) (ps : List Part) :
    (s.within ps t).grp.shownCars = if Part.shown ∈ ps then t.grp.shownCars else s.grp.shownCars :=
  within_of_take (fun u => u.grp.shownCars) .shown (fun q _ _ => by cases q <;> rfl) s t ps

@[simp] theorem within_grp_shownDispatch (s t : State) (ps : List Part) :
    (s.within ps t).grp.shownDispatch = if Part.shown ∈ ps then t.grp.shownDispatch else s.grp.shownDispatch :=
  within_of_take (fun u => u.grp.shownDispatch) .shown (fun q _ _ => by cases q <;> rfl) s t ps

@[simp] theorem within_grp_cars (s t : State) (ps : List Part) :
    (s.within ps t).grp.cars = if Part.cars ∈ ps then t.grp.cars else s.grp.cars :=
  within_of_take (fun u => u.grp.cars) .cars (fun q _ _ => by cases q <;> rfl) s t ps

@[simp] theorem within_grp_disp (s t : State) (ps : List Part) :
    (s.within ps t).grp.disp = if Part.disp ∈ ps then t.grp.disp else s.grp.disp :=
  within_of_take (fun u => u.grp.disp) .disp (fun q _ _ => by cases q <;> rfl) s t ps

@[simp] theorem within_grp_sg (s t : State) (ps : List Part) :
    (s.within ps t).grp.sg = if Part.sg ∈ ps then t.grp.sg else s.grp.sg :=
  within_of_take (fun u => u.grp.sg) .sg (fun q _ _ => by cases q <;> rfl) s t ps

@[simp] theorem within_grp_deferred (s t : State) (ps : List Part) :
    (s.within ps t).grp.deferred = if Part.deferred ∈ ps then t.grp.deferred else s.grp.deferred :=
  within_of_take (fun u => u.grp.deferred) .deferred (fun q _ _ => by cases q <;> rfl) s t ps

@[simp] theorem within_grp_streams (s t : State) (ps : List Part) :
    (s.within ps t).grp.streams = if Part.streams ∈ ps then t.grp.streams else s.grp.streams :=
  within_of_take (fun u => u.grp.streams) .streams (fun q _ _ => by cases q <;> rfl) s t ps

@[simp] theorem within_grp_sources (s t : State) (ps : List Part) :
    (s.within ps t).grp.sources = if Part.sources ∈ ps then t.grp.sources else s.grp.sources :=
  within_of_take (fun u => u.grp.sources) .sources (fun q _ _ => by cases q <;> rfl) s t ps

@[simp] theorem within_grp_jobs (s t : State) (ps : List Part) :
    (s.within ps t).grp.jobs = if Part.jobs ∈ ps then t.grp.jobs else s.grp.jobs :=
  within_of_take (fun u => u.grp.jobs) .jobs (fun q _ _ => by cases q <;> rfl) s t ps

@[simp] theorem within_grp_jobCounter (s t : State) (ps : List Part) :
    (s.within ps t).grp.jobCounter = if Part.jobs ∈ ps then t.grp.jobCounter else s.grp.jobCounter :=
  within_of_take (fun u => u.grp.jobCounter) .jobs (fun q _ _ => by cases q <;> rfl) s t ps

@[simp] theorem within_grp_sessions (s t : State) (ps : List Part) :
    (s.within ps t).grp.sessions = if Part.sessions ∈ ps then t.grp.sessions else s.grp.sessions :=
  within_of_take (fun u => u.grp.sessions) .sessions (fun q _ _ => by cases q <;> rfl) s t ps

@[simp] theorem within_grp_kernels (s t : State) (ps : List Part) :
    (s.within ps t).grp.kernels = if Part.kernels ∈ ps then t.grp.kernels else s.grp.kernels :=
  within_of_take (fun u => u.grp.kernels) .kernels (fun q _ _ => by cases q <;> rfl) s t ps

@[simp] theorem within_grp_engines (s t : State) (ps : List Part) :
    (s.within ps t).grp.engines = if Part.engines ∈ ps then t.grp.engines else s.grp.engines :=
  within_of_take (fun u => u.grp.engines) .engines (fun q _ _ => by cases q <;> rfl) s t ps

@[simp] theorem within_grp_rides (s t : State) (ps : List Part) :
    (s.within ps t).grp.rides = if Part.rides ∈ ps then t.grp.rides else s.grp.rides :=
  within_of_take (fun u => u.grp.rides) .rides (fun q _ _ => by cases q <;> rfl) s t ps

@[simp] theorem within_grp_saving (s t : State) (ps : List Part) :
    (s.within ps t).grp.saving = if Part.saves ∈ ps then t.grp.saving else s.grp.saving :=
  within_of_take (fun u => u.grp.saving) .saves (fun q _ _ => by cases q <;> rfl) s t ps

@[simp] theorem within_grp_saveFrame (s t : State) (ps : List Part) :
    (s.within ps t).grp.saveFrame = if Part.saves ∈ ps then t.grp.saveFrame else s.grp.saveFrame :=
  within_of_take (fun u => u.grp.saveFrame) .saves (fun q _ _ => by cases q <;> rfl) s t ps

@[simp] theorem within_grp_staging (s t : State) (ps : List Part) :
    (s.within ps t).grp.staging = if Part.staging ∈ ps then t.grp.staging else s.grp.staging :=
  within_of_take (fun u => u.grp.staging) .staging (fun q _ _ => by cases q <;> rfl) s t ps

@[simp] theorem within_mem (s t : State) (ps : List Part) :
    (s.within ps t).mem = if Part.member ∈ ps then t.mem else s.mem :=
  within_of_take (fun u => u.mem) .member (fun q _ _ => by cases q <;> rfl) s t ps

@[simp] theorem within_boot_phase (s t : State) (ps : List Part) :
    (s.within ps t).boot.phase = if Part.straps ∈ ps then t.boot.phase else s.boot.phase :=
  within_of_take (fun u => u.boot.phase) .straps (fun q _ _ => by cases q <;> rfl) s t ps

@[simp] theorem within_boot_mode (s t : State) (ps : List Part) :
    (s.within ps t).boot.mode = if Part.straps ∈ ps then t.boot.mode else s.boot.mode :=
  within_of_take (fun u => u.boot.mode) .straps (fun q _ _ => by cases q <;> rfl) s t ps

@[simp] theorem within_boot_pairSel (s t : State) (ps : List Part) :
    (s.within ps t).boot.pairSel = if Part.straps ∈ ps then t.boot.pairSel else s.boot.pairSel :=
  within_of_take (fun u => u.boot.pairSel) .straps (fun q _ _ => by cases q <;> rfl) s t ps

@[simp] theorem within_boot_scanEn (s t : State) (ps : List Part) :
    (s.within ps t).boot.scanEn = if Part.straps ∈ ps then t.boot.scanEn else s.boot.scanEn :=
  within_of_take (fun u => u.boot.scanEn) .straps (fun q _ _ => by cases q <;> rfl) s t ps

@[simp] theorem within_boot_life (s t : State) (ps : List Part) :
    (s.within ps t).boot.life = if Part.straps ∈ ps then t.boot.life else s.boot.life :=
  within_of_take (fun u => u.boot.life) .straps (fun q _ _ => by cases q <;> rfl) s t ps

@[simp] theorem within_boot_lastReset (s t : State) (ps : List Part) :
    (s.within ps t).boot.lastReset = if Part.straps ∈ ps then t.boot.lastReset else s.boot.lastReset :=
  within_of_take (fun u => u.boot.lastReset) .straps (fun q _ _ => by cases q <;> rfl) s t ps

@[simp] theorem within_boot_running (s t : State) (ps : List Part) :
    (s.within ps t).boot.running = if Part.straps ∈ ps then t.boot.running else s.boot.running :=
  within_of_take (fun u => u.boot.running) .straps (fun q _ _ => by cases q <;> rfl) s t ps

@[simp] theorem within_boot_fallback (s t : State) (ps : List Part) :
    (s.within ps t).boot.fallback = if Part.straps ∈ ps then t.boot.fallback else s.boot.fallback :=
  within_of_take (fun u => u.boot.fallback) .straps (fun q _ _ => by cases q <;> rfl) s t ps

@[simp] theorem within_boot_fwVersion (s t : State) (ps : List Part) :
    (s.within ps t).boot.fwVersion = if Part.straps ∈ ps then t.boot.fwVersion else s.boot.fwVersion :=
  within_of_take (fun u => u.boot.fwVersion) .straps (fun q _ _ => by cases q <;> rfl) s t ps

@[simp] theorem within_boot_fwPatch (s t : State) (ps : List Part) :
    (s.within ps t).boot.fwPatch = if Part.straps ∈ ps then t.boot.fwPatch else s.boot.fwPatch :=
  within_of_take (fun u => u.boot.fwPatch) .straps (fun q _ _ => by cases q <;> rfl) s t ps

@[simp] theorem within_boot_fwProtocol (s t : State) (ps : List Part) :
    (s.within ps t).boot.fwProtocol = if Part.straps ∈ ps then t.boot.fwProtocol else s.boot.fwProtocol :=
  within_of_take (fun u => u.boot.fwProtocol) .straps (fun q _ _ => by cases q <;> rfl) s t ps

@[simp] theorem within_boot_security (s t : State) (ps : List Part) :
    (s.within ps t).boot.security = if Part.straps ∈ ps then t.boot.security else s.boot.security :=
  within_of_take (fun u => u.boot.security) .straps (fun q _ _ => by cases q <;> rfl) s t ps

@[simp] theorem within_boot_pair (s t : State) (ps : List Part) :
    (s.within ps t).boot.pair = if Part.straps ∈ ps then t.boot.pair else s.boot.pair :=
  within_of_take (fun u => u.boot.pair) .straps (fun q _ _ => by cases q <;> rfl) s t ps

@[simp] theorem within_boot_net (s t : State) (ps : List Part) :
    (s.within ps t).boot.net = if Part.straps ∈ ps then t.boot.net else s.boot.net :=
  within_of_take (fun u => u.boot.net) .straps (fun q _ _ => by cases q <;> rfl) s t ps

@[simp] theorem within_boot_heldKind (s t : State) (ps : List Part) :
    (s.within ps t).boot.heldKind = if Part.straps ∈ ps then t.boot.heldKind else s.boot.heldKind :=
  within_of_take (fun u => u.boot.heldKind) .straps (fun q _ _ => by cases q <;> rfl) s t ps

@[simp] theorem within_boot_challenge (s t : State) (ps : List Part) :
    (s.within ps t).boot.challenge = if Part.counts ∈ ps then t.boot.challenge else s.boot.challenge :=
  within_of_take (fun u => u.boot.challenge) .counts (fun q _ _ => by cases q <;> rfl) s t ps

@[simp] theorem within_boot_dramCorrected (s t : State) (ps : List Part) :
    (s.within ps t).boot.dramCorrected = if Part.counts ∈ ps then t.boot.dramCorrected else s.boot.dramCorrected :=
  within_of_take (fun u => u.boot.dramCorrected) .counts (fun q _ _ => by cases q <;> rfl) s t ps

@[simp] theorem within_boot_cacheCorrected (s t : State) (ps : List Part) :
    (s.within ps t).boot.cacheCorrected = if Part.counts ∈ ps then t.boot.cacheCorrected else s.boot.cacheCorrected :=
  within_of_take (fun u => u.boot.cacheCorrected) .counts (fun q _ _ => by cases q <;> rfl) s t ps

@[simp] theorem within_boot_scrubPasses (s t : State) (ps : List Part) :
    (s.within ps t).boot.scrubPasses = if Part.counts ∈ ps then t.boot.scrubPasses else s.boot.scrubPasses :=
  within_of_take (fun u => u.boot.scrubPasses) .counts (fun q _ _ => by cases q <;> rfl) s t ps

@[simp] theorem within_boot_extest (s t : State) (ps : List Part) :
    (s.within ps t).boot.extest = if Part.counts ∈ ps then t.boot.extest else s.boot.extest :=
  within_of_take (fun u => u.boot.extest) .counts (fun q _ _ => by cases q <;> rfl) s t ps

@[simp] theorem within_boot_nextQ (s t : State) (ps : List Part) :
    (s.within ps t).boot.nextQ = if Part.leaf ∈ ps then t.boot.nextQ else s.boot.nextQ :=
  within_of_take (fun u => u.boot.nextQ) .leaf (fun q _ _ => by cases q <;> rfl) s t ps

@[simp] theorem within_nv_attestBlocks (s t : State) (ps : List Part) :
    (s.within ps t).nv.attestBlocks = if Part.leaf ∈ ps then t.nv.attestBlocks else s.nv.attestBlocks :=
  within_of_take (fun u => u.nv.attestBlocks) .leaf (fun q _ _ => by cases q <;> rfl) s t ps

@[simp] theorem within_io_banks (s t : State) (ps : List Part) :
    (s.within ps t).io.banks = if Part.banks ∈ ps then t.io.banks else s.io.banks :=
  within_of_take (fun u => u.io.banks) .banks (fun q _ _ => by cases q <;> rfl) s t ps

@[simp] theorem within_io_image (s t : State) (ps : List Part) :
    (s.within ps t).io.image = if Part.image ∈ ps then t.io.image else s.io.image :=
  within_of_take (fun u => u.io.image) .image (fun q _ _ => by cases q <;> rfl) s t ps

@[simp] theorem within_io_encFault (s t : State) (ps : List Part) :
    (s.within ps t).io.encFault = if Part.image ∈ ps then t.io.encFault else s.io.encFault :=
  within_of_take (fun u => u.io.encFault) .image (fun q _ _ => by cases q <;> rfl) s t ps
@[simp] theorem within_io_encPhase (s t : State) (ps : List Part) :
    (s.within ps t).io.encPhase = if Part.image ∈ ps then t.io.encPhase else s.io.encPhase :=
  within_of_take (fun u => u.io.encPhase) .image (fun q _ _ => by cases q <;> rfl) s t ps

@[simp] theorem within_io_buses (s t : State) (ps : List Part) :
    (s.within ps t).io.buses = if Part.buses ∈ ps then t.io.buses else s.io.buses :=
  within_of_take (fun u => u.io.buses) .buses (fun q _ _ => by cases q <;> rfl) s t ps

@[simp] theorem within_io_map (s t : State) (ps : List Part) :
    (s.within ps t).io.map = if Part.map ∈ ps then t.io.map else s.io.map :=
  within_of_take (fun u => u.io.map) .map (fun q _ _ => by cases q <;> rfl) s t ps

@[simp] theorem within_io_links (s t : State) (ps : List Part) :
    (s.within ps t).io.links = if Part.links ∈ ps then t.io.links else s.io.links :=
  within_of_take (fun u => u.io.links) .links (fun q _ _ => by cases q <;> rfl) s t ps

@[simp] theorem within_io_ends (s t : State) (ps : List Part) :
    (s.within ps t).io.ends = if Part.ends ∈ ps then t.io.ends else s.io.ends :=
  within_of_take (fun u => u.io.ends) .ends (fun q _ _ => by cases q <;> rfl) s t ps

@[simp] theorem within_host_rings (s t : State) (ps : List Part) :
    (s.within ps t).host.rings = if Part.rings ∈ ps then t.host.rings else s.host.rings :=
  within_of_take (fun u => u.host.rings) .rings (fun q _ _ => by cases q <;> rfl) s t ps

@[simp] theorem within_host_rung (s t : State) (ps : List Part) :
    (s.within ps t).host.rung = if Part.rings ∈ ps then t.host.rung else s.host.rung :=
  within_of_take (fun u => u.host.rung) .rings (fun q _ _ => by cases q <;> rfl) s t ps

@[simp] theorem within_host_held (s t : State) (ps : List Part) :
    (s.within ps t).host.held = if Part.rings ∈ ps then t.host.held else s.host.held :=
  within_of_take (fun u => u.host.held) .rings (fun q _ _ => by cases q <;> rfl) s t ps

@[simp] theorem within_host_irqRing (s t : State) (ps : List Part) :
    (s.within ps t).host.irqRing = if Part.irq ∈ ps then t.host.irqRing else s.host.irqRing :=
  within_of_take (fun u => u.host.irqRing) .irq (fun q _ _ => by cases q <;> rfl) s t ps

@[simp] theorem within_host_irqMask (s t : State) (ps : List Part) :
    (s.within ps t).host.irqMask = if Part.irq ∈ ps then t.host.irqMask else s.host.irqMask :=
  within_of_take (fun u => u.host.irqMask) .irq (fun q _ _ => by cases q <;> rfl) s t ps

@[simp] theorem within_host_irqEvent (s t : State) (ps : List Part) :
    (s.within ps t).host.irqEvent = if Part.irq ∈ ps then t.host.irqEvent else s.host.irqEvent :=
  within_of_take (fun u => u.host.irqEvent) .irq (fun q _ _ => by cases q <;> rfl) s t ps

@[simp] theorem within_host_irqEventMask (s t : State) (ps : List Part) :
    (s.within ps t).host.irqEventMask = if Part.irq ∈ ps then t.host.irqEventMask else s.host.irqEventMask :=
  within_of_take (fun u => u.host.irqEventMask) .irq (fun q _ _ => by cases q <;> rfl) s t ps

@[simp] theorem within_host_pageRing (s t : State) (ps : List Part) :
    (s.within ps t).host.pageRing = if Part.window ∈ ps then t.host.pageRing else s.host.pageRing :=
  within_of_take (fun u => u.host.pageRing) .window (fun q _ _ => by cases q <;> rfl) s t ps

@[simp] theorem within_host_pageSlot (s t : State) (ps : List Part) :
    (s.within ps t).host.pageSlot = if Part.window ∈ ps then t.host.pageSlot else s.host.pageSlot :=
  within_of_take (fun u => u.host.pageSlot) .window (fun q _ _ => by cases q <;> rfl) s t ps

@[simp] theorem within_host_frameLatch (s t : State) (ps : List Part) :
    (s.within ps t).host.frameLatch = if Part.window ∈ ps then t.host.frameLatch else s.host.frameLatch :=
  within_of_take (fun u => u.host.frameLatch) .window (fun q _ _ => by cases q <;> rfl) s t ps

@[simp] theorem within_host_busErrors (s t : State) (ps : List Part) :
    (s.within ps t).host.busErrors = if Part.window ∈ ps then t.host.busErrors else s.host.busErrors :=
  within_of_take (fun u => u.host.busErrors) .window (fun q _ _ => by cases q <;> rfl) s t ps

@[simp] theorem within_host_ul40BusErrors (s t : State) (ps : List Part) :
    (s.within ps t).host.ul40BusErrors = if Part.window ∈ ps then t.host.ul40BusErrors else s.host.ul40BusErrors :=
  within_of_take (fun u => u.host.ul40BusErrors) .window (fun q _ _ => by cases q <;> rfl) s t ps

@[simp] theorem within_host_authFailures (s t : State) (ps : List Part) :
    (s.within ps t).host.authFailures = if Part.net ∈ ps then t.host.authFailures else s.host.authFailures :=
  within_of_take (fun u => u.host.authFailures) .net (fun q _ _ => by cases q <;> rfl) s t ps

@[simp] theorem within_host_authAt (s t : State) (ps : List Part) :
    (s.within ps t).host.authAt = if Part.net ∈ ps then t.host.authAt else s.host.authAt :=
  within_of_take (fun u => u.host.authAt) .net (fun q _ _ => by cases q <;> rfl) s t ps

@[simp] theorem within_host_ethOut (s t : State) (ps : List Part) :
    (s.within ps t).host.ethOut = if Part.net ∈ ps then t.host.ethOut else s.host.ethOut :=
  within_of_take (fun u => u.host.ethOut) .net (fun q _ _ => by cases q <;> rfl) s t ps

@[simp] theorem within_nv_recorder (s t : State) (ps : List Part) :
    (s.within ps t).nv.recorder = if Part.recorder ∈ ps then t.nv.recorder else s.nv.recorder :=
  within_of_take (fun u => u.nv.recorder) .recorder (fun q _ _ => by cases q <;> rfl) s t ps

@[simp] theorem within_nv_groups (s t : State) (ps : List Part) :
    (s.within ps t).nv.groups = if Part.fuses ∈ ps then t.nv.groups else s.nv.groups :=
  within_of_take (fun u => u.nv.groups) .fuses (fun q _ _ => by cases q <;> rfl) s t ps

@[simp] theorem within_nv_security (s t : State) (ps : List Part) :
    (s.within ps t).nv.security = if Part.fuses ∈ ps then t.nv.security else s.nv.security :=
  within_of_take (fun u => u.nv.security) .fuses (fun q _ _ => by cases q <;> rfl) s t ps

@[simp] theorem within_nv_pendingLife (s t : State) (ps : List Part) :
    (s.within ps t).nv.pendingLife = if Part.life ∈ ps then t.nv.pendingLife else s.nv.pendingLife :=
  within_of_take (fun u => u.nv.pendingLife) .life (fun q _ _ => by cases q <;> rfl) s t ps

@[simp] theorem within_nv_customerRoot (s t : State) (ps : List Part) :
    (s.within ps t).nv.customerRoot = if Part.life ∈ ps then t.nv.customerRoot else s.nv.customerRoot :=
  within_of_take (fun u => u.nv.customerRoot) .life (fun q _ _ => by cases q <;> rfl) s t ps

@[simp] theorem within_nv_netKey (s t : State) (ps : List Part) :
    (s.within ps t).nv.netKey = if Part.life ∈ ps then t.nv.netKey else s.nv.netKey :=
  within_of_take (fun u => u.nv.netKey) .life (fun q _ _ => by cases q <;> rfl) s t ps

@[simp] theorem within_nv_cosign (s t : State) (ps : List Part) :
    (s.within ps t).nv.cosign = if Part.life ∈ ps then t.nv.cosign else s.nv.cosign :=
  within_of_take (fun u => u.nv.cosign) .life (fun q _ _ => by cases q <;> rfl) s t ps

@[simp] theorem within_nv_copies (s t : State) (ps : List Part) :
    (s.within ps t).nv.copies = if Part.firmware ∈ ps then t.nv.copies else s.nv.copies :=
  within_of_take (fun u => u.nv.copies) .firmware (fun q _ _ => by cases q <;> rfl) s t ps

@[simp] theorem within_nv_facts (s t : State) (ps : List Part) :
    (s.within ps t).nv.facts = if Part.firmware ∈ ps then t.nv.facts else s.nv.facts :=
  within_of_take (fun u => u.nv.facts) .firmware (fun q _ _ => by cases q <;> rfl) s t ps

@[simp] theorem within_nv_preferred (s t : State) (ps : List Part) :
    (s.within ps t).nv.preferred = if Part.firmware ∈ ps then t.nv.preferred else s.nv.preferred :=
  within_of_take (fun u => u.nv.preferred) .firmware (fun q _ _ => by cases q <;> rfl) s t ps

@[simp] theorem within_nv_nandCorrected (s t : State) (ps : List Part) :
    (s.within ps t).nv.nandCorrected = if Part.epoch ∈ ps then t.nv.nandCorrected else s.nv.nandCorrected :=
  within_of_take (fun u => u.nv.nandCorrected) .epoch (fun q _ _ => by cases q <;> rfl) s t ps

@[simp] theorem within_nv_frameLen (s t : State) (ps : List Part) :
    (s.within ps t).nv.frameLen = if Part.stored ∈ ps then t.nv.frameLen else s.nv.frameLen :=
  within_of_take (fun u => u.nv.frameLen) .stored (fun q _ _ => by cases q <;> rfl) s t ps

@[simp] theorem within_nv_pair (s t : State) (ps : List Part) :
    (s.within ps t).nv.pair = if Part.stored ∈ ps then t.nv.pair else s.nv.pair :=
  within_of_take (fun u => u.nv.pair) .stored (fun q _ _ => by cases q <;> rfl) s t ps

@[simp] theorem within_nv_net (s t : State) (ps : List Part) :
    (s.within ps t).nv.net = if Part.stored ∈ ps then t.nv.net else s.nv.net :=
  within_of_take (fun u => u.nv.net) .stored (fun q _ _ => by cases q <;> rfl) s t ps

@[simp] theorem within_nv_config (s t : State) (ps : List Part) :
    (s.within ps t).nv.config = if Part.stored ∈ ps then t.nv.config else s.nv.config :=
  within_of_take (fun u => u.nv.config) .stored (fun q _ _ => by cases q <;> rfl) s t ps

@[simp] theorem within_nv_saved (s t : State) (ps : List Part) :
    (s.within ps t).nv.saved = if Part.stored ∈ ps then t.nv.saved else s.nv.saved :=
  within_of_take (fun u => u.nv.saved) .stored (fun q _ _ => by cases q <;> rfl) s t ps

@[simp] theorem within_nv_kernels (s t : State) (ps : List Part) :
    (s.within ps t).nv.kernels = if Part.stored ∈ ps then t.nv.kernels else s.nv.kernels :=
  within_of_take (fun u => u.nv.kernels) .stored (fun q _ _ => by cases q <;> rfl) s t ps

@[simp] theorem within_nv_learned (s t : State) (ps : List Part) :
    (s.within ps t).nv.learned = if Part.stored ∈ ps then t.nv.learned else s.nv.learned :=
  within_of_take (fun u => u.nv.learned) .stored (fun q _ _ => by cases q <;> rfl) s t ps

@[simp] theorem within_nv_causes (s t : State) (ps : List Part) :
    (s.within ps t).nv.causes = if Part.stored ∈ ps then t.nv.causes else s.nv.causes :=
  within_of_take (fun u => u.nv.causes) .stored (fun q _ _ => by cases q <;> rfl) s t ps

@[simp] theorem within_nv_epoch (s t : State) (ps : List Part) :
    (s.within ps t).nv.epoch = if Part.epoch ∈ ps then t.nv.epoch else s.nv.epoch :=
  within_of_take (fun u => u.nv.epoch) .epoch (fun q _ _ => by cases q <;> rfl) s t ps

@[simp] theorem within_nv_secondsSaved (s t : State) (ps : List Part) :
    (s.within ps t).nv.secondsSaved = if Part.saveTime ∈ ps then t.nv.secondsSaved else s.nv.secondsSaved :=
  within_of_take (fun u => u.nv.secondsSaved) .saveTime (fun q _ _ => by cases q <;> rfl) s t ps

/-- No command changes the queue's rest. -/
@[simp] theorem within_pending (s t : State) (ps : List Part) : (s.within ps t).pending = s.pending := by
  induction ps with
  | nil => rfl
  | cons q r ih =>
    have e : (s.within (q :: r) t).pending = (s.within r t).pending := by cases q <;> rfl
    rw [e, ih]

/-- A part that is not named is the same. -/
theorem same_within (s t : State) (ps : List Part) (p : Part) (h : p ∉ ps) : p.same s (s.within ps t) := by
  cases p <;> simp [Part.same, h]

/-- A part that is named is what the command makes of it. -/
theorem same_within_of_mem (s t : State) (ps : List Part) (p : Part) (h : p ∈ ps) : p.same t (s.within ps t) := by
  cases p <;> simp [Part.same, h]

end Sys2Proof.Machine
end

