-- ==== Sys2Proof/Laws/PerInstr.lean ====
section
/-! SUPPORT. What holds of each command as syntax, one lemma for each constructor. -/

namespace Sys2Proof.Laws.Rare

open Sys2Proof.Machine

/-- The commands of power, reset and start-up. -/
def powers : Instr → Bool
  | .powerGood | .brownOut | .reset _ | .watchdog _ | .memoryUncorrectable _ | .patrolScrub _ | .resetRelease _ | .firstCalends _ => true
  | _ => false

/-- The commands of start-up. -/
def starts : Instr → Bool
  | .resetRelease _ | .firstCalends _ => true
  | _ => false

/-- The release of reset. -/
def releases : Instr → Bool
  | .resetRelease _ => true
  | _ => false

/-- The straps change only in the commands of power, reset and start-up (R450, R582), the fuses only in those of start-up
(R552, R563), and EPOCH only at the release of reset (R593). -/
def Statement (i : Instr) : Prop :=
  ((!i.parts.contains .straps || powers i) && (!i.parts.contains .fuses || starts i)
    && (!i.parts.contains .epoch || releases i)) = true

theorem calends (x : FrameIn) : Statement (.calends x) := rfl
theorem controlPlaneOverrun : Statement (.controlPlaneOverrun) := rfl
theorem sgCycle : Statement (.sgCycle) := rfl
theorem sgClock : Statement (.sgClock) := rfl
theorem sgSupply : Statement (.sgSupply) := rfl
theorem apsDisagree (car : CarId) : Statement (.apsDisagree car) := rfl
theorem apsLost (car : CarId) : Statement (.apsLost car) := rfl
theorem correctionFailed (car : CarId) : Statement (.correctionFailed car) := rfl
theorem autoCorrect (car : CarId) : Statement (.autoCorrect car) := rfl
theorem autoLearn (car : CarId) : Statement (.autoLearn car) := rfl
theorem shaftLearnComplete (car : CarId) : Statement (.shaftLearnComplete car) := rfl
theorem stretchSample (car : CarId) : Statement (.stretchSample car) := rfl
theorem relevelDemand (car : CarId) : Statement (.relevelDemand car) := rfl
theorem following (car : CarId) : Statement (.following car) := rfl
theorem referenceLost (car : CarId) : Statement (.referenceLost car) := rfl
theorem driveStatusLost (car : CarId) : Statement (.driveStatusLost car) := rfl
theorem driveStartTimeout (car : CarId) : Statement (.driveStartTimeout car) := rfl
theorem settleTimeout (car : CarId) : Statement (.settleTimeout car) := rfl
theorem stopComplete (car : CarId) : Statement (.stopComplete car) := rfl
theorem reversalDwellEnd (car : CarId) : Statement (.reversalDwellEnd car) := rfl
theorem dispatchPass (chan : Nat) : Statement (.dispatchPass chan) := rfl
theorem terminalRequest (terminal : Nat) : Statement (.terminalRequest terminal) := rfl
theorem regRetainExpiry (chan : Nat) : Statement (.regRetainExpiry chan) := rfl
theorem coldEvaluation (chan : Nat) : Statement (.coldEvaluation chan) := rfl
theorem almanacTimer (chan : Nat) : Statement (.almanacTimer chan) := rfl
theorem doorObstruction (car : CarId) (side : Side) : Statement (.doorObstruction car side) := rfl
theorem doorMoveComplete (car : CarId) (side : Side) : Statement (.doorMoveComplete car side) := rfl
theorem dwellEnd (car : CarId) (side : Side) : Statement (.dwellEnd car side) := rfl
theorem notClosed (car : CarId) (side : Side) : Statement (.notClosed car side) := rfl
theorem gearSync (car : CarId) (side : Side) : Statement (.gearSync car side) := rfl
theorem reportLost (car : CarId) (side : Side) : Statement (.reportLost car side) := rfl
theorem loadAngleValid (car : CarId) (side : Side) : Statement (.loadAngleValid car side) := rfl
theorem referenceFailed (car : CarId) (side : Side) : Statement (.referenceFailed car side) := rfl
theorem discrepancy (car : CarId) (pair : Fin 5) : Statement (.discrepancy car pair) := rfl
theorem source (car : CarId) : Statement (.source car) := rfl
theorem xcheck (car : CarId) : Statement (.xcheck car) := rfl
theorem terminalSpeed (car : CarId) : Statement (.terminalSpeed car) := rfl
theorem mirror (car : CarId) (ch : Side) : Statement (.mirror car ch) := rfl
theorem lift (car : CarId) (ch : Side) : Statement (.lift car ch) := rfl
theorem darkTest (car : CarId) (out : Fin 6) (passed : Bool) : Statement (.darkTest car out passed) := rfl
theorem brakeTestTimeout (car : CarId) : Statement (.brakeTestTimeout car) := rfl
theorem resetWindowExpiry (car : CarId) : Statement (.resetWindowExpiry car) := rfl
theorem laneFilterChange (bank : BankId) (lane : LaneId) (samples : List Sample) : Statement (.laneFilterChange bank lane samples) := rfl
theorem laneBroken (bank : BankId) (lane : LaneId) (samples : List Sample) : Statement (.laneBroken bank lane samples) := rfl
theorem supplyLowChange (bank : BankId) (runs : List SupplyRun) : Statement (.supplyLowChange bank runs) := rfl
theorem supplyMissing (x : SupplyTrace) : Statement (.supplyMissing x) := rfl
theorem releaseReady (x : SupplyTrace) : Statement (.releaseReady x) := rfl
theorem safeTimerExpiry (bank : BankId) : Statement (.safeTimerExpiry bank) := rfl
theorem laneThermalShutdown (bank : BankId) (lane : LaneId) : Statement (.laneThermalShutdown bank lane) := rfl
theorem thermalHoldoffEnd (bank : BankId) (lane : LaneId) : Statement (.thermalHoldoffEnd bank lane) := rfl
theorem bankRefreshReceived (bank : BankId) (good : Bool) : Statement (.bankRefreshReceived bank good) := rfl
theorem bankLinkFault (bank : BankId) : Statement (.bankLinkFault bank) := rfl
theorem encoderLineFault (enc : Fin 8) (bad : Bool) : Statement (.encoderLineFault enc bad) := rfl
theorem canFrameReceived (bus : BusId) (f : CanFrame) : Statement (.canFrameReceived bus f) := rfl
theorem canFrameSent (bus : BusId) (timeUs : Nat) : Statement (.canFrameSent bus timeUs) := rfl
theorem canTxError (bus : BusId) (cause : TxError) : Statement (.canTxError bus cause) := rfl
theorem canFrameDiscard (bus : BusId) : Statement (.canFrameDiscard bus) := rfl
theorem canBusOff (bus : BusId) : Statement (.canBusOff bus) := rfl
theorem canRecoveryComplete (bus : BusId) : Statement (.canRecoveryComplete bus) := rfl
theorem canIntegrated (bus : BusId) : Statement (.canIntegrated bus) := rfl
theorem protocolException (bus : BusId) : Statement (.protocolException bus) := rfl
theorem heartbeatProducer (bus : BusId) : Statement (.heartbeatProducer bus) := rfl
theorem canopenSync (bus : BusId) : Statement (.canopenSync bus) := rfl
theorem canopenNodeLost (bus : BusId) (node : Nat) : Statement (.canopenNodeLost bus node) := rfl
theorem canopenOutRefresh (entry : Nat) : Statement (.canopenOutRefresh entry) := rfl
theorem uplinkReceived (link : CarId) (frame : LinkFrame) (atNs : Nat) : Statement (.uplinkReceived link frame atNs) := rfl
theorem clPhyLinkChange (link : CarId) (up : Bool) : Statement (.clPhyLinkChange link up) := rfl
theorem clLinkDown (link : CarId) : Statement (.clLinkDown link) := rfl
theorem endpointDownlink (link : CarId) (port : Side) (frame : LinkFrame) (atNs : Nat) : Statement (.endpointDownlink link port frame atNs) := rfl
theorem endpointSample (link : CarId) (x : EndpointIn) : Statement (.endpointSample link x) := rfl
theorem endpointLossLatch (link : CarId) : Statement (.endpointLossLatch link) := rfl
theorem endpointDisable (link : CarId) : Statement (.endpointDisable link) := rfl
theorem kernelCyclesStop (eng : EngId) : Statement (.kernelCyclesStop eng) := rfl
theorem bgCycles (eng : EngId) : Statement (.bgCycles eng) := rfl
theorem handlerCycles (eng : EngId) : Statement (.handlerCycles eng) := rfl
theorem add (eng : EngId) (gd ga gb : GReg) : Statement (.add eng gd ga gb) := rfl
theorem sub (eng : EngId) (gd ga gb : GReg) : Statement (.sub eng gd ga gb) := rfl
theorem and (eng : EngId) (gd ga gb : GReg) : Statement (.and eng gd ga gb) := rfl
theorem or (eng : EngId) (gd ga gb : GReg) : Statement (.or eng gd ga gb) := rfl
theorem xor (eng : EngId) (gd ga gb : GReg) : Statement (.xor eng gd ga gb) := rfl
theorem asr (eng : EngId) (gd ga : GReg) (shamt : Fin 32) : Statement (.asr eng gd ga shamt) := rfl
theorem lsr (eng : EngId) (gd ga : GReg) (shamt : Fin 32) : Statement (.lsr eng gd ga shamt) := rfl
theorem shl (eng : EngId) (gd ga : GReg) (shamt : Fin 32) : Statement (.shl eng gd ga shamt) := rfl
theorem cmp (eng : EngId) (ga gb : GReg) : Statement (.cmp eng ga gb) := rfl
theorem abs (eng : EngId) (gd ga : GReg) : Statement (.abs eng gd ga) := rfl
theorem neg (eng : EngId) (gd ga : GReg) : Statement (.neg eng gd ga) := rfl
theorem mov (eng : EngId) (gd ga : GReg) : Statement (.mov eng gd ga) := rfl
theorem movsRead (eng : EngId) (gd : GReg) (sreg : Fin 16) : Statement (.movsRead eng gd sreg) := rfl
theorem movsWrite (eng : EngId) (sreg : Fin 16) (ga : GReg) : Statement (.movsWrite eng sreg ga) := rfl
theorem clsa (eng : EngId) (gd ga : GReg) : Statement (.clsa eng gd ga) := rfl
theorem addi (eng : EngId) (gd : GReg) (imm : BitVec 16) : Statement (.addi eng gd imm) := rfl
theorem movi (eng : EngId) (gd : GReg) (imm : BitVec 16) : Statement (.movi eng gd imm) := rfl
theorem movhi (eng : EngId) (gd : GReg) (imm : BitVec 16) : Statement (.movhi eng gd imm) := rfl
theorem andi (eng : EngId) (gd : GReg) (imm : BitVec 16) : Statement (.andi eng gd imm) := rfl
theorem cmpi (eng : EngId) (gd : GReg) (imm : BitVec 16) : Statement (.cmpi eng gd imm) := rfl
theorem ld (eng : EngId) (f : MForm) : Statement (.ld eng f) := rfl
theorem st (eng : EngId) (f : MForm) : Statement (.st eng f) := rfl
theorem mpy (eng : EngId) (f : DForm) : Statement (.mpy eng f) := rfl
theorem mac (eng : EngId) (f : DForm) : Statement (.mac eng f) := rfl
theorem msu (eng : EngId) (f : DForm) : Statement (.msu eng f) := rfl
theorem clra (eng : EngId) (f : DForm) : Statement (.clra eng f) := rfl
theorem sac (eng : EngId) (f : AForm) : Statement (.sac eng f) := rfl
theorem sacg (eng : EngId) (f : AForm) : Statement (.sacg eng f) := rfl
theorem lda (eng : EngId) (f : AForm) : Statement (.lda eng f) := rfl
theorem adda (eng : EngId) (f : AForm) : Statement (.adda eng f) := rfl
theorem suba (eng : EngId) (f : AForm) : Statement (.suba eng f) := rfl
theorem bexpclr (eng : EngId) : Statement (.bexpclr eng) := rfl
theorem b (eng : EngId) (cond : Fin 16) (imm : BitVec 16) : Statement (.b eng cond imm) := rfl
theorem call (eng : EngId) (cond : Fin 16) (imm : BitVec 16) : Statement (.call eng cond imm) := rfl
theorem ret (eng : EngId) : Statement (.ret eng) := rfl
theorem reti (eng : EngId) : Statement (.reti eng) := rfl
theorem repImm (eng : EngId) (imm : BitVec 16) : Statement (.repImm eng imm) := rfl
theorem repG (eng : EngId) (g : GReg) : Statement (.repG eng g) := rfl
theorem kend (eng : EngId) : Statement (.kend eng) := rfl
theorem yield (eng : EngId) : Statement (.yield eng) := rfl
theorem nop (eng : EngId) : Statement (.nop eng) := rfl
theorem rget (eng : EngId) (g : GReg) : Statement (.rget eng g) := rfl
theorem rput (eng : EngId) (g : GReg) : Statement (.rput eng g) := rfl
theorem holdSilence : Statement (.holdSilence) := rfl
theorem coldWaitExpiry : Statement (.coldWaitExpiry) := rfl
theorem contention : Statement (.contention) := rfl
theorem contentionTimeout : Statement (.contentionTimeout) := rfl
theorem holdRelease (cause : Nat) : Statement (.holdRelease cause) := rfl
theorem releaseRecord (r : ReleaseRec) : Statement (.releaseRecord r) := rfl
theorem pairImagePart (p : ImagePart) : Statement (.pairImagePart p) := rfl
theorem pairDecisionPart (p : DecisionPart) : Statement (.pairDecisionPart p) := rfl
theorem pairStatePart (p : StatePart) : Statement (.pairStatePart p) := rfl
theorem vigilLost (cause : VigilCause) : Statement (.vigilLost cause) := rfl
theorem eth1LinkLoss (up : Bool) : Statement (.eth1LinkLoss up) := rfl
theorem calendsLock (offsetNs : Int) : Statement (.calendsLock offsetNs) := rfl
theorem resyncComplete : Statement (.resyncComplete) := rfl
theorem selfCause (cause : Nat) : Statement (.selfCause cause) := rfl
theorem watchdog (cc : Fin 2) : Statement (.watchdog cc) := rfl
theorem memoryUncorrectable (word : MemWord) : Statement (.memoryUncorrectable word) := rfl
theorem patrolScrub (words : List MemWord) : Statement (.patrolScrub words) := rfl
theorem reset (cause : ResetCause) : Statement (.reset cause) := rfl
theorem brownOut : Statement (.brownOut) := rfl
theorem powerGood : Statement (.powerGood) := rfl
theorem resetRelease (x : ReleaseIn) : Statement (.resetRelease x) := rfl
theorem firstCalends (holdiActive : Bool) : Statement (.firstCalends holdiActive) := rfl
theorem secondsTick : Statement (.secondsTick) := rfl
theorem secondsSave : Statement (.secondsSave) := rfl
theorem recorderFlush : Statement (.recorderFlush) := rfl
theorem ringService (ring : RingId) : Statement (.ringService ring) := rfl
theorem chainTimeout (src : Source) : Statement (.chainTimeout src) := rfl
theorem replyPost (src : Source) : Statement (.replyPost src) := rfl
theorem jobProgress (id fraction cycles : Nat) : Statement (.jobProgress id fraction cycles) := rfl
theorem hostStrobeTimeout : Statement (.hostStrobeTimeout) := rfl
theorem prodWrite (ring : RingId) (v : BitVec 16) : Statement (.prodWrite ring v) := rfl
theorem consWrite (ring : RingId) (v : BitVec 16) : Statement (.consWrite ring v) := rfl
theorem doorbell (ring : RingId) : Statement (.doorbell ring) := rfl
theorem slotWindowWrite (window : Fin 4) (offset : Nat) (v : BitVec 16) : Statement (.slotWindowWrite window offset v) := rfl
theorem frame0Read : Statement (.frame0Read) := rfl
theorem registerWrite (cs : BusSelect) (addr : Nat) (v : BitVec 16) : Statement (.registerWrite cs addr v) := rfl
theorem posLoRead (car : CarId) : Statement (.posLoRead car) := rfl
theorem eventsRead (car : CarId) : Statement (.eventsRead car) := rfl
theorem doorCmdOpen (car : CarId) (v : BitVec 16) : Statement (.doorCmdOpen car v) := rfl
theorem doorCmdClose (car : CarId) (v : BitVec 16) : Statement (.doorCmdClose car v) := rfl
theorem doorCmdStop (car : CarId) (v : BitVec 16) : Statement (.doorCmdStop car v) := rfl
theorem stopCmdAdd (car : CarId) (v : BitVec 16) : Statement (.stopCmdAdd car v) := rfl
theorem stopCmdRemove (car : CarId) (v : BitVec 16) : Statement (.stopCmdRemove car v) := rfl
theorem stopCmdClearTarget (car : CarId) (v : BitVec 16) : Statement (.stopCmdClearTarget car v) := rfl
theorem serviceCmd (car : CarId) (v : BitVec 16) : Statement (.serviceCmd car v) := rfl
theorem vmaxCmd (car : CarId) (v : BitVec 16) : Statement (.vmaxCmd car v) := rfl
theorem outWord (car : CarId) (v : BitVec 16) : Statement (.outWord car v) := rfl
theorem dwell (car : CarId) (v : BitVec 16) : Statement (.dwell car v) := rfl
theorem accessDwell (car : CarId) (v : BitVec 16) : Statement (.accessDwell car v) := rfl
theorem nudgeCount (car : CarId) (v : BitVec 16) : Statement (.nudgeCount car v) := rfl
theorem tapInstruction (ir : TapIr) : Statement (.tapInstruction ir) := rfl
theorem netOpen (d : Datagram) : Statement (.netOpen d) := rfl
theorem netSlot (d : Datagram) : Statement (.netSlot d) := rfl
theorem netAck (d : Datagram) : Statement (.netAck d) := rfl
theorem netClose (d : Datagram) : Statement (.netClose d) := rfl
theorem netResend (session : CarId) : Statement (.netResend session) := rfl
theorem netSessionTimeout (session : CarId) : Statement (.netSessionTimeout session) := rfl
theorem netArpIcmp (request : List Byte) : Statement (.netArpIcmp request) := rfl
theorem sysNop (c : Cmd) : Statement (.sysNop c) := rfl
theorem sysInfo (c : Cmd) : Statement (.sysInfo c) := rfl
theorem sysJobs (c : Cmd) : Statement (.sysJobs c) := rfl
theorem frameStatus (c : Cmd) : Statement (.frameStatus c) := rfl
theorem frameConfig (c : Cmd) : Statement (.frameConfig c) := rfl
theorem frameResume (c : Cmd) : Statement (.frameResume c) := rfl
theorem almWrite (c : Cmd) : Statement (.almWrite c) := rfl
theorem almPromote (c : Cmd) : Statement (.almPromote c) := rfl
theorem almDemote (c : Cmd) : Statement (.almDemote c) := rfl
theorem almCommit (c : Cmd) : Statement (.almCommit c) := rfl
theorem almDiscard (c : Cmd) : Statement (.almDiscard c) := rfl
theorem almRead (c : Cmd) : Statement (.almRead c) := rfl
theorem almSave (c : Cmd) : Statement (.almSave c) := rfl
theorem almSaveComplete (interrupted : Bool) : Statement (.almSaveComplete interrupted) := rfl
theorem almStatus (c : Cmd) : Statement (.almStatus c) := rfl
theorem posConfig (c : Cmd) : Statement (.posConfig c) := rfl
theorem posLanding (c : Cmd) : Statement (.posLanding c) := rfl
theorem posTable (c : Cmd) : Statement (.posTable c) := rfl
theorem posStatus (c : Cmd) : Statement (.posStatus c) := rfl
theorem posLearn (c : Cmd) : Statement (.posLearn c) := rfl
theorem posCorrect (c : Cmd) : Statement (.posCorrect c) := rfl
theorem posWipe (c : Cmd) : Statement (.posWipe c) := rfl
theorem profConfig (c : Cmd) : Statement (.profConfig c) := rfl
theorem profLimits (c : Cmd) : Statement (.profLimits c) := rfl
theorem profZone (c : Cmd) : Statement (.profZone c) := rfl
theorem profStatus (c : Cmd) : Statement (.profStatus c) := rfl
theorem carService (c : Cmd) : Statement (.carService c) := rfl
theorem carStopAdd (c : Cmd) : Statement (.carStopAdd c) := rfl
theorem carStopRemove (c : Cmd) : Statement (.carStopRemove c) := rfl
theorem carStopList (c : Cmd) : Statement (.carStopList c) := rfl
theorem dispConfig (c : Cmd) : Statement (.dispConfig c) := rfl
theorem dispWeights (c : Cmd) : Statement (.dispWeights c) := rfl
theorem dispTerminal (c : Cmd) : Statement (.dispTerminal c) := rfl
theorem dispRegister (c : Cmd) : Statement (.dispRegister c) := rfl
theorem dispCancel (c : Cmd) : Statement (.dispCancel c) := rfl
theorem dispStatus (c : Cmd) : Statement (.dispStatus c) := rfl
theorem doorConfig (c : Cmd) : Statement (.doorConfig c) := rfl
theorem doorAxis (c : Cmd) : Statement (.doorAxis c) := rfl
theorem doorOpen (c : Cmd) : Statement (.doorOpen c) := rfl
theorem doorClose (c : Cmd) : Statement (.doorClose c) := rfl
theorem doorStop (c : Cmd) : Statement (.doorStop c) := rfl
theorem doorLearn (c : Cmd) : Statement (.doorLearn c) := rfl
theorem doorStatus (c : Cmd) : Statement (.doorStatus c) := rfl
theorem safeConfig (c : Cmd) : Statement (.safeConfig c) := rfl
theorem safeTerminal (c : Cmd) : Statement (.safeTerminal c) := rfl
theorem safeStatus (c : Cmd) : Statement (.safeStatus c) := rfl
theorem safeReset (c : Cmd) : Statement (.safeReset c) := rfl
theorem safeBrakeTest (c : Cmd) : Statement (.safeBrakeTest c) := rfl
theorem bankConfig (c : Cmd) : Statement (.bankConfig c) := rfl
theorem bankAck (c : Cmd) : Statement (.bankAck c) := rfl
theorem bankStatus (c : Cmd) : Statement (.bankStatus c) := rfl
theorem canConfig (c : Cmd) : Statement (.canConfig c) := rfl
theorem canSend (c : Cmd) : Statement (.canSend c) := rfl
theorem canSendOutcome (id : Nat) : Statement (.canSendOutcome id) := rfl
theorem canCancel (c : Cmd) : Statement (.canCancel c) := rfl
theorem canRecover (c : Cmd) : Statement (.canRecover c) := rfl
theorem canMap (c : Cmd) : Statement (.canMap c) := rfl
theorem canStatus (c : Cmd) : Statement (.canStatus c) := rfl
theorem clConfig (c : Cmd) : Statement (.clConfig c) := rfl
theorem clStatus (c : Cmd) : Statement (.clStatus c) := rfl
theorem sigLoad (c : Cmd) : Statement (.sigLoad c) := rfl
theorem sigStart (c : Cmd) : Statement (.sigStart c) := rfl
theorem sigStop (c : Cmd) : Statement (.sigStop c) := rfl
theorem sigUnload (c : Cmd) : Statement (.sigUnload c) := rfl
theorem sigParam (c : Cmd) : Statement (.sigParam c) := rfl
theorem sigStatus (c : Cmd) : Statement (.sigStatus c) := rfl
theorem sigSpectrum (c : Cmd) : Statement (.sigSpectrum c) := rfl
theorem pairConfig (c : Cmd) : Statement (.pairConfig c) := rfl
theorem pairLeap (c : Cmd) : Statement (.pairLeap c) := rfl
theorem pairStatus (c : Cmd) : Statement (.pairStatus c) := rfl
theorem ringConfig (c : Cmd) : Statement (.ringConfig c) := rfl
theorem ringStatus (c : Cmd) : Statement (.ringStatus c) := rfl
theorem ringRead (c : Cmd) : Statement (.ringRead c) := rfl
theorem netConfig (c : Cmd) : Statement (.netConfig c) := rfl
theorem fwStage (c : Cmd) : Statement (.fwStage c) := rfl
theorem fwStageComplete (x : FwCheck) : Statement (.fwStageComplete x) := rfl
theorem fwActivate (c : Cmd) : Statement (.fwActivate c) := rfl
theorem fwStatus (c : Cmd) : Statement (.fwStatus c) := rfl
theorem ul40Config (c : Cmd) : Statement (.ul40Config c) := rfl
theorem ul40Status (c : Cmd) : Statement (.ul40Status c) := rfl
theorem recRead (c : Cmd) : Statement (.recRead c) := rfl
theorem recAnnotate (c : Cmd) : Statement (.recAnnotate c) := rfl
theorem recExport (c : Cmd) : Statement (.recExport c) := rfl
theorem recStatus (c : Cmd) : Statement (.recStatus c) := rfl
theorem lifeAdvance (c : Cmd) : Statement (.lifeAdvance c) := rfl
theorem lifeStatus (c : Cmd) : Statement (.lifeStatus c) := rfl
theorem lifeProvision (c : Cmd) : Statement (.lifeProvision c) := rfl
theorem lifeAttest (c : Cmd) : Statement (.lifeAttest c) := rfl
theorem lifeCert (c : Cmd) : Statement (.lifeCert c) := rfl
theorem canRxError (bus : BusId) (e : RxError) : Statement (.canRxError bus e) := rfl
theorem pairSelReport (b : Bool) (x : SelReport) : Statement (.pairSelReport b x) := rfl
theorem powerStageFault (link : CarId) (stage : Fin 4) (cause : Fin 3) : Statement (.powerStageFault link stage cause) := rfl

end Sys2Proof.Laws.Rare
end

