-- ==== Sys2Proof/Laws/State.lean ====
section
/-! SUPPORT. What each named operation does to each field of the state, true by definition. -/

namespace Sys2Proof.Machine

variable (s : State)

@[simp] theorem setCar_pending (c : CarId) (x : Car) : (s.setCar c x).pending = s.pending := rfl
@[simp] theorem setCar_free (c : CarId) (x : Car) : (s.setCar c x).free = s.free := rfl
@[simp] theorem setCar_nv (c : CarId) (x : Car) : (s.setCar c x).nv = s.nv := rfl
@[simp] theorem setCar_boot (c : CarId) (x : Car) : (s.setCar c x).boot = s.boot := rfl
@[simp] theorem setCar_mem (c : CarId) (x : Car) : (s.setCar c x).mem = s.mem := rfl
@[simp] theorem setCar_io (c : CarId) (x : Car) : (s.setCar c x).io = s.io := rfl
@[simp] theorem setCar_host (c : CarId) (x : Car) : (s.setCar c x).host = s.host := rfl
@[simp] theorem setCar_grp_frame (c : CarId) (x : Car) : (s.setCar c x).grp.frame = s.grp.frame := rfl
@[simp] theorem setCar_grp_frameLen (c : CarId) (x : Car) : (s.setCar c x).grp.frameLen = s.grp.frameLen := rfl
@[simp] theorem setCar_grp_measuredLast (c : CarId) (x : Car) : (s.setCar c x).grp.measuredLast = s.grp.measuredLast := rfl
@[simp] theorem setCar_grp_measuredPeak (c : CarId) (x : Car) : (s.setCar c x).grp.measuredPeak = s.grp.measuredPeak := rfl
@[simp] theorem setCar_grp_excursions (c : CarId) (x : Car) : (s.setCar c x).grp.excursions = s.grp.excursions := rfl
@[simp] theorem setCar_grp_overrun (c : CarId) (x : Car) : (s.setCar c x).grp.overrun = s.grp.overrun := rfl
@[simp] theorem setCar_grp_admissionHeld (c : CarId) (x : Car) : (s.setCar c x).grp.admissionHeld = s.grp.admissionHeld := rfl
@[simp] theorem setCar_grp_safeState (c : CarId) (x : Car) : (s.setCar c x).grp.safeState = s.grp.safeState := rfl
@[simp] theorem setCar_grp_deferred (c : CarId) (x : Car) : (s.setCar c x).grp.deferred = s.grp.deferred := rfl
@[simp] theorem setCar_grp_alm (c : CarId) (x : Car) : (s.setCar c x).grp.alm = s.grp.alm := rfl
@[simp] theorem setCar_grp_shown (c : CarId) (x : Car) : (s.setCar c x).grp.shown = s.grp.shown := rfl
@[simp] theorem setCar_grp_cars (c : CarId) (x : Car) : (s.setCar c x).grp.cars = s.grp.cars.set c.val x := rfl
@[simp] theorem setCar_grp_shownCars (c : CarId) (x : Car) : (s.setCar c x).grp.shownCars = s.grp.shownCars := rfl
@[simp] theorem setCar_grp_shownDispatch (c : CarId) (x : Car) : (s.setCar c x).grp.shownDispatch = s.grp.shownDispatch := rfl
@[simp] theorem setCar_grp_disp (c : CarId) (x : Car) : (s.setCar c x).grp.disp = s.grp.disp := rfl
@[simp] theorem setCar_grp_sg (c : CarId) (x : Car) : (s.setCar c x).grp.sg = s.grp.sg := rfl
@[simp] theorem setCar_grp_streams (c : CarId) (x : Car) : (s.setCar c x).grp.streams = s.grp.streams := rfl
@[simp] theorem setCar_grp_sources (c : CarId) (x : Car) : (s.setCar c x).grp.sources = s.grp.sources := rfl
@[simp] theorem setCar_grp_jobs (c : CarId) (x : Car) : (s.setCar c x).grp.jobs = s.grp.jobs := rfl
@[simp] theorem setCar_grp_jobCounter (c : CarId) (x : Car) : (s.setCar c x).grp.jobCounter = s.grp.jobCounter := rfl
@[simp] theorem setCar_grp_sessions (c : CarId) (x : Car) : (s.setCar c x).grp.sessions = s.grp.sessions := rfl
@[simp] theorem setCar_grp_kernels (c : CarId) (x : Car) : (s.setCar c x).grp.kernels = s.grp.kernels := rfl
@[simp] theorem setCar_grp_engines (c : CarId) (x : Car) : (s.setCar c x).grp.engines = s.grp.engines := rfl
@[simp] theorem setCar_grp_rides (c : CarId) (x : Car) : (s.setCar c x).grp.rides = s.grp.rides := rfl
@[simp] theorem setCar_grp_seconds (c : CarId) (x : Car) : (s.setCar c x).grp.seconds = s.grp.seconds := rfl
@[simp] theorem setCar_grp_fis (c : CarId) (x : Car) : (s.setCar c x).grp.fis = s.grp.fis := rfl
@[simp] theorem setCar_grp_saving (c : CarId) (x : Car) : (s.setCar c x).grp.saving = s.grp.saving := rfl
@[simp] theorem setCar_grp_saveFrame (c : CarId) (x : Car) : (s.setCar c x).grp.saveFrame = s.grp.saveFrame := rfl
@[simp] theorem setCar_grp_staging (c : CarId) (x : Car) : (s.setCar c x).grp.staging = s.grp.staging := rfl

@[simp] theorem modCar_pending (c : CarId) (f : Car → Car) : (s.modCar c f).pending = s.pending := rfl
@[simp] theorem modCar_free (c : CarId) (f : Car → Car) : (s.modCar c f).free = s.free := rfl
@[simp] theorem modCar_nv (c : CarId) (f : Car → Car) : (s.modCar c f).nv = s.nv := rfl
@[simp] theorem modCar_boot (c : CarId) (f : Car → Car) : (s.modCar c f).boot = s.boot := rfl
@[simp] theorem modCar_mem (c : CarId) (f : Car → Car) : (s.modCar c f).mem = s.mem := rfl
@[simp] theorem modCar_io (c : CarId) (f : Car → Car) : (s.modCar c f).io = s.io := rfl
@[simp] theorem modCar_host (c : CarId) (f : Car → Car) : (s.modCar c f).host = s.host := rfl
@[simp] theorem modCar_grp_frame (c : CarId) (f : Car → Car) : (s.modCar c f).grp.frame = s.grp.frame := rfl
@[simp] theorem modCar_grp_frameLen (c : CarId) (f : Car → Car) : (s.modCar c f).grp.frameLen = s.grp.frameLen := rfl
@[simp] theorem modCar_grp_measuredLast (c : CarId) (f : Car → Car) : (s.modCar c f).grp.measuredLast = s.grp.measuredLast := rfl
@[simp] theorem modCar_grp_measuredPeak (c : CarId) (f : Car → Car) : (s.modCar c f).grp.measuredPeak = s.grp.measuredPeak := rfl
@[simp] theorem modCar_grp_excursions (c : CarId) (f : Car → Car) : (s.modCar c f).grp.excursions = s.grp.excursions := rfl
@[simp] theorem modCar_grp_overrun (c : CarId) (f : Car → Car) : (s.modCar c f).grp.overrun = s.grp.overrun := rfl
@[simp] theorem modCar_grp_admissionHeld (c : CarId) (f : Car → Car) : (s.modCar c f).grp.admissionHeld = s.grp.admissionHeld := rfl
@[simp] theorem modCar_grp_safeState (c : CarId) (f : Car → Car) : (s.modCar c f).grp.safeState = s.grp.safeState := rfl
@[simp] theorem modCar_grp_deferred (c : CarId) (f : Car → Car) : (s.modCar c f).grp.deferred = s.grp.deferred := rfl
@[simp] theorem modCar_grp_alm (c : CarId) (f : Car → Car) : (s.modCar c f).grp.alm = s.grp.alm := rfl
@[simp] theorem modCar_grp_shown (c : CarId) (f : Car → Car) : (s.modCar c f).grp.shown = s.grp.shown := rfl
@[simp] theorem modCar_grp_cars (c : CarId) (f : Car → Car) : (s.modCar c f).grp.cars = s.grp.cars.set c.val (f s.grp.cars[c.val]) := rfl
@[simp] theorem modCar_grp_shownCars (c : CarId) (f : Car → Car) : (s.modCar c f).grp.shownCars = s.grp.shownCars := rfl
@[simp] theorem modCar_grp_shownDispatch (c : CarId) (f : Car → Car) : (s.modCar c f).grp.shownDispatch = s.grp.shownDispatch := rfl
@[simp] theorem modCar_grp_disp (c : CarId) (f : Car → Car) : (s.modCar c f).grp.disp = s.grp.disp := rfl
@[simp] theorem modCar_grp_sg (c : CarId) (f : Car → Car) : (s.modCar c f).grp.sg = s.grp.sg := rfl
@[simp] theorem modCar_grp_streams (c : CarId) (f : Car → Car) : (s.modCar c f).grp.streams = s.grp.streams := rfl
@[simp] theorem modCar_grp_sources (c : CarId) (f : Car → Car) : (s.modCar c f).grp.sources = s.grp.sources := rfl
@[simp] theorem modCar_grp_jobs (c : CarId) (f : Car → Car) : (s.modCar c f).grp.jobs = s.grp.jobs := rfl
@[simp] theorem modCar_grp_jobCounter (c : CarId) (f : Car → Car) : (s.modCar c f).grp.jobCounter = s.grp.jobCounter := rfl
@[simp] theorem modCar_grp_sessions (c : CarId) (f : Car → Car) : (s.modCar c f).grp.sessions = s.grp.sessions := rfl
@[simp] theorem modCar_grp_kernels (c : CarId) (f : Car → Car) : (s.modCar c f).grp.kernels = s.grp.kernels := rfl
@[simp] theorem modCar_grp_engines (c : CarId) (f : Car → Car) : (s.modCar c f).grp.engines = s.grp.engines := rfl
@[simp] theorem modCar_grp_rides (c : CarId) (f : Car → Car) : (s.modCar c f).grp.rides = s.grp.rides := rfl
@[simp] theorem modCar_grp_seconds (c : CarId) (f : Car → Car) : (s.modCar c f).grp.seconds = s.grp.seconds := rfl
@[simp] theorem modCar_grp_fis (c : CarId) (f : Car → Car) : (s.modCar c f).grp.fis = s.grp.fis := rfl
@[simp] theorem modCar_grp_saving (c : CarId) (f : Car → Car) : (s.modCar c f).grp.saving = s.grp.saving := rfl
@[simp] theorem modCar_grp_saveFrame (c : CarId) (f : Car → Car) : (s.modCar c f).grp.saveFrame = s.grp.saveFrame := rfl
@[simp] theorem modCar_grp_staging (c : CarId) (f : Car → Car) : (s.modCar c f).grp.staging = s.grp.staging := rfl

@[simp] theorem modBank_pending (b : BankId) (f : Bank → Bank) : (s.modBank b f).pending = s.pending := rfl
@[simp] theorem modBank_free (b : BankId) (f : Bank → Bank) : (s.modBank b f).free = s.free := rfl
@[simp] theorem modBank_nv (b : BankId) (f : Bank → Bank) : (s.modBank b f).nv = s.nv := rfl
@[simp] theorem modBank_boot (b : BankId) (f : Bank → Bank) : (s.modBank b f).boot = s.boot := rfl
@[simp] theorem modBank_mem (b : BankId) (f : Bank → Bank) : (s.modBank b f).mem = s.mem := rfl
@[simp] theorem modBank_grp (b : BankId) (f : Bank → Bank) : (s.modBank b f).grp = s.grp := rfl
@[simp] theorem modBank_host (b : BankId) (f : Bank → Bank) : (s.modBank b f).host = s.host := rfl
@[simp] theorem modBank_io_image (b : BankId) (f : Bank → Bank) : (s.modBank b f).io.image = s.io.image := rfl
@[simp] theorem modBank_io_banks (b : BankId) (f : Bank → Bank) : (s.modBank b f).io.banks = s.io.banks.set b.val (f s.io.banks[b.val]) := rfl
@[simp] theorem modBank_io_buses (b : BankId) (f : Bank → Bank) : (s.modBank b f).io.buses = s.io.buses := rfl
@[simp] theorem modBank_io_map (b : BankId) (f : Bank → Bank) : (s.modBank b f).io.map = s.io.map := rfl
@[simp] theorem modBank_io_links (b : BankId) (f : Bank → Bank) : (s.modBank b f).io.links = s.io.links := rfl
@[simp] theorem modBank_io_ends (b : BankId) (f : Bank → Bank) : (s.modBank b f).io.ends = s.io.ends := rfl
@[simp] theorem modBank_io_encFault (b : BankId) (f : Bank → Bank) : (s.modBank b f).io.encFault = s.io.encFault := rfl
@[simp] theorem modBank_io_encPhase (b : BankId) (f : Bank → Bank) : (s.modBank b f).io.encPhase = s.io.encPhase := rfl

@[simp] theorem modBus_pending (b : BusId) (f : Bus → Bus) : (s.modBus b f).pending = s.pending := rfl
@[simp] theorem modBus_free (b : BusId) (f : Bus → Bus) : (s.modBus b f).free = s.free := rfl
@[simp] theorem modBus_nv (b : BusId) (f : Bus → Bus) : (s.modBus b f).nv = s.nv := rfl
@[simp] theorem modBus_boot (b : BusId) (f : Bus → Bus) : (s.modBus b f).boot = s.boot := rfl
@[simp] theorem modBus_mem (b : BusId) (f : Bus → Bus) : (s.modBus b f).mem = s.mem := rfl
@[simp] theorem modBus_grp (b : BusId) (f : Bus → Bus) : (s.modBus b f).grp = s.grp := rfl
@[simp] theorem modBus_host (b : BusId) (f : Bus → Bus) : (s.modBus b f).host = s.host := rfl
@[simp] theorem modBus_io_image (b : BusId) (f : Bus → Bus) : (s.modBus b f).io.image = s.io.image := rfl
@[simp] theorem modBus_io_banks (b : BusId) (f : Bus → Bus) : (s.modBus b f).io.banks = s.io.banks := rfl
@[simp] theorem modBus_io_buses (b : BusId) (f : Bus → Bus) : (s.modBus b f).io.buses = s.io.buses.set b.val (f s.io.buses[b.val]) := rfl
@[simp] theorem modBus_io_map (b : BusId) (f : Bus → Bus) : (s.modBus b f).io.map = s.io.map := rfl
@[simp] theorem modBus_io_links (b : BusId) (f : Bus → Bus) : (s.modBus b f).io.links = s.io.links := rfl
@[simp] theorem modBus_io_ends (b : BusId) (f : Bus → Bus) : (s.modBus b f).io.ends = s.io.ends := rfl
@[simp] theorem modBus_io_encFault (b : BusId) (f : Bus → Bus) : (s.modBus b f).io.encFault = s.io.encFault := rfl
@[simp] theorem modBus_io_encPhase (b : BusId) (f : Bus → Bus) : (s.modBus b f).io.encPhase = s.io.encPhase := rfl

@[simp] theorem modLink_pending (l : CarId) (f : CarLink → CarLink) : (s.modLink l f).pending = s.pending := rfl
@[simp] theorem modLink_free (l : CarId) (f : CarLink → CarLink) : (s.modLink l f).free = s.free := rfl
@[simp] theorem modLink_nv (l : CarId) (f : CarLink → CarLink) : (s.modLink l f).nv = s.nv := rfl
@[simp] theorem modLink_boot (l : CarId) (f : CarLink → CarLink) : (s.modLink l f).boot = s.boot := rfl
@[simp] theorem modLink_mem (l : CarId) (f : CarLink → CarLink) : (s.modLink l f).mem = s.mem := rfl
@[simp] theorem modLink_grp (l : CarId) (f : CarLink → CarLink) : (s.modLink l f).grp = s.grp := rfl
@[simp] theorem modLink_host (l : CarId) (f : CarLink → CarLink) : (s.modLink l f).host = s.host := rfl
@[simp] theorem modLink_io_image (l : CarId) (f : CarLink → CarLink) : (s.modLink l f).io.image = s.io.image := rfl
@[simp] theorem modLink_io_banks (l : CarId) (f : CarLink → CarLink) : (s.modLink l f).io.banks = s.io.banks := rfl
@[simp] theorem modLink_io_buses (l : CarId) (f : CarLink → CarLink) : (s.modLink l f).io.buses = s.io.buses := rfl
@[simp] theorem modLink_io_map (l : CarId) (f : CarLink → CarLink) : (s.modLink l f).io.map = s.io.map := rfl
@[simp] theorem modLink_io_links (l : CarId) (f : CarLink → CarLink) : (s.modLink l f).io.links = s.io.links.set l.val (f s.io.links[l.val]) := rfl
@[simp] theorem modLink_io_ends (l : CarId) (f : CarLink → CarLink) : (s.modLink l f).io.ends = s.io.ends := rfl
@[simp] theorem modLink_io_encFault (l : CarId) (f : CarLink → CarLink) : (s.modLink l f).io.encFault = s.io.encFault := rfl
@[simp] theorem modLink_io_encPhase (l : CarId) (f : CarLink → CarLink) : (s.modLink l f).io.encPhase = s.io.encPhase := rfl

@[simp] theorem modEnd_pending (l : CarId) (f : Endpoint → Endpoint) : (s.modEnd l f).pending = s.pending := rfl
@[simp] theorem modEnd_free (l : CarId) (f : Endpoint → Endpoint) : (s.modEnd l f).free = s.free := rfl
@[simp] theorem modEnd_nv (l : CarId) (f : Endpoint → Endpoint) : (s.modEnd l f).nv = s.nv := rfl
@[simp] theorem modEnd_boot (l : CarId) (f : Endpoint → Endpoint) : (s.modEnd l f).boot = s.boot := rfl
@[simp] theorem modEnd_mem (l : CarId) (f : Endpoint → Endpoint) : (s.modEnd l f).mem = s.mem := rfl
@[simp] theorem modEnd_grp (l : CarId) (f : Endpoint → Endpoint) : (s.modEnd l f).grp = s.grp := rfl
@[simp] theorem modEnd_host (l : CarId) (f : Endpoint → Endpoint) : (s.modEnd l f).host = s.host := rfl
@[simp] theorem modEnd_io_image (l : CarId) (f : Endpoint → Endpoint) : (s.modEnd l f).io.image = s.io.image := rfl
@[simp] theorem modEnd_io_banks (l : CarId) (f : Endpoint → Endpoint) : (s.modEnd l f).io.banks = s.io.banks := rfl
@[simp] theorem modEnd_io_buses (l : CarId) (f : Endpoint → Endpoint) : (s.modEnd l f).io.buses = s.io.buses := rfl
@[simp] theorem modEnd_io_map (l : CarId) (f : Endpoint → Endpoint) : (s.modEnd l f).io.map = s.io.map := rfl
@[simp] theorem modEnd_io_links (l : CarId) (f : Endpoint → Endpoint) : (s.modEnd l f).io.links = s.io.links := rfl
@[simp] theorem modEnd_io_ends (l : CarId) (f : Endpoint → Endpoint) : (s.modEnd l f).io.ends = s.io.ends.set l.val (f s.io.ends[l.val]) := rfl
@[simp] theorem modEnd_io_encFault (l : CarId) (f : Endpoint → Endpoint) : (s.modEnd l f).io.encFault = s.io.encFault := rfl
@[simp] theorem modEnd_io_encPhase (l : CarId) (f : Endpoint → Endpoint) : (s.modEnd l f).io.encPhase = s.io.encPhase := rfl

@[simp] theorem modKernel_pending (k : SlotId) (f : Kernel → Kernel) : (s.modKernel k f).pending = s.pending := rfl
@[simp] theorem modKernel_free (k : SlotId) (f : Kernel → Kernel) : (s.modKernel k f).free = s.free := rfl
@[simp] theorem modKernel_nv (k : SlotId) (f : Kernel → Kernel) : (s.modKernel k f).nv = s.nv := rfl
@[simp] theorem modKernel_boot (k : SlotId) (f : Kernel → Kernel) : (s.modKernel k f).boot = s.boot := rfl
@[simp] theorem modKernel_mem (k : SlotId) (f : Kernel → Kernel) : (s.modKernel k f).mem = s.mem := rfl
@[simp] theorem modKernel_io (k : SlotId) (f : Kernel → Kernel) : (s.modKernel k f).io = s.io := rfl
@[simp] theorem modKernel_host (k : SlotId) (f : Kernel → Kernel) : (s.modKernel k f).host = s.host := rfl
@[simp] theorem modKernel_grp_frame (k : SlotId) (f : Kernel → Kernel) : (s.modKernel k f).grp.frame = s.grp.frame := rfl
@[simp] theorem modKernel_grp_frameLen (k : SlotId) (f : Kernel → Kernel) : (s.modKernel k f).grp.frameLen = s.grp.frameLen := rfl
@[simp] theorem modKernel_grp_measuredLast (k : SlotId) (f : Kernel → Kernel) : (s.modKernel k f).grp.measuredLast = s.grp.measuredLast := rfl
@[simp] theorem modKernel_grp_measuredPeak (k : SlotId) (f : Kernel → Kernel) : (s.modKernel k f).grp.measuredPeak = s.grp.measuredPeak := rfl
@[simp] theorem modKernel_grp_excursions (k : SlotId) (f : Kernel → Kernel) : (s.modKernel k f).grp.excursions = s.grp.excursions := rfl
@[simp] theorem modKernel_grp_overrun (k : SlotId) (f : Kernel → Kernel) : (s.modKernel k f).grp.overrun = s.grp.overrun := rfl
@[simp] theorem modKernel_grp_admissionHeld (k : SlotId) (f : Kernel → Kernel) : (s.modKernel k f).grp.admissionHeld = s.grp.admissionHeld := rfl
@[simp] theorem modKernel_grp_safeState (k : SlotId) (f : Kernel → Kernel) : (s.modKernel k f).grp.safeState = s.grp.safeState := rfl
@[simp] theorem modKernel_grp_deferred (k : SlotId) (f : Kernel → Kernel) : (s.modKernel k f).grp.deferred = s.grp.deferred := rfl
@[simp] theorem modKernel_grp_alm (k : SlotId) (f : Kernel → Kernel) : (s.modKernel k f).grp.alm = s.grp.alm := rfl
@[simp] theorem modKernel_grp_shown (k : SlotId) (f : Kernel → Kernel) : (s.modKernel k f).grp.shown = s.grp.shown := rfl
@[simp] theorem modKernel_grp_cars (k : SlotId) (f : Kernel → Kernel) : (s.modKernel k f).grp.cars = s.grp.cars := rfl
@[simp] theorem modKernel_grp_shownCars (k : SlotId) (f : Kernel → Kernel) : (s.modKernel k f).grp.shownCars = s.grp.shownCars := rfl
@[simp] theorem modKernel_grp_shownDispatch (k : SlotId) (f : Kernel → Kernel) : (s.modKernel k f).grp.shownDispatch = s.grp.shownDispatch := rfl
@[simp] theorem modKernel_grp_disp (k : SlotId) (f : Kernel → Kernel) : (s.modKernel k f).grp.disp = s.grp.disp := rfl
@[simp] theorem modKernel_grp_sg (k : SlotId) (f : Kernel → Kernel) : (s.modKernel k f).grp.sg = s.grp.sg := rfl
@[simp] theorem modKernel_grp_streams (k : SlotId) (f : Kernel → Kernel) : (s.modKernel k f).grp.streams = s.grp.streams := rfl
@[simp] theorem modKernel_grp_sources (k : SlotId) (f : Kernel → Kernel) : (s.modKernel k f).grp.sources = s.grp.sources := rfl
@[simp] theorem modKernel_grp_jobs (k : SlotId) (f : Kernel → Kernel) : (s.modKernel k f).grp.jobs = s.grp.jobs := rfl
@[simp] theorem modKernel_grp_jobCounter (k : SlotId) (f : Kernel → Kernel) : (s.modKernel k f).grp.jobCounter = s.grp.jobCounter := rfl
@[simp] theorem modKernel_grp_sessions (k : SlotId) (f : Kernel → Kernel) : (s.modKernel k f).grp.sessions = s.grp.sessions := rfl
@[simp] theorem modKernel_grp_kernels (k : SlotId) (f : Kernel → Kernel) : (s.modKernel k f).grp.kernels = s.grp.kernels.set k.val (f s.grp.kernels[k.val]) := rfl
@[simp] theorem modKernel_grp_engines (k : SlotId) (f : Kernel → Kernel) : (s.modKernel k f).grp.engines = s.grp.engines := rfl
@[simp] theorem modKernel_grp_rides (k : SlotId) (f : Kernel → Kernel) : (s.modKernel k f).grp.rides = s.grp.rides := rfl
@[simp] theorem modKernel_grp_seconds (k : SlotId) (f : Kernel → Kernel) : (s.modKernel k f).grp.seconds = s.grp.seconds := rfl
@[simp] theorem modKernel_grp_fis (k : SlotId) (f : Kernel → Kernel) : (s.modKernel k f).grp.fis = s.grp.fis := rfl
@[simp] theorem modKernel_grp_saving (k : SlotId) (f : Kernel → Kernel) : (s.modKernel k f).grp.saving = s.grp.saving := rfl
@[simp] theorem modKernel_grp_saveFrame (k : SlotId) (f : Kernel → Kernel) : (s.modKernel k f).grp.saveFrame = s.grp.saveFrame := rfl
@[simp] theorem modKernel_grp_staging (k : SlotId) (f : Kernel → Kernel) : (s.modKernel k f).grp.staging = s.grp.staging := rfl

@[simp] theorem modEngine_pending (e : EngId) (f : Engine → Engine) : (s.modEngine e f).pending = s.pending := rfl
@[simp] theorem modEngine_free (e : EngId) (f : Engine → Engine) : (s.modEngine e f).free = s.free := rfl
@[simp] theorem modEngine_nv (e : EngId) (f : Engine → Engine) : (s.modEngine e f).nv = s.nv := rfl
@[simp] theorem modEngine_boot (e : EngId) (f : Engine → Engine) : (s.modEngine e f).boot = s.boot := rfl
@[simp] theorem modEngine_mem (e : EngId) (f : Engine → Engine) : (s.modEngine e f).mem = s.mem := rfl
@[simp] theorem modEngine_io (e : EngId) (f : Engine → Engine) : (s.modEngine e f).io = s.io := rfl
@[simp] theorem modEngine_host (e : EngId) (f : Engine → Engine) : (s.modEngine e f).host = s.host := rfl
@[simp] theorem modEngine_grp_frame (e : EngId) (f : Engine → Engine) : (s.modEngine e f).grp.frame = s.grp.frame := rfl
@[simp] theorem modEngine_grp_frameLen (e : EngId) (f : Engine → Engine) : (s.modEngine e f).grp.frameLen = s.grp.frameLen := rfl
@[simp] theorem modEngine_grp_measuredLast (e : EngId) (f : Engine → Engine) : (s.modEngine e f).grp.measuredLast = s.grp.measuredLast := rfl
@[simp] theorem modEngine_grp_measuredPeak (e : EngId) (f : Engine → Engine) : (s.modEngine e f).grp.measuredPeak = s.grp.measuredPeak := rfl
@[simp] theorem modEngine_grp_excursions (e : EngId) (f : Engine → Engine) : (s.modEngine e f).grp.excursions = s.grp.excursions := rfl
@[simp] theorem modEngine_grp_overrun (e : EngId) (f : Engine → Engine) : (s.modEngine e f).grp.overrun = s.grp.overrun := rfl
@[simp] theorem modEngine_grp_admissionHeld (e : EngId) (f : Engine → Engine) : (s.modEngine e f).grp.admissionHeld = s.grp.admissionHeld := rfl
@[simp] theorem modEngine_grp_safeState (e : EngId) (f : Engine → Engine) : (s.modEngine e f).grp.safeState = s.grp.safeState := rfl
@[simp] theorem modEngine_grp_deferred (e : EngId) (f : Engine → Engine) : (s.modEngine e f).grp.deferred = s.grp.deferred := rfl
@[simp] theorem modEngine_grp_alm (e : EngId) (f : Engine → Engine) : (s.modEngine e f).grp.alm = s.grp.alm := rfl
@[simp] theorem modEngine_grp_shown (e : EngId) (f : Engine → Engine) : (s.modEngine e f).grp.shown = s.grp.shown := rfl
@[simp] theorem modEngine_grp_cars (e : EngId) (f : Engine → Engine) : (s.modEngine e f).grp.cars = s.grp.cars := rfl
@[simp] theorem modEngine_grp_shownCars (e : EngId) (f : Engine → Engine) : (s.modEngine e f).grp.shownCars = s.grp.shownCars := rfl
@[simp] theorem modEngine_grp_shownDispatch (e : EngId) (f : Engine → Engine) : (s.modEngine e f).grp.shownDispatch = s.grp.shownDispatch := rfl
@[simp] theorem modEngine_grp_disp (e : EngId) (f : Engine → Engine) : (s.modEngine e f).grp.disp = s.grp.disp := rfl
@[simp] theorem modEngine_grp_sg (e : EngId) (f : Engine → Engine) : (s.modEngine e f).grp.sg = s.grp.sg := rfl
@[simp] theorem modEngine_grp_streams (e : EngId) (f : Engine → Engine) : (s.modEngine e f).grp.streams = s.grp.streams := rfl
@[simp] theorem modEngine_grp_sources (e : EngId) (f : Engine → Engine) : (s.modEngine e f).grp.sources = s.grp.sources := rfl
@[simp] theorem modEngine_grp_jobs (e : EngId) (f : Engine → Engine) : (s.modEngine e f).grp.jobs = s.grp.jobs := rfl
@[simp] theorem modEngine_grp_jobCounter (e : EngId) (f : Engine → Engine) : (s.modEngine e f).grp.jobCounter = s.grp.jobCounter := rfl
@[simp] theorem modEngine_grp_sessions (e : EngId) (f : Engine → Engine) : (s.modEngine e f).grp.sessions = s.grp.sessions := rfl
@[simp] theorem modEngine_grp_kernels (e : EngId) (f : Engine → Engine) : (s.modEngine e f).grp.kernels = s.grp.kernels := rfl
@[simp] theorem modEngine_grp_engines (e : EngId) (f : Engine → Engine) : (s.modEngine e f).grp.engines = s.grp.engines.set e.val (f s.grp.engines[e.val]) := rfl
@[simp] theorem modEngine_grp_rides (e : EngId) (f : Engine → Engine) : (s.modEngine e f).grp.rides = s.grp.rides := rfl
@[simp] theorem modEngine_grp_seconds (e : EngId) (f : Engine → Engine) : (s.modEngine e f).grp.seconds = s.grp.seconds := rfl
@[simp] theorem modEngine_grp_fis (e : EngId) (f : Engine → Engine) : (s.modEngine e f).grp.fis = s.grp.fis := rfl
@[simp] theorem modEngine_grp_saving (e : EngId) (f : Engine → Engine) : (s.modEngine e f).grp.saving = s.grp.saving := rfl
@[simp] theorem modEngine_grp_saveFrame (e : EngId) (f : Engine → Engine) : (s.modEngine e f).grp.saveFrame = s.grp.saveFrame := rfl
@[simp] theorem modEngine_grp_staging (e : EngId) (f : Engine → Engine) : (s.modEngine e f).grp.staging = s.grp.staging := rfl

@[simp] theorem modRing_pending (r : RingId) (f : Ring → Ring) : (s.modRing r f).pending = s.pending := rfl
@[simp] theorem modRing_free (r : RingId) (f : Ring → Ring) : (s.modRing r f).free = s.free := rfl
@[simp] theorem modRing_nv (r : RingId) (f : Ring → Ring) : (s.modRing r f).nv = s.nv := rfl
@[simp] theorem modRing_boot (r : RingId) (f : Ring → Ring) : (s.modRing r f).boot = s.boot := rfl
@[simp] theorem modRing_mem (r : RingId) (f : Ring → Ring) : (s.modRing r f).mem = s.mem := rfl
@[simp] theorem modRing_grp (r : RingId) (f : Ring → Ring) : (s.modRing r f).grp = s.grp := rfl
@[simp] theorem modRing_io (r : RingId) (f : Ring → Ring) : (s.modRing r f).io = s.io := rfl
@[simp] theorem modRing_host_rings (r : RingId) (f : Ring → Ring) : (s.modRing r f).host.rings = s.host.rings.set r.val (f s.host.rings[r.val]) := rfl
@[simp] theorem modRing_host_rung (r : RingId) (f : Ring → Ring) : (s.modRing r f).host.rung = s.host.rung := rfl
@[simp] theorem modRing_host_held (r : RingId) (f : Ring → Ring) : (s.modRing r f).host.held = s.host.held := rfl
@[simp] theorem modRing_host_irqRing (r : RingId) (f : Ring → Ring) : (s.modRing r f).host.irqRing = s.host.irqRing := rfl
@[simp] theorem modRing_host_irqMask (r : RingId) (f : Ring → Ring) : (s.modRing r f).host.irqMask = s.host.irqMask := rfl
@[simp] theorem modRing_host_irqEvent (r : RingId) (f : Ring → Ring) : (s.modRing r f).host.irqEvent = s.host.irqEvent := rfl
@[simp] theorem modRing_host_irqEventMask (r : RingId) (f : Ring → Ring) : (s.modRing r f).host.irqEventMask = s.host.irqEventMask := rfl
@[simp] theorem modRing_host_pageRing (r : RingId) (f : Ring → Ring) : (s.modRing r f).host.pageRing = s.host.pageRing := rfl
@[simp] theorem modRing_host_pageSlot (r : RingId) (f : Ring → Ring) : (s.modRing r f).host.pageSlot = s.host.pageSlot := rfl
@[simp] theorem modRing_host_frameLatch (r : RingId) (f : Ring → Ring) : (s.modRing r f).host.frameLatch = s.host.frameLatch := rfl
@[simp] theorem modRing_host_busErrors (r : RingId) (f : Ring → Ring) : (s.modRing r f).host.busErrors = s.host.busErrors := rfl
@[simp] theorem modRing_host_ul40BusErrors (r : RingId) (f : Ring → Ring) : (s.modRing r f).host.ul40BusErrors = s.host.ul40BusErrors := rfl
@[simp] theorem modRing_host_authFailures (r : RingId) (f : Ring → Ring) : (s.modRing r f).host.authFailures = s.host.authFailures := rfl
@[simp] theorem modRing_host_authAt (r : RingId) (f : Ring → Ring) : (s.modRing r f).host.authAt = s.host.authAt := rfl
@[simp] theorem modRing_host_ethOut (r : RingId) (f : Ring → Ring) : (s.modRing r f).host.ethOut = s.host.ethOut := rfl

@[simp] theorem modSource_pending (x : Source) (f : SrcState → SrcState) : (s.modSource x f).pending = s.pending := rfl
@[simp] theorem modSource_free (x : Source) (f : SrcState → SrcState) : (s.modSource x f).free = s.free := rfl
@[simp] theorem modSource_nv (x : Source) (f : SrcState → SrcState) : (s.modSource x f).nv = s.nv := rfl
@[simp] theorem modSource_boot (x : Source) (f : SrcState → SrcState) : (s.modSource x f).boot = s.boot := rfl
@[simp] theorem modSource_mem (x : Source) (f : SrcState → SrcState) : (s.modSource x f).mem = s.mem := rfl
@[simp] theorem modSource_io (x : Source) (f : SrcState → SrcState) : (s.modSource x f).io = s.io := rfl
@[simp] theorem modSource_host (x : Source) (f : SrcState → SrcState) : (s.modSource x f).host = s.host := rfl
@[simp] theorem modSource_grp_frame (x : Source) (f : SrcState → SrcState) : (s.modSource x f).grp.frame = s.grp.frame := rfl
@[simp] theorem modSource_grp_frameLen (x : Source) (f : SrcState → SrcState) : (s.modSource x f).grp.frameLen = s.grp.frameLen := rfl
@[simp] theorem modSource_grp_measuredLast (x : Source) (f : SrcState → SrcState) : (s.modSource x f).grp.measuredLast = s.grp.measuredLast := rfl
@[simp] theorem modSource_grp_measuredPeak (x : Source) (f : SrcState → SrcState) : (s.modSource x f).grp.measuredPeak = s.grp.measuredPeak := rfl
@[simp] theorem modSource_grp_excursions (x : Source) (f : SrcState → SrcState) : (s.modSource x f).grp.excursions = s.grp.excursions := rfl
@[simp] theorem modSource_grp_overrun (x : Source) (f : SrcState → SrcState) : (s.modSource x f).grp.overrun = s.grp.overrun := rfl
@[simp] theorem modSource_grp_admissionHeld (x : Source) (f : SrcState → SrcState) : (s.modSource x f).grp.admissionHeld = s.grp.admissionHeld := rfl
@[simp] theorem modSource_grp_safeState (x : Source) (f : SrcState → SrcState) : (s.modSource x f).grp.safeState = s.grp.safeState := rfl
@[simp] theorem modSource_grp_deferred (x : Source) (f : SrcState → SrcState) : (s.modSource x f).grp.deferred = s.grp.deferred := rfl
@[simp] theorem modSource_grp_alm (x : Source) (f : SrcState → SrcState) : (s.modSource x f).grp.alm = s.grp.alm := rfl
@[simp] theorem modSource_grp_shown (x : Source) (f : SrcState → SrcState) : (s.modSource x f).grp.shown = s.grp.shown := rfl
@[simp] theorem modSource_grp_cars (x : Source) (f : SrcState → SrcState) : (s.modSource x f).grp.cars = s.grp.cars := rfl
@[simp] theorem modSource_grp_shownCars (x : Source) (f : SrcState → SrcState) : (s.modSource x f).grp.shownCars = s.grp.shownCars := rfl
@[simp] theorem modSource_grp_shownDispatch (x : Source) (f : SrcState → SrcState) : (s.modSource x f).grp.shownDispatch = s.grp.shownDispatch := rfl
@[simp] theorem modSource_grp_disp (x : Source) (f : SrcState → SrcState) : (s.modSource x f).grp.disp = s.grp.disp := rfl
@[simp] theorem modSource_grp_sg (x : Source) (f : SrcState → SrcState) : (s.modSource x f).grp.sg = s.grp.sg := rfl
@[simp] theorem modSource_grp_streams (x : Source) (f : SrcState → SrcState) : (s.modSource x f).grp.streams = s.grp.streams := rfl
@[simp] theorem modSource_grp_sources (x : Source) (f : SrcState → SrcState) : (s.modSource x f).grp.sources = s.grp.sources.set x.val (f s.grp.sources[x.val]) := rfl
@[simp] theorem modSource_grp_jobs (x : Source) (f : SrcState → SrcState) : (s.modSource x f).grp.jobs = s.grp.jobs := rfl
@[simp] theorem modSource_grp_jobCounter (x : Source) (f : SrcState → SrcState) : (s.modSource x f).grp.jobCounter = s.grp.jobCounter := rfl
@[simp] theorem modSource_grp_sessions (x : Source) (f : SrcState → SrcState) : (s.modSource x f).grp.sessions = s.grp.sessions := rfl
@[simp] theorem modSource_grp_kernels (x : Source) (f : SrcState → SrcState) : (s.modSource x f).grp.kernels = s.grp.kernels := rfl
@[simp] theorem modSource_grp_engines (x : Source) (f : SrcState → SrcState) : (s.modSource x f).grp.engines = s.grp.engines := rfl
@[simp] theorem modSource_grp_rides (x : Source) (f : SrcState → SrcState) : (s.modSource x f).grp.rides = s.grp.rides := rfl
@[simp] theorem modSource_grp_seconds (x : Source) (f : SrcState → SrcState) : (s.modSource x f).grp.seconds = s.grp.seconds := rfl
@[simp] theorem modSource_grp_fis (x : Source) (f : SrcState → SrcState) : (s.modSource x f).grp.fis = s.grp.fis := rfl
@[simp] theorem modSource_grp_saving (x : Source) (f : SrcState → SrcState) : (s.modSource x f).grp.saving = s.grp.saving := rfl
@[simp] theorem modSource_grp_saveFrame (x : Source) (f : SrcState → SrcState) : (s.modSource x f).grp.saveFrame = s.grp.saveFrame := rfl
@[simp] theorem modSource_grp_staging (x : Source) (f : SrcState → SrcState) : (s.modSource x f).grp.staging = s.grp.staging := rfl

@[simp] theorem modSession_pending (n : CarId) (f : Session → Session) : (s.modSession n f).pending = s.pending := rfl
@[simp] theorem modSession_free (n : CarId) (f : Session → Session) : (s.modSession n f).free = s.free := rfl
@[simp] theorem modSession_nv (n : CarId) (f : Session → Session) : (s.modSession n f).nv = s.nv := rfl
@[simp] theorem modSession_boot (n : CarId) (f : Session → Session) : (s.modSession n f).boot = s.boot := rfl
@[simp] theorem modSession_mem (n : CarId) (f : Session → Session) : (s.modSession n f).mem = s.mem := rfl
@[simp] theorem modSession_io (n : CarId) (f : Session → Session) : (s.modSession n f).io = s.io := rfl
@[simp] theorem modSession_host (n : CarId) (f : Session → Session) : (s.modSession n f).host = s.host := rfl
@[simp] theorem modSession_grp_frame (n : CarId) (f : Session → Session) : (s.modSession n f).grp.frame = s.grp.frame := rfl
@[simp] theorem modSession_grp_frameLen (n : CarId) (f : Session → Session) : (s.modSession n f).grp.frameLen = s.grp.frameLen := rfl
@[simp] theorem modSession_grp_measuredLast (n : CarId) (f : Session → Session) : (s.modSession n f).grp.measuredLast = s.grp.measuredLast := rfl
@[simp] theorem modSession_grp_measuredPeak (n : CarId) (f : Session → Session) : (s.modSession n f).grp.measuredPeak = s.grp.measuredPeak := rfl
@[simp] theorem modSession_grp_excursions (n : CarId) (f : Session → Session) : (s.modSession n f).grp.excursions = s.grp.excursions := rfl
@[simp] theorem modSession_grp_overrun (n : CarId) (f : Session → Session) : (s.modSession n f).grp.overrun = s.grp.overrun := rfl
@[simp] theorem modSession_grp_admissionHeld (n : CarId) (f : Session → Session) : (s.modSession n f).grp.admissionHeld = s.grp.admissionHeld := rfl
@[simp] theorem modSession_grp_safeState (n : CarId) (f : Session → Session) : (s.modSession n f).grp.safeState = s.grp.safeState := rfl
@[simp] theorem modSession_grp_deferred (n : CarId) (f : Session → Session) : (s.modSession n f).grp.deferred = s.grp.deferred := rfl
@[simp] theorem modSession_grp_alm (n : CarId) (f : Session → Session) : (s.modSession n f).grp.alm = s.grp.alm := rfl
@[simp] theorem modSession_grp_shown (n : CarId) (f : Session → Session) : (s.modSession n f).grp.shown = s.grp.shown := rfl
@[simp] theorem modSession_grp_cars (n : CarId) (f : Session → Session) : (s.modSession n f).grp.cars = s.grp.cars := rfl
@[simp] theorem modSession_grp_shownCars (n : CarId) (f : Session → Session) : (s.modSession n f).grp.shownCars = s.grp.shownCars := rfl
@[simp] theorem modSession_grp_shownDispatch (n : CarId) (f : Session → Session) : (s.modSession n f).grp.shownDispatch = s.grp.shownDispatch := rfl
@[simp] theorem modSession_grp_disp (n : CarId) (f : Session → Session) : (s.modSession n f).grp.disp = s.grp.disp := rfl
@[simp] theorem modSession_grp_sg (n : CarId) (f : Session → Session) : (s.modSession n f).grp.sg = s.grp.sg := rfl
@[simp] theorem modSession_grp_streams (n : CarId) (f : Session → Session) : (s.modSession n f).grp.streams = s.grp.streams := rfl
@[simp] theorem modSession_grp_sources (n : CarId) (f : Session → Session) : (s.modSession n f).grp.sources = s.grp.sources := rfl
@[simp] theorem modSession_grp_jobs (n : CarId) (f : Session → Session) : (s.modSession n f).grp.jobs = s.grp.jobs := rfl
@[simp] theorem modSession_grp_jobCounter (n : CarId) (f : Session → Session) : (s.modSession n f).grp.jobCounter = s.grp.jobCounter := rfl
@[simp] theorem modSession_grp_sessions (n : CarId) (f : Session → Session) : (s.modSession n f).grp.sessions = s.grp.sessions.set n.val (f s.grp.sessions[n.val]) := rfl
@[simp] theorem modSession_grp_kernels (n : CarId) (f : Session → Session) : (s.modSession n f).grp.kernels = s.grp.kernels := rfl
@[simp] theorem modSession_grp_engines (n : CarId) (f : Session → Session) : (s.modSession n f).grp.engines = s.grp.engines := rfl
@[simp] theorem modSession_grp_rides (n : CarId) (f : Session → Session) : (s.modSession n f).grp.rides = s.grp.rides := rfl
@[simp] theorem modSession_grp_seconds (n : CarId) (f : Session → Session) : (s.modSession n f).grp.seconds = s.grp.seconds := rfl
@[simp] theorem modSession_grp_fis (n : CarId) (f : Session → Session) : (s.modSession n f).grp.fis = s.grp.fis := rfl
@[simp] theorem modSession_grp_saving (n : CarId) (f : Session → Session) : (s.modSession n f).grp.saving = s.grp.saving := rfl
@[simp] theorem modSession_grp_saveFrame (n : CarId) (f : Session → Session) : (s.modSession n f).grp.saveFrame = s.grp.saveFrame := rfl
@[simp] theorem modSession_grp_staging (n : CarId) (f : Session → Session) : (s.modSession n f).grp.staging = s.grp.staging := rfl

@[simp] theorem setEntry_pending (c : Nat) (e : Entry) : (s.setEntry c e).pending = s.pending := rfl
@[simp] theorem setEntry_free (c : Nat) (e : Entry) : (s.setEntry c e).free = s.free := rfl
@[simp] theorem setEntry_nv (c : Nat) (e : Entry) : (s.setEntry c e).nv = s.nv := rfl
@[simp] theorem setEntry_boot (c : Nat) (e : Entry) : (s.setEntry c e).boot = s.boot := rfl
@[simp] theorem setEntry_mem (c : Nat) (e : Entry) : (s.setEntry c e).mem = s.mem := rfl
@[simp] theorem setEntry_io (c : Nat) (e : Entry) : (s.setEntry c e).io = s.io := rfl
@[simp] theorem setEntry_host (c : Nat) (e : Entry) : (s.setEntry c e).host = s.host := rfl
@[simp] theorem setEntry_grp_frame (c : Nat) (e : Entry) : (s.setEntry c e).grp.frame = s.grp.frame := rfl
@[simp] theorem setEntry_grp_frameLen (c : Nat) (e : Entry) : (s.setEntry c e).grp.frameLen = s.grp.frameLen := rfl
@[simp] theorem setEntry_grp_measuredLast (c : Nat) (e : Entry) : (s.setEntry c e).grp.measuredLast = s.grp.measuredLast := rfl
@[simp] theorem setEntry_grp_measuredPeak (c : Nat) (e : Entry) : (s.setEntry c e).grp.measuredPeak = s.grp.measuredPeak := rfl
@[simp] theorem setEntry_grp_excursions (c : Nat) (e : Entry) : (s.setEntry c e).grp.excursions = s.grp.excursions := rfl
@[simp] theorem setEntry_grp_overrun (c : Nat) (e : Entry) : (s.setEntry c e).grp.overrun = s.grp.overrun := rfl
@[simp] theorem setEntry_grp_admissionHeld (c : Nat) (e : Entry) : (s.setEntry c e).grp.admissionHeld = s.grp.admissionHeld := rfl
@[simp] theorem setEntry_grp_safeState (c : Nat) (e : Entry) : (s.setEntry c e).grp.safeState = s.grp.safeState := rfl
@[simp] theorem setEntry_grp_deferred (c : Nat) (e : Entry) : (s.setEntry c e).grp.deferred = s.grp.deferred := rfl
@[simp] theorem setEntry_grp_alm (c : Nat) (e : Entry) : (s.setEntry c e).grp.alm = Mem.set Entry.free s.grp.alm c e := rfl
@[simp] theorem setEntry_grp_shown (c : Nat) (e : Entry) : (s.setEntry c e).grp.shown = s.grp.shown := rfl
@[simp] theorem setEntry_grp_cars (c : Nat) (e : Entry) : (s.setEntry c e).grp.cars = s.grp.cars := rfl
@[simp] theorem setEntry_grp_shownCars (c : Nat) (e : Entry) : (s.setEntry c e).grp.shownCars = s.grp.shownCars := rfl
@[simp] theorem setEntry_grp_shownDispatch (c : Nat) (e : Entry) : (s.setEntry c e).grp.shownDispatch = s.grp.shownDispatch := rfl
@[simp] theorem setEntry_grp_disp (c : Nat) (e : Entry) : (s.setEntry c e).grp.disp = s.grp.disp := rfl
@[simp] theorem setEntry_grp_sg (c : Nat) (e : Entry) : (s.setEntry c e).grp.sg = s.grp.sg := rfl
@[simp] theorem setEntry_grp_streams (c : Nat) (e : Entry) : (s.setEntry c e).grp.streams = s.grp.streams := rfl
@[simp] theorem setEntry_grp_sources (c : Nat) (e : Entry) : (s.setEntry c e).grp.sources = s.grp.sources := rfl
@[simp] theorem setEntry_grp_jobs (c : Nat) (e : Entry) : (s.setEntry c e).grp.jobs = s.grp.jobs := rfl
@[simp] theorem setEntry_grp_jobCounter (c : Nat) (e : Entry) : (s.setEntry c e).grp.jobCounter = s.grp.jobCounter := rfl
@[simp] theorem setEntry_grp_sessions (c : Nat) (e : Entry) : (s.setEntry c e).grp.sessions = s.grp.sessions := rfl
@[simp] theorem setEntry_grp_kernels (c : Nat) (e : Entry) : (s.setEntry c e).grp.kernels = s.grp.kernels := rfl
@[simp] theorem setEntry_grp_engines (c : Nat) (e : Entry) : (s.setEntry c e).grp.engines = s.grp.engines := rfl
@[simp] theorem setEntry_grp_rides (c : Nat) (e : Entry) : (s.setEntry c e).grp.rides = s.grp.rides := rfl
@[simp] theorem setEntry_grp_seconds (c : Nat) (e : Entry) : (s.setEntry c e).grp.seconds = s.grp.seconds := rfl
@[simp] theorem setEntry_grp_fis (c : Nat) (e : Entry) : (s.setEntry c e).grp.fis = s.grp.fis := rfl
@[simp] theorem setEntry_grp_saving (c : Nat) (e : Entry) : (s.setEntry c e).grp.saving = s.grp.saving := rfl
@[simp] theorem setEntry_grp_saveFrame (c : Nat) (e : Entry) : (s.setEntry c e).grp.saveFrame = s.grp.saveFrame := rfl
@[simp] theorem setEntry_grp_staging (c : Nat) (e : Entry) : (s.setEntry c e).grp.staging = s.grp.staging := rfl

@[simp] theorem modEntry_pending (c : Nat) (f : Entry → Entry) : (s.modEntry c f).pending = s.pending := rfl
@[simp] theorem modEntry_free (c : Nat) (f : Entry → Entry) : (s.modEntry c f).free = s.free := rfl
@[simp] theorem modEntry_nv (c : Nat) (f : Entry → Entry) : (s.modEntry c f).nv = s.nv := rfl
@[simp] theorem modEntry_boot (c : Nat) (f : Entry → Entry) : (s.modEntry c f).boot = s.boot := rfl
@[simp] theorem modEntry_mem (c : Nat) (f : Entry → Entry) : (s.modEntry c f).mem = s.mem := rfl
@[simp] theorem modEntry_io (c : Nat) (f : Entry → Entry) : (s.modEntry c f).io = s.io := rfl
@[simp] theorem modEntry_host (c : Nat) (f : Entry → Entry) : (s.modEntry c f).host = s.host := rfl
@[simp] theorem modEntry_grp_frame (c : Nat) (f : Entry → Entry) : (s.modEntry c f).grp.frame = s.grp.frame := rfl
@[simp] theorem modEntry_grp_frameLen (c : Nat) (f : Entry → Entry) : (s.modEntry c f).grp.frameLen = s.grp.frameLen := rfl
@[simp] theorem modEntry_grp_measuredLast (c : Nat) (f : Entry → Entry) : (s.modEntry c f).grp.measuredLast = s.grp.measuredLast := rfl
@[simp] theorem modEntry_grp_measuredPeak (c : Nat) (f : Entry → Entry) : (s.modEntry c f).grp.measuredPeak = s.grp.measuredPeak := rfl
@[simp] theorem modEntry_grp_excursions (c : Nat) (f : Entry → Entry) : (s.modEntry c f).grp.excursions = s.grp.excursions := rfl
@[simp] theorem modEntry_grp_overrun (c : Nat) (f : Entry → Entry) : (s.modEntry c f).grp.overrun = s.grp.overrun := rfl
@[simp] theorem modEntry_grp_admissionHeld (c : Nat) (f : Entry → Entry) : (s.modEntry c f).grp.admissionHeld = s.grp.admissionHeld := rfl
@[simp] theorem modEntry_grp_safeState (c : Nat) (f : Entry → Entry) : (s.modEntry c f).grp.safeState = s.grp.safeState := rfl
@[simp] theorem modEntry_grp_deferred (c : Nat) (f : Entry → Entry) : (s.modEntry c f).grp.deferred = s.grp.deferred := rfl
@[simp] theorem modEntry_grp_alm (c : Nat) (f : Entry → Entry) : (s.modEntry c f).grp.alm = Mem.set Entry.free s.grp.alm c (f (s.entry c)) := rfl
@[simp] theorem modEntry_grp_shown (c : Nat) (f : Entry → Entry) : (s.modEntry c f).grp.shown = s.grp.shown := rfl
@[simp] theorem modEntry_grp_cars (c : Nat) (f : Entry → Entry) : (s.modEntry c f).grp.cars = s.grp.cars := rfl
@[simp] theorem modEntry_grp_shownCars (c : Nat) (f : Entry → Entry) : (s.modEntry c f).grp.shownCars = s.grp.shownCars := rfl
@[simp] theorem modEntry_grp_shownDispatch (c : Nat) (f : Entry → Entry) : (s.modEntry c f).grp.shownDispatch = s.grp.shownDispatch := rfl
@[simp] theorem modEntry_grp_disp (c : Nat) (f : Entry → Entry) : (s.modEntry c f).grp.disp = s.grp.disp := rfl
@[simp] theorem modEntry_grp_sg (c : Nat) (f : Entry → Entry) : (s.modEntry c f).grp.sg = s.grp.sg := rfl
@[simp] theorem modEntry_grp_streams (c : Nat) (f : Entry → Entry) : (s.modEntry c f).grp.streams = s.grp.streams := rfl
@[simp] theorem modEntry_grp_sources (c : Nat) (f : Entry → Entry) : (s.modEntry c f).grp.sources = s.grp.sources := rfl
@[simp] theorem modEntry_grp_jobs (c : Nat) (f : Entry → Entry) : (s.modEntry c f).grp.jobs = s.grp.jobs := rfl
@[simp] theorem modEntry_grp_jobCounter (c : Nat) (f : Entry → Entry) : (s.modEntry c f).grp.jobCounter = s.grp.jobCounter := rfl
@[simp] theorem modEntry_grp_sessions (c : Nat) (f : Entry → Entry) : (s.modEntry c f).grp.sessions = s.grp.sessions := rfl
@[simp] theorem modEntry_grp_kernels (c : Nat) (f : Entry → Entry) : (s.modEntry c f).grp.kernels = s.grp.kernels := rfl
@[simp] theorem modEntry_grp_engines (c : Nat) (f : Entry → Entry) : (s.modEntry c f).grp.engines = s.grp.engines := rfl
@[simp] theorem modEntry_grp_rides (c : Nat) (f : Entry → Entry) : (s.modEntry c f).grp.rides = s.grp.rides := rfl
@[simp] theorem modEntry_grp_seconds (c : Nat) (f : Entry → Entry) : (s.modEntry c f).grp.seconds = s.grp.seconds := rfl
@[simp] theorem modEntry_grp_fis (c : Nat) (f : Entry → Entry) : (s.modEntry c f).grp.fis = s.grp.fis := rfl
@[simp] theorem modEntry_grp_saving (c : Nat) (f : Entry → Entry) : (s.modEntry c f).grp.saving = s.grp.saving := rfl
@[simp] theorem modEntry_grp_saveFrame (c : Nat) (f : Entry → Entry) : (s.modEntry c f).grp.saveFrame = s.grp.saveFrame := rfl
@[simp] theorem modEntry_grp_staging (c : Nat) (f : Entry → Entry) : (s.modEntry c f).grp.staging = s.grp.staging := rfl

@[simp] theorem stage_pending (d : Deferred) : (s.stage d).pending = s.pending := rfl
@[simp] theorem stage_free (d : Deferred) : (s.stage d).free = s.free := rfl
@[simp] theorem stage_nv (d : Deferred) : (s.stage d).nv = s.nv := rfl
@[simp] theorem stage_boot (d : Deferred) : (s.stage d).boot = s.boot := rfl
@[simp] theorem stage_mem (d : Deferred) : (s.stage d).mem = s.mem := rfl
@[simp] theorem stage_io (d : Deferred) : (s.stage d).io = s.io := rfl
@[simp] theorem stage_host (d : Deferred) : (s.stage d).host = s.host := rfl
@[simp] theorem stage_grp_frame (d : Deferred) : (s.stage d).grp.frame = s.grp.frame := rfl
@[simp] theorem stage_grp_frameLen (d : Deferred) : (s.stage d).grp.frameLen = s.grp.frameLen := rfl
@[simp] theorem stage_grp_measuredLast (d : Deferred) : (s.stage d).grp.measuredLast = s.grp.measuredLast := rfl
@[simp] theorem stage_grp_measuredPeak (d : Deferred) : (s.stage d).grp.measuredPeak = s.grp.measuredPeak := rfl
@[simp] theorem stage_grp_excursions (d : Deferred) : (s.stage d).grp.excursions = s.grp.excursions := rfl
@[simp] theorem stage_grp_overrun (d : Deferred) : (s.stage d).grp.overrun = s.grp.overrun := rfl
@[simp] theorem stage_grp_admissionHeld (d : Deferred) : (s.stage d).grp.admissionHeld = s.grp.admissionHeld := rfl
@[simp] theorem stage_grp_safeState (d : Deferred) : (s.stage d).grp.safeState = s.grp.safeState := rfl
@[simp] theorem stage_grp_deferred (d : Deferred) : (s.stage d).grp.deferred = s.grp.deferred ++ [d] := rfl
@[simp] theorem stage_grp_alm (d : Deferred) : (s.stage d).grp.alm = s.grp.alm := rfl
@[simp] theorem stage_grp_shown (d : Deferred) : (s.stage d).grp.shown = s.grp.shown := rfl
@[simp] theorem stage_grp_cars (d : Deferred) : (s.stage d).grp.cars = s.grp.cars := rfl
@[simp] theorem stage_grp_shownCars (d : Deferred) : (s.stage d).grp.shownCars = s.grp.shownCars := rfl
@[simp] theorem stage_grp_shownDispatch (d : Deferred) : (s.stage d).grp.shownDispatch = s.grp.shownDispatch := rfl
@[simp] theorem stage_grp_disp (d : Deferred) : (s.stage d).grp.disp = s.grp.disp := rfl
@[simp] theorem stage_grp_sg (d : Deferred) : (s.stage d).grp.sg = s.grp.sg := rfl
@[simp] theorem stage_grp_streams (d : Deferred) : (s.stage d).grp.streams = s.grp.streams := rfl
@[simp] theorem stage_grp_sources (d : Deferred) : (s.stage d).grp.sources = s.grp.sources := rfl
@[simp] theorem stage_grp_jobs (d : Deferred) : (s.stage d).grp.jobs = s.grp.jobs := rfl
@[simp] theorem stage_grp_jobCounter (d : Deferred) : (s.stage d).grp.jobCounter = s.grp.jobCounter := rfl
@[simp] theorem stage_grp_sessions (d : Deferred) : (s.stage d).grp.sessions = s.grp.sessions := rfl
@[simp] theorem stage_grp_kernels (d : Deferred) : (s.stage d).grp.kernels = s.grp.kernels := rfl
@[simp] theorem stage_grp_engines (d : Deferred) : (s.stage d).grp.engines = s.grp.engines := rfl
@[simp] theorem stage_grp_rides (d : Deferred) : (s.stage d).grp.rides = s.grp.rides := rfl
@[simp] theorem stage_grp_seconds (d : Deferred) : (s.stage d).grp.seconds = s.grp.seconds := rfl
@[simp] theorem stage_grp_fis (d : Deferred) : (s.stage d).grp.fis = s.grp.fis := rfl
@[simp] theorem stage_grp_saving (d : Deferred) : (s.stage d).grp.saving = s.grp.saving := rfl
@[simp] theorem stage_grp_saveFrame (d : Deferred) : (s.stage d).grp.saveFrame = s.grp.saveFrame := rfl
@[simp] theorem stage_grp_staging (d : Deferred) : (s.stage d).grp.staging = s.grp.staging := rfl

@[simp] theorem record_pending (code car : Nat) (data : List Byte) : (s.record code car data).pending = s.pending := rfl
@[simp] theorem record_free (code car : Nat) (data : List Byte) : (s.record code car data).free = s.free := rfl
@[simp] theorem record_boot (code car : Nat) (data : List Byte) : (s.record code car data).boot = s.boot := rfl
@[simp] theorem record_mem (code car : Nat) (data : List Byte) : (s.record code car data).mem = s.mem := rfl
@[simp] theorem record_grp (code car : Nat) (data : List Byte) : (s.record code car data).grp = s.grp := rfl
@[simp] theorem record_io (code car : Nat) (data : List Byte) : (s.record code car data).io = s.io := rfl
@[simp] theorem record_host (code car : Nat) (data : List Byte) : (s.record code car data).host = s.host := rfl
@[simp] theorem record_nv_groups (code car : Nat) (data : List Byte) : (s.record code car data).nv.groups = s.nv.groups := rfl
@[simp] theorem record_nv_pendingLife (code car : Nat) (data : List Byte) : (s.record code car data).nv.pendingLife = s.nv.pendingLife := rfl
@[simp] theorem record_nv_customerRoot (code car : Nat) (data : List Byte) : (s.record code car data).nv.customerRoot = s.nv.customerRoot := rfl
@[simp] theorem record_nv_netKey (code car : Nat) (data : List Byte) : (s.record code car data).nv.netKey = s.nv.netKey := rfl
@[simp] theorem record_nv_cosign (code car : Nat) (data : List Byte) : (s.record code car data).nv.cosign = s.nv.cosign := rfl
@[simp] theorem record_nv_security (code car : Nat) (data : List Byte) : (s.record code car data).nv.security = s.nv.security := rfl
@[simp] theorem record_nv_attestBlocks (code car : Nat) (data : List Byte) : (s.record code car data).nv.attestBlocks = s.nv.attestBlocks := rfl
@[simp] theorem record_nv_nandCorrected (code car : Nat) (data : List Byte) : (s.record code car data).nv.nandCorrected = s.nv.nandCorrected := rfl
@[simp] theorem record_nv_frameLen (code car : Nat) (data : List Byte) : (s.record code car data).nv.frameLen = s.nv.frameLen := rfl
@[simp] theorem record_nv_pair (code car : Nat) (data : List Byte) : (s.record code car data).nv.pair = s.nv.pair := rfl
@[simp] theorem record_nv_net (code car : Nat) (data : List Byte) : (s.record code car data).nv.net = s.nv.net := rfl
@[simp] theorem record_nv_epoch (code car : Nat) (data : List Byte) : (s.record code car data).nv.epoch = s.nv.epoch := rfl
@[simp] theorem record_nv_secondsSaved (code car : Nat) (data : List Byte) : (s.record code car data).nv.secondsSaved = s.nv.secondsSaved := rfl
@[simp] theorem record_nv_copies (code car : Nat) (data : List Byte) : (s.record code car data).nv.copies = s.nv.copies := rfl
@[simp] theorem record_nv_facts (code car : Nat) (data : List Byte) : (s.record code car data).nv.facts = s.nv.facts := rfl
@[simp] theorem record_nv_preferred (code car : Nat) (data : List Byte) : (s.record code car data).nv.preferred = s.nv.preferred := rfl
@[simp] theorem record_nv_config (code car : Nat) (data : List Byte) : (s.record code car data).nv.config = s.nv.config := rfl
@[simp] theorem record_nv_saved (code car : Nat) (data : List Byte) : (s.record code car data).nv.saved = s.nv.saved := rfl
@[simp] theorem record_nv_kernels (code car : Nat) (data : List Byte) : (s.record code car data).nv.kernels = s.nv.kernels := rfl
@[simp] theorem record_nv_learned (code car : Nat) (data : List Byte) : (s.record code car data).nv.learned = s.nv.learned := rfl
@[simp] theorem record_nv_causes (code car : Nat) (data : List Byte) : (s.record code car data).nv.causes = s.nv.causes := rfl
@[simp] theorem record_nv_recorder (code car : Nat) (data : List Byte) : (s.record code car data).nv.recorder = s.nv.recorder.add (s.mkRec code car data) := rfl

@[simp] theorem irqEvent_pending (i : Nat) : (s.irqEvent i).pending = s.pending := rfl
@[simp] theorem irqEvent_free (i : Nat) : (s.irqEvent i).free = s.free := rfl
@[simp] theorem irqEvent_nv (i : Nat) : (s.irqEvent i).nv = s.nv := rfl
@[simp] theorem irqEvent_boot (i : Nat) : (s.irqEvent i).boot = s.boot := rfl
@[simp] theorem irqEvent_mem (i : Nat) : (s.irqEvent i).mem = s.mem := rfl
@[simp] theorem irqEvent_grp (i : Nat) : (s.irqEvent i).grp = s.grp := rfl
@[simp] theorem irqEvent_io (i : Nat) : (s.irqEvent i).io = s.io := rfl
@[simp] theorem irqEvent_host_rings (i : Nat) : (s.irqEvent i).host.rings = s.host.rings := rfl
@[simp] theorem irqEvent_host_rung (i : Nat) : (s.irqEvent i).host.rung = s.host.rung := rfl
@[simp] theorem irqEvent_host_held (i : Nat) : (s.irqEvent i).host.held = s.host.held := rfl
@[simp] theorem irqEvent_host_irqRing (i : Nat) : (s.irqEvent i).host.irqRing = s.host.irqRing := rfl
@[simp] theorem irqEvent_host_irqMask (i : Nat) : (s.irqEvent i).host.irqMask = s.host.irqMask := rfl
@[simp] theorem irqEvent_host_irqEvent (i : Nat) : (s.irqEvent i).host.irqEvent = s.host.irqEvent ||| (1#6 <<< i) := rfl
@[simp] theorem irqEvent_host_irqEventMask (i : Nat) : (s.irqEvent i).host.irqEventMask = s.host.irqEventMask := rfl
@[simp] theorem irqEvent_host_pageRing (i : Nat) : (s.irqEvent i).host.pageRing = s.host.pageRing := rfl
@[simp] theorem irqEvent_host_pageSlot (i : Nat) : (s.irqEvent i).host.pageSlot = s.host.pageSlot := rfl
@[simp] theorem irqEvent_host_frameLatch (i : Nat) : (s.irqEvent i).host.frameLatch = s.host.frameLatch := rfl
@[simp] theorem irqEvent_host_busErrors (i : Nat) : (s.irqEvent i).host.busErrors = s.host.busErrors := rfl
@[simp] theorem irqEvent_host_ul40BusErrors (i : Nat) : (s.irqEvent i).host.ul40BusErrors = s.host.ul40BusErrors := rfl
@[simp] theorem irqEvent_host_authFailures (i : Nat) : (s.irqEvent i).host.authFailures = s.host.authFailures := rfl
@[simp] theorem irqEvent_host_authAt (i : Nat) : (s.irqEvent i).host.authAt = s.host.authAt := rfl
@[simp] theorem irqEvent_host_ethOut (i : Nat) : (s.irqEvent i).host.ethOut = s.host.ethOut := rfl

@[simp] theorem irqRing_pending (r : RingId) : (s.irqRing r).pending = s.pending := rfl
@[simp] theorem irqRing_free (r : RingId) : (s.irqRing r).free = s.free := rfl
@[simp] theorem irqRing_nv (r : RingId) : (s.irqRing r).nv = s.nv := rfl
@[simp] theorem irqRing_boot (r : RingId) : (s.irqRing r).boot = s.boot := rfl
@[simp] theorem irqRing_mem (r : RingId) : (s.irqRing r).mem = s.mem := rfl
@[simp] theorem irqRing_grp (r : RingId) : (s.irqRing r).grp = s.grp := rfl
@[simp] theorem irqRing_io (r : RingId) : (s.irqRing r).io = s.io := rfl
@[simp] theorem irqRing_host_rings (r : RingId) : (s.irqRing r).host.rings = s.host.rings := rfl
@[simp] theorem irqRing_host_rung (r : RingId) : (s.irqRing r).host.rung = s.host.rung := rfl
@[simp] theorem irqRing_host_held (r : RingId) : (s.irqRing r).host.held = s.host.held := rfl
@[simp] theorem irqRing_host_irqRing (r : RingId) : (s.irqRing r).host.irqRing = s.host.irqRing ||| (1#64 <<< r.val) := rfl
@[simp] theorem irqRing_host_irqMask (r : RingId) : (s.irqRing r).host.irqMask = s.host.irqMask := rfl
@[simp] theorem irqRing_host_irqEvent (r : RingId) : (s.irqRing r).host.irqEvent = s.host.irqEvent := rfl
@[simp] theorem irqRing_host_irqEventMask (r : RingId) : (s.irqRing r).host.irqEventMask = s.host.irqEventMask := rfl
@[simp] theorem irqRing_host_pageRing (r : RingId) : (s.irqRing r).host.pageRing = s.host.pageRing := rfl
@[simp] theorem irqRing_host_pageSlot (r : RingId) : (s.irqRing r).host.pageSlot = s.host.pageSlot := rfl
@[simp] theorem irqRing_host_frameLatch (r : RingId) : (s.irqRing r).host.frameLatch = s.host.frameLatch := rfl
@[simp] theorem irqRing_host_busErrors (r : RingId) : (s.irqRing r).host.busErrors = s.host.busErrors := rfl
@[simp] theorem irqRing_host_ul40BusErrors (r : RingId) : (s.irqRing r).host.ul40BusErrors = s.host.ul40BusErrors := rfl
@[simp] theorem irqRing_host_authFailures (r : RingId) : (s.irqRing r).host.authFailures = s.host.authFailures := rfl
@[simp] theorem irqRing_host_authAt (r : RingId) : (s.irqRing r).host.authAt = s.host.authAt := rfl
@[simp] theorem irqRing_host_ethOut (r : RingId) : (s.irqRing r).host.ethOut = s.host.ethOut := rfl

@[simp] theorem ethSend_pending (f : List Byte) : (s.ethSend f).pending = s.pending := rfl
@[simp] theorem ethSend_free (f : List Byte) : (s.ethSend f).free = s.free := rfl
@[simp] theorem ethSend_nv (f : List Byte) : (s.ethSend f).nv = s.nv := rfl
@[simp] theorem ethSend_boot (f : List Byte) : (s.ethSend f).boot = s.boot := rfl
@[simp] theorem ethSend_mem (f : List Byte) : (s.ethSend f).mem = s.mem := rfl
@[simp] theorem ethSend_grp (f : List Byte) : (s.ethSend f).grp = s.grp := rfl
@[simp] theorem ethSend_io (f : List Byte) : (s.ethSend f).io = s.io := rfl
@[simp] theorem ethSend_host_rings (f : List Byte) : (s.ethSend f).host.rings = s.host.rings := rfl
@[simp] theorem ethSend_host_rung (f : List Byte) : (s.ethSend f).host.rung = s.host.rung := rfl
@[simp] theorem ethSend_host_held (f : List Byte) : (s.ethSend f).host.held = s.host.held := rfl
@[simp] theorem ethSend_host_irqRing (f : List Byte) : (s.ethSend f).host.irqRing = s.host.irqRing := rfl
@[simp] theorem ethSend_host_irqMask (f : List Byte) : (s.ethSend f).host.irqMask = s.host.irqMask := rfl
@[simp] theorem ethSend_host_irqEvent (f : List Byte) : (s.ethSend f).host.irqEvent = s.host.irqEvent := rfl
@[simp] theorem ethSend_host_irqEventMask (f : List Byte) : (s.ethSend f).host.irqEventMask = s.host.irqEventMask := rfl
@[simp] theorem ethSend_host_pageRing (f : List Byte) : (s.ethSend f).host.pageRing = s.host.pageRing := rfl
@[simp] theorem ethSend_host_pageSlot (f : List Byte) : (s.ethSend f).host.pageSlot = s.host.pageSlot := rfl
@[simp] theorem ethSend_host_frameLatch (f : List Byte) : (s.ethSend f).host.frameLatch = s.host.frameLatch := rfl
@[simp] theorem ethSend_host_busErrors (f : List Byte) : (s.ethSend f).host.busErrors = s.host.busErrors := rfl
@[simp] theorem ethSend_host_ul40BusErrors (f : List Byte) : (s.ethSend f).host.ul40BusErrors = s.host.ul40BusErrors := rfl
@[simp] theorem ethSend_host_authFailures (f : List Byte) : (s.ethSend f).host.authFailures = s.host.authFailures := rfl
@[simp] theorem ethSend_host_authAt (f : List Byte) : (s.ethSend f).host.authAt = s.host.authAt := rfl
@[simp] theorem ethSend_host_ethOut (f : List Byte) : (s.ethSend f).host.ethOut = s.host.ethOut ++ [f] := rfl

@[simp] theorem modMem_mem (f : Member → Member) : (s.modMem f).mem = f s.mem := rfl
@[simp] theorem modMem_pending (f : Member → Member) : (s.modMem f).pending = s.pending := rfl
@[simp] theorem modMem_free (f : Member → Member) : (s.modMem f).free = s.free := rfl
@[simp] theorem modMem_nv (f : Member → Member) : (s.modMem f).nv = s.nv := rfl
@[simp] theorem modMem_boot (f : Member → Member) : (s.modMem f).boot = s.boot := rfl
@[simp] theorem modMem_grp (f : Member → Member) : (s.modMem f).grp = s.grp := rfl
@[simp] theorem modMem_io (f : Member → Member) : (s.modMem f).io = s.io := rfl
@[simp] theorem modMem_host (f : Member → Member) : (s.modMem f).host = s.host := rfl

@[simp] theorem drawNat_fst : s.drawNat.1 = Config.freeNat s.free := rfl
@[simp] theorem drawNat_free : s.drawNat.2.free = s.free + 1 := rfl
@[simp] theorem drawNat_pending : s.drawNat.2.pending = s.pending := rfl
@[simp] theorem drawNat_nv : s.drawNat.2.nv = s.nv := rfl
@[simp] theorem drawNat_boot : s.drawNat.2.boot = s.boot := rfl
@[simp] theorem drawNat_mem : s.drawNat.2.mem = s.mem := rfl
@[simp] theorem drawNat_grp : s.drawNat.2.grp = s.grp := rfl
@[simp] theorem drawNat_io : s.drawNat.2.io = s.io := rfl
@[simp] theorem drawNat_host : s.drawNat.2.host = s.host := rfl
@[simp] theorem drawInt_fst : s.drawInt.1 = Config.freeInt s.free := rfl
@[simp] theorem drawInt_free : s.drawInt.2.free = s.free + 1 := rfl
@[simp] theorem drawInt_pending : s.drawInt.2.pending = s.pending := rfl
@[simp] theorem drawInt_nv : s.drawInt.2.nv = s.nv := rfl
@[simp] theorem drawInt_boot : s.drawInt.2.boot = s.boot := rfl
@[simp] theorem drawInt_mem : s.drawInt.2.mem = s.mem := rfl
@[simp] theorem drawInt_grp : s.drawInt.2.grp = s.grp := rfl
@[simp] theorem drawInt_io : s.drawInt.2.io = s.io := rfl
@[simp] theorem drawInt_host : s.drawInt.2.host = s.host := rfl
@[simp] theorem drawBytes_fst (n : Nat) : (s.drawBytes n).1 = padTo n (Config.freeBytes s.free) := rfl
@[simp] theorem drawBytes_free (n : Nat) : (s.drawBytes n).2.free = s.free + 1 := rfl
@[simp] theorem drawBytes_pending (n : Nat) : (s.drawBytes n).2.pending = s.pending := rfl
@[simp] theorem drawBytes_nv (n : Nat) : (s.drawBytes n).2.nv = s.nv := rfl
@[simp] theorem drawBytes_boot (n : Nat) : (s.drawBytes n).2.boot = s.boot := rfl
@[simp] theorem drawBytes_mem (n : Nat) : (s.drawBytes n).2.mem = s.mem := rfl
@[simp] theorem drawBytes_grp (n : Nat) : (s.drawBytes n).2.grp = s.grp := rfl
@[simp] theorem drawBytes_io (n : Nat) : (s.drawBytes n).2.io = s.io := rfl
@[simp] theorem drawBytes_host (n : Nat) : (s.drawBytes n).2.host = s.host := rfl

/-- Reading back the car, bank, bus or link that an operation has just changed. -/
@[simp] theorem car_modCar (c : CarId) (f : Car → Car) : (s.modCar c f).car c = f (s.car c) := by
  simp [State.car]
theorem car_modCar_ne (c d : CarId) (f : Car → Car) (h : c ≠ d) : (s.modCar c f).car d = s.car d := by
  have : c.val ≠ d.val := fun e => h (Fin.ext e)
  simp [State.car, this]

/-- With the control plane running, an effect is its effect; without it nothing changes. -/
theorem whenRunning_of (f : State → State) (h : s.running = true) : whenRunning s f = f s := by simp [whenRunning, h]
theorem whenRunning_not (f : State → State) (h : s.running = false) : whenRunning s f = s := by simp [whenRunning, h]

end Sys2Proof.Machine
end

