-- ==== Sys2Proof/Tests/Slice0.lean ====
section
/-! SUPPORT. Tests: an ill-formed command for each check, one step of a command of each family on a small state with the result that
the spec's own text gives, and for each statement with hypotheses a state and operands that meet them. -/

namespace Sys2Proof.Tests

open Sys2Proof Sys2Proof.Machine

set_option Elab.async false

/-- A running single module that holds, with RING00 a COMMAND ring and RING01 its REPLY ring. -/
def up : State :=
  { State.reset with
    boot := { phase := .running }
    mem := { state := .holder }
    host := { rings := ((Vector.replicate 64 ({} : Ring)).set 0 { use := .command, slotsLog2 := 4, sizeCode := 2, partner := 1 }).set 1
                { use := .reply, slotsLog2 := 4, sizeCode := 2 } } }

/-- A Lane entry, and an Almanac that binds lanes as inputs (channels 0–23), as outputs (24–39), an encoder (40) and a SET entry (41). -/
def laneEntry (b l : Nat) (out : Bool) : Entry :=
  { type := 1, hot := true, fault := false, binding := b + 16 * l + (if out then 128 else 0), params := noRef * 2 ^ 40 + 1 }
def testAlm : Almanac :=
  ((List.range 24).map fun i => (i, laneEntry (i / 8) (i % 8) false)) ++
  ((List.range 16).map fun i => (24 + i, laneEntry (3 + i / 8) (i % 8) true)) ++
  [(40, { type := 2, fault := false, hot := true }), (41, { type := 5, hot := true, fault := false })]

/-- `up` with that Almanac and with car 0 as `f` makes it. -/
def upAlm : State := { up with grp := { up.grp with alm := testAlm, shown := testAlm } }
def upCar (f : Car → Car) : State :=
  { upAlm with grp := { upAlm.grp with cars := upAlm.grp.cars.set 0 (f { configured := true }),
                                       shownCars := upAlm.grp.shownCars.set 0 (f { configured := true }) } }
def upSafe (f : Safe → Safe) : State := upCar fun c => { c with safe := f { configured := true } }
def upPos (f : Pos → Pos) : State := upCar fun c => { c with pos := f { state := .placed } }
def upMotion (f : Motion → Motion) : State := upCar fun c => { c with motion := f { present := true } }
def upDoor (f : Door → Door) : State :=
  upCar fun c => { c with doors := c.doors.set 0 (f { configured := true, axes := Vector.replicate 2 { configured := true } }) }
/-- `upAlm` with bus 0, bank 0 or car link 0 as given, and at a frame. -/
def upBus (b : Bus) : State := { upAlm with io := { upAlm.io with buses := upAlm.io.buses.set 0 b } }
def upBank (b : Bank) : State := { upAlm with io := { upAlm.io with banks := upAlm.io.banks.set 0 b } }
def atFrame (k : Nat) (s : State) : State := { s with grp := { s.grp with frame := k } }

/-- A command of a row, from RING00, with its two checks right. -/
def cmdFor (op : Nat) (p : List Byte) : Cmd :=
  let c : Cmd := { seq := 1, payload := p, payCheck := crc16 p }
  { c with hdrCheck := crc16 (c.header op) }

/-- What `Judged` asks, as one Boolean; the source has consumed nothing yet. -/
def judged (d : CmdDef) (c : Cmd) (s : State) : Bool :=
  s.takes c.src && decide (c.hdrCheck = crc16 (c.header d.opcode)) && decide (s.grp.sources[c.src.val].last = none)
    && lifeAllows s.boot.life d.opcode && decide (c.cut = 0) && decide (c.payCheck = crc16 c.payload) && d.len c.payload.length
    && decide (c.payload.length ≤ 16368) && decide (headerBad s c = none) && decide (d.form (future (s.consumed c)) c.payload = none)

theorem judged_sound {d : CmdDef} {c : Cmd} {s : State} (h : judged d c s = true) : Judged d c s := by
  simp only [judged, Bool.and_eq_true, decide_eq_true_eq] at h
  obtain ⟨⟨⟨⟨⟨⟨⟨⟨⟨h1, h2⟩, h3⟩, h4⟩, h0⟩, h5⟩, h6⟩, h7⟩, h8⟩, h9⟩ := h
  refine ⟨h1, h2, ?_, ?_, h4, h0, h5, h6, h7, h8, h9⟩
  · intro ⟨a, _⟩
    rw [h3] at a
    cases a
  · intro l a
    rw [h3] at a
    cases a

/-! Hypotheses of the statements about banks, buses, links and endpoints. -/

theorem test_hyps_StartUp :
    State.reset.boot.phase = .off ∧ ({ State.reset with boot := { phase := .powered } } : State).boot.phase = .powered
    ∧ ({} : ReleaseIn).cut = none ∧ ({ cut := some 5 } : ReleaseIn).cut = some 5
    ∧ (let s : State := { State.reset with boot := { phase := .ready, pair := { paired := true }, pairSel := true } }
       s.boot.phase = .ready ∧ s.boot.pair.paired = true ∧ s.boot.pairSel = true ∧ s.boot.heldKind = 0) := by
  decide +kernel

/-- A bank whose lane 0 is an input with wire-break detection and a FILTER_LIMIT of 3, its lane 1 an output that runs. -/
def aBank : Bank :=
  { lanes := (((Vector.replicate 8 ({} : Lane)).set 0 { use := .input, limit := 3, wireBreak := true, count := 2, wireCount := 1 }).set 1
      { use := .output, command := true, committed := true, driven := true }).set 2
      { use := .output, thermal := true, thermalOff := true, thermalOn := true, command := true, sinceShut := 3999 },
    supplyLow := false, gateOpen := true, sinceRefresh := 4000, goodUs := 51000, failing := 1 }
/-- Samples beyond every tolerance: on, off, and of a broken wire. -/
def onSample : Sample := { mv := 20000, ua := 5000 }
def offSample : Sample := { mv := 0, ua := 1000 }
def brokenSample : Sample := { mv := 0, ua := 0 }

theorem test_hyps_LaneCountersFollowSamples :
    let y := (upBank aBank).io.banks[0].lanes[0]
    (upBank aBank).boot.phase ≠ .off ∧ y.use = .input ∧ 0 < y.limit ∧ y.count ≤ y.limit ∧ y.wireBreak = true ∧ y.wireCount ≤ y.limit
      ∧ (upBank aBank).io.banks[0].gateOpen = true ∧ (upBank aBank).io.banks[0].lanes[1].use ≠ .input
      ∧ State.reset.boot.phase = .off
      ∧ (∀ x ∈ List.replicate 3 onSample, 14500 < x.mv ∧ 2000 < x.ua) ∧ (List.replicate 3 onSample).length = y.limit
      ∧ (∀ x ∈ List.replicate 3 offSample, x.mv ≤ 6000 ∧ x.ua ≤ 1400) ∧ (∀ x ∈ List.replicate 3 brokenSample, x.ua < 150) := by
  decide +kernel

theorem test_hyps_Banks :
    let s := upBank aBank
    s.boot.phase ≠ .off ∧ s.running = true ∧ s.io.banks[0].supplyLow = false ∧ s.io.banks[0].timerExpired = false
      ∧ 950 * s.io.banks[0].safeTimerMs ≤ (s.io.banks[0].sinceRefresh + 1) * s.grp.frameLen.us
      ∧ s.io.banks[0].lanes[1].use = .output ∧ s.io.banks[0].lanes[2].thermal = true ∧ s.io.banks[0].supplyMissing = false
      ∧ aBank.failing ≠ 0
      ∧ (∀ x ∈ [({ mv := 18000, us := 2100 } : SupplyRun)], x.mv < 18200 ∧ 2100 ≤ x.us)
      ∧ (∀ x ∈ [({ mv := 19300, us := 52000 } : SupplyRun)], 19300 ≤ x.mv ∧ 52000 ≤ x.us ∧ 12500 ≤ x.mv)
      ∧ (∀ x ∈ [({ mv := 11000, us := 50 } : SupplyRun)], x.mv < 11500 ∧ 50 ≤ x.us)
      ∧ (upBank { aBank with timerExpired := true }).io.banks[0].timerExpired = true
      ∧ (upBank { aBank with gateOpen := false }).boot.phase ≠ .off
      ∧ (sameGroup s.io.banks[0].lanes[2].parallel 2 2 && s.io.banks[0].lanes[2].thermal) = true
      ∧ (sameGroup s.io.banks[0].lanes[2].parallel 2 1 && s.io.banks[0].lanes[1].thermal) = false
      ∧ (s.io.banks[0].lanes[2].thermalOff && s.io.banks[0].lanes[2].thermalOn && s.io.banks[0].lanes[2].command) = true
      ∧ State.reset.running = false ∧ State.reset.boot.phase = .off
      ∧ 1000000 ≤ (s.io.banks[0].lanes[2].sinceShut + 1) * s.grp.frameLen.us
      ∧ (let s := upBank { aBank with supplyMissing := true }
         s.running = true ∧ s.io.banks[0].lanes[1].thermal = false ∧ s.io.banks[0].supplyMissing = true) := by
  decide +kernel

/-- A live bus with one frame in its queue at its age limit, one in an attempt, and REC 128. -/
def aFrame : CanFrame := { id := 0x7FF, data := zeros 8 }
def aBus : Bus :=
  { cfg := { mode := .canopen, nominalKbps := 250, nodes := 4, nodeId := 127, heartbeatMs := 10, syncFrames := 1 }, recv := 128, modeStarted := true,
    queue := [{ frame := aFrame }, { frame := { id := 5 }, maxAge := 255 }] }

theorem test_hyps_CanReceives :
    let s := upBus aBus
    s.running = true ∧ s.io.buses[0].live = true ∧ (aFrame.fd = true → s.io.buses[0].cfg.fdEnable = true)
      ∧ 127 < s.io.buses[0].recv ∧ s.ownDup 0 aFrame = false
      ∧ (let s := atFrame 44 (upBus { aBus with errorState := .busOff, recovering := true })
         s.io.buses[0].errorState = .busOff ∧ s.io.buses[0].recovering = true
           ∧ 1408000 ≤ s.io.buses[0].cfg.nominalKbps * ((s.grp.frame + 1 - s.io.buses[0].recoverAt) * s.grp.frameLen.us))
      ∧ (let m : Motion := { present := true, cfg := { refDup := true, refId := 0x7FE } }
         ({ upBus aBus with grp := (upMotion fun _ => m).grp } : State).ownDup 0 aFrame = true) := by
  decide +kernel

theorem test_hyps_CanTransmits :
    let s := upBus aBus
    s.running = true ∧ s.offered s.io.buses[0] = some 1 ∧ s.io.buses[0].mayTry = true ∧ (s.io.buses[0].queue.getD 1 {}).last = false
      ∧ s.io.buses[0].tec + 8 ≤ 255 ∧ s.io.buses[0].tec + (8 + 8 * 2) ≤ 255 ∧ s.io.buses[0].live = true ∧ (∀ e ∈ s.io.buses[0].queue, e.started = false)
      ∧ (let b : Bus := { aBus with queue := [{ frame := aFrame, started := true }] }
         (b.queue.findIdx? fun e => e.started) = some 0 ∧ (b.queue.getD 0 {}).last = false)
      ∧ (let b : Bus := { aBus with queue := [{ frame := aFrame, kind := .reference 0 }] }
         (upBus b).offered b = some 0 ∧ b.mayTry = true ∧ (b.queue.getD 0 {}).kind = .reference 0
           ∧ (b.queue.getD 0 {}).queuedAt = (upBus b).grp.frame) := by
  decide +kernel

theorem test_hyps_CanOffersLowest : (upBus aBus).offered aBus = some 1 := by
  decide +kernel

theorem test_hyps_CanOpenTimes :
    let s := atFrame 80 (upBus aBus)
    s.running = true ∧ s.io.buses[0].canopen = true ∧ s.io.buses[0].modeStarted = true
      ∧ s.io.buses[0].heartbeatAt + s.io.buses[0].cfg.heartbeatMs * s.grp.frameLen.perMs ≤ s.grp.frame
      ∧ s.io.buses[0].cfg.syncFrames ≠ 0 ∧ s.io.buses[0].syncAt + s.io.buses[0].cfg.syncFrames ≤ s.grp.frame
      ∧ s.nodeLostDue s.io.buses[0] 2 = true
      ∧ (let b : Bus := { aBus with cfg := { aBus.cfg with outRefreshMs := 100 } }
         let s : State := atFrame 400 (upBus b)
         let s : State := { s with io := { s.io with buses := s.io.buses.set 1 b,
                                                     map := s.io.map.set 0 { bus := 1, enabled := true, kind := 1, chan := 41, lastSent := some 1 } } }
         s.running = true ∧ s.outRefreshDue s.io.map[0] = true) := by
  decide +kernel

/-- An uplink of car link 0 with UP_SEQ 1, and a downlink of SEQ 1, with their checks. -/
def anUplink : List Byte := let h := zeros 4 ++ leBytes 4 1 ++ zeros 170; h ++ leBytes 2 (crc16 h)
def aDownlink : List Byte := let h := leBytes 4 1 ++ zeros 114; h ++ leBytes 2 (crc16 h)
def upLink (l : CarLink) (e : Endpoint) : State := { upAlm with io := { upAlm.io with links := upAlm.io.links.set 0 l, ends := upAlm.io.ends.set 0 e } }

set_option maxRecDepth 100000 in
theorem test_hyps_CarLinkUplinks :
    let s := atFrame 1 (upLink { cfg := { enabled := true }, phyUp := true, fresh := false, missRun := 7, firstAt := some 0 } {})
    s.running = true ∧ s.io.links[0].active = true ∧ s.io.links[0].phyUp = true ∧ anUplink.length = 180
      ∧ ({ payload := anUplink } : LinkFrame).fcsGood = true ∧ ({ payload := anUplink } : LinkFrame).etherType = 0x88B5
      ∧ ({ fcsGood := false } : LinkFrame).fcsGood = false ∧ ({ etherType := 0x0800 } : LinkFrame).etherType ≠ 0x88B5
      ∧ fieldAt anUplink 178 2 = crc16 (anUplink.take 178) ∧ byteAt anUplink 15 = 0
      ∧ seqAdvances (fieldAt anUplink 4 4) s.io.links[0].upSeq = true ∧ s.io.links[0].pendingUp = none
      ∧ fieldAt (zeros 180) 178 2 ≠ crc16 ((zeros 180).take 178)
      ∧ 7 ≤ s.io.links[0].missRun ∧ s.io.links[0].linkDown = false ∧ s.io.links[0].pendingUp = none ∧ s.io.links[0].ends s.grp.frameLen (s.grp.frame + 1) = true := by
  decide +kernel

set_option maxRecDepth 100000 in
theorem test_hyps_Endpoints :
    let s := upLink {} { started := true, missed := 4003 }
    ({ payload := aDownlink } : LinkFrame).fcsGood = true ∧ ({ payload := aDownlink } : LinkFrame).etherType = 0x88B5
      ∧ aDownlink.length = 120 ∧ fieldAt aDownlink 118 2 = crc16 (aDownlink.take 118)
      ∧ seqAdvances (fieldAt aDownlink 0 4) s.io.ends[0].lastSeq = true ∧ s.io.ends[0].lossLatched = false
      ∧ fieldAt (zeros 120) 118 2 ≠ crc16 ((zeros 120).take 118) ∧ s.io.ends[0].started = true ∧ s.io.ends[0].got = false
      ∧ 4003 ≤ s.io.ends[0].missed := by
  decide +kernel

/-! Hypotheses of the statements about cars, doors and the safeguard. -/

theorem test_hyps_PositionEvents :
    (let s := upPos fun p => { p with cfg := { aps := true, apsReject := 1 }, rejectRun := 1 }
     let p := (s.car 0).pos
     s.running = true ∧ p.cfg.aps = true ∧ p.apsOut = false ∧ p.rejectRun = p.cfg.apsReject ∧ bit p.raised 1 = false)
    ∧ (let s := upPos fun p => { p with cfg := { aps := true, enc := true, apsMaxAge := 32 }, apsAge := 33 }
       let p := (s.car 0).pos
       p.cfg.aps = true ∧ p.apsOut = false ∧ p.apsAge = p.cfg.apsMaxAge + 1 ∧ bit p.raised 2 = false ∧ p.cfg.enc = true ∧ p.encOut = false)
    ∧ (let s := upPos fun p => { p with cfg := { aps := true, apsMaxAge := 1 }, apsAge := 2 }
       let p := (s.car 0).pos
       p.cfg.enc = false ∧ p.state ≠ .unconfigured ∧ bit p.raised 8 = false)
    ∧ (let s := upPos fun p => { p with state := .correcting, corrTravel := -(32000 * 65536), corrBlocked := false }
       let p := (s.car 0).pos
       p.state = .correcting ∧ p.corrLimitQ ≤ p.corrTravel.natAbs ∧ bit p.raised 7 = false)
    ∧ (let s := upCar fun c => { c with pos := { cfg := { enc := true, autoCorrect := true }, state := .unplaced }, motion := { present := true } }
       (s.car 0).autoCorrectDue = true)
    ∧ (let p : Pos := { cfg := { enc := true, autoLearn := true }, state := .placed, zones := #v[true, false],
                        table := [(0, { written := true, served := true }), (2, { written := true, served := true, level := 1000 })] }
       let s := upCar fun c => { c with pos := p, motion := { present := true } }
       (s.car 0).autoLearnDue = true)
    ∧ (let x : Settle := { landing := 1, side := 0, band := 7 }
       let s := atFrame 2000 (upPos fun p => { p with settle := some x })
       (s.car 0).pos.settle = some x ∧ x.at_ + 500 * s.grp.frameLen.perMs ≤ s.grp.frame ∧ x.good = true ∧ (s.car 0).pos.state = .placed)
    ∧ (let x : Settle := { good := false }
       x.good = false)
    ∧ (let s := upPos fun p => { p with relevelRun := 4 }
       4 ≤ (s.car 0).pos.relevelRun ∧ (s.car 0).pos.relevel = false) := by
  decide +kernel

theorem test_hyps_LearningTripEnds :
    let l : Learn := { failed := true }
    let s := upPos fun p => { p with state := .learning, learn := some l }
    s.running = true ∧ (s.car 0).pos.learn = some l ∧ (s.car 0).learnDue = true ∧ l.failed = true
      ∧ (let l : Learn := { done := true, shaft := false, scale := true, apsFrom := some 0, apsFar := 200000, encFar := 200000 }
         let s := upPos fun p => { p with state := .learning, cfg := { encScale := 65536 }, learn := some l }
         (s.car 0).pos.learn = some l ∧ (s.car 0).learnDue = true ∧ l.done = true ∧ l.failed = false ∧ l.shaft = false ∧ l.scale = true
           ∧ ((s.car 0).pos.learnScale l).isSome = true) := by
  decide +kernel

theorem test_hyps_ProfileEvents :
    (let s := upMotion fun m => { m with followRun := 1, cfg := { followFrames := 1 }, phase := .running }
     let m := (s.car 0).motion
     s.running = true ∧ m.present = true ∧ m.followRun = m.cfg.followFrames ∧ bit m.raised 1 = false ∧ m.phase = .running)
    ∧ (let s := upMotion fun m => { m with missed := 4 }
       (s.car 0).motion.missed = 4 ∧ bit (s.car 0).motion.raised 5 = false)
    ∧ (let s := upMotion fun m => { m with statusAge := 17, cfg := { maxAge := 16 }, phase := .running }
       (s.car 0).motion.statusAge = (s.car 0).motion.cfg.maxAge + 1 ∧ bit (s.car 0).motion.raised 3 = false
         ∧ (s.car 0).motion.phase = .running)
    ∧ (let s := upMotion fun m => { m with statusAge := 17, cfg := { maxAge := 16 } }
       (s.car 0).motion.phase ≠ .running)
    ∧ (let s := atFrame 200 (upMotion fun m => { m with phase := .starting, cfg := { enableMs := 50 } })
       s.startTimeoutDue (s.car 0) = true)
    ∧ (let s := atFrame 200 (upMotion fun m => { m with phase := .settling, cfg := { settleMs := 50 } })
       (s.car 0).motion.phase = .settling
         ∧ (s.car 0).motion.since + (s.car 0).motion.cfg.settleMs * s.grp.frameLen.perMs ≤ s.grp.frame)
    ∧ (let s := upCar fun c => { c with motion := { present := true, phase := .stopping, targetLanding := some 255 }, safe := { set := true } }
       (s.car 0).motion.phase = .stopping ∧ (s.sgOf 0).set = true ∧ (s.car 0).safe.req.set = false ∧ (s.car 0).motion.kind = .normal
         ∧ (s.car 0).motion.targetLanding = some 255)
    ∧ (let s := atFrame 40000 (upMotion fun m => { m with dwellFrom := some 0, cfg := { dwellMs := 10000 } })
       (s.car 0).motion.dwellFrom = some 0 ∧ 0 + (s.car 0).motion.cfg.dwellMs * s.grp.frameLen.perMs ≤ s.grp.frame) := by
  decide +kernel

/-- A dispatcher in mode 2, a registration that waits on channel 0xF0000, a hall call on 42, a request point on 43 and car 0 in service. -/
def upDisp (mode : Nat) : State :=
  let alm : Almanac := testAlm ++ [(42, { type := 9, hot := true, fault := false, value := 1 }),
    (43, { type := 3, hot := true, fault := false, value := 2 + 65536 * 255 }),
    (0xF0000, { type := 8, fault := false, binding := 512, value := 1 }), (0xF0001, { type := 8, fault := false, value := 5 })]
  let s := upCar fun c => { c with service := .normal }
  let d : Disp := { cfg := { mode := mode, cars := 1 }, terminals := [(1023, { enabled := true, landing := 1, point := 43, lastSeq := some 0 })] }
  { s with grp := { s.grp with alm := alm, shown := alm, disp := d } }

/-- The same with landings 0 and 1 that car 0 serves. -/
def upServed : State :=
  let s := upDisp 1
  let p : Pos := { state := .placed, table := [(0, { written := true, served := true }), (2, { written := true, served := true, level := 1000 })] }
  { s with grp := { s.grp with cars := s.grp.cars.set 0 { configured := true, service := .normal, pos := p, motion := { present := true } },
                               alm := Mem.set Entry.free s.grp.alm 0xF0000 { type := 8, fault := false, binding := 256, value := 1 } } }

theorem test_hyps_DispatcherEvents :
    (let s := upDisp 1
     s.running = true ∧ s.grp.safeState = false ∧ s.regResult 1 2 0 ≠ 0x01 ∧ (s.entry 0xF0000).type = 8 ∧ (s.entry 0xF0000).regState = 1 ∧ s.regMode = true ∧ s.cancelStaged 0xF0000 = false
       ∧ s.terminal 1023 = some { enabled := true, landing := 1, point := 43, lastSeq := some 0 }
       ∧ s.requestWord { enabled := true, landing := 1, point := 43, lastSeq := some 0 } = some (2 + 65536 * 255)
       ∧ bits (2 + 65536 * 255) 23 16 ≠ 0 ∧ (s.entry 0xF0001).type = 8 ∧ 5 ≤ (s.entry 0xF0001).regState
       ∧ (s.entry 0xF0001).mark + s.msFrames s.grp.disp.cfg.retainMs ≤ s.grp.frame + 1 ∧ (s.entry 41).hot = true)
    ∧ (let s := upServed
       s.regResult 1 0 0 = 0x01 ∧ (s.carsForReg (s.entry 0xF0000)) ≠ [] ∧ [(0 : CarId)].Nodup ∧ s.carsForHall (s.entry 42) ≠ [])
    ∧ (let s := upDisp 0
       (s.entry 42).type = 9 ∧ bit (s.entry 42).value 0 = true ∧ bit (s.entry 42).value 1 = false ∧ s.hallMode = true)
    ∧ (let s : State := { upAlm with grp := { upAlm.grp with alm := [(0, { type := 6 })] } }
       (s.entry 0).hot = false ∧ (s.entry 0).type = 6) := by
  decide +kernel

theorem test_hyps_DoorMoves :
    (let s := upDoor fun d => { d with phase := .closing, tripped := 2 }
     s.running = true ∧ s.grp.safeState = false ∧ (s.door 0 0).tripped ≠ 0 ∧ (s.door 0 0).phase = .closing ∧ (s.door 0 0).refMove = false ∧ (s.door 0 0).nudging = false)
    ∧ (let s := upDoor fun d => { d with phase := .closing, refMove := true, tripped := 2 }
       (s.door 0 0).tripped ≠ 0 ∧ (s.door 0 0).phase = .closing ∧ (s.door 0 0).refMove = true)
    ∧ (let s := upDoor fun d => { d with phase := .opening, tripped := 32 }
       (s.door 0 0).tripped ≠ 0 ∧ (s.door 0 0).phase = .opening)
    ∧ (let s := upDoor fun d => { d with phase := .reversing, tripped := 32 }
       (s.door 0 0).tripped ≠ 0 ∧ (s.door 0 0).phase ≠ .closing ∧ (s.door 0 0).phase ≠ .opening)
    ∧ (let s := upDoor fun d => { d with phase := .opening, goal := .toOpen, ref := { s := d.cfg.width * unitS } }
       let d := s.door 0 0
       s.running = true ∧ d.ready = true ∧ d.goal = .toOpen ∧ d.backOff = false ∧ d.ref.v = 0 ∧ d.ref.a = 0
         ∧ d.ref.s = (if d.backOff then d.backTo else (d.cfg.width : Int)) * unitS)
    ∧ (let s := upDoor fun d => { d with phase := .opening, goal := .toOpen, backOff := true }
       let d := s.door 0 0
       d.ready = true ∧ d.goal = .toOpen ∧ d.backOff = true ∧ d.ref.v = 0 ∧ d.ref.a = 0
         ∧ d.ref.s = (if d.backOff then d.backTo else (d.cfg.width : Int)) * unitS)
    ∧ (let s := atFrame 2000 (upDoor fun d => { d with phase := .opened, referenced := true, dwellMs := some 500, dwellFrom := some 0 })
       let d := s.door 0 0
       d.ready = true ∧ d.dwellMs = some 500 ∧ d.dwellFrom = some 0 ∧ 0 + s.msFrames 500 ≤ s.grp.frame ∧ d.phase = .opened ∧ d.goal = .stay
         ∧ (s.car 0).mayClose d = true ∧ d.referenced = true)
    ∧ (let s := atFrame 2000 (upDoor fun d => { d with backOff := true, dwellMs := some 500, dwellFrom := some 0 })
       let d := s.door 0 0
       d.ready = true ∧ d.dwellMs = some 500 ∧ d.dwellFrom = some 0 ∧ d.backOff = true ∧ d.phase = .unreferenced ∧ d.referenced = false
         ∧ d.autoOff = false ∧ d.suspended = false)
    ∧ (let s := upDoor fun d => { d with autoOff := true }
       (s.door 0 0).autoOff = true)
    ∧ (let s := upDoor fun d => { d with suspended := true }
       (s.door 0 0).suspended = true)
    ∧ (let s := atFrame 480 (upDoor fun d => { d with goal := .toOpen, still := false })
       let d := s.door 0 0
       s.running = true ∧ s.grp.safeState = false ∧ d.ready = true ∧ d.goal ≠ .stay ∧ d.laValid = false ∧ d.still = false ∧ d.moveAt + s.msFrames 120 ≤ s.grp.frame) := by
  decide +kernel

/-- `upDoor` with CLOSED_POINT on channel 41, a SET entry that is on. -/
def upClosed (f : Door → Door) : State :=
  let s := upDoor fun d => f { d with cfg := { closedPoint := 41 } }
  { s with grp := { s.grp with alm := Mem.set Entry.free s.grp.alm 41 { type := 5, hot := true, fault := false, value := 1 } } }

theorem test_hyps_DoorCloses :
    (let s := upClosed fun d => { d with phase := .closing, goal := .toClosed, refMove := true }
     let d := s.door 0 0
     d.ready = true ∧ d.goal = .toClosed ∧ s.refTrue d.cfg.closedPoint = true ∧ d.openAfter = false ∧ d.refMove = true)
    ∧ (let s := upClosed fun d => { d with phase := .closing, goal := .toClosed, openAfter := true, referenced := true }
       let d := s.door 0 0
       d.ready = true ∧ d.goal = .toClosed ∧ s.refTrue d.cfg.closedPoint = true ∧ d.openAfter = true ∧ d.referenced = true
         ∧ d.ref.v = 0 ∧ d.ref.a = 0 ∧ d.ref.s = 0) := by
  decide +kernel

theorem test_hyps_DoorFaults :
    (let s := upDoor fun d => { d with phase := .closing, gearRun := 2 }
     (s.door 0 0).gearSyncDue = true)
    ∧ (let s := upDoor fun d => { d with phase := .closing, axes := d.axes.set 0 { configured := true, missRun := 5 } }
       (s.door 0 0).reportLostDue = true)
    ∧ (let s := upDoor fun d => { d with phase := .closing, goal := .toClosed, refMove := true, cfg := { closedPoint := 41 } }
       s.referenceFailedDue (s.door 0 0) = true)
    ∧ (let s := atFrame 2000 (upDoor fun d => { d with phase := .closing, goal := .toClosed, zeroAt := some 0, cfg := { closedPoint := 41 } })
       s.notClosedDue (s.door 0 0) = true ∧ (s.door 0 0).nudging = false)
    ∧ (let s := atFrame 2000 (upDoor fun d => { d with phase := .closing, goal := .toClosed, zeroAt := some 0, nudging := true,
                                                       cfg := { closedPoint := 41, nudgeCount := 1 } })
       s.notClosedDue (s.door 0 0) = true ∧ (s.door 0 0).nudging = true ∧ (s.door 0 0).cfg.nudgeCount ≤ (s.door 0 0).notClosedRun + 1)
    ∧ (let s := atFrame 2000 (upDoor fun d => { d with phase := .closing, goal := .toClosed, zeroAt := some 0, nudging := true,
                                                       cfg := { closedPoint := 41, nudgeCount := 2 } })
       s.notClosedDue (s.door 0 0) = true ∧ (s.door 0 0).notClosedRun + 1 < (s.door 0 0).cfg.nudgeCount) := by
  decide +kernel

theorem test_hyps_LockoutsLatch :
    let s := upSafe fun x => { x with disc := Vector.replicate 5 2, noSource := 5, xSpeedRun := 1, termRun := 2, lifted := true,
                                      mirrorBad := #v[true, true], liftBad := #v[true, true], outs := Vector.replicate 6 { cmd := true } }
    let x := (s.car 0).safe
    s.running = true ∧ (∀ p : Fin 5, x.discDue p = true) ∧ x.sourceDue = true ∧ x.xcheckDue = true ∧ x.terminalDue = true
      ∧ (∀ ch : Side, x.mirrorDue ch = true ∧ x.liftDue ch = true) ∧ x.causes = 0
      ∧ (let s := upSafe fun x => { x with disc := Vector.replicate 5 2, causes := 4, raised := 4, told := 1 }
         (s.car 0).safe.discDue 1 = true ∧ (s.car 0).safe.raised ≠ 0 ∧ (s.car 0).safe.causes ≠ 0 ∧ bit (s.car 0).safe.told 0 = true) := by
  decide +kernel

theorem test_hyps_ModuleLockouts :
    (let s := upSafe id
     s.running = true ∧ s.holds = true ∧ (s.car 0).configured = true ∧ (s.car 1).configured = false)
    ∧ (let s : State := { up with mem := { state := .vigil }, boot := { up.boot with pair := { paired := true } } }
       s.running = true ∧ s.holds = false ∧ s.boot.pair.paired = true ∧ s.mem.state = .vigil) := by
  decide +kernel

theorem test_hyps_SafetyTests :
    (let s := upSafe fun x => { x with outs := x.outs.set 5 { testing := true } }
     (s.car 0).safe.outs[5].testing = true)
    ∧ (let b : BrakeTest := { step := 4, testMs := 500 }
       let s := atFrame 2000 (upSafe fun x => { x with test := some b })
       (s.car 0).safe.test = some b ∧ b.step = 4 ∧ b.since + s.msFrames b.testMs ≤ s.grp.frame)
    ∧ (let b : BrakeTest := { step := 3 }
       let s := atFrame 8000 (upSafe fun x => { x with test := some b })
       (s.car 0).safe.test = some b ∧ b.step = 3 ∧ b.since + s.msFrames 2000 ≤ s.grp.frame)
    ∧ (let b : BrakeTest := { step := 1 }
       let s := atFrame 200 (upCar fun c => { c with motion := { cfg := { enableMs := 50 } }, safe := { test := some b } })
       (s.car 0).safe.test = some b ∧ b.step = 1 ∧ b.since + s.msFrames (s.car 0).motion.cfg.enableMs ≤ s.grp.frame)
    ∧ (let s := atFrame 40001 (upSafe fun x => { x with window := some 0 })
       (s.car 0).safe.window = some 0 ∧ 0 + s.windowFrames < s.grp.frame) := by
  decide +kernel


/-! Hypotheses of the statements about the pair, resets and time. -/

/-- A member of a pair, module B, in a given state. -/
def upPair (f : Member → Member) : State :=
  { upAlm with boot := { phase := .running, pair := { paired := true }, pairSel := true }, mem := f {} }

theorem test_hyps_HoldChangesHands :
    (let s := upPair fun m => { m with state := .vigil, vigilReady := true }
     s.running = true ∧ s.mem.state = .vigil ∧ s.mem.vigilReady = true)
    ∧ (let s := upPair fun m => { m with state := .vigil }
       s.running = true ∧ ¬ (s.mem.state = .vigil ∧ s.mem.vigilReady = true))
    ∧ (let s := atFrame 8000 (upPair fun m => { m with state := .syncing })
       s.running = true ∧ s.boot.pair.paired = true ∧ s.boot.pairSel = true ∧ s.mem.state = .syncing ∧ s.mem.holdiQuiet = true
         ∧ s.msFrames s.boot.pair.coldWaitMs ≤ s.grp.frame)
    ∧ (let s := upPair fun m => { m with holdiQuiet := false }
       s.running = true ∧ s.mem.holdiQuiet = false)
    ∧ (let s := upPair fun m => { m with state := .holder, releaseDue := some 34 }
       s.running = true ∧ s.boot.pair.paired = true ∧ s.holds = true ∧ s.mem.releaseDue = some 34) := by
  decide +kernel

theorem test_hyps_PairConflicts :
    (let s := upPair fun m => { m with state := .holder, contention := true }
     s.running = true ∧ s.boot.pair.paired = true ∧ s.holds = true ∧ s.mem.contention = true)
    ∧ (let s := atFrame 8 (upPair fun m => { m with state := .holder, contention := true })
       let s : State := { s with boot := { s.boot with pairSel := false } }
       s.running = true ∧ s.holds = true ∧ s.mem.contention = true ∧ s.boot.pairSel = false
         ∧ s.msFrames 2 ≤ s.grp.frame + 1 - s.mem.contentionAt ∧ ¬ (s.mem.partnerKnown = true ∧ s.mem.partnerB = true))
    ∧ (let s := atFrame 8 (upPair fun m => { m with state := .holder, contention := true, partnerKnown := true, partnerB := true })
       let s : State := { s with boot := { s.boot with pairSel := false } }
       s.running = true ∧ s.holds = true ∧ s.mem.contention = true ∧ s.boot.pairSel = false
         ∧ s.msFrames 2 ≤ s.grp.frame + 1 - s.mem.contentionAt ∧ s.mem.partnerKnown = true ∧ s.mem.partnerB = true)
    ∧ (let s : State := { upSafe id with boot := { phase := .running, pair := { paired := true } }, mem := { state := .holder, sinceLeap := some 0 } }
       let r : ReleaseRec := { cause := 34, causes := (Vector.replicate 8 0).set 0 4 }
       s.running = true ∧ s.boot.pair.paired = true ∧ s.holds = true ∧ s.mem.sinceLeap = some 0 ∧ r.late = false
         ∧ s.mem.received = none ∧ (s.car 0).configured = true ∧ bit r.causes[0] 2 = true)
    ∧ (let s := upPair fun m => { m with state := .vigil }
       s.follows = true ∧ s.mem.state = .vigil)
    ∧ (let s := upPair fun m => { m with state := .syncing }
       s.running = true ∧ s.boot.pair.paired = true ∧ s.boot.pairSel = true ∧ s.mem.state ≠ .vigil)
    ∧ (let s := upPair fun m => { m with state := .vigil }
       s.mem.state = .vigil ∧ true = s.boot.pairSel ∧ false ≠ s.boot.pairSel)
    ∧ (upPair fun m => { m with state := .holder }).mem.state = .holder := by
  decide +kernel

theorem test_hyps_PairFollows :
    (let s := upPair fun m => { m with state := .vigil, stateDue := true }
     s.follows = true ∧ s.mem.gotImage = false ∧ s.mem.stateDue = true ∧ s.mem.gotDecision = false ∧ s.mem.state = .vigil)
    ∧ (let s := upPair fun m => { m with state := .vigil, gotImage := true, gotDecision := true }
       let p : StatePart := {}
       s.mem.gotImage = true ∧ s.mem.gotDecision = true ∧ s.follows = true ∧ p.group.frame = s.grp.frame ∧ s.mem.stateDue = false
         ∧ s.mem.gotState = false)
    ∧ (let s := upPair fun m => { m with state := .vigil, lockRun := 63, unlockRun := 3 }
       s.running = true ∧ s.boot.pair.paired = true ∧ s.follows = true ∧ 63 ≤ s.mem.lockRun ∧ 3 ≤ s.mem.unlockRun
         ∧ (200 : Int).natAbs ≤ 200 ∧ 200 < (-201 : Int).natAbs)
    ∧ (let s := upPair fun m => { m with state := .holder }
       s.running = true ∧ s.follows = false ∧ s.boot.pair.paired = true ∧ s.holds = true ∧ VigilCause.late ≠ .overflow true)
    ∧ (let s := upPair fun m => { m with state := .syncing, locked := true, completeRun := 64 }
       s.follows = true ∧ s.mem.state = .syncing ∧ s.mem.locked = true ∧ s.mem.afterDrill = false ∧ 64 ≤ s.mem.completeRun
         ∧ s.mem.configMatch = true ∧ s.mem.selConflict = false) := by
  decide +kernel

theorem test_hyps_Resets :
    up.boot.phase ≠ .off ∧ State.reset.boot.phase = .off ∧ up.running = true ∧ up.boot.pair.paired = false
    ∧ (let s := upPair fun m => { m with state := .holder }
       s.running = true ∧ s.boot.pair.paired = true ∧ s.mem.state = .holder ∧ s.mem.releaseDue = none)
    ∧ (let s := upPair fun m => { m with state := .syncing }
       s.running = true ∧ s.boot.pair.paired = true ∧ s.mem.state = .syncing)
    ∧ (up.boot.cacheCorrected < 2 ^ 32 ∧ up.boot.dramCorrected < 2 ^ 32) := by
  decide +kernel

/-- R569: the word of zeros at address 0 is a codeword; with one symbol wrong it is corrected, and with four it is not; so is a
word read at an address that differs in one symbol of its address fold. -/
theorem test_words : ({} : MemWord).read = .clean ∧ ({ data := 9 :: List.replicate 31 0 } : MemWord).read = .corrected := by
  decide +kernel
theorem test_word_bad : ({ data := [1, 2, 3, 4] ++ List.replicate 28 0 } : MemWord).read = .uncorrectable := by
  decide +kernel
theorem test_word_address : ({ addr := 1 } : MemWord).read = .uncorrectable := by
  decide +kernel

/-- R569: 32 symbols with their check symbols for address 19,088,743, and the same with two data symbols and one check symbol wrong. -/
def aWord : MemWord := { addr := 0x1234567, data := (List.range 32).map fun i => byte (i * 37 + 5), check := [167, 139, 96, 72, 85, 241] }
theorem test_word_clean : aWord.read = .clean := by
  decide +kernel
theorem test_word_three :
    ({ aWord with data := (aWord.data.set 3 9).set 17 200, check := aWord.check.set 2 1 } : MemWord).read = .corrected := by
  decide +kernel

theorem test_hyps_CalendsAndTime :
    (up.running = true ∧ up.holds = true ∧ up.mem.releaseDue = none ∧ up.contends = false) ∧ State.reset.running = false
    ∧ (let s : State := { up with grp := { fis := 4000 } }
       s.running = true ∧ s.grp.fis ≠ 0xFFFF ∧ s.grp.frameLen.perSecond ≤ s.grp.fis)
    ∧ (let s : State := { up with grp := { fis := 3999 } }
       s.grp.fis < s.grp.frameLen.perSecond)
    ∧ ({ isOpen := true } : Recorder).isOpen = true ∧ ({} : Recorder).isOpen = false := by
  decide +kernel

theorem test_hyps_Sound : Sound State.reset ∧ Sound up := by
  refine ⟨⟨?_, ?_, ?_, ?_, ?_, ?_, ?_⟩, ⟨?_, ?_, ?_, ?_, ?_, ?_, ?_⟩⟩ <;> decide +kernel

theorem test_hyps_TestPort :
    (up.boot.phase ≠ .off ∧ up.boot.life = .issued ∧ up.running = true)
    ∧ ¬ (State.reset.boot.phase ≠ .off ∧ (State.reset.boot.life = .maker ∨ State.reset.boot.life = .issued ∨ State.reset.boot.phase = .scanHold))
    ∧ (let s : State := { up with grp := { kernels := (Vector.replicate 32 ({} : Kernel)).set 0 { state := .loaded } } }
       (s.kernel 0).state ≠ .empty)
    ∧ (let s : State := { up with boot := { phase := .running, life := .returned } }
       s.boot.phase ≠ .off ∧ (s.boot.life = .maker ∨ s.boot.life = .returned)) := by
  decide +kernel

/-! Hypotheses of the statements about the host port. -/

/-- A slot of a command of `sys.nop` with no payload, with its checks, in 64 bytes. -/
def nopSlot : List Byte := let h := leBytes 2 0x0100 ++ zeros 4 ++ [0xFF, 0] ++ leBytes 4 1; h ++ leBytes 2 (crc16 h) ++ leBytes 2 (crc16 []) ++ zeros 48
def modRing0 (f : Ring → Ring) (s : State) : State := s.modRing 0 f

theorem test_hyps_RingWrites :
    (let s := up
     let q := s.host.rings[0]
     s.nativeUp = true ∧ q.prodOk 16 = true ∧ q.prodOk 17 = false ∧ q.consOk 1 = false ∧ q.use ≠ .off ∧ s.host.rings[63].use = .off
       ∧ s.windowSlot 0 256 = (0, 1) ∧ q.use = .command ∧ q.published 1 = false ∧ Mem.wf 0 q.data = true)
    ∧ (let s := up.modRing 1 fun q => { q with prod := 31, cons := 15 }
       s.host.rings[1].consOk 31 = true ∧ s.host.rings[1].consOk 0 = false)
    ∧ (let s := up.modRing 0 fun q => { q with prod := 1 }
       s.windowSlot 0 0 = (0, 0) ∧ s.host.rings[0].use ≠ .off ∧ s.host.rings[0].published 0 = true)
    ∧ (let s : State := { up with host := { up.host with pageRing := Vector.replicate 4 63 } }
       s.nativeUp = true ∧ (s.windowSlot 3 0).1 = 63 ∧ s.host.rings[63].use = .off)
    ∧ State.reset.nativeUp = false
    ∧ (let s : State := { up with boot := { phase := .running, mode := 1 } }
       s.boot.mode ≠ 0)
    ∧ up.boot.mode = 0 := by
  decide +kernel

theorem test_hyps_RingBytesCanonical : ∀ r : RingId, Mem.wf 0 up.host.rings[r.val].data = true := by
  decide +kernel

/-- A module in UL-40 mode whose image serves car 0. -/
def upImage : State :=
  let s := upCar fun c => { c with ul40 := { enabled := true } }
  { s with boot := { s.boot with mode := 1 } }

theorem test_hyps_ImageAccesses :
    upImage.imageUp 0 = true ∧ upImage.imageUp 7 = false ∧ imageWs (0x0B * 2 / 2 % 64) = true ∧ imageWs (0x14 * 2 / 2 % 64) = true := by
  decide +kernel

theorem test_hyps_RegisterWrites : upImage.imageUp 0 = true ∧ up.nativeUp = true ∧ upImage.boot.mode = 1 ∧ up.boot.mode = 0 := by
  decide +kernel

/-- A module with a NET_KEY that listens on the network, and with session 1 open where `f` says so. -/
def aKey : List Byte := List.replicate 32 7
def upNet (f : Session → Session) : State :=
  let x : Session := f { isOpen := true, key := aKey, moduleNonce := zeros 16, hostNonce := zeros 16, rxIndex := 5 }
  { up with boot := { phase := .running, net := { enabled := true } }, nv := { up.nv with netKey := some aKey },
            grp := { up.grp with sessions := up.grp.sessions.set 0 x } }
/-- A datagram of session 1 with its MAC. -/
def aDatagram (kind index : Nat) (data : List Byte) : Datagram :=
  { session := 1, index := index, data := data, mac := hmacSha256 aKey (zeros 32 ++ datagramHead kind 1 index data) }

set_option maxRecDepth 100000 in
theorem test_hyps_NetworkOpen :
    let d : Datagram := { data := zeros 16, mac := hmacSha256 aKey (zeros 32 ++ datagramHead 0 0 0 (zeros 16)) }
    let s := upNet id
    s.netUp = true ∧ s.nv.netKey = some aKey ∧ s.freeSession = some 1 ∧ d.magic = 0x4758 ∧ d.session = 0 ∧ d.data.length = 16
      ∧ d.mac = hmacSha256 aKey (zeros 32 ++ datagramHead 0 0 d.index d.data) ∧ s.authSession 2 d = none := by
  decide +kernel

set_option maxRecDepth 100000 in
theorem test_hyps_NetworkSlots :
    let s := upNet id
    s.netUp = true ∧ s.authSession 2 (aDatagram 2 4 []) = some 0 ∧ 4 < s.grp.sessions[0].rxIndex
      ∧ s.authSession 2 (aDatagram 2 6 []) = some 0 ∧ s.grp.sessions[0].rxIndex < 6
      ∧ s.authSession 3 (aDatagram 3 0 []) = some 0 ∧ s.host.held[(Source.ofSession 0).val] = []
      ∧ s.authSession 4 (aDatagram 4 0 []) = some 0 ∧ s.authSession 2 {} = none := by
  decide +kernel

set_option maxRecDepth 100000 in
theorem test_hyps_NetworkChain :
    let s := (upNet id).modSource (Source.ofSession 0) fun x => { x with asm := [0, 1, 0, 0, 0, 0x3F] }
    let d := aDatagram 2 5 (zeros 1024)
    s.netUp = true ∧ s.authSession 2 d = some 0 ∧ d.data.length = 1024 ∧ d.index = s.grp.sessions[0].rxIndex
      ∧ s.grp.sources[(Source.ofSession 0).val].asm ≠ []
      ∧ fieldAt (s.grp.sources[(Source.ofSession 0).val].asm ++ d.data) 4 2 ≤ 16368
      ∧ s.grp.sources[(Source.ofSession 0).val].asm.length + 1024
          < 16 + fieldAt (s.grp.sources[(Source.ofSession 0).val].asm ++ d.data) 4 2 := by
  decide +kernel

theorem test_hyps_NetworkTimes :
    (let s := atFrame 240000 (upNet fun x => { x with unacked := [(0, [])], resends := 20 })
     s.netUp = true ∧ s.grp.sessions[0].isOpen = true ∧ s.grp.sessions[0].resentAt + s.msFrames 50 ≤ s.grp.frame
       ∧ s.grp.sessions[0].unacked = [(0, [])] ∧ 20 ≤ s.grp.sessions[0].resends
       ∧ s.grp.sessions[0].lastValid + s.msFrames 60000 ≤ s.grp.frame)
    ∧ (upNet id).host.authAt ≠ some (upNet id).time.1
    ∧ (let s := upNet id
       let s : State := { s with host := { s.host with authAt := some s.time.1 } }
       s.netUp = true ∧ s.host.authAt = some s.time.1) := by
  decide +kernel

set_option maxRecDepth 100000 in
theorem test_hyps_RingsServed :
    (let s := up.modRing 0 fun q => q.publish nopSlot
     let q := s.host.rings[0]
     let b := q.slotBytes q.cons
     s.running = true ∧ s.holds = true ∧ q.use = .command ∧ q.used = 1 ∧ s.grp.sources[(Source.ofRing 0).val].asm = []
       ∧ headerPasses b = true ∧ 16 + fieldAt b 4 2 ≤ b.length ∧ s.startRoom (Source.ofRing 0) b = true
       ∧ (commandTable (fieldAt b 0 2)).isSome = true)
    ∧ (let s := up.modRing 5 fun q => { q with use := .dataIn }
       s.running = true ∧ s.holds = true ∧ s.host.rings[5].use = .dataIn)
    ∧ (let s := up.modSource 3 fun x => { x with asm := [0] }
       let s := atFrame 4000 s
       s.running = true ∧ s.grp.sources[3].asm ≠ [] ∧ s.grp.sources[3].asmAt + s.msFrames 1000 ≤ s.grp.frame
         ∧ (3 : Source).ring = some 3)
    ∧ (let s : State := { up with host := { up.host with held := up.host.held.set 1 [{ bytes := zeros 20 }] } }
       let q := s.host.rings[1]
       s.holds = true ∧ s.host.held[(Source.ofRing 1).val] = [{ bytes := zeros 20 }] ∧ q.use = .reply ∧ 0 < q.room
         ∧ zeros 20 ≠ [] ∧ (zeros 20).length ≤ q.size)
    ∧ (let j : Job := { id := 3, posted := 240 }
       let s : State := { up with grp := { jobs := [j] } }
       s.holds = true ∧ s.findJob (fun j => j.id = 3) = some j ∧ j.posted + 16 ≤ 256 ∧ s.findJob (fun j => j.id = 4) = none) := by
  decide +kernel

/-! Hypotheses of the statements about the engines. -/

/-- Kernel slot 0 runs with regions of 512 words in X and Y, RING05 and RING06 its rings; engine 0 is in context `c`. -/
def upEng (c : EngCtx) (f : Engine → Engine) : State :=
  let h : KernelHeader := { frameCycles := 100, bgCycles := 100, handlerCycles := 100, progWords := 512, xWords := 512, yWords := 512,
                            ringIn := 5, ringOut := 6, outputs := [30], stopLimit := 3 }
  let k : Kernel := { state := .running, hdr := h }
  let s := upAlm.modRing 5 fun q => { q with use := .dataIn, prod := 1 }
  let s := s.modRing 6 fun q => { q with use := .dataOut }
  { s with grp := { s.grp with kernels := s.grp.kernels.set 0 k, engines := s.grp.engines.set 0 (f { ctx := c }) } }

theorem test_hyps_EngCalm :
    EngCalm (upEng (.frame 0) id) 0 ∧ EngCalm (upEng (.bg 0) id) 0 ∧ EngCalm (upEng (.ring 0) id) 0 ∧ EngCalm (upEng .idle id) 0
      ∧ EngCalm (upEng (.mbx 0) fun g => { g with queue := [.idle] }) 0 := by
  refine ⟨⟨?_, ?_, ?_, ?_, ?_, .inr ⟨0, .inl ?_⟩⟩, ⟨?_, ?_, ?_, ?_, ?_, .inl ?_⟩, ⟨?_, ?_, ?_, ?_, ?_, .inl ?_⟩, ⟨?_, ?_, ?_, ?_, ?_, .inl ?_⟩,
    ⟨?_, ?_, ?_, ?_, ?_, .inr ⟨0, .inr (.inr ?_)⟩⟩⟩ <;> decide +kernel

theorem test_hyps_EngineMemory :
    let s := upEng (.frame 0) fun g => { g with x := [(511, 0x8000)], pHi := #v[511, 0] }
    let g := s.eng 0
    let r := s.regions g
    effAddr g 0 0 511 0 = .ok (511, none) ∧ effAddr g 2 2 0 0 = .ok (511, some 512) ∧ effAddr g 5 2 0 (-1) = .ok (510, none)
      ∧ inRegion r false (511 % 16384) = true ∧ inRegion r false ((510 + 1) % 16384) = true ∧ Mem.wf 0 g.x = true ∧ Mem.wf 0 g.y = true := by
  refine ⟨?_, ?_, ?_, ?_, ?_, ?_, ?_⟩ <;> rfl

theorem test_hyps_EngineProducts :
    let s := upEng (.frame 0) fun g => { g with m := #v[0x00050003, 0, 0xFFFF, 0] }
    let g := s.eng 0
    let r := s.regions g
    inRegion r false ((g.readP 0).toNat % 16384) = true ∧ inRegion r true ((g.readP 2).toNat % 16384) = true
      ∧ postModify (g.readP 0) g.m[0] = .ok 3 ∧ postModify (g.readP 2) g.m[2] = .ok 16383 := by
  refine ⟨?_, ?_, ?_, ?_⟩ <;> rfl

theorem test_hyps_EngineFlow :
    (let s := upEng (.frame 0) fun g => { g with stack := [511], gHi := #v[4096, 0, 0, 0, 0, 0, 0, 0] }
     let g := s.eng 0
     condHolds g.bank.st 0 = some true ∧ condHolds g.bank.st 1 = some false
       ∧ inProg (s.regions g) (((g.pc : Int) + 511) % 16384).toNat = true
       ∧ g.stack.length < 8 ∧ g.stack = [511] ∧ inProg (s.regions g) (511 % 16384) = true
       ∧ 1 ≤ (g.readG 8).toNat ∧ (g.readG 8).toNat ≤ 4096)
    ∧ (let s := upEng (.frame 0) fun g => { g with delayed := some (.jump 7) }
       s.running = true ∧ s.cyclesOut 0 = false ∧ (s.eng 0).pipe = [] ∧ (s.eng 0).queue = [] ∧ (s.eng 0).delayed = some (.jump 7)
         ∧ (s.eng 0).rep = none)
    ∧ (let s := upEng (.frame 0) fun g => { g with rep := some 2 }
       s.cyclesOut 0 = false ∧ (s.eng 0).delayed = none ∧ (s.eng 0).rep = some (0 + 2))
    ∧ (let s := upEng (.frame 0) fun g => { g with rep := some 1 }
       s.cyclesOut 0 = false ∧ (s.eng 0).delayed = none ∧ (s.eng 0).rep = some 1) := by
  decide +kernel

theorem test_hyps_EngineRings :
    (let s := upEng (.ring 0) id
     let g := s.eng 0
     let h := (s.kernel 0).hdr
     s.namedRing h.ringIn .dataIn = some 5 ∧ 0 < s.host.rings[5].used
       ∧ (∀ n : Fin 32, inRegion (s.regions g) true (((g.readP 0).toNat + n.val) % 16384) = true) ∧ (s.host.rings[5].size + 1) / 2 = 32
       ∧ s.namedRing h.ringOut .dataOut = some 6 ∧ 0 < s.host.rings[6].room ∧ (g.readG 0).toNat ≤ s.host.rings[6].size)
    ∧ (let s := (upEng (.ring 0) fun g => { g with gHi := #v[513, 0, 0, 0, 0, 0, 0, 0] }).modRing 5 fun q => { q with prod := 0 }
       (s.ringsOf (s.eng 0)).inSlot = none ∧ (s.ringsOf (s.eng 0)).outRoom < ((s.eng 0).readG 8).toNat) := by
  decide +kernel

theorem test_hyps_EngineFaults :
    (let s := upEng (.frame 0) fun g => { g with stack := List.replicate 8 0 }
     let g := s.eng 0
     (s.eng 0).ctx = .frame 0 ∧ decide (6 ≤ (6 : Fin 8).val) = true ∧ !inRegion (some (s.kernel 0).hdr) false (512 % 16384)
       ∧ decide (8 ≤ g.stack.length) = true ∧ decide (g.readG 0 = 0) = true ∧ (upEng (.frame 0) id |>.eng 0).stack.isEmpty = true)
    ∧ (let s := upEng (.frame 0) fun g => { g with cycles := 100 }
       s.running = true ∧ (s.eng 0).ctx = .frame 0 ∧ (∀ x ∈ (s.eng 0).queue ++ (s.eng 0).bgQueue, x ≠ .frame 0) ∧ s.cyclesOut 0 = true
         ∧ (s.kernel 0).halted = false)
    ∧ (let s := upEng (.bg 0) fun g => { g with cycles := 100 }
       s.cyclesOut 0 = true ∧ engOf 0 = 0 ∧ (s.eng 0).ctx = .bg 0)
    ∧ (let s := upEng (.mbx 0) fun g => { g with cycles := 100 }
       s.cyclesOut 0 = true ∧ (s.eng 0).ctx = .mbx 0) := by
  decide +kernel

theorem test_hyps_EngineMemories :
    (∀ e : EngId, Mem.wf 0 (up.eng e).x = true ∧ Mem.wf 0 (up.eng e).y = true) ∧ (Instr.nop 0).parts = engineParts
      ∧ Part.engines ∉ (Instr.sysNop {}).parts := by
  refine ⟨?_, ?_, ?_⟩ <;> decide +kernel

/-! Hypotheses of the statements about mailbox commands. -/

/-- Car 0 out of service and placed at landing 0, in its zone, with the profile, the safeguard and the FRONT door configured, every
door locked; kernel slot 0 loaded. -/
def fullCar : Car :=
  { configured := true,
    pos := { state := .placed, zones := #v[true, false], cfg := { aps := true, landingsM1 := 255, shaftMax := 640000 },
             table := [(0, { written := true, served := true }), (2, { written := true, served := true, level := 1000 })] },
    motion := { present := true },
    safe := { configured := true, closedLocked := true, zones := #v[true, false] },
    doors := (Vector.replicate 2 ({} : Door)).set 0 { configured := true, axes := Vector.replicate 2 { configured := true }, phase := .closed } }
def upFull : State :=
  let s := upCar fun _ => fullCar
  { s with grp := { s.grp with kernels := s.grp.kernels.set 0 { state := .loaded } } }
def upBoot (b : Boot) (s : State) : State := { s with boot := b }

/-- Payloads of configurations, as their tables lay them out. -/
def posP : List Byte := [0, 2] ++ zeros 2 ++ zeros 8 ++ leBytes 4 0x10000 ++ leBytes 2 100 ++ leBytes 2 100 ++ leBytes 2 800 ++ leBytes 2 1600
  ++ leBytes 4 0 ++ leBytes 4 640000 ++ leBytes 4 0 ++ [9, 0] ++ leBytes 2 0 ++ leBytes 3 noRef ++ leBytes 3 noRef ++ leBytes 2 160
  ++ leBytes 3 0 ++ leBytes 3 8 ++ leBytes 3 noRef ++ leBytes 3 noRef ++ leBytes 3 1 ++ leBytes 3 2 ++ zeros 2
def profP : List Byte := [0, 1] ++ leBytes 2 0x100 ++ leBytes 2 0x101 ++ [8, 8] ++ leBytes 4 16000 ++ leBytes 4 16000 ++ leBytes 4 16000
  ++ leBytes 4 16000 ++ leBytes 4 16000 ++ leBytes 2 0 ++ leBytes 2 0 ++ leBytes 2 160 ++ leBytes 2 16 ++ leBytes 2 500 ++ leBytes 2 500
  ++ leBytes 2 1000 ++ zeros 2
def doorP : List Byte := [0, 0, 0, 0] ++ leBytes 4 12800 ++ leBytes 4 8000 ++ leBytes 4 4800 ++ leBytes 4 16000 ++ leBytes 4 16000
  ++ leBytes 4 64000 ++ leBytes 4 16000 ++ leBytes 4 64000 ++ leBytes 4 1600 ++ leBytes 4 0 ++ leBytes 2 0 ++ leBytes 2 256
  ++ leBytes 2 256 ++ leBytes 2 0 ++ leBytes 2 0 ++ leBytes 2 0 ++ leBytes 2 80 ++ leBytes 2 512 ++ [4, 4, 3, 0] ++ leBytes 2 160
  ++ leBytes 2 3000 ++ leBytes 2 6000 ++ leBytes 2 800 ++ leBytes 2 1000 ++ leBytes 2 0 ++ leBytes 3 3 ++ leBytes 3 4 ++ leBytes 3 5
  ++ zeros 3 ++ leBytes 2 160 ++ zeros 2
def axisP : List Byte := [0, 0, 0, 0] ++ leBytes 4 0x10000 ++ leBytes 2 1000 ++ leBytes 2 1000 ++ leBytes 2 100 ++ leBytes 2 100
  ++ leBytes 2 2000 ++ leBytes 2 500 ++ zeros 8
def safeP : List Byte := [0, 0, 4, 4, 4, 0] ++ leBytes 2 100 ++ leBytes 2 0 ++ leBytes 2 200 ++ leBytes 2 10 ++ leBytes 2 1600 ++ [8, 0]
  ++ leBytes 2 1600 ++ leBytes 4 0
  ++ ([6, 14, 7, 15, noRef, noRef, 24, 32, 9, 17, noRef, noRef, noRef, noRef, noRef, noRef, 10].flatMap fun c => leBytes 3 c) ++ zeros 5
def termP : List Byte := [0, 0, 1, 0] ++ leBytes 4 0 ++ leBytes 4 16000 ++ leBytes 4 16000 ++ zeros 24
def canP : List Byte := [1, 2, 2, 0xFF] ++ leBytes 2 250 ++ leBytes 2 0 ++ [80, 0, 5, 0] ++ leBytes 2 1000 ++ leBytes 2 0 ++ leBytes 2 0x181
  ++ leBytes 2 0x182 ++ leBytes 2 0 ++ zeros 2 ++ zeros 16
def mapP : List Byte := [3, 0, 1, 1] ++ leBytes 2 5 ++ [1, 2, 0] ++ leBytes 3 41 ++ zeros 4
def ulP : List Byte := [0, 1, 0, 0] ++ leBytes 4 0 ++ (List.range 16).flatMap (fun _ => leBytes 3 noRef) ++ leBytes 3 41
  ++ (List.range 15).flatMap (fun _ => leBytes 3 noRef)

/-- A command of a row with its row's judgement met. -/
def meets (q : CmdDef × List Byte × State) : Bool := judged q.1 (cmdFor q.1.opcode q.2.1) q.2.2

theorem test_judged_status :
    ∀ d ∈ [sysInfoDef, almStatusDef, posStatusDef, profStatusDef, dispStatusDef, doorStatusDef, safeStatusDef, bankStatusDef, canStatusDef,
        clStatusDef, sigStatusDef, pairStatusDef, ringStatusDef, ul40StatusDef, recStatusDef, lifeStatusDef, sysJobsDef, carStopListDef,
        frameStatusDef, sigSpectrumDef, posTableDef, fwStatusDef, lifeCertDef], meets (d, zeros 4, upFull) = true := by
  decide +kernel

theorem test_judged_reads :
    meets (almReadDef, zeros 4 ++ [1, 0, 0, 0], upFull) = true ∧ meets (recReadDef, zeros 8 ++ [1, 0, 0, 0], upFull) = true
      ∧ ((future upFull).car 0).configured = true ∧ upFull.boot.pair.paired = false ∧ upFull.memberNamed 0 = some true
      ∧ (Mem.get {} upFull.grp.shownCars[0].pos.table 0).written = true := by
  decide +kernel

theorem test_judged_staged :
    let s := upFull
    let u := upCar fun c => { fullCar with pos := { c.pos with state := .unplaced, cfg := { aps := true } } }
    meets (posLandingDef, zeros 16, s) = true ∧ meets (posWipeDef, zeros 4, s) = true ∧ (s.car 0).configured = true ∧ (s.car 0).out = true
      ∧ meets (posCorrectDef, zeros 4, u) = true ∧ ((future u).car 0).mayCorrect = true ∧ (u.sgOf 0).closedLocked = true
      ∧ meets (profLimitsDef, zeros 20, s) = true ∧ (s.car 0).motion.present = true
      ∧ meets (profZoneDef, zeros 8 ++ leBytes 4 1000 ++ leBytes 4 16000, s) = true
      ∧ meets (carServiceDef, [0, 1, 0, 0], s) = true ∧ serviceOk s (future s) 0 1 = true ∧ meets (carStopRemoveDef, zeros 8, s) = true
      ∧ meets (dispConfigDef, [0, 0, 0, 0] ++ List.replicate 8 1 ++ zeros 4, s) = true ∧ s.boot.mode ≠ 1 ∧ s.grp.disp.cfg.mode = 0
      ∧ meets (dispWeightsDef, zeros 16, s) = true ∧ meets (bankConfigDef, zeros 8, s) = true := by
  decide +kernel

theorem test_judged_staged2 :
    let s := upFull
    let x := (future s).car 0
    meets (doorOpenDef, [0, 1, 0, 0], s) = true ∧ x.standsAt 0 = true ∧ x.doors[0].mayAct false = true
      ∧ meets (doorCloseDef, [0, 1, 0, 0], s) = true ∧ meets (doorStopDef, [0, 1, 0, 0], s) = true ∧ x.doors[0].ready = true
      ∧ meets (doorLearnDef, [0, 1, 0, 0], s) = true ∧ x.doors[0].goal = .stay ∧ x.doors[0].phase = .closed
      ∧ meets (safeTerminalDef, termP, s) = true ∧ x.safe.test = none
      ∧ meets (sigStopDef, zeros 4, s) = true ∧ meets (sigUnloadDef, zeros 4, s) = true ∧ meets (sigParamDef, zeros 4, s) = true
      ∧ ((future s).kernel 0).state ≠ .empty := by
  decide +kernel

set_option maxRecDepth 100000 in
theorem test_judged_staged3 :
    (let s := upBus { aBus with errorState := .busOff }
     meets (canRecoverDef, zeros 4, s) = true ∧ (future s).io.buses[0].errorState = .busOff)
    ∧ (let s := upBoot { phase := .running, mode := 1 } upFull
       meets (ul40ConfigDef, ulP, s) = true ∧ s.imageMode = true)
    ∧ (let s : State := { up with grp := { up.grp with overrun := some 0 } }
       meets (frameResumeDef, zeros 8, s) = true ∧ (future s).grp.overrun = some 0 ∧ (future s).grp.admissionHeld = false) := by
  decide +kernel

/-- What an admitted command asks besides: the state allows it, and the configuration stays within every limit. -/
def admits (change : State → State) (sig : Bool) (slot : Nat) (s : State) : Bool := (admitOf (future s) (change (future s)) sig slot).isNone

/-- `upFull` with a request point of 32 bits on channel 43 and an answer stream of 8 bytes on 44; a terminal with them. -/
def upTerm : State :=
  let alm := testAlm ++ [(43, { type := 3, hot := true, fault := false, params := 32 * 2 ^ 15 }),
    (44, { type := 11, hot := true, fault := false, params := 8 * 64 })]
  { upFull with grp := { upFull.grp with alm := alm, shown := alm } }
def terminalP : List Byte := [0, 0, 0, 2] ++ leBytes 3 43 ++ [4] ++ leBytes 3 44 ++ zeros 5

set_option maxRecDepth 100000 in
theorem test_judged_admitted :
    let s := upFull
    let x := (future s).car 0
    meets (posConfigDef, posP, s) = true ∧ admits (setPosConfig posP) false 0xFF s = true ∧ x.out = true ∧ posRemoves posP = false
      ∧ meets (doorConfigDef, doorP, s) = true ∧ admits (applyDoorConfig doorP) false 0xFF s = true
      ∧ meets (doorAxisDef, axisP, s) = true ∧ admits (applyDoorAxis axisP) false 0xFF s = true
      ∧ meets (dispTerminalDef, terminalP, upTerm) = true ∧ admits (applyTerminal terminalP) true 0xFF upTerm = true
      ∧ ((future upTerm).entry (terminalOf terminalP).point).hot = true := by
  decide +kernel

set_option maxRecDepth 100000 in
theorem test_judged_admitted2 :
    let s := upFull
    meets (safeConfigDef, safeP, s) = true ∧ admits (setSafeConfig safeP) false 0xFF s = true
      ∧ meets (canConfigDef, canP, s) = true ∧ admits (setCanConfig canP) true 0xFF s = true
      ∧ meets (canMapDef, mapP, s) = true ∧ (future s).mapClash (mapOf mapP) = false
      ∧ meets (clConfigDef, [0, 1] ++ zeros 14, s) = true ∧ admits (applyClConfig ([0, 1] ++ zeros 14)) true 0xFF s = true
      ∧ meets (sigStartDef, zeros 4, s) = true ∧ admits (applySigStart (zeros 4)) true 0 s = true
      ∧ meets (ringConfigDef, [5, 4, 4, 2, 0xFF, 0, 0, 0], s) = true
      ∧ admits (applyRingConfig [5, 4, 4, 2, 0xFF, 0, 0, 0]) true 0xFF s = true
      ∧ (s.consumed (cmdFor 0x0D10 [5, 4, 4, 2, 0xFF, 0, 0, 0])).ringBusy
          (future (s.consumed (cmdFor 0x0D10 [5, 4, 4, 2, 0xFF, 0, 0, 0]))) (cmdFor 0x0D10 [5, 4, 4, 2, 0xFF, 0, 0, 0]) = false := by
  decide +kernel

set_option maxRecDepth 100000 in
theorem test_judged_prof :
    let s : State := { upFull with io := { upFull.io with buses := upFull.io.buses.set 0 { cfg := { fdEnable := true, mode := .raw }, modeStarted := true } } }
    meets (profConfigDef, profP, s) = true ∧ admits (applyProfConfig profP) false 0xFF s = true := by
  decide +kernel

/-- RING06 a DATA_OUT ring with one slot published. -/
def upOut : State := upFull.modRing 6 fun q => { q with use := .dataOut, prod := 1 }
def editOf (chan : Nat) : List Byte := leBytes 3 chan ++ [0]
/-- One record of `alm.write`: an unbound entry of TYPE 6 on channel 50. -/
def writeP : List Byte := [1, 0, 0, 0] ++ leBytes 3 50 ++ [0] ++ [6, 0, 0, 0] ++ zeros 20
def provP : List Byte := [1, 2, 0, 0] ++ zeros 60 ++ (List.range 32).map (fun i => byte i) ++ zeros 32
def advP : List Byte := leBytes 4 0x464C584F ++ zeros 8 ++ [1, 4, 0, 0] ++ zeros 16

theorem test_judged_now :
    let s := upFull
    meets (sysNopDef, zeros 8, s) = true ∧ meets (frameConfigDef, [125, 0, 0, 0], s) = true
      ∧ breachAt (future s).nextStart ({ future s with nv := { (future s).nv with frameLen := .us125 } } : State).nextStart .us125 0 true = none
      ∧ meets (ringReadDef, [6, 1, 0, 0], upOut) = true ∧ meets (netConfigDef, zeros 12 ++ leBytes 2 1024 ++ zeros 2, s) = true
      ∧ meets (pairConfigDef, [1] ++ zeros 15, s) = true ∧ (future s).pairBreach (pairCfgOf ([1] ++ zeros 15)) = none ∧ meets (recAnnotateDef, zeros 16, s) = true
      ∧ meets (lifeAttestDef, zeros 36, s) = true ∧ s.memberNamed 0 = some true ∧ s.boot.nextQ < 1048576
      ∧ meets (lifeAdvanceDef, advP, s) = true ∧ (future s).carsUp.all Car.out = true ∧ s.stagingJob = none ∧ s.advancePartner advP = false
      ∧ Life.ofCode (byteAt advP 13) ≠ some .sealed ∧ s.advanceSigned advP = false
      ∧ meets (fwActivateDef, [1, 0, 0, 0], s) = true ∧ s.boot.pair.paired = false ∧ s.boot.pairSel = false
      ∧ s.nv.copies[s.otherCopy.val].state = .valid := by
  decide +kernel

set_option maxRecDepth 100000 in
theorem test_judged_provision : meets (lifeProvisionDef, provP, upFull) = true ∧ upFull.namesSelf (byteAt provP 0) = true := by
  decide +kernel

/-- Source RING00 has staged a write of a free entry. -/
def upStaged : State := upFull.modSource 0 fun x => { x with staged := [{ chan := 50, write := some (12, false, 0, 0, 0) }] }

theorem test_judged_edits :
    meets (almWriteDef, writeP, upFull) = true ∧ (future upFull).heldOutput 50 = false
      ∧ meets (almMoveDef 0x0311 true, [1, 0, 0, 0] ++ editOf 50, upFull) = true
      ∧ meets (almMoveDef 0x0312 false, [1, 0, 0, 0] ++ editOf 50, upFull) = true ∧ meets (almDiscardDef, zeros 4, upStaged) = true
      ∧ (let s : State := { upFull with grp := { upFull.grp with kernels := upFull.grp.kernels.set 0 { state := .loaded, hdr := { outputs := [50] } } } }
         meets (almWriteDef, writeP, s) = true ∧ (future s).heldOutput 50 = true) := by
  decide +kernel

theorem test_judged_commit :
    let s := upStaged
    let f := future s
    let mine := s.grp.sources[0].staged
    let es := f.giveVersions mine
    let a := f.commitEdits es
    meets (almCommitDef, zeros 4, s) = true ∧ firstBad (commitTests f a es) = none
      ∧ (∀ x ∈ mine, x.write.isSome = true → f.heldOutput x.chan = false) ∧ (∀ x ∈ mine, x.version = (f.entry x.chan).version)
      ∧ (∀ x ∈ mine, ¬ ((f.entry x.chan).hot = true ∧ (a.entry x.chan).type = 0 ∧ x.residency ≠ some false)) ∧ admitOf f a true 0xFF = none
      ∧ meets (almCommitDef, [1, 0, 0, 0], s) = true
      ∧ (let t := upFull.modSource 0 fun x => { x with staged := [{ chan := 50, version := 1, write := some (12, false, 0, 0, 0) }] }
         let g := future t
         ((g.giveVersions t.grp.sources[0].staged).find? fun x => x.version != (g.entry x.chan).version).isSome = true) := by
  decide +kernel

/-- A dispatcher in mode 1 over car 0. -/
def upReg : State := { upFull with grp := { upFull.grp with disp := { cfg := { mode := 1, cars := 1 } } } }

theorem test_judged_results :
    (let s := upFull
     let x := (future s).car 0
     meets (carStopAddDef, [0, 1, 4] ++ zeros 5, s) = true ∧ x.configured = true ∧ x.service ≠ .faulted ∧ x.service ≠ .lockedOut
       ∧ meets (canCancelDef, zeros 4, s) = true)
    ∧ (let s := upCar fun _ => { fullCar with service := .faulted }
       meets (carStopAddDef, [0, 1, 4] ++ zeros 5, s) = true ∧ ((future s).car 0).service = .faulted)
    ∧ (let s := upReg
       meets (dispRegisterDef, [0, 1, 0] ++ zeros 5, s) = true ∧ ({ future s with grp := { (future s).grp with deferred := [] } } : State).regResult 0 1 0 = 0x01
         ∧ meets (dispRegisterDef, zeros 8, s) = true ∧ ({ future s with grp := { (future s).grp with deferred := [] } } : State).regResult 0 0 0 = 0x11)
    ∧ (let s := upDisp 1
       meets (dispCancelDef, leBytes 3 0xF0000 ++ [0], s) = true) := by
  decide +kernel

theorem test_judged_results2 :
    (let s := upCar fun c => { c with safe := { configured := true, causes := 4, lockId := 7, window := some 0 } }
     meets (safeResetDef, [0, 0, 7, 0], s) = true ∧ s.resetResult 0 7 = 0 ∧ meets (safeResetDef, [0, 0, 8, 0], s) = true ∧ s.resetResult 0 8 ≠ 0)
    ∧ (let s := upBank { supplyMissing := true, supplyReady := true }
       meets (bankAckDef, [0, 1, 0, 0], s) = true ∧ s.ackResult [0, 1, 0, 0] = 0)
    ∧ (meets (fwStageDef, [1, 1, 0, 0] ++ zeros 4 ++ leBytes 4 100, upFull) = true ∧ upFull.stagingJob = none ∧ upFull.namesSelf 1 = true)
    ∧ (let s : State := { upFull with grp := { upFull.grp with staging := some { members := 1, total := 100 } } }
       meets (fwStageDef, [1, 0, 0, 0] ++ zeros 8, s) = true ∧ s.stagingJob = none)
    ∧ (let s := upBoot { phase := .retired, life := .retired } upFull
       let p : List Byte := [5, 4, 4, 2, 0xFF, 0, 0, 0]
       meets (ringConfigDef, p, s) = true ∧ s.running = false ∧ (s.consumed (cmdFor 0x0D10 p)).ringBusy (future (s.consumed (cmdFor 0x0D10 p))) (cmdFor 0x0D10 p) = false
         ∧ overLimit 11 16777216 (future s).ringBytes (applyRingConfig p (future s)).ringBytes = none) := by
  decide +kernel

/-- A kernel image of one ADD, as its header lays it out, with its CRC-32; and a `sig.load` of it in one chunk. -/
def imageP : List Byte :=
  let h := leBytes 4 0x4553584F ++ leBytes 2 1 ++ zeros 2 ++ leBytes 4 100 ++ leBytes 4 100 ++ zeros 8 ++ leBytes 2 0x2000 ++ zeros 6
    ++ leBytes 2 0x2000 ++ leBytes 2 1 ++ leBytes 2 0x1800 ++ zeros 2 ++ leBytes 2 0x1800 ++ zeros 2 ++ leBytes 2 0x1800 ++ leBytes 2 0x1800
    ++ leBytes 2 0x1800 ++ zeros 2 ++ zeros 2 ++ [1, 0xFF, 0xFF] ++ zeros 3
  h ++ leBytes 4 (crc32 (h ++ zeros 4)) ++ zeros 4
def loadP (b : List Byte) : List Byte := [1, 3, 0, 0] ++ zeros 4 ++ b

set_option maxRecDepth 100000 in
theorem test_judged_load :
    let p := loadP imageP
    let f := future upFull
    meets (sigLoadDef, p, upFull) = true ∧ (f.kernel 1).state = .empty ∧ f.wholeImage p = imageP ∧ f.imageBad imageP = none
      ∧ (∀ n ∈ (headerOf imageP).outputs, f.ul40Owns n = false) ∧ f.signed imageP = true := by
  decide +kernel

set_option maxRecDepth 100000 in
theorem test_judged_load2 :
    let p := loadP imageP
    admitOf (future upFull) (applySigLoad p (future upFull)) true 1 = none
      ∧ (let s := upBoot { phase := .running, life := .sealed } upFull
         meets (sigLoadDef, p, s) = true ∧ (future s).signed imageP = false ∧ (future s).imageBad imageP = none)
      ∧ meets (sigLoadDef, [1, 1, 0, 0] ++ zeros 4 ++ imageP.take 4, upFull) = true := by
  decide +kernel

theorem test_judged_jobs :
    let s := upFull
    s.grp.jobs.length < 256 ∧ meets (almSaveDef, zeros 4, s) = true ∧ (s.findJob fun j => j.kind == .almSave) = none
      ∧ meets (posLearnDef, [0, 1] ++ leBytes 2 16000 ++ zeros 4, s) = true ∧ ((future s).car 0).mayLearn true false = true
      ∧ ((future s).car 0).pos.learn = none
      ∧ meets (safeBrakeTestDef, [0, 1] ++ leBytes 2 3000 ++ leBytes 2 500 ++ leBytes 2 16 ++ zeros 4, s) = true
      ∧ (future s).brakeTestOk 0 = true ∧ s.brakeTestOk 0 = true
      ∧ meets (canSendDef, [0, 0, 0, 255] ++ leBytes 4 0x7FF, s) = true ∧ (future s).io.buses[0].rawCount < 8
      ∧ (let t : State := { upPair (fun m => { m with state := .holder, partnerState := 3, vigilFrames := 64 }) with host := up.host }
         meets (pairLeapDef, zeros 4, t) = true ∧ (future t).leapOk = true ∧ (future t).mem.releaseDue = none
           ∧ t.grp.jobs.all (fun j => j.kind != .leap) = true) := by
  decide +kernel

theorem test_judged_jobs2 :
    (let s : State := { upFull with grp := { upFull.grp with jobs := List.replicate 256 {} } }
     256 ≤ s.grp.jobs.length ∧ meets (posLearnDef, [0, 1] ++ leBytes 2 16000 ++ zeros 4, s) = true
       ∧ meets (almSaveDef, zeros 4, s) = true ∧ meets (canSendDef, [0, 0, 0, 255] ++ leBytes 4 0x7FF, s) = true
       ∧ meets (pairLeapDef, zeros 4, { s with boot := { s.boot with pair := { paired := true } } }) = true)
    ∧ (let s : State := { upOut with grp := { upFull.grp with jobs := List.replicate 256 {} } }
       meets (recExportDef, zeros 8 ++ [6, 0, 0, 0], s) = true)
    ∧ (let s := upOut.modRing 6 fun q => { q with prod := 8 }
       meets (recExportDef, zeros 8 ++ [6, 0, 0, 0], s) = true ∧ s.exporting = none ∧ s.host.rings[6].room = 0
         ∧ 0 ≤ s.nv.recorder.newest ∧ s.host.rings[6].use = .dataOut)
    ∧ (let j : Job := { id := 9, kind := .almSave }
       let s : State := { up with grp := { jobs := [j] } }
       s.running = true ∧ s.findJob (fun j => j.kind == .almSave) = some j)
    ∧ (let j : Job := { id := 9, kind := .canSend 0 }
       let s := upBus { aBus with queue := [{ frame := aFrame, kind := .raw 9 }] }
       let s : State := { s with grp := { s.grp with jobs := [j], frame := 1 } }
       s.findJob (fun j => j.id == 9) = some j ∧ j.kind = .canSend 0
         ∧ ∃ x ∈ s.io.buses[0].queue, x.kind = .raw 9 ∧ x.started = false ∧ x.queuedAt + x.maxAge ≤ s.grp.frame)
    ∧ (let s : State := { upBus aBus with grp := { jobs := [{ id := 9, kind := .canSend 0 }] } }
       (∀ x ∈ s.io.buses[0].queue, x.kind ≠ .raw 9) ∧ s.grp.deferred = [])
    ∧ (let j : Job := { id := 9, kind := .fwStage false }
       let g : FwStaging := { members := 1, total := 1, bytes := [0] }
       let s : State := { up with grp := { jobs := [j], staging := some g } }
       s.running = true ∧ s.holds = true ∧ s.stagingJob = some j ∧ s.grp.staging = some g ∧ s.namesSelf g.members = true) := by
  decide +kernel

/-- Hypotheses of the order of judgement: a source that is not open, a header whose check fails, a copy, an order broken, and each
later failure in turn. -/
theorem test_hyps_MailboxOrder :
    let c := cmdFor 0x0100 []
    let s := up
    let t := s.consumed c
    s.takes 5 = false ∧ s.takes 0 = true ∧ (Instr.sysNop c).mail.isSome = true ∧ ({} : Cmd).hdrCheck ≠ crc16 (({} : Cmd).header 0x0100)
      ∧ c.repeats t ∧ ¬ (cmdFor 0x0101 (zeros 4)).repeats t ∧ t.grp.sources[0].last = some 1 ∧ (1 : Nat) ≠ (1 + 1) % 2 ^ 32
      ∧ ¬ c.repeats s ∧ c.inOrder s ∧ lifeAllows .sealed 0x1112 = false ∧ headerBad s c = none
      ∧ almStatusDef.len 5 = false ∧ (almStatusDef.form (future (s.consumed c)) [0, 0, 0, 1]).isSome = true := by
  refine ⟨?_, ?_, ?_, ?_, ?_, ?_, ?_, ?_, ?_, fun l h => ?_, ?_, ?_, ?_, ?_⟩
  case refine_10 => cases h
  all_goals first | decide +kernel | (simp only [Cmd.repeats]; decide +kernel)

/-! An ill-formed command for each check of `Instr.wf`, beside a well-formed one of each row's shape. -/

theorem test_wf_timed :
    (Instr.calends { measured := 2 ^ 32 }).wf = false
      ∧ (Instr.calends { outCurrents := [(0, 0, 65536)] }).wf = false ∧ (Instr.calends { cacheWords := [{ addr := 2 ^ 25 }] }).wf = false
      ∧ (Instr.dispatchPass 0x100000).wf = false ∧ (Instr.regRetainExpiry 0x100000).wf = false ∧ (Instr.coldEvaluation 0x100000).wf = false
      ∧ (Instr.almanacTimer 0x100000).wf = false ∧ (Instr.terminalRequest 1024).wf = false ∧ (Instr.calends {}).wf = true
      ∧ (Instr.dispatchPass 0xFFFFF).wf = true ∧ (Instr.terminalRequest 1023).wf = true ∧ (Instr.patrolScrub [{ addr := 2 ^ 25 }]).wf = false ∧ (Instr.patrolScrub [{}]).wf = true
      ∧ (Instr.jobProgress 0 0 0).wf = false ∧ (Instr.jobProgress 65536 0 0).wf = false ∧ (Instr.jobProgress 1 257 0).wf = false
      ∧ (Instr.jobProgress 1 256 (2 ^ 64)).wf = false ∧ (Instr.jobProgress 1 256 0).wf = true := by
  decide +kernel

theorem test_wf_ports :
    (Instr.laneFilterChange 0 0 []).wf = false ∧ (Instr.laneBroken 0 0 []).wf = false ∧ (Instr.laneBroken 0 0 [{}]).wf = true
      ∧ (Instr.supplyLowChange 0 []).wf = false ∧ (Instr.supplyMissing ⟨0, [{ mv := 65536 }]⟩).wf = false ∧ (Instr.releaseReady ⟨0, [{}]⟩).wf = true
      ∧ (Instr.canFrameReceived 0 { rtr := true, dlc := 16 }).wf = false ∧ (Instr.canFrameReceived 0 { dlc := 1 }).wf = false
      ∧ (Instr.canFrameReceived 0 { id := 2 ^ 11 }).wf = false ∧ (Instr.canFrameReceived 0 { id := 2 ^ 29, ide := true }).wf = false
      ∧ (Instr.canFrameReceived 0 { fd := true, data := zeros 9 }).wf = false ∧ (Instr.canFrameReceived 0 { fd := true, rtr := true }).wf = false
      ∧ (Instr.canFrameReceived 0 { data := zeros 9 }).wf = false ∧ (Instr.canFrameReceived 0 { brs := true }).wf = false
      ∧ (Instr.canFrameReceived 0 { esi := true }).wf = false ∧ (Instr.canFrameReceived 0 { timeUs := 65536 }).wf = false
      ∧ (Instr.canFrameReceived 0 { fd := true, data := zeros 64 }).wf = true ∧ (Instr.canFrameSent 0 65536).wf = false
      ∧ (Instr.canopenNodeLost 0 0).wf = false ∧ (Instr.canopenNodeLost 0 128).wf = false ∧ (Instr.canopenOutRefresh 512).wf = false
      ∧ (Instr.canSendOutcome 0).wf = false ∧ (Instr.canSendOutcome 65536).wf = false := by
  decide +kernel

theorem test_wf_links :
    (Instr.uplinkReceived 0 { payload := zeros 1501 } 0).wf = false ∧ (Instr.uplinkReceived 0 { etherType := 65536 } 0).wf = false
      ∧ (Instr.endpointDownlink 0 0 { payload := zeros 1501 } 0).wf = false ∧ (Instr.endpointDownlink 0 0 {} 0).wf = true
      ∧ (Instr.endpointSample 0 { axes := List.replicate 5 default }).wf = false ∧ (Instr.endpointSample 0 { accel := List.replicate 7 default }).wf = false
      ∧ (Instr.endpointSample 0 { ports := 8 }).wf = false ∧ (Instr.endpointSample 0 { downToUp := 65536 }).wf = false
      ∧ (Instr.endpointSample 0 { vSupply := 65536 }).wf = false ∧ (Instr.endpointSample 0 { temp := 65536 }).wf = false
      ∧ (Instr.endpointSample 0 { user := zeros 85 }).wf = false ∧ (Instr.endpointSample 0 {}).wf = true := by
  decide +kernel

theorem test_wf_pair :
    (Instr.holdRelease 0).wf = false ∧ (Instr.holdRelease 35).wf = false ∧ (Instr.releaseRecord { cause := 0 }).wf = false
      ∧ (Instr.releaseRecord { cause := 35 }).wf = false ∧ (Instr.selfCause 16).wf = false ∧ (Instr.selfCause 34).wf = false
      ∧ (Instr.pairSelReport true ⟨256, 0⟩).wf = false ∧ (Instr.pairSelReport true ⟨0, 257⟩).wf = false ∧ (Instr.pairSelReport true ⟨4, 256⟩).wf = true ∧ (Instr.resetRelease { mode := 4 }).wf = false
      ∧ (Instr.resetRelease { badEntries := [0x100000] }).wf = false ∧ (Instr.resetRelease { mode := 3 }).wf = true := by
  decide +kernel

theorem test_wf_host :
    (Instr.slotWindowWrite 0 0x4000 0).wf = false ∧ (Instr.registerWrite {} 0x20000 0).wf = false ∧ (Instr.netArpIcmp (zeros 1515)).wf = false
      ∧ (Instr.netSlot { magic := 65536, mac := zeros 32 }).wf = false ∧ (Instr.netSlot { session := 256, mac := zeros 32 }).wf = false
      ∧ (Instr.netSlot { index := 2 ^ 32, mac := zeros 32 }).wf = false ∧ (Instr.netSlot {}).wf = false
      ∧ (Instr.netSlot { data := zeros 1025, mac := zeros 32 }).wf = false ∧ (Instr.netSlot { data := zeros 1024, mac := zeros 32 }).wf = true
      ∧ (Instr.fwStageComplete { partner := 256 }).wf = false ∧ (Instr.fwStageComplete { partnerCopy := 256 }).wf = false
      ∧ (Instr.sysNop { tag := 65536 }).wf = false ∧ (Instr.sysNop { target := 256 }).wf = false ∧ (Instr.sysNop { flags := 256 }).wf = false
      ∧ (Instr.sysNop { seq := 2 ^ 32 }).wf = false ∧ (Instr.sysNop { hdrCheck := 65536 }).wf = false
      ∧ (Instr.sysNop { payCheck := 65536 }).wf = false ∧ (Instr.sysNop { payload := List.replicate 65536 0 }).wf = false
      ∧ (Instr.sysNop {}).wf = true := by
  decide +kernel

/-! One step of a command of each family, with the result that the spec's text or its worked examples give. -/

/-- The state after one command. -/
def after (i : Instr) (s : State) : State :=
  match exec i s with
  | .next t => t
  | _ => s

/-- 09, *A bouncing lock contact*: after the bounce, 99 of the 100 further samples leave the state at 0 and the hundredth turns it. -/
def bounce : List Sample :=
  [(onSample, 20), (offSample, 5), (onSample, 15), (offSample, 10), (onSample, 15), (offSample, 10)].flatMap fun q => List.replicate q.2 q.1
def lockLane : State := upBank { lanes := (Vector.replicate 8 ({} : Lane)).set 2 { use := .input, limit := 125 }, gateOpen := true }
theorem test_bounce :
    let s := after (.laneFilterChange 0 2 (bounce ++ List.replicate 99 onSample)) lockLane
    let t := after (.laneFilterChange 0 2 [onSample]) s
    s.io.banks[0].lanes[2].filtered = false ∧ t.io.banks[0].lanes[2].filtered = true
      ∧ (after (.laneFilterChange 0 2 (List.replicate 90 offSample)) t).io.banks[0].lanes[2].filtered = true
      ∧ (after (.laneFilterChange 0 2 (List.replicate 125 offSample)) t).io.banks[0].lanes[2].filtered = false := by
  decide +kernel

/-- 07, *A 1,100 mm centre-opening door*: the gear, the angles, the energy caps and the currents of steps 2 to 6. -/
def doorCfg1100 : DoorCfg :=
  { slave := true, width := 9600, ratio1 := 0x100, ratio2 := 0x80, gearPos := 6400, blend := 256, eMax := 10000, eNudge := 4000,
    fLimit := 150, vClose := 8000, nudgeSpeed := 4000 }
def axis1100 (kf fric mass : Nat) : Axis :=
  { configured := true, learned := true, samples := [mass], friction := fric, cfg := { linPerStep := 0x80000, kf := kf, iRun := 2000 } }
def door1100 : Door :=
  { configured := true, cfg := doorCfg1100, axes := #v[axis1100 1800 20 550, axis1100 1500 16 450], phase := .closing, learnMoves := 0 }
theorem test_door1100 :
    doorCfg1100.gear 9600 = 8000 ∧ doorCfg1100.gear 6400 = 6384 ∧ door1100.capNow = 7155 ∧ door1100.speedLimit = 7155
      ∧ ({ door1100 with nudging := true } : Door).capNow = 4525 ∧ ({ door1100 with nudging := true } : Door).speedLimit = 4000
      ∧ door1100.closingCurrent 0 = 944 ∧ door1100.closingCurrent 1 = 1106
      ∧ ({ door1100 with ref := { s := 9600 * unitS } } : Door).angleOf 0 = 1228800
      ∧ ({ door1100 with ref := { s := 9600 * unitS } } : Door).angleOf 1 = 1024000 := by
  decide +kernel

/-- 05, *The eve point of a 6 m/s car*: S_MIN at 96,000 with D_MAX and J_MAX of 16,000 is 336,000 units. -/
theorem test_stopDistance : distUnits (({ v := 96000 * unitV } : Ref).stopDistance 16000 16000) = 336000 := by
  decide +kernel

/-- 16, *A twenty-second flood*: the 65,535th occurrence fills REPEAT and the next opens a record with CONTINUATION. -/
theorem test_flood :
    let x : Rec := { code := 0x0102, seconds := 5016 }
    let r : Recorder := { recs := [{ code := 0x0102, seconds := 5000, reps := 65534 }], isOpen := true, next := 1 }
    (r.add x).recs = [{ code := 0x0102, seconds := 5000, reps := 65535, lastDelta := 16 }]
      ∧ (((r.add x).add x).recs.map fun y => (y.cont, y.reps)) = [(true, 1), (false, 65535)] := by
  decide +kernel

/-- 03, *A lane input and a derived interlock term*: the fields of its PARAMS. -/
theorem test_laneParams :
    let e : Entry := { type := 1, binding := 0x53, params := 0xFFFFFF0000047D02 }
    bits e.params 15 8 = 125 ∧ bits e.params 19 16 = 4 ∧ bit e.params 1 = true ∧ bits e.params 63 40 = noRef ∧ bits e.binding 3 0 = 3
      ∧ bits e.binding 6 4 = 5 := by
  decide +kernel

/-- R62, R401: the checks of the ASCII digits 1 to 9 under the two polynomials. -/
theorem test_checks :
    crc16 [0x31, 0x32, 0x33, 0x34, 0x35, 0x36, 0x37, 0x38, 0x39] = 0x29B1
      ∧ crc32 [0x31, 0x32, 0x33, 0x34, 0x35, 0x36, 0x37, 0x38, 0x39] = 0xCBF43926 ∧ crc16 [] = 0xFFFF := by
  decide +kernel

/-- R377: a sum beyond 32 bits wraps with V set, and stops at the end of the range under SAT. -/
theorem test_add :
    let g : Vector (BitVec 32) 8 := #v[0x7FFFFFFF, 1, 0, 0, 0, 0, 0, 0]
    let s := after (.add 0 2 0 1) (upEng (.frame 0) fun e => { e with main := { g := g } })
    let t := after (.add 0 2 0 1) (upEng (.frame 0) fun e => { e with main := { g := g, st := 0x0420 } })
    (s.eng 0).readG 2 = 0x80000000#32 ∧ (t.eng 0).readG 2 = 0x7FFFFFFF#32 ∧ stV (s.eng 0).bank.st = true := by
  decide +kernel

/-- R390: −1 × −1 in fractional mode is the largest product and sets OV. -/
theorem test_mpy :
    let s := after (.mpy 0 {}) (upEng (.frame 0) fun e => { e with main := { g := #v[0x8000, 0, 0, 0, 0, 0, 0, 0], st := 0x0440 } })
    (s.eng 0).bank.fwd[0] = 0x7FFFFFFF#40 ∧ stOv (s.eng 0).bank.st = true := by
  decide +kernel

/-- R461, R463: PROD of 16 fills the ring of 16 slots; 17 is refused with BAD_INDEX. -/
theorem test_prod :
    (after (.prodWrite 0 16) up).host.rings[0].prod = 16 ∧ (after (.prodWrite 0 17) up).host.rings[0].prod = 0
      ∧ (after (.prodWrite 0 17) up).host.rings[0].badIndex = true := by
  decide +kernel

/-- R485, R487, R489: `sys.nop` answers OK with its own payload in a RING01 slot; a copy of it is answered DUPLICATE. -/
theorem test_nop :
    let c := cmdFor 0x0100 [1, 2, 3, 4]
    let s := after (.sysNop c) up
    let t := after (.sysNop c) s
    s.host.rings[1].prod = 1 ∧ s.grp.sources[0].last = some 1 ∧ s.grp.sources[0].accepted = 1
      ∧ t.host.rings[1].prod = 2 ∧ t.grp.sources[0].accepted = 1 := by
  decide +kernel

/-- R423: a release of HOLD closes every bank's gate and sends the record. -/
theorem test_release :
    let s := after (.holdRelease 34) (upPair fun m => { m with state := .holder, releaseDue := some 34 })
    s.mem.state = .released ∧ s.mem.leaps = 1 ∧ s.io.banks[15].gateOpen = false := by
  decide +kernel

/-- R285: a welded contactor's MIRROR cause locks the car out under the first LOCKOUT_ID. -/
theorem test_mirror :
    let x : Safe := { configured := true }
    let s := upCar fun c => { c with safe := x, service := .normal }
    (s.raise 0 4 noRef).grp.cars[0].service = Service.lockedOut ∧ bit (s.raise 0 4 noRef).grp.cars[0].safe.causes 4 = true
      ∧ (s.raise 0 4 noRef).grp.cars[0].safe.lockId = nextLockId s.grp.sg.counter := by
  decide +kernel

/-- R580: before POWER_GOOD nothing runs, and with it the module waits for RESET_N. -/
theorem test_power :
    (after .powerGood State.reset).boot.phase = .powered ∧ (after (.calends {}) State.reset).grp.frame = State.reset.grp.frame := by
  decide +kernel

end Sys2Proof.Tests
end

/-! PROOFS. The scope of the model: the state at power-on (R2, R580). -/

namespace Sys2Proof.Proofs

open Sys2Proof Sys2Proof.Machine

/-! ## What the fuse groups say (R552) -/

/-- The module is ISSUED when group 1 counts as blown and no higher group does. -/
theorem lifeOf_eq_issued {g : Vector Nat 4} (h₀ : 5 ≤ g[0]) (h₁ : g[1] < 5) (h₂ : g[2] < 5) (h₃ : g[3] < 5) :
    lifeOf g = .issued := by
  simp [lifeOf, h₀, Nat.not_le.mpr h₁, Nat.not_le.mpr h₂, Nat.not_le.mpr h₃]

/-! ## The state at power-on -/

/-- R2: the module leaves Criorauri with all fuses of group 1 blown and none of groups 2 to 4. -/
theorem reset_groups_getElem (i : Nat) (hi : i < 4) : State.reset.nv.groups[i] = if i = 0 then 8 else 0 :=
  Vector.getElem_ofFn hi

theorem lifeOf_reset_groups : lifeOf State.reset.nv.groups = .issued := by
  apply lifeOf_eq_issued <;> simp [reset_groups_getElem]

@[simp] theorem reset_epoch : State.reset.nv.epoch = 0 := rfl

@[simp] theorem reset_boot : State.reset.boot = {} := rfl

@[simp] theorem reset_mem : State.reset.mem = {} := rfl

/-! ## Soundness without power -/

/-- A module in its reset hold (R580) is sound when its fuses, EPOCH, LIFE and straps are and it takes no part in the pair: what
`Sound` asks of a started or a retired module says nothing of it. -/
theorem sound_of_off {s : State} (hoff : s.boot.phase = .off) (hfuses : ∀ g : Fin 4, s.nv.groups[g.val] ≤ 8)
    (hepoch : s.nv.epoch ≤ 0xFFFFFF) (hlife : s.boot.life = lifeOf s.nv.groups) (hstraps : s.boot.mode < 4)
    (hmember : s.mem.state = .starting) : Sound s where
  fuses := hfuses
  epoch := hepoch
  life := hlife
  straps := hstraps
  started h := by simp [hoff] at h
  retired h := by simp [hoff] at h
  member _ := hmember

/-- Settles O6: the module powers on in its reset hold, as it left Criorauri: ISSUED by its fuses, with EPOCH 0. -/
theorem resetSound : Obligations.ResetSound := by
  unfold Obligations.ResetSound
  apply sound_of_off
  case hoff => simp
  case hfuses =>
    intro g
    rw [reset_groups_getElem]
    split <;> omega
  case hepoch => simp
  case hlife => exact lifeOf_reset_groups.symm
  case hstraps => simp
  case hmember => simp

end Sys2Proof.Proofs

/-! PROOFS. Mailbox commands (R487): what an accepted or refused command leaves of the state, the commands that act at the next
Calends (R28) and those that pass admission first (R37). -/

namespace Sys2Proof.Machine

/-! ## The parts are all of the state -/

theorem Part.same_refl (p : Part) (s : State) : p.same s s := by
  cases p <;> simp [Part.same]

/-- Two states that agree with a third in a part agree in it with each other. -/
theorem Part.same_of_same_left {p : Part} {s t u : State} (ht : p.same s t) (hu : p.same s u) : p.same t u := by
  cases p <;> simp_all [Part.same]

theorem Part.same_symm {p : Part} {s t : State} (h : p.same s t) : p.same t s :=
  Part.same_of_same_left h (p.same_refl s)

theorem Part.same_trans {p : Part} {s t u : State} (ht : p.same s t) (hu : p.same t u) : p.same s u :=
  Part.same_of_same_left (Part.same_symm ht) hu

section

variable {s t : State} (h : ∀ p : Part, p.same s t)

include h

theorem nv_eq_of_same : s.nv = t.nv := by
  have hnv : _ ∧ _ ∧ _ ∧ _ ∧ _ ∧ _ ∧ _ ∧ _ :=
    ⟨h .leaf, h .recorder, h .fuses, h .life, h .firmware, h .stored, h .epoch, h .saveTime⟩
  simp only [Part.same] at hnv
  generalize s.nv = a at hnv ⊢
  generalize t.nv = b at hnv ⊢
  cases a; cases b
  simp_all

theorem boot_eq_of_same : s.boot = t.boot := by
  have hboot : _ ∧ _ ∧ _ :=
    ⟨h .leaf, h .straps, h .counts⟩
  simp only [Part.same] at hboot
  generalize s.boot = a at hboot ⊢
  generalize t.boot = b at hboot ⊢
  cases a; cases b
  simp_all

theorem grp_eq_of_same : s.grp = t.grp := by
  have hgrp : _ ∧ _ ∧ _ ∧ _ ∧ _ ∧ _ ∧ _ ∧ _ ∧ _ ∧ _ ∧ _ ∧ _ ∧ _ ∧ _ ∧ _ ∧ _ ∧ _ ∧ _ :=
    ⟨h .number, h .frame, h .clock, h .alm, h .shown, h .cars, h .disp, h .sg, h .deferred, h .streams, h .sources, h .jobs,
      h .sessions, h .kernels, h .engines, h .rides, h .saves, h .staging⟩
  simp only [Part.same] at hgrp
  generalize s.grp = a at hgrp ⊢
  generalize t.grp = b at hgrp ⊢
  cases a; cases b
  simp_all

theorem io_eq_of_same : s.io = t.io := by
  have hio : _ ∧ _ ∧ _ ∧ _ ∧ _ ∧ _ :=
    ⟨h .banks, h .image, h .buses, h .map, h .links, h .ends⟩
  simp only [Part.same] at hio
  generalize s.io = a at hio ⊢
  generalize t.io = b at hio ⊢
  cases a; cases b
  simp_all

theorem host_eq_of_same : s.host = t.host := by
  have hhost : _ ∧ _ ∧ _ ∧ _ :=
    ⟨h .rings, h .irq, h .window, h .net⟩
  simp only [Part.same] at hhost
  generalize s.host = a at hhost ⊢
  generalize t.host = b at hhost ⊢
  cases a; cases b
  simp_all

/-- Two states that agree in the queue and in every part are one state. -/
theorem State.eq_of_same (hpend : s.pending = t.pending) : s = t := by
  have hfree : s.free = t.free := h .free
  have hmem : s.mem = t.mem := h .member
  have hnv := nv_eq_of_same h
  have hboot := boot_eq_of_same h
  have hgrp := grp_eq_of_same h
  have hio := io_eq_of_same h
  have hhost := host_eq_of_same h
  cases s; cases t
  simp_all only

end

/-! ## Changes confined to some parts -/

/-- The queue and every part that `ps` does not list are the same in both states. -/
def Confined (ps : List Part) (s t : State) : Prop := t.pending = s.pending ∧ ∀ p ∉ ps, p.same s t

theorem confined_refl (ps : List Part) (s : State) : Confined ps s s := ⟨rfl, fun p _ => p.same_refl s⟩

theorem Confined.trans {ps : List Part} {s t u : State} (ht : Confined ps s t) (hu : Confined ps t u) : Confined ps s u :=
  ⟨hu.1.trans ht.1, fun p hp => Part.same_trans (ht.2 p hp) (hu.2 p hp)⟩

theorem Confined.mono {ps qs : List Part} {s t : State} (h : Confined ps s t) (hsub : ps ⊆ qs) : Confined qs s t :=
  ⟨h.1, fun p hp => h.2 p fun hps => hp (hsub hps)⟩

theorem confined_within (ps : List Part) (s t : State) : Confined ps s (s.within ps t) :=
  ⟨within_pending s t ps, fun p hp => same_within s t ps p hp⟩

/-- A command that keeps to its parts does within them all that it does. -/
theorem Confined.within_eq {ps : List Part} {s t : State} (h : Confined ps s t) : s.within ps t = t := by
  obtain ⟨hpend, hsame⟩ := h
  refine State.eq_of_same (fun p => ?_) ((within_pending s t ps).trans hpend.symm)
  by_cases hp : p ∈ ps
  · exact Part.same_symm (same_within_of_mem s t ps p hp)
  · exact Part.same_of_same_left (same_within s t ps p hp) (hsame p hp)

/-! ## The mail parts hold all that a reply changes (R472, R476) -/

theorem confined_modSource (s : State) (x : Source) (f : SrcState → SrcState) : Confined mailParts s (s.modSource x f) :=
  (confined_within [.sources] s (s.modSource x f)).mono (by decide)

theorem confined_modSession (s : State) (n : CarId) (f : Session → Session) : Confined mailParts s (s.modSession n f) :=
  (confined_within [.sessions] s (s.modSession n f)).mono (by decide)

theorem confined_ethSend (s : State) (b : List Byte) : Confined mailParts s (s.ethSend b) :=
  (confined_within [.net] s (s.ethSend b)).mono (by decide)

theorem confined_publish (s : State) (r : RingId) (b : List Byte) : Confined mailParts s (s.publish r b) :=
  (confined_within [.rings, .irq] s (s.publish r b)).mono (by decide)

theorem confined_held (s : State) (held : Vector (List Held) 72) :
    Confined mailParts s { s with host := { s.host with held := held } } :=
  (confined_within [.rings] s { s with host := { s.host with held := held } }).mono (by decide)

theorem confined_sendSlot (s : State) (n : CarId) (b : List Byte) : Confined mailParts s (s.sendSlot n b) :=
  (confined_ethSend s _).trans (confined_modSession _ n _)

theorem confined_postOne (s : State) (x : Source) : Confined mailParts s (s.postOne x) := by
  unfold State.postOne
  split
  case h_1 => exact confined_refl mailParts s
  case h_2 =>
    split
    extract_lets left held _ t
    have ht : Confined mailParts s t := confined_held s _
    split
    · exact confined_refl mailParts s
    · refine ht.trans ?_
      split
      · exact confined_sendSlot _ _ _
      · split
        · exact confined_publish _ _ _
        · exact confined_refl mailParts _

theorem confined_postHeld (n : Nat) (x : Source) (s : State) : Confined mailParts s (State.postHeld n x s) := by
  induction n generalizing s with
  | zero => exact confined_refl mailParts s
  | succ n ih => exact (confined_postOne s x).trans (ih _)

theorem confined_postReply (s : State) (dest : Option Source) (job : Option Nat) (b : List Byte) :
    Confined mailParts s (s.postReply dest job b) := by
  cases dest with
  | none => exact confined_refl mailParts s
  | some x =>
    unfold State.postReply
    dsimp only
    split_ifs
    · exact confined_refl mailParts s
    · exact (confined_held s _).trans (confined_postHeld _ x _)

theorem confined_replyTo (s : State) (opcode : Nat) (c : Cmd) (status : Nat) (p : List Byte) :
    Confined mailParts s (s.replyTo opcode c status p) := by
  unfold State.replyTo
  extract_lets t
  have ht : Confined mailParts s t := confined_modSource s c.src _
  split
  · exact ht
  · exact ht.trans (confined_postReply _ _ _ _)

theorem confined_consumed (s : State) (c : Cmd) : Confined mailParts s (s.consumed c) := confined_modSource s c.src _

theorem confined_answer (s : State) (opcode : Nat) (c : Cmd) (status : Nat) (p : List Byte) :
    Confined mailParts s (s.answer opcode c status p) :=
  (confined_modSource s c.src _).trans (confined_replyTo _ opcode c status p)

/-- What is staged is the one change beside the mail parts (R28). -/
theorem confined_stage (s : State) (d : Deferred) : Confined [.deferred] s (s.stage d) := confined_within [.deferred] s (s.stage d)

/-- A command accepted for the next Calends changes what is staged and the mail parts. -/
theorem confined_staged (s : State) (opcode : Nat) (c : Cmd) : Confined (.deferred :: mailParts) s (s.staged opcode c) :=
  ((confined_consumed s c).mono (by decide)).trans
    (((confined_stage _ _).mono (by decide)).trans ((confined_answer _ opcode c stOk []).mono (by decide)))

/-! ## A command that is judged well ends as its verdict says (R487) -/

/-- What a verdict leaves of the state `s` in which the command is consumed: a refusal is answered, an acceptance is counted and,
where it is final, answered. -/
def Verdict.close (opcode : Nat) (c : Cmd) (s : State) : Verdict → State
  | .refuse st p => s.replyTo opcode c st p
  | .done p t => t.answer opcode c stOk p
  | .result st p t => t.answer opcode c st p
  | .drop st p t => t.replyTo opcode c st p
  | .later t => t.counted c

/-- Tests 1 to 6 of R487 pass, so the row's own tests and effect decide. -/
theorem serve_of_judged {d : CmdDef} {c : Cmd} {s : State} (h : Judged d c s) :
    serve d c s = (d.act (future (s.consumed c)) c (s.consumed c)).close d.opcode c (s.consumed c) := by
  unfold serve judge
  rw [if_neg (by simp [h.takes]), if_neg (by simp [h.header])]
  extract_lets src reply expected t f ok
  have hnew : ¬(src.last = some c.seq ∧ src.lastHdr = c.hdrCheck ∧ src.lastPay = c.payCheck) := h.new
  have hseq : c.seq = expected := by
    cases hlast : src.last with
    | none => simp [expected, hlast]
    | some l => simpa [expected, hlast] using h.order l hlast
  have hlife : lifeAllows t.boot.life d.opcode = true := h.life
  have htarget : headerBad t c = none := h.target
  have hform : d.form f c.payload = none := h.form
  rw [if_neg hnew, if_neg (not_not_intro hseq)]
  dsimp only
  rw [if_neg (by simp [hlife]), if_neg (by simp [h.whole]), if_neg (by simp [h.check]), if_neg (by simp [h.len, h.chain]),
    htarget]
  dsimp only
  rw [hform]
  change _ = (d.act f c t).close d.opcode c t
  cases d.act f c t <;> rfl

/-! ## Commands whose effect waits for the next Calends (R28) -/

/-- A command that, where `allowed`, joins what the next Calends applies, and is refused STATE elsewhere. -/
def stageIf (allowed : Bool) (opcode : Nat) (c : Cmd) (s : State) : Verdict :=
  if allowed then .done [] (s.stage (.cmd opcode c.payload)) else .refuse stState []

/-- The same, with what forbids the command given first. -/
theorem ite_refuse_eq_stageIf {forbidden allowed : Bool} (h : allowed = !forbidden) (opcode : Nat) (c : Cmd) (s : State) :
    (if forbidden = true then .refuse stState [] else .done [] (s.stage (.cmd opcode c.payload))) = stageIf allowed opcode c s := by
  subst h
  cases forbidden <;> rfl

section

variable (f : State) (c : Cmd) (s : State)

theorem posLandingDef_act : posLandingDef.act f c s =
    stageIf ((f.car (carOf c.payload)).configured && (f.car (carOf c.payload)).out) 0x0411 c s :=
  ite_refuse_eq_stageIf (by simp) ..

theorem posWipeDef_act : posWipeDef.act f c s =
    stageIf ((f.car (carOf c.payload)).configured && (f.car (carOf c.payload)).out) 0x0416 c s :=
  ite_refuse_eq_stageIf (by simp) ..

theorem profZoneDef_act : profZoneDef.act f c s =
    stageIf ((f.car (carOf c.payload)).configured && (f.car (carOf c.payload)).out) 0x0512 c s :=
  ite_refuse_eq_stageIf (by simp) ..

theorem dispConfigDef_act : dispConfigDef.act f c s =
    stageIf (s.boot.mode != 1 && (byteAt c.payload 0 == f.grp.disp.cfg.mode || f.openRegs == 0)) 0x0620 c s :=
  ite_refuse_eq_stageIf (by simp [bne]) ..

theorem safeTerminalDef_act : safeTerminalDef.act f c s =
    stageIf ((f.car (carOf c.payload)).configured && (f.car (carOf c.payload)).out && (f.car (carOf c.payload)).safe.test.isNone)
      0x0811 c s :=
  ite_refuse_eq_stageIf (by simp) ..

theorem canMapDef_act : canMapDef.act f c s = stageIf (!f.mapClash (mapOf c.payload)) 0x0A14 c s :=
  ite_refuse_eq_stageIf rfl ..

theorem ul40ConfigDef_act : ul40ConfigDef.act f c s =
    stageIf (s.imageMode && (f.car (carOf c.payload)).configured && (f.car (carOf c.payload)).out) 0x0F10 c s :=
  ite_refuse_eq_stageIf (by simp) ..

theorem sigStopDef_act : sigStopDef.act f c s = stageIf ((f.kernel (slotOf c.payload)).state != .empty) 0x0B12 c s := by
  simp [sigStopDef, stageIf]

theorem sigUnloadDef_act : sigUnloadDef.act f c s = stageIf ((f.kernel (slotOf c.payload)).state != .empty) 0x0B13 c s := by
  simp [sigUnloadDef, stageIf]

theorem sigParamDef_act : sigParamDef.act f c s = stageIf ((f.kernel (slotOf c.payload)).state != .empty) 0x0B14 c s := by
  simp [sigParamDef, stageIf]

theorem canRecoverDef_act : canRecoverDef.act f c s =
    stageIf (f.io.buses[(busOf c.payload).val].errorState == .busOff) 0x0A13 c s := by
  simp [canRecoverDef, stageIf]

theorem frameResumeDef_act : frameResumeDef.act f c s =
    stageIf (f.grp.overrun == some (fieldAt c.payload 0 8) && (!f.grp.admissionHeld || (breachOf f f true).isNone))
      0x0122 c s := by
  simp [frameResumeDef, stageIf]

end

/-! ## What a judged command answers -/

section

variable {i : Instr} {d : CmdDef} {c : Cmd} {s : State}
  (hexec : exec i s = .next (s.within (.deferred :: mailParts) (serve d c s))) (h : Judged d c s)

include hexec h

theorem exec_eq_staged
    (hact : d.act (future (s.consumed c)) c (s.consumed c) = .done [] ((s.consumed c).stage (.cmd d.opcode c.payload))) :
    exec i s = .next (s.staged d.opcode c) := by
  rw [hexec, serve_of_judged h, hact]
  exact congrArg _ (confined_staged s d.opcode c).within_eq

theorem exec_eq_refused {st : Nat} {p : List Byte} (hact : d.act (future (s.consumed c)) c (s.consumed c) = .refuse st p) :
    exec i s = .next ((s.consumed c).replyTo d.opcode c st p) := by
  rw [hexec, serve_of_judged h, hact]
  have hreply := (confined_consumed s c).trans (confined_replyTo (s.consumed c) d.opcode c st p)
  exact congrArg _ (hreply.mono (by decide)).within_eq

end

/-- A command that takes effect at the next Calends: judged well it is staged where it is allowed, and refused STATE elsewhere. -/
def StagedRow (c : Cmd) (s : State) (i : Instr) (d : CmdDef) (allowed : Bool) : Prop :=
  Judged d c s →
    (allowed = true → exec i s = .next (s.staged d.opcode c))
    ∧ (allowed = false → exec i s = .next ((s.consumed c).replyTo d.opcode c stState []))

theorem stagedRow_of_stageIf {i : Instr} {d : CmdDef} {c : Cmd} {s : State} {allowed : Bool}
    (hexec : exec i s = .next (s.within (.deferred :: mailParts) (serve d c s)))
    (hact : d.act (future (s.consumed c)) c (s.consumed c) = stageIf allowed d.opcode c (s.consumed c)) :
    StagedRow c s i d allowed := by
  intro h
  constructor
  · rintro rfl
    exact exec_eq_staged hexec h hact
  · rintro rfl
    exact exec_eq_refused hexec h hact

/-! ## Commands that pass admission first (R37) -/

theorem admitStage_of_none {f : State} {after : State → State} {bg : Bool} {slot : Nat} (h : admitOf f (after f) bg slot = none)
    (x : Deferred) (reply : List Byte) (s : State) : admitStage f after bg slot x reply s = .done reply (s.stage x) := by
  rw [admitStage, h]

theorem admitStage_of_some {f : State} {after : State → State} {bg : Bool} {slot : Nat} {r : List Byte}
    (h : admitOf f (after f) bg slot = some r) (x : Deferred) (reply : List Byte) (s : State) :
    admitStage f after bg slot x reply s = .refuse stAdmission r := by
  rw [admitStage, h]

/-- The refusal of a command that the state does not allow: STATE, and for a terminal whose request point is not hot ADMISSION with
KIND 5 (R194, R494). -/
def notAllowed (opcode : Nat) (c : Cmd) : Verdict :=
  if opcode = 0x0622 then .refuse stAdmission (({ kind := 5, subject := (terminalOf c.payload).point } : Breach).bytes 0xFF)
  else .refuse stState []

/-- A command that, where `allowed`, is judged for admission with `after` as its effect, and is refused elsewhere. -/
def admitIf (allowed : Bool) (after : State → State) (bg : Bool) (slot opcode : Nat) (f : State) (c : Cmd) (s : State) : Verdict :=
  if allowed then admitStage f after bg slot (.cmd opcode c.payload) [] s else notAllowed opcode c

/-- The same, with what forbids the command given first. -/
theorem ite_refuse_eq_admitIf {forbidden allowed : Bool} {opcode : Nat} (h : allowed = !forbidden) (hop : opcode ≠ 0x0622)
    (after : State → State) (bg : Bool) (slot : Nat) (f : State) (c : Cmd) (s : State) :
    (if forbidden = true then .refuse stState [] else admitStage f after bg slot (.cmd opcode c.payload) [] s)
      = admitIf allowed after bg slot opcode f c s := by
  subst h
  cases forbidden <;> simp [admitIf, notAllowed, hop]

section

variable (f : State) (c : Cmd) (s : State)

theorem posConfigDef_act : posConfigDef.act f c s =
    admitIf ((f.car (carOf c.payload)).out && !(posRemoves c.payload && (f.car (carOf c.payload)).safe.causes != 0))
      (setPosConfig c.payload) false 0xFF 0x0410 f c s :=
  ite_refuse_eq_admitIf (by simp) (by decide) ..

theorem profConfigDef_act : profConfigDef.act f c s =
    admitIf ((f.car (carOf c.payload)).configured && (f.car (carOf c.payload)).out)
      (applyProfConfig c.payload) false 0xFF 0x0510 f c s :=
  ite_refuse_eq_admitIf (by simp) (by decide) ..

theorem dispTerminalDef_act : dispTerminalDef.act f c s =
    admitIf (f.entry (terminalOf c.payload).point).hot (applyTerminal c.payload) true 0xFF 0x0622 f c s := rfl

theorem doorConfigDef_act : doorConfigDef.act f c s =
    admitIf ((f.car (carOf c.payload)).configured && (f.car (carOf c.payload)).out)
      (applyDoorConfig c.payload) false 0xFF 0x0710 f c s :=
  ite_refuse_eq_admitIf (by simp) (by decide) ..

theorem doorAxisDef_act : doorAxisDef.act f c s =
    admitIf ((f.car (carOf c.payload)).configured && (f.car (carOf c.payload)).out)
      (applyDoorAxis c.payload) false 0xFF 0x0711 f c s :=
  ite_refuse_eq_admitIf (by simp) (by decide) ..

theorem safeConfigDef_act : safeConfigDef.act f c s =
    admitIf ((f.car (carOf c.payload)).configured && (f.car (carOf c.payload)).out && (f.car (carOf c.payload)).safe.test.isNone)
      (setSafeConfig c.payload) false 0xFF 0x0810 f c s :=
  ite_refuse_eq_admitIf (by simp) (by decide) ..

theorem canConfigDef_act : canConfigDef.act f c s =
    admitIf ((busOf c.payload).val % 2 == 1 || (f.car (busCar (busOf c.payload))).out)
      (setCanConfig c.payload) true 0xFF 0x0A10 f c s := by
  rw [← ite_refuse_eq_admitIf (opcode := 0x0A10) _ (by decide)
    (forbidden := (busOf c.payload).val % 2 == 0 && !(f.car (busCar (busOf c.payload))).out)]
  · simp [canConfigDef]
  · rcases Nat.mod_two_eq_zero_or_one (busOf c.payload).val with heven | hodd
    · simp [heven]
    · simp [hodd]

theorem clConfigDef_act : clConfigDef.act f c s =
    admitIf (f.car (carOf c.payload)).out (applyClConfig c.payload) true 0xFF 0x0A20 f c s :=
  ite_refuse_eq_admitIf (by simp) (by decide) ..

theorem sigStartDef_act : sigStartDef.act f c s =
    admitIf ((f.kernel (slotOf c.payload)).state == .loaded || (f.kernel (slotOf c.payload)).state == .suspended)
      (applySigStart c.payload) true (slotOf c.payload).val 0x0B11 f c s := by
  simp [sigStartDef, admitIf, notAllowed]

/-- Where the control plane runs, `ring.config` is a command like the others; where it does not, it acts at once. -/
theorem ringConfigDef_act_of_running (hrun : s.running = true) : ringConfigDef.act f c s =
    admitIf (s.running && !s.ringBusy f c) (applyRingConfig c.payload) true 0xFF 0x0D10 f c s := by
  rw [← ite_refuse_eq_admitIf (forbidden := s.ringBusy f c) (by simp [hrun]) (by decide)]
  simp only [ringConfigDef, hrun, if_true]

end

/-- A command with a configuration: where `allowed` and within every limit it is staged, over a limit it is refused ADMISSION with
the breach, and where it is not allowed it is refused for that. -/
def AdmittedRow (c : Cmd) (s : State) (i : Instr) (d : CmdDef) (allowed : Bool) (after : State → State) (bg : Bool) (slot : Nat) :
    Prop :=
  let f := future (s.consumed c)
  Judged d c s →
    (allowed = true → admitOf f (after f) bg slot = none → exec i s = .next (s.staged d.opcode c))
    ∧ (allowed = true → ∀ r : List Byte, admitOf f (after f) bg slot = some r →
        exec i s = .next ((s.consumed c).replyTo d.opcode c stAdmission r))
    ∧ (allowed = false → (d.opcode = 0x0D10 → s.running = true) →
        exec i s = .next (if d.opcode = 0x0622 then
            (s.consumed c).replyTo 0x0622 c stAdmission
              (({ kind := 5, subject := (terminalOf c.payload).point } : Breach).bytes 0xFF)
          else (s.consumed c).replyTo d.opcode c stState []))

section

variable {i : Instr} {d : CmdDef} {c : Cmd} {s : State}
  (hexec : exec i s = .next (s.within (.deferred :: mailParts) (serve d c s)))

include hexec

theorem exec_of_notAllowed (h : Judged d c s) (hact : d.act (future (s.consumed c)) c (s.consumed c) = notAllowed d.opcode c) :
    exec i s = .next (if d.opcode = 0x0622 then
        (s.consumed c).replyTo 0x0622 c stAdmission (({ kind := 5, subject := (terminalOf c.payload).point } : Breach).bytes 0xFF)
      else (s.consumed c).replyTo d.opcode c stState []) := by
  by_cases hop : d.opcode = 0x0622
  · rw [notAllowed, if_pos hop] at hact
    rw [if_pos hop, ← hop]
    exact exec_eq_refused hexec h hact
  · rw [notAllowed, if_neg hop] at hact
    rw [if_neg hop]
    exact exec_eq_refused hexec h hact

theorem admittedRow_of_admitIf {allowed bg : Bool} {after : State → State} {slot : Nat}
    (hact : d.act (future (s.consumed c)) c (s.consumed c)
      = admitIf allowed after bg slot d.opcode (future (s.consumed c)) c (s.consumed c)) :
    AdmittedRow c s i d allowed after bg slot := by
  intro h
  refine ⟨?fits, ?breaks, ?forbidden⟩
  case fits =>
    rintro rfl hnone
    exact exec_eq_staged hexec h (hact.trans (admitStage_of_none hnone ..))
  case breaks =>
    rintro rfl r hsome
    exact exec_eq_refused hexec h (hact.trans (admitStage_of_some hsome ..))
  case forbidden =>
    rintro rfl _
    exact exec_of_notAllowed hexec h hact

end

/-- Without a running control plane the row says nothing of `ring.config`. -/
theorem ringConfig_admittedRow (c : Cmd) (s : State) :
    AdmittedRow c s (.ringConfig c) ringConfigDef (s.running && !(s.consumed c).ringBusy (future (s.consumed c)) c)
      (applyRingConfig c.payload) true 0xFF := by
  cases hrun : s.running with
  | true =>
    have hact := ringConfigDef_act_of_running (future (s.consumed c)) c (s.consumed c) hrun
    rw [show (s.consumed c).running = true from hrun] at hact
    exact admittedRow_of_admitIf rfl hact
  | false =>
    exact fun _ => ⟨fun hallowed => absurd hallowed (by simp), fun hallowed => absurd hallowed (by simp),
      fun _ hneeds => absurd (hrun.symm.trans (hneeds rfl)) (by simp)⟩

end Sys2Proof.Machine

namespace Sys2Proof.Proofs

open Sys2Proof Sys2Proof.Machine

/-- Settles O55: each row is a command whose own test decides whether it is staged or refused STATE, and nothing that it does lies
outside what is staged and the mail parts. -/
theorem stagedCommands : Obligations.StagedCommands := by
  unfold Obligations.StagedCommands
  intro c s f x p k
  change ∀ q ∈ (_ : List (Instr × CmdDef × Bool)), StagedRow c s q.1 q.2.1 q.2.2
  simp only [List.forall_mem_cons]
  -- The rows closed by a second `rfl` have their test in the definition as `stageIf` has it.
  exact ⟨stagedRow_of_stageIf (d := posLandingDef) rfl (posLandingDef_act ..),
    stagedRow_of_stageIf (d := posWipeDef) rfl (posWipeDef_act ..),
    stagedRow_of_stageIf (d := posCorrectDef) rfl rfl,
    stagedRow_of_stageIf (d := profLimitsDef) rfl rfl,
    stagedRow_of_stageIf (d := profZoneDef) rfl (profZoneDef_act ..),
    stagedRow_of_stageIf (d := carServiceDef) rfl rfl,
    stagedRow_of_stageIf (d := carStopRemoveDef) rfl rfl,
    stagedRow_of_stageIf (d := dispConfigDef) rfl (dispConfigDef_act ..),
    stagedRow_of_stageIf (d := dispWeightsDef) rfl rfl,
    stagedRow_of_stageIf (d := bankConfigDef) rfl rfl,
    stagedRow_of_stageIf (d := doorOpenDef) rfl rfl,
    stagedRow_of_stageIf (d := doorCloseDef) rfl rfl,
    stagedRow_of_stageIf (d := doorStopDef) rfl rfl,
    stagedRow_of_stageIf (d := doorLearnDef) rfl rfl,
    stagedRow_of_stageIf (d := safeTerminalDef) rfl (safeTerminalDef_act ..),
    stagedRow_of_stageIf (d := canMapDef) rfl (canMapDef_act ..),
    stagedRow_of_stageIf (d := canRecoverDef) rfl (canRecoverDef_act ..),
    stagedRow_of_stageIf (d := sigStopDef) rfl (sigStopDef_act ..),
    stagedRow_of_stageIf (d := sigUnloadDef) rfl (sigUnloadDef_act ..),
    stagedRow_of_stageIf (d := sigParamDef) rfl (sigParamDef_act ..),
    stagedRow_of_stageIf (d := ul40ConfigDef) rfl (ul40ConfigDef_act ..),
    stagedRow_of_stageIf (d := frameResumeDef) rfl (frameResumeDef_act ..),
    fun _ hq => absurd hq List.not_mem_nil⟩

/-- Settles O56: each row is a command whose own test decides whether it is judged for admission; one within the limits is staged,
and every refusal changes only the mail parts. -/
theorem admittedCommands : Obligations.AdmittedCommands := by
  unfold Obligations.AdmittedCommands
  intro c s f x p
  change ∀ q ∈ (_ : List (Instr × CmdDef × Bool × (State → State) × Bool × Nat)),
    AdmittedRow c s q.1 q.2.1 q.2.2.1 q.2.2.2.1 q.2.2.2.2.1 q.2.2.2.2.2
  simp only [List.forall_mem_cons]
  exact ⟨admittedRow_of_admitIf rfl (posConfigDef_act ..), admittedRow_of_admitIf rfl (profConfigDef_act ..),
    admittedRow_of_admitIf rfl (dispTerminalDef_act ..), admittedRow_of_admitIf rfl (doorConfigDef_act ..),
    admittedRow_of_admitIf rfl (doorAxisDef_act ..), admittedRow_of_admitIf rfl (safeConfigDef_act ..),
    admittedRow_of_admitIf rfl (canConfigDef_act ..), admittedRow_of_admitIf rfl (clConfigDef_act ..),
    admittedRow_of_admitIf rfl (sigStartDef_act ..), ringConfig_admittedRow c s, fun _ hq => absurd hq List.not_mem_nil⟩

end Sys2Proof.Proofs

/-! PROOFS. A holder's Calends (R33, R20): it begins the next frame, and of the module's start-up state (`State.boot`) the frame's
phases change the count of corrected cache words alone. -/

namespace Sys2Proof.Machine

open Sys2Proof

/-! ## The start-up state lies in three parts -/

theorem boot_eq_of_parts {s t : State} (hstraps : Part.straps.same s t) (hcounts : Part.counts.same s t)
    (hnext : s.boot.nextQ = t.boot.nextQ) : s.boot = t.boot := by
  simp only [Part.same] at hstraps hcounts
  generalize s.boot = a at *
  generalize t.boot = b at *
  cases a; cases b
  simp_all

theorem Confined.boot_eq {ps : List Part} {s t : State} (h : Confined ps s t)
    (hps : Part.straps ∉ ps ∧ Part.counts ∉ ps ∧ Part.leaf ∉ ps) : t.boot = s.boot := by
  obtain ⟨hstraps, hcounts, hleaf⟩ := hps
  exact (boot_eq_of_parts (h.2 .straps hstraps) (h.2 .counts hcounts) (h.2 .leaf hleaf).1).symm

/-! ## Changes that leave it

One lemma for each function that a holder's frame runs. They chain by `simp`; a step that branches by `match` is split first, also
where it is the step of a fold, which is then shown on its own to keep the start-up state. -/

/-- A change of the state that leaves its start-up state. -/
def KeepsBoot (f : State → State) : Prop := ∀ s, (f s).boot = s.boot

@[simp] theorem keepsBoot_iff (f : State → State) : KeepsBoot f ↔ ∀ s, (f s).boot = s.boot := ⟨id, id⟩

section

variable {α : Type} (s : State)

@[simp] theorem ite_boot (c : Prop) [Decidable c] (t : State) : (if c then s else t).boot = if c then s.boot else t.boot :=
  apply_ite ..

theorem foldl_boot_of_mem {f : State → α → State} (l : List α) (h : ∀ a ∈ l, KeepsBoot (f · a)) :
    (l.foldl f s).boot = s.boot := by
  induction l generalizing s with
  | nil => rfl
  | cons a l ih =>
    calc (l.foldl f (f s a)).boot = (f s a).boot := ih _ fun b hb => h b (List.mem_cons_of_mem a hb)
      _ = s.boot := h a List.mem_cons_self s

@[simp] theorem foldl_boot {f : State → α → State} (l : List α) (h : ∀ a, KeepsBoot (f · a)) :
    (l.foldl f s).boot = s.boot :=
  foldl_boot_of_mem s l fun a _ => h a

@[simp] theorem eachCar_boot {f : State → CarId → State} (h : ∀ c, KeepsBoot (f · c)) : (eachCar f s).boot = s.boot :=
  foldl_boot s _ h

@[simp] theorem eachPort_boot {f : State → Fin 16 → State} (h : ∀ b, KeepsBoot (f · b)) : (eachPort f s).boot = s.boot :=
  foldl_boot s _ h

@[simp] theorem eachEngine_boot {f : State → EngId → State} (h : ∀ e, KeepsBoot (f · e)) : (eachEngine f s).boot = s.boot :=
  foldl_boot s _ h

end

section

variable (s : State)

/-! ### The end of a frame: its ladder breaks (R31) and what a member settles of its own (R533, R539) -/

@[simp] theorem nextFrame_boot : s.nextFrame.boot = s.boot := by simp [State.nextFrame]
@[simp] theorem ladderBreak_boot (kept broken car subject : Nat) : (s.ladderBreak kept broken car subject).boot = s.boot := rfl

@[simp] theorem windowBreaks_boot (x : FrameIn) : (s.windowBreaks x).boot = s.boot := by
  simp only [State.windowBreaks]
  split <;> simp

@[simp] theorem measure_boot (n : Nat) : (s.measure n).boot = s.boot := by simp [State.measure]
@[simp] theorem timerExpires_boot (b : BankId) : (s.timerExpires b).boot = s.boot := rfl
@[simp] theorem settleHoldoff_boot (b : BankId) : (s.settleHoldoff b).boot = s.boot := by simp [State.settleHoldoff]
@[simp] theorem settleOwn_boot : s.settleOwn.boot = s.boot := by simp [State.settleOwn, State.tickSecond, State.saveSeconds]

/-! ### The events of motion and position that are due (05, 04) -/

@[simp] theorem modMotion_boot (c : CarId) (f : Motion → Motion) : (s.modMotion c f).boot = s.boot := rfl

@[simp] theorem enterService_boot (car : CarId) (st : Service) (rung : Nat) (byModule : Bool) :
    (s.enterService car st rung byModule).boot = s.boot :=
  rfl

@[simp] theorem faultService_boot (car : CarId) : (s.faultService car).boot = s.boot := by simp [State.faultService]
@[simp] theorem setBrakes_boot (car : CarId) : (s.setBrakes car).boot = s.boot := rfl

@[simp] theorem positionStop_boot (car : CarId) : (s.positionStop car).boot = s.boot := by
  simp only [State.positionStop]
  split <;> simp

@[simp] theorem profileFault_boot (car : CarId) (code : Nat) : (s.profileFault car code).boot = s.boot := by
  unfold State.profileFault
  (repeat' split) <;> simp

@[simp] theorem completeStop_boot (car : CarId) (landing : Nat) : (s.completeStop car landing).boot = s.boot := rfl

@[simp] theorem stopComplete_boot (car : CarId) : (s.stopComplete car).boot = s.boot := by
  simp only [State.stopComplete]
  (repeat' split) <;> simp

@[simp] theorem settleMotion_boot (car : CarId) : (s.settleMotion car).boot = s.boot := by
  simp [State.settleMotion, State.settleTimeout]

@[simp] theorem modPos_boot (c : CarId) (f : Pos → Pos) : (s.modPos c f).boot = s.boot := rfl

@[simp] theorem positionFault_boot (car : CarId) (code : Nat) : (s.positionFault car code).boot = s.boot := by
  unfold State.positionFault
  (repeat' split) <;> simp

@[simp] theorem sourcesLost_boot (car : CarId) : (s.sourcesLost car).boot = s.boot := by simp [State.sourcesLost]

@[simp] theorem takeSample_boot (car : CarId) : (s.takeSample car).boot = s.boot := by
  simp only [State.takeSample]
  split <;> simp

@[simp] theorem demandRelevel_boot (car : CarId) : (s.demandRelevel car).boot = s.boot := rfl

/-! ### Replies (R472, R476), and the end of a learning run -/

@[simp] theorem publish_boot (r : RingId) (b : List Byte) : (s.publish r b).boot = s.boot :=
  (confined_publish s r b).boot_eq (by decide)

@[simp] theorem postReply_boot (dest : Option Source) (job : Option Nat) (b : List Byte) :
    (s.postReply dest job b).boot = s.boot :=
  (confined_postReply s dest job b).boot_eq (by decide)

@[simp] theorem endJob_boot (j : Job) (status : Nat) (payload : List Byte) : (endJob j status payload s).boot = s.boot := by
  simp [endJob]

@[simp] theorem learnComplete_boot (car : CarId) : (s.learnComplete car).boot = s.boot := by
  simp only [State.learnComplete]
  (repeat' split) <;> simp

@[simp] theorem settlePosition_boot (car : CarId) : (s.settlePosition car).boot = s.boot := by simp [State.settlePosition]

/-! ### Causes, lockouts and tests (08) -/

@[simp] theorem modSafe_boot (c : CarId) (f : Safe → Safe) : (s.modSafe c f).boot = s.boot := rfl

@[simp] theorem finishTest_boot (car : CarId) : (s.finishTest car).boot = s.boot := by
  simp only [State.finishTest]
  (repeat' split) <;> simp

@[simp] theorem abortTest_boot (car : CarId) : (s.abortTest car).boot = s.boot := by simp [State.abortTest]

@[simp] theorem latchCause_boot (car : CarId) (code chan id : Nat) : (s.latchCause car code chan id).boot = s.boot := by
  simp [State.latchCause, State.lockService]

@[simp] theorem raise_boot (car : CarId) (code chan : Nat) : (s.raise car code chan).boot = s.boot := by simp [State.raise]
@[simp] theorem find_boot (car : CarId) (n code chan : Nat) : (s.find car n code chan).boot = s.boot := by simp [State.find]
@[simp] theorem raiseDisc_boot (car : CarId) (i : Fin 5) : (s.raiseDisc car i).boot = s.boot := by simp [State.raiseDisc]
@[simp] theorem raiseMirror_boot (car : CarId) (ch : Side) : (s.raiseMirror car ch).boot = s.boot := by simp [State.raiseMirror]
@[simp] theorem raiseLift_boot (car : CarId) (ch : Side) : (s.raiseLift car ch).boot = s.boot := by simp [State.raiseLift]

@[simp] theorem testTimeout_boot (car : CarId) : (s.testTimeout car).boot = s.boot := by
  unfold State.testTimeout
  split <;> simp

@[simp] theorem settleSafe_boot (car : CarId) : (s.settleSafe car).boot = s.boot := by
  simp [State.settleSafe, State.raiseSource, State.raiseXcheck, State.raiseTerminal]

/-! ### Doors (07) -/

@[simp] theorem modDoor_boot (c : CarId) (d : Side) (f : Door → Door) : (s.modDoor c d f).boot = s.boot := rfl

@[simp] theorem reopenDoor_boot (car : CarId) (side : Side) : (s.reopenDoor car side).boot = s.boot := by
  simp [State.reopenDoor, State.noteClamp]

@[simp] theorem sampleAxis_boot (car : CarId) (side a : Side) : (s.sampleAxis car side a).boot = s.boot := by
  simp only [State.sampleAxis]
  split <;> simp

@[simp] theorem moveComplete_boot (car : CarId) (side : Side) : (s.moveComplete car side).boot = s.boot := by
  simp only [State.moveComplete]
  split <;> simp [State.learnMove]

@[simp] theorem doorFault_boot (car : CarId) (side : Side) (code : Nat) : (s.doorFault car side code).boot = s.boot := by
  simp [State.doorFault]

@[simp] theorem settleDoor_boot (car : CarId) (side : Side) : (s.settleDoor car side).boot = s.boot := by
  simp [State.settleDoor, State.obstruct, State.notClosed, State.gearSync, State.dwellEnd]

/-! ### Registrations (R191) -/

@[simp] theorem allocReg_boot (f : State) : (s.allocReg f).2.boot = s.boot := by
  simp only [State.allocReg]
  split <;> simp

@[simp] theorem request_boot (f : State) (origin dest flags fixture : Nat) :
    (s.request f origin dest flags fixture).2.2.boot = s.boot := by
  have halloc := allocReg_boot s f
  simp only [State.request]
  split
  · simp
  · split
    · rfl
    · split <;> simp_all

@[simp] theorem takeRequest_boot (i : Nat) : (s.takeRequest i).boot = s.boot := by
  unfold State.takeRequest
  (repeat' split) <;> simp [State.modTerminal]

/-! ### CAN and the CiA 417 map (10) -/

@[simp] theorem settleBus_boot (b : BusId) : (s.settleBus b).boot = s.boot := by
  simp only [State.settleBus]
  (repeat' split) <;> simp [State.heartbeat, State.sendSync, State.nodeLost]

@[simp] theorem sendMap_boot (i : Fin 512) (v : Int) : (s.sendMap i v).boot = s.boot := rfl
@[simp] theorem settleMap_boot : s.settleMap.boot = s.boot := by simp [State.settleMap, State.outRefresh]

/-! ### Signal engines (11) -/

@[simp] theorem vendorBank_boot (e : EngId) (shadow : Bool) : (s.vendorBank e shadow).boot = s.boot := rfl

@[simp] theorem enterCtx_boot (e : EngId) (c : EngCtx) : (s.enterCtx e c).boot = s.boot := by
  unfold State.enterCtx
  split <;> simp

@[simp] theorem toBackground_boot (e : EngId) : (s.toBackground e).boot = s.boot := by
  simp only [State.toBackground]
  (repeat' split) <;> simp

@[simp] theorem resume_boot (e : EngId) : (s.resume e).boot = s.boot := by
  unfold State.resume
  split <;> simp

@[simp] theorem nextCtx_boot (e : EngId) : (s.nextCtx e).boot = s.boot := by
  simp only [State.nextCtx]
  (repeat' split) <;> simp [State.vendorBackground]

@[simp] theorem faultOutputs_boot (k : SlotId) (bad : Bool) : (s.faultOutputs k bad).boot = s.boot := by
  simp [State.faultOutputs]

@[simp] theorem ctxOver_boot (e : EngId) : (s.ctxOver e).boot = s.boot := by
  simp only [State.ctxOver]
  split <;> simp

@[simp] theorem faultCtx_boot (e : EngId) (code : Nat) : (s.faultCtx e code).boot = s.boot := by
  simp only [State.faultCtx]
  split <;> simp [State.kernelFault]

@[simp] theorem stopCtx_boot (e : EngId) : (s.stopCtx e).boot = s.boot := by
  unfold State.stopCtx
  split <;> simp

@[simp] theorem pollHandlers_boot (e : EngId) : (s.pollHandlers e).boot = s.boot := by
  simp only [State.pollHandlers]
  split <;> simp

@[simp] theorem engEvent_boot (e : EngId) (ctx : EngCtx) (ev : EngEvent) : (s.engEvent e ctx ev).boot = s.boot := by
  simp only [State.engEvent]
  (repeat' split) <;> simp [State.commitKernel, State.freeSlot]

@[simp] theorem issue_boot (e : EngId) (i : EInstr) : (s.issue e i).boot = s.boot := by
  simp only [State.issue]
  (repeat' split) <;> simp

@[simp] theorem runEngine_boot (n : Nat) (e : EngId) (stop : State → Bool) : (State.runEngine n e stop s).boot = s.boot := by
  induction n generalizing s with
  | zero => rfl
  | succ n ih =>
    simp only [State.runEngine]
    split
    · rfl
    · rw [ih]
      split
      · simp
      · split <;> simp

@[simp] theorem settleFrameLevel_boot (e : EngId) : (s.settleFrameLevel e).boot = s.boot := by simp [State.settleFrameLevel]
@[simp] theorem settleBackground_boot (e : EngId) : (s.settleBackground e).boot = s.boot := by simp [State.settleBackground]

/-! ### The frame closes (R46, R47) -/

@[simp] theorem settleFrame_boot : s.settleFrame.boot = s.boot := by
  simp only [State.settleFrame]
  split <;> simp [State.settleDispatcher]

@[simp] theorem raiseModule_boot (code : Nat) : (s.raiseModule code).boot = s.boot := by simp [State.raiseModule]
@[simp] theorem latchOverrun_boot (n : Nat) : (s.latchOverrun n).boot = s.boot := by simp [State.latchOverrun]

@[simp] theorem markAttempt_boot (b : BusId) : (s.markAttempt b).boot = s.boot := by
  unfold State.markAttempt
  (repeat' split) <;> simp

@[simp] theorem closeFrame_boot (x : FrameIn) : (s.closeFrame x).boot = s.boot := by simp [State.closeFrame]

/-! ### The latch (R19) and the commit of lanes (R20) -/

@[simp] theorem markPulses_boot (car : CarId) : (s.markPulses car).boot = s.boot := by
  refine foldl_boot s _ fun o s => ?_
  dsimp only
  split
  · split <;> simp
  · rfl

@[simp] theorem laneFaultEvent_boot (b : BankId) (old new : BankImage) (l : LaneId) :
    (s.laneFaultEvent b old new l).boot = s.boot := by
  unfold State.laneFaultEvent
  split <;> simp

@[simp] theorem gatherBank_boot (x : FrameIn) (b : BankId) : (s.gatherBank x b).boot = s.boot := by
  simp [State.gatherBank, State.bankStatusEvent]

@[simp] theorem latchEncoders_boot (x : FrameIn) : (s.latchEncoders x).boot = s.boot := rfl
@[simp] theorem latchLinks_boot (x : FrameIn) : (s.latchLinks x).boot = s.boot := by simp [State.latchLinks, State.latchLink]
@[simp] theorem latchBus_boot (b : BusId) : (s.latchBus b).boot = s.boot := by simp [State.latchBus]
@[simp] theorem commitLanes_boot : s.commitLanes.boot = s.boot := rfl

@[simp] theorem laneConflict_boot (old : State) (c : CarId) : (old.laneConflict s c).boot = s.boot := by
  simp only [State.laneConflict]
  split <;> simp

/-! ### CAN frames that are discarded (R339), the group safe state (R48) -/

@[simp] theorem countDiscard_boot (chan : Nat) : (s.countDiscard chan).boot = s.boot := by simp [State.countDiscard]

@[simp] theorem endSend_boot (job outcome : Nat) : (s.endSend job outcome).boot = s.boot := by
  unfold State.endSend
  split <;> simp

@[simp] theorem discarded_boot (b : BusId) (t : TxEntry) : (s.discarded b t).boot = s.boot := by
  unfold State.discarded
  split <;> simp

@[simp] theorem dropTx_boot (b : BusId) (p : TxEntry → Bool) : (s.dropTx b p).boot = s.boot := by simp [State.dropTx]
@[simp] theorem expireBus_boot (b : BusId) : (s.expireBus b).boot = s.boot := by simp [State.expireBus]

@[simp] theorem dropUserArea_boot (link : CarId) : (s.dropUserArea link).boot = s.boot := by
  unfold State.dropUserArea
  split <;> simp

@[simp] theorem applyFrameResume_boot (p : List Byte) : (applyFrameResume p s).boot = s.boot := rfl

/-! ### Cars at their Calends: images, stops, service -/

@[simp] theorem commitCar_boot (c : CarId) : (s.commitCar c).boot = s.boot := rfl
@[simp] theorem modUl_boot (c : CarId) (f : Ul40 → Ul40) : (s.modUl c f).boot = s.boot := rfl
@[simp] theorem swapImage_boot (car : CarId) : (s.swapImage car).boot = s.boot := rfl

@[simp] theorem replyTo_boot (opcode : Nat) (c : Cmd) (status : Nat) (p : List Byte) :
    (s.replyTo opcode c status p).boot = s.boot :=
  (confined_replyTo s opcode c status p).boot_eq (by decide)

@[simp] theorem replyLate_boot (opcode : Nat) (c : Cmd) (serial status : Nat) (payload : List Byte) :
    (s.replyLate opcode c serial status payload).boot = s.boot := by
  simp [State.replyLate]

@[simp] theorem endReset_boot (car : CarId) : (s.endReset car).boot = s.boot := by
  simp only [State.endReset]
  split <;> simp [State.unlock]

@[simp] theorem dropRegStops_boot (chan : Nat) : (s.dropRegStops chan).boot = s.boot := by simp [State.dropRegStops]
@[simp] theorem closeReg_boot (chan st : Nat) : (s.closeReg chan st).boot = s.boot := rfl
@[simp] theorem countBreak_boot : s.countBreak.boot = s.boot := rfl

@[simp] theorem breakHall_boot (rung : Nat) (car : CarId) (chan : Nat) : (s.breakHall rung car chan).boot = s.boot := by
  simp only [State.breakHall]
  (repeat' split) <;> simp

@[simp] theorem breakCar_boot (car : CarId) (rung : Nat) : (s.breakCar car rung).boot = s.boot := by
  simp [State.breakCar, State.breakReg]

@[simp] theorem clearCarCalls_boot (car : CarId) : (s.clearCarCalls car).boot = s.boot := rfl

@[simp] theorem leaveService_boot (car : CarId) : (s.leaveService car).boot = s.boot := by
  unfold State.leaveService
  split <;> simp

@[simp] theorem dropHall_boot (chan : Nat) : (s.dropHall chan).boot = s.boot := by simp [State.dropHall]

@[simp] theorem applyServed_boot (car : CarId) : (s.applyServed car).boot = s.boot := by
  simp only [State.applyServed]
  split <;> simp [State.serveChannel]

@[simp] theorem openDoor_boot (car : CarId) (side : Side) : (s.openDoor car side).boot = s.boot := by simp [State.openDoor]

@[simp] theorem openServed_boot (car : CarId) : (s.openServed car).boot = s.boot := by
  unfold State.openServed
  split <;> simp

@[simp] theorem applyCar_boot (c : CarId) : (s.applyCar c).boot = s.boot := by simp [State.applyCar]

/-! ### What is staged takes effect (R28) -/

@[simp] theorem dropCarJobs_boot (car : CarId) : (s.dropCarJobs car).boot = s.boot := by
  unfold State.dropCarJobs
  split <;> simp

@[simp] theorem applyPosConfig_boot (p : List Byte) : (applyPosConfig p s).boot = s.boot := by
  simp [applyPosConfig, setPosConfig]

@[simp] theorem applyProfLimits_boot (p : List Byte) : (applyProfLimits p s).boot = s.boot := rfl
@[simp] theorem applyService_boot (p : List Byte) : (applyService p s).boot = s.boot := by simp [applyService, State.setService]

@[simp] theorem hostStop_boot (car : CarId) (landing flags : Nat) : (s.hostStop car landing flags).2.2.boot = s.boot := by
  simp only [State.hostStop]
  split <;> simp

@[simp] theorem applyStopRemove_boot (p : List Byte) : (applyStopRemove p s).boot = s.boot := rfl

@[simp] theorem applyDispConfig_boot (p : List Byte) : (applyDispConfig p s).boot = s.boot := by
  simp [applyDispConfig, State.hostOnly]

@[simp] theorem applyDoorOpen_boot (p : List Byte) : (applyDoorOpen p s).boot = s.boot := by simp [applyDoorOpen]
@[simp] theorem eachDoor_boot (p : List Byte) (f : Nat → Door → Door) : (eachDoor p s f).boot = s.boot := by simp [eachDoor]
@[simp] theorem applyDoorClose_boot (p : List Byte) : (applyDoorClose p s).boot = s.boot := by simp [applyDoorClose]
@[simp] theorem applyDoorStop_boot (p : List Byte) : (applyDoorStop p s).boot = s.boot := by simp [applyDoorStop]

@[simp] theorem applySafeConfig_boot (p : List Byte) : (applySafeConfig p s).boot = s.boot := by
  simp [applySafeConfig, setSafeConfig]

@[simp] theorem applySafeTerminal_boot (p : List Byte) : (applySafeTerminal p s).boot = s.boot := rfl

@[simp] theorem applyCanConfig_boot (p : List Byte) : (applyCanConfig p s).boot = s.boot := by
  simp [applyCanConfig, setCanConfig]

@[simp] theorem saveKernel_boot (k : SlotId) : (s.saveKernel k).boot = s.boot := rfl
@[simp] theorem initKernel_boot (k : SlotId) (prog : Bool) : (s.initKernel k prog).boot = s.boot := rfl
@[simp] theorem applySigLoad_boot (p : List Byte) : (applySigLoad p s).boot = s.boot := rfl

@[simp] theorem applyCmd_boot (opcode : Nat) (p : List Byte) : (applyCmd opcode p s).boot = s.boot := by
  unfold applyCmd
  split <;> simp [applyPosLanding, applyPosLearn, applyPosCorrect, applyPosWipe, applyProfConfig, applyProfZone, applyStopAdd,
    applyDispWeights, applyTerminal, applyCancel, applyDoorConfig, applyDoorAxis, applyDoorLearn, applyBankConfig, applyRecover,
    applyCanMap, applyClConfig, applySigStart, applySigStop, applySigUnload, applySigParam, applyPairLeap, applyRingConfig,
    applyUl40Config]

@[simp] theorem setResult_boot (chan v stamp : Nat) : (s.setResult chan v stamp).boot = s.boot := by simp [State.setResult]

@[simp] theorem applyCancelSend_boot (c : Cmd) (serial : Nat) : (applyCancelSend c serial s).boot = s.boot := by
  simp only [applyCancelSend]
  split <;> simp

@[simp] theorem bothDoors_boot (car : CarId) (f : DoorCfg → DoorCfg) : (s.bothDoors car f).boot = s.boot := rfl
@[simp] theorem rejectWrite_boot (car : CarId) (reg : Nat) : (s.rejectWrite car reg).boot = s.boot := rfl

theorem keepsBoot_of_mem_doorCmdParts {car : CarId} {v : Nat} {q : CmdDef × (List Byte → State → State) × List Byte}
    (h : q ∈ doorCmdParts car v) : KeepsBoot (q.2.1 q.2.2) := by
  simp only [doorCmdParts, List.mem_append, List.mem_ite_nil_left, List.mem_singleton] at h
  obtain (⟨-, rfl⟩ | ⟨-, rfl⟩) | ⟨-, rfl⟩ := h <;> simp

@[simp] theorem applyDoorCmd_boot (car : CarId) (v : Nat) : (applyDoorCmd car v s).boot = s.boot := by
  simp only [applyDoorCmd]
  split
  · simp
  · simp [foldl_boot_of_mem _ _ fun _ => keepsBoot_of_mem_doorCmdParts]

@[simp] theorem applyStopCmd_boot (car : CarId) (v : Nat) : (applyStopCmd car v s).boot = s.boot := by
  simp only [applyStopCmd]
  (repeat' split) <;> simp

@[simp] theorem applyImage_boot (car : CarId) (reg v : Nat) : (applyImage car reg v s).boot = s.boot := by
  unfold applyImage
  split <;> simp [applyDwell, applyAccessDwell, applyNudgeCount, applyServiceCmd, applyVmaxCmd, applyOutWord]

@[simp] theorem applyDeferred_boot (d : Deferred) : (applyDeferred s d).boot = s.boot := by
  unfold applyDeferred
  split <;> simp [State.commitEdits, State.applyAnnounce, State.applyAssign, State.applyRegister, State.applyCall, applySend,
    applyBankAck]

@[simp] theorem syncIdle_boot (c : CarId) : (s.syncIdle c).boot = s.boot := rfl

@[simp] theorem groupCommit_boot : s.groupCommit.boot = s.boot := by
  simp [State.groupCommit, State.enterSafe, State.swapImages, State.answerTerminals]

/-! ### The ports commit (R20), a new holder's first among them (R443) -/

@[simp] theorem darkSchedule_boot (car : CarId) : (s.darkSchedule car).boot = s.boot := by
  simp only [State.darkSchedule]
  (repeat' split) <;> simp

@[simp] theorem queueReference_boot (car : CarId) : (s.queueReference car).boot = s.boot := by simp [State.queueReference]

@[simp] theorem sendStream_boot (q : Nat × List Byte) : (s.sendStream q).boot = s.boot := by
  simp [State.sendStream, State.queueStream]

@[simp] theorem startMode_boot (b : BusId) : (s.startMode b).boot = s.boot := by simp [State.startMode]

@[simp] theorem commitDownlink_boot (link : CarId) : (s.commitDownlink link).boot = s.boot := by
  simp only [State.commitDownlink]
  (repeat' split) <;> simp

@[simp] theorem commitPorts_boot : s.commitPorts.boot = s.boot := by simp [State.commitPorts]

@[simp] theorem firstCommit_boot : s.firstCommit.boot = s.boot := by
  simp only [State.firstCommit]
  split <;> simp [State.lostStreams]

/-! ### The safety core's part of a frame (R39) -/

@[simp] theorem causeRelease_boot (cause : Nat) : (s.causeRelease cause).boot = s.boot := by
  unfold State.causeRelease
  (repeat' split) <;> simp

@[simp] theorem selfFindings_boot (x : FrameIn) : (s.selfFindings x).boot = s.boot := by simp [State.selfFindings]
@[simp] theorem sgCompare_boot (car : CarId) : (s.sgCompare car).boot = s.boot := rfl
@[simp] theorem sgJudge_boot (car : CarId) : (s.sgJudge car).boot = s.boot := rfl
@[simp] theorem sgMove_boot (car : CarId) (was : Bool) : (s.sgMove car was).boot = s.boot := rfl

@[simp] theorem darkResult_boot (car : CarId) (o : Fin 6) (passed : Bool) : (s.darkResult car o passed).boot = s.boot := by
  simp [State.darkResult]

@[simp] theorem darkReports_boot (x : FrameIn) (car : CarId) : (s.darkReports x car).boot = s.boot := by
  refine foldl_boot s _ fun o s => ?_
  dsimp only
  split
  · split <;> simp
  · rfl

@[simp] theorem sgBridge_boot (car : CarId) (was : Vector Bool 2) (f : Side) : (s.sgBridge car was f).boot = s.boot := by
  simp [State.sgBridge]

@[simp] theorem sgTest_boot (car : CarId) : (s.sgTest car).boot = s.boot := by
  simp only [State.sgTest]
  split <;> simp

@[simp] theorem sgPulse_boot (car : CarId) : (s.sgPulse car).boot = s.boot := by
  simp only [State.sgPulse]
  (repeat' split) <;> simp

@[simp] theorem sgReset_boot (car : CarId) : (s.sgReset car).boot = s.boot := by
  simp only [State.sgReset]
  split <;> simp

@[simp] theorem sgDecide_boot (car : CarId) : (s.sgDecide car).boot = s.boot := by simp [State.sgDecide, State.sgDrop]

@[simp] theorem sgCar_boot (x : FrameIn) (car : CarId) : (s.sgCar x car).boot = s.boot := by
  simp only [State.sgCar]
  split
  · rfl
  · simp only [sgDecide_boot, sgReset_boot, sgPulse_boot, sgTest_boot, sgBridge_boot, darkReports_boot]
    rw [foldl_boot, foldl_boot]
    · simp
    · intro b s
      dsimp only
      split
      · simp
      · rfl
    · simp

@[simp] theorem sgFrame_boot (x : FrameIn) : (s.sgFrame x).boot = s.boot := by simp [State.sgFrame, State.findModule]

/-! ### The sequence of hot entries and the kernels (R38) -/

@[simp] theorem sequenceOne_boot (k chan : Nat) : (s.sequenceOne k chan).boot = s.boot := by
  simp [State.sequenceOne, State.sequenceHot]

@[simp] theorem sequence_boot : s.sequence.boot = s.boot := by simp [State.sequence, State.noteImage]

@[simp] theorem startFrameLevel_boot (e : EngId) : (s.startFrameLevel e).boot = s.boot := by
  simp [State.startFrameLevel, State.toBoundary]

/-! ### The plan (R38): position fusion -/

@[simp] theorem modRide_boot (c : CarId) (f : Ride → Ride) : (s.modRide c f).boot = s.boot := rfl
@[simp] theorem planMap_boot : s.planMap.boot = s.boot := by simp [State.planMap]
@[simp] theorem calmPoints_boot : s.calmPoints.boot = s.boot := rfl

@[simp] theorem fuseAps_boot (car : CarId) : (s.fuseAps car).boot = s.boot := by
  simp only [State.fuseAps]
  (repeat' split) <;> simp [State.apsWarning]

@[simp] theorem fuseState_boot (car : CarId) (was : Placement) : (s.fuseState car was).boot = s.boot := rfl

@[simp] theorem fuseSlip_boot (car : CarId) : (s.fuseSlip car).boot = s.boot := by
  simp only [State.fuseSlip]
  (repeat' split) <;> simp

@[simp] theorem edgeFix_boot (car : CarId) (side : Nat) (on : Bool) (edge track : Int) :
    (s.edgeFix car side on edge track).boot = s.boot := by
  simp only [State.edgeFix]
  split <;> simp

@[simp] theorem edgeSeen_boot (car : CarId) (was : Placement) (side : Fin 2) (on : Bool) (edge track : Int) :
    (s.edgeSeen car was side on edge track).boot = s.boot := by
  simp only [State.edgeSeen]
  (repeat' split) <;> simp

@[simp] theorem fuseSide_boot (car : CarId) (was : Placement) (side : Fin 2) : (s.fuseSide car was side).boot = s.boot := by
  simp only [State.fuseSide]
  (repeat' split) <;> simp

@[simp] theorem fuseCode_boot (car : CarId) (was : Placement) : (s.fuseCode car was).boot = s.boot := by
  simp only [State.fuseCode]
  (repeat' split) <;> simp

@[simp] theorem fuseCar_boot (car : CarId) : (s.fuseCar car).boot = s.boot := by
  simp [State.fuseCar, State.fuseLine, State.fuseBand, State.fuseShaft, State.fuseFaults, State.fuseLevel, State.fuseQuality]

@[simp] theorem vendorCar_boot (car : CarId) : (s.vendorCar car).boot = s.boot := by simp [State.vendorCar, State.ridePass]

/-! ### The plan (R38): doors, tests and trips -/

@[simp] theorem clearFault_boot (car : CarId) (side : Side) : (s.clearFault car side).boot = s.boot := by
  simp only [State.clearFault]
  split <;> simp

@[simp] theorem planDoor_boot (car : CarId) (side : Side) : (s.planDoor car side).boot = s.boot := by
  simp [State.planDoor, State.doorLoss, State.firstImage, State.readReports]

@[simp] theorem planTest_boot (car : CarId) : (s.planTest car).boot = s.boot := by
  simp only [State.planTest]
  split <;> simp

@[simp] theorem reverse_boot (car : CarId) : (s.reverse car).boot = s.boot := by
  simp only [State.reverse]
  split <;> simp

@[simp] theorem stopHere_boot (car : CarId) : (s.stopHere car).boot = s.boot := by
  simp only [State.stopHere]
  split <;> simp

@[simp] theorem chooseTarget_boot (car : CarId) : (s.chooseTarget car).boot = s.boot := by simp [State.chooseTarget]
@[simp] theorem beginTrip_boot (car : CarId) : (s.beginTrip car).boot = s.boot := rfl

@[simp] theorem idle_boot (car : CarId) : (s.idle car).boot = s.boot := by
  unfold State.idle
  extract_lets c sg s₁ c₁ s₂ ready f s₃
  have h₂ : s₂.boot = s.boot := by simp [s₂, s₁]
  (repeat' split) <;> simp [s₃, h₂]

@[simp] theorem runTrip_boot (car : CarId) : (s.runTrip car).boot = s.boot := by simp [State.runTrip, State.overrun]
@[simp] theorem makeRequests_boot (car : CarId) : (s.makeRequests car).boot = s.boot := rfl

@[simp] theorem planCar_boot (car : CarId) : (s.planCar car).boot = s.boot := by
  unfold State.planCar
  extract_lets c s₁ s₂ lost s₃ s₄ c₄ sg ok n s₅ s₆ s₇
  have h₄ : s₄.boot = s.boot := by simp [s₄, s₃, s₂, s₁]
  have h₆ : s₆.boot = s.boot := by
    simp only [s₆, s₅]
    (repeat' split) <;> simp [h₄]
  (repeat' split) <;> simp [s₇, h₆]

/-! ### The plan (R38): streams, and the answers of the frame -/

theorem foldl_fillPoint_boot (k : Nat) (l : List Nat) (q : State × List Byte) :
    (l.foldl (State.fillPoint k) q).1.boot = q.1.boot := by
  induction l generalizing q with
  | nil => rfl
  | cons c l ih => exact ih _

@[simp] theorem assemble_boot (k chan : Nat) : (State.assemble k s chan).boot = s.boot := by
  simp [State.assemble, foldl_fillPoint_boot]

@[simp] theorem planFrame_boot : s.planFrame.boot = s.boot := by simp [State.planFrame, State.planStreams, State.planTerminals]

@[simp] theorem answerImage_boot (car : CarId) : (s.answerImage car).boot = s.boot := by
  refine foldl_boot s _ fun a s => ?_
  dsimp only
  split <;> simp

@[simp] theorem answerAsks_boot (car : CarId) : (s.answerAsks car).boot = s.boot := by
  simp only [State.answerAsks]
  rw [foldl_boot]
  · simp
  · intro a s
    dsimp only
    split <;> simp

@[simp] theorem runFrame_boot (x : FrameIn) : (s.runFrame x).boot = s.boot := by
  simp [State.runFrame, State.gatherDrive, State.feedKernels, State.safePlan]

/-! ### Gather (R38), the leap's end and the delta -/

@[simp] theorem gatherMaster_boot (b : BusId) : (s.gatherMaster b).boot = s.boot := by
  simp [State.gatherMaster, State.masterFrame]

@[simp] theorem ringRecord_boot (b : BusId) (f : CanFrame × Bool) : (s.ringRecord b f).boot = s.boot := by
  simp only [State.ringRecord]
  split <;> simp

@[simp] theorem gatherBus_boot (b : BusId) : (s.gatherBus b).boot = s.boot := by simp [State.gatherBus, State.ringFrames]
@[simp] theorem countDelta_boot : s.countDelta.boot = s.boot := by simp [State.countDelta]

@[simp] theorem endLeap_boot : s.endLeap.boot = s.boot := by
  simp only [State.endLeap]
  split <;> simp

end

/-! ## A holder's Calends -/

/-- The start-up state after the frame's corrected cache words are counted (R569). -/
def Boot.countCache (x : FrameIn) (b : Boot) : Boot :=
  { b with cacheCorrected := satAdd 32 b.cacheCorrected (countReads .corrected x.cacheWords) }

section

variable (x : FrameIn) (s : State)

/-- The latch is where the frame's cache words are counted. -/
@[simp] theorem latch_boot : (s.latch x).boot = s.boot.countCache x := by simp [State.latch, Boot.countCache]

theorem openFrame_boot : (s.openFrame x).boot = s.boot.countCache x := by simp [State.openFrame]

@[simp] theorem nextFrame_grp_frame : s.nextFrame.grp.frame = s.grp.frame + 1 := by
  simp only [State.nextFrame]
  split <;> rfl

@[simp] theorem holderCalends_grp_frame : (s.holderCalends x).grp.frame = s.grp.frame + 1 := by
  simp [State.holderCalends, phaseParts, bodyParts, portParts]

end

/-- Parts that hold the counts, and nothing else of the start-up state, take over a change of the cache count. -/
theorem within_boot {s t : State} {ps : List Part} {n : Nat} (h : t.boot = { s.boot with cacheCorrected := n })
    (hps : Part.straps ∉ ps ∧ Part.counts ∈ ps ∧ Part.leaf ∉ ps) : (s.within ps t).boot = t.boot := by
  obtain ⟨hstraps, hcounts, hleaf⟩ := hps
  apply boot_eq_of_parts
  case hstraps => simp [Part.same, hstraps, h]
  case hcounts => simp [Part.same, hcounts]
  case hnext => simp [hleaf, h]

@[simp] theorem holderCalends_boot (x : FrameIn) (s : State) : (s.holderCalends x).boot = s.boot.countCache x := by
  have hclose : (s.within (.clock :: phaseParts) (s.closeFrame x)).nextFrame.boot = s.boot := by
    rw [nextFrame_boot, within_boot (n := s.boot.cacheCorrected) (by simp) (by decide), closeFrame_boot]
  rw [State.holderCalends]
  generalize (s.within (.clock :: phaseParts) (s.closeFrame x)).nextFrame = u at hclose ⊢
  rw [within_boot (openFrame_boot x u) (by decide), openFrame_boot, hclose]

section

variable {x : FrameIn} {s : State}

theorem exec_calends : exec (.calends x) s = .next (s.within frameParts (s.calends x)) := rfl

/-- A Calends of a member that holds, with no release due and not as member A in contention. -/
theorem calends_eq_holderCalends (hrun : s.running = true) (hholds : s.holds = true) (hdue : s.mem.releaseDue = none)
    (hcont : s.contends = false) : s.calends x = s.holderCalends x := by
  simp [State.calends, State.settleContention, hrun, hholds, hdue, hcont]

theorem calends_of_not_running (hrun : s.running = false) : s.calends x = s := by simp [State.calends, hrun]

end

end Sys2Proof.Machine

namespace Sys2Proof.Proofs

open Sys2Proof Sys2Proof.Machine

/-- Settles O31: the phases of a holder's Calends leave the frame's number to it alone, and of the start-up state they change
the count of corrected cache words; the endpoints, the fuses, the firmware copies and EPOCH lie outside its parts. -/
theorem calendsCounts : Obligations.CalendsCounts := by
  unfold Obligations.CalendsCounts
  refine ⟨fun x s hrun hholds hdue hcont => ?_, fun x s hrun => ?_⟩
  · have hboot : (s.within frameParts (s.holderCalends x)).boot = s.boot.countCache x :=
      (within_boot (holderCalends_boot x s) (by decide)).trans (holderCalends_boot x s)
    refine ⟨s.within frameParts (s.holderCalends x), ?_, ?_, ?_, hboot, ?_⟩
    · rw [exec_calends, calends_eq_holderCalends hrun hholds hdue hcont]
    all_goals simp [frameParts, groupParts, bodyParts, portParts]
  · rw [exec_calends, calends_of_not_running hrun, (confined_refl frameParts s).within_eq]

end Sys2Proof.Proofs

/-! PROOFS. Edits of the Almanac (R84–R88, R500–R504): what joins a source's staged set, what a commit hands over for the next
Calends, and what a discard forgets. -/

namespace Sys2Proof.Machine

/-! ## A judged command whose parts include the mail parts -/

section

variable {i : Instr} {d : CmdDef} {c : Cmd} {s : State} {ps : List Part} (hmail : mailParts ⊆ ps)
  (hexec : exec i s = .next (s.within ps (serve d c s))) (h : Judged d c s)

include hmail hexec h

/-- An acceptance that keeps to the command's parts is answered OK, and nothing of it is lost. -/
theorem exec_eq_answer {t : State} {p : List Byte} (hkeeps : Confined ps (s.consumed c) t)
    (hact : d.act (future (s.consumed c)) c (s.consumed c) = .done p t) : exec i s = .next (t.answer d.opcode c stOk p) := by
  rw [hexec, serve_of_judged h, hact]
  have hanswer : Confined ps s (t.answer d.opcode c stOk p) :=
    ((confined_consumed s c).mono hmail).trans (hkeeps.trans ((confined_answer t d.opcode c stOk p).mono hmail))
  exact congrArg _ hanswer.within_eq

/-- A refusal is answered, and changes only the mail parts, whatever parts the command has. -/
theorem exec_eq_replyTo {st : Nat} {p : List Byte} (hact : d.act (future (s.consumed c)) c (s.consumed c) = .refuse st p) :
    exec i s = .next ((s.consumed c).replyTo d.opcode c st p) := by
  rw [hexec, serve_of_judged h, hact]
  have hreply := (confined_consumed s c).trans (confined_replyTo (s.consumed c) d.opcode c st p)
  exact congrArg _ (hreply.mono hmail).within_eq

end

/-- A command that is consumed keeps its source's staged edits. -/
@[simp] theorem consumed_staged (s : State) (c : Cmd) :
    (s.consumed c).grp.sources[c.src.val].staged = s.grp.sources[c.src.val].staged := by
  simp [State.consumed]

@[simp] theorem consumed_deferred (s : State) (c : Cmd) : (s.consumed c).grp.deferred = s.grp.deferred := rfl

/-! ## Records join the staged set (R84, R500, R502) -/

/-- A staged set once records join it, each in its turn (R500). -/
def joined (xs l : List Edit) : List Edit := xs.foldl (fun l x => mergeEdit x l) l

/-- Records join the source's staged set unless it would pass 4,096 edits (LIMIT) or, where `guarded`, one of them names an entry
whose output is held (STATE). -/
def joinEdits (guarded : Bool) (xs : List Edit) (f : State) (c : Cmd) (s : State) : Verdict :=
  if 4096 < (joined xs s.grp.sources[c.src.val].staged).length then .refuse stLimit []
  else if guarded && xs.any fun x => f.heldOutput x.chan then .refuse stState []
  else stageEdits xs c s

theorem almWriteDef_act (f : State) (c : Cmd) (s : State) : almWriteDef.act f c s =
    joinEdits true ((List.range (fieldAt c.payload 0 2)).map (writeEdit c.payload)) f c s := rfl

/-- A promotion or demotion asks nothing of held outputs (R502). -/
theorem almMoveDef_act (opcode : Nat) (up : Bool) (f : State) (c : Cmd) (s : State) : (almMoveDef opcode up).act f c s =
    joinEdits false ((List.range (fieldAt c.payload 0 2)).map (moveEdit up c.payload)) f c s := by
  simp only [almMoveDef, joinEdits, stageEdits, joined, Bool.false_and, Bool.false_eq_true, if_false]
  split <;> rfl

section

variable {guarded : Bool} {xs mine : List Edit} {f : State} {c : Cmd} {s : State}
  (hmine : s.grp.sources[c.src.val].staged = mine)

include hmine

theorem joinEdits_of_full (hfull : 4096 < (joined xs mine).length) : joinEdits guarded xs f c s = .refuse stLimit [] := by
  subst hmine
  exact if_pos hfull

theorem joinEdits_of_held (hroom : (joined xs mine).length ≤ 4096) (hguarded : guarded = true)
    (hheld : ∃ x ∈ xs, f.heldOutput x.chan = true) : joinEdits guarded xs f c s = .refuse stState [] := by
  subst hmine
  rw [joinEdits, if_neg hroom.not_gt, if_pos (by simpa [hguarded] using hheld)]

theorem joinEdits_of_free (hroom : (joined xs mine).length ≤ 4096)
    (hfree : guarded = true → ∀ x ∈ xs, f.heldOutput x.chan = false) :
    joinEdits guarded xs f c s =
      .done (leBytes 4 (joined xs mine).length) (s.modSource c.src fun y => { y with staged := joined xs mine }) := by
  subst hmine
  rw [joinEdits, if_neg hroom.not_gt, if_neg (by simpa using hfree)]
  exact if_neg hroom.not_gt

end

/-- A command whose records join the staged set: judged well it is refused LIMIT or, where `guarded`, STATE, or the whole set is
kept for its source. -/
def EditRow (c : Cmd) (s : State) (i : Instr) (d : CmdDef) (xs : List Edit) (guarded : Bool) : Prop :=
  Judged d c s →
    (4096 < (joined xs s.grp.sources[c.src.val].staged).length → exec i s = .next ((s.consumed c).replyTo d.opcode c stLimit []))
    ∧ ((joined xs s.grp.sources[c.src.val].staged).length ≤ 4096 →
        (guarded = true → ∀ x ∈ xs, (future (s.consumed c)).heldOutput x.chan = false) →
        exec i s = .next (State.answer d.opcode c stOk (leBytes 4 (joined xs s.grp.sources[c.src.val].staged).length)
          ((s.consumed c).modSource c.src fun y => { y with staged := joined xs s.grp.sources[c.src.val].staged })))
    ∧ ((joined xs s.grp.sources[c.src.val].staged).length ≤ 4096 → guarded = true →
        (∃ x ∈ xs, (future (s.consumed c)).heldOutput x.chan = true) →
        exec i s = .next ((s.consumed c).replyTo d.opcode c stState []))

theorem editRow_of_joinEdits {i : Instr} {d : CmdDef} {c : Cmd} {s : State} {xs : List Edit} {guarded : Bool}
    (hexec : exec i s = .next (s.within mailParts (serve d c s)))
    (hact : d.act (future (s.consumed c)) c (s.consumed c) = joinEdits guarded xs (future (s.consumed c)) c (s.consumed c)) :
    EditRow c s i d xs guarded := by
  intro h
  have hmail : mailParts ⊆ mailParts := List.Subset.refl mailParts
  have hmine := consumed_staged s c
  refine ⟨fun hfull => ?full, fun hroom hfree => ?joins, fun hroom hguarded hheld => ?held⟩
  case full => exact exec_eq_replyTo hmail hexec h (hact.trans (joinEdits_of_full hmine hfull))
  case joins => exact exec_eq_answer hmail hexec h (confined_modSource ..) (hact.trans (joinEdits_of_free hmine hroom hfree))
  case held => exact exec_eq_replyTo hmail hexec h (hact.trans (joinEdits_of_held hmine hroom hguarded hheld))

/-! ## A discard forgets the set (R504) -/

theorem exec_almDiscard {c : Cmd} {s : State} (h : Judged almDiscardDef c s) : exec (.almDiscard c) s =
    .next (State.answer 0x0314 c stOk (leBytes 4 s.grp.sources[c.src.val].staged.length)
      ((s.consumed c).modSource c.src fun y => { y with staged := [] })) := by
  rw [← consumed_staged s c]
  exact exec_eq_answer (List.Subset.refl mailParts) rfl h (confined_modSource ..) rfl

/-! ## The VERSION that acceptance gives (R86) -/

@[simp] theorem length_giveVersions (f : State) (es : List Edit) : (f.giveVersions es).length = es.length := List.length_map ..

@[simp] theorem giveVersions_eq_nil (f : State) (es : List Edit) : f.giveVersions es = [] ↔ es = [] := List.map_eq_nil_iff

/-- What every staged edit has, whatever VERSION it is given, every edit of the commit has. -/
theorem forall_mem_giveVersions {P : Edit → Prop} (hgives : ∀ x n, P x → P { x with gives := n }) {es : List Edit}
    (h : ∀ x ∈ es, P x) (f : State) : ∀ x ∈ f.giveVersions es, P x :=
  List.forall_mem_map.mpr fun x hx => hgives x _ (h x hx)

/-! ## What an accepted commit leaves (R85, R86) -/

/-- PENDING and the new VERSION of the edited entries are all that marking them changes. -/
theorem confined_foldl_modEntry (g : Edit → Entry → Entry) (es : List Edit) (s : State) :
    Confined [.alm] s (es.foldl (fun s x => s.modEntry x.chan (g x)) s) := by
  induction es generalizing s with
  | nil => exact confined_refl [.alm] s
  | cons x es ih => exact (confined_within [.alm] s (s.modEntry x.chan (g x))).trans (ih (s.modEntry x.chan (g x)))

section

variable (s : State) (src : Source) (es : List Edit)

theorem confined_acceptEdits : Confined ([.alm, .deferred] ++ mailParts) s (s.acceptEdits src es) := by
  unfold State.acceptEdits
  extract_lets marked emptied
  have hmarked : Confined [.alm] s marked := confined_foldl_modEntry ..
  have hemptied : Confined ([.alm, .deferred] ++ mailParts) s emptied :=
    (hmarked.mono (by decide)).trans ((confined_modSource marked src _).mono (by decide))
  split
  · exact hemptied
  · exact hemptied.trans ((confined_stage emptied _).mono (by decide))

@[simp] theorem acceptEdits_staged : (s.acceptEdits src es).grp.sources[src.val].staged = [] := by
  unfold State.acceptEdits
  dsimp only
  split <;> simp

theorem acceptEdits_deferred :
    (s.acceptEdits src es).grp.deferred = if es = [] then s.grp.deferred else s.grp.deferred ++ [.edits es] := by
  unfold State.acceptEdits
  extract_lets marked
  have hmarked : marked.grp.deferred = s.grp.deferred :=
    ((confined_foldl_modEntry _ es s).2 .deferred (by decide)).symm
  cases es
  case nil => exact hmarked
  case cons => exact congrArg (· ++ _) hmarked

@[simp] theorem acceptEdits_shown : (s.acceptEdits src es).grp.shown = s.grp.shown :=
  ((confined_acceptEdits s src es).2 .shown (by decide)).1.symm

end

/-! ## The tests of a commit (R85, R88, R503) -/

section

variable {f : State} {c : Cmd} {s : State} {mine : List Edit} (hmine : s.grp.sources[c.src.val].staged = mine)
  (hform : firstBad (commitTests f (f.commitEdits (f.giveVersions mine)) (f.giveVersions mine)) = none)
  (hfree : ∀ x ∈ mine, x.write.isSome = true → f.heldOutput x.chan = false)

include hmine hform hfree

/-- A record of another VERSION stops the commit, and is named with the VERSION in force (R503). -/
theorem almCommitDef_act_of_stale {x : Edit}
    (hstale : (f.giveVersions mine).find? (fun x => x.version != (f.entry x.chan).version) = some x) :
    almCommitDef.act f c s = .refuse stVersion (leBytes 3 x.chan ++ [byte (f.entry x.chan).version]) := by
  subst hmine
  have hheld := forall_mem_giveVersions (fun _ _ h => h) hfree f
  simp only [almCommitDef, hform, hstale]
  exact if_neg (by simpa using hheld)

/-- A commit that passes every test reports what it would do and, unless it is dry, is accepted. -/
theorem almCommitDef_act_of_passes (hversion : ∀ x ∈ mine, x.version = (f.entry x.chan).version)
    (hcold : ∀ x ∈ mine, ¬ ((f.entry x.chan).hot = true
      ∧ ((f.commitEdits (f.giveVersions mine)).entry x.chan).type = 0 ∧ x.residency ≠ some false))
    (hadmit : admitOf f (f.commitEdits (f.giveVersions mine)) true 0xFF = none) :
    almCommitDef.act f c s =
      if bit (byteAt c.payload 0) 0 then .done (commitReply (f.commitEdits (f.giveVersions mine)) mine.length 0) s
      else .done (commitReply (f.commitEdits (f.giveVersions mine)) mine.length (s.grp.frame + 1))
        (s.acceptEdits c.src (f.giveVersions mine)) := by
  subst hmine
  have hheld := forall_mem_giveVersions (fun _ _ h => h) hfree f
  have hstale := List.find?_eq_none.mpr <| forall_mem_giveVersions
    (P := fun x => ¬ (x.version != (f.entry x.chan).version) = true) (fun _ _ h => h) (by simpa using hversion) f
  have hfreed := List.find?_eq_none.mpr <| forall_mem_giveVersions
    (P := fun x => ¬ ((f.entry x.chan).hot
      && ((f.commitEdits (f.giveVersions s.grp.sources[c.src.val].staged)).entry x.chan).type == 0
      && x.residency != some false) = true) (fun _ _ h => h) (by simpa [and_assoc] using hcold) f
  simp only [almCommitDef, hform, hstale, hfreed, hadmit, Option.map_none, lowerKind, length_giveVersions]
  exact if_neg (by simpa using hheld)

end

end Sys2Proof.Machine

namespace Sys2Proof.Proofs

open Sys2Proof Sys2Proof.Machine

/-- Settles O58: the three commands that stage join their records to the source's set under the test for LIMIT and, for a write, the
one for held outputs; a commit's tests stand in order, so those that pass leave the next to decide; and an accepted commit changes
the working entries, the source's set and what the next Calends applies. -/
theorem almanacEdits : Obligations.AlmanacEdits := by
  unfold Obligations.AlmanacEdits
  intro c s f s' p mine
  refine ⟨?joins, exec_almDiscard, fun h => ?commits⟩
  case joins =>
    change ∀ q ∈ (_ : List (Instr × CmdDef × List Edit × Bool)), EditRow c s q.1 q.2.1 q.2.2.1 q.2.2.2
    simp only [List.forall_mem_cons]
    exact ⟨editRow_of_joinEdits rfl (almWriteDef_act ..), editRow_of_joinEdits rfl (almMoveDef_act ..),
      editRow_of_joinEdits rfl (almMoveDef_act ..), fun _ hq => absurd hq List.not_mem_nil⟩
  case commits =>
    intro es a hform hfree
    have hmine := consumed_staged s c
    have hmail : mailParts ⊆ [.alm, .deferred] ++ mailParts := List.subset_append_right ..
    refine ⟨fun x hstale => ?stale, fun hversion hcold hadmit => ?passes⟩
    case stale => exact exec_eq_replyTo hmail rfl h (almCommitDef_act_of_stale hmine hform hfree hstale)
    case passes =>
      have hact := almCommitDef_act_of_passes hmine hform hfree hversion hcold hadmit
      refine ⟨fun hdry => ?dry, fun hreal =>
        ⟨s'.acceptEdits c.src es, ?real, acceptEdits_staged .., ?deferred, acceptEdits_shown ..⟩⟩
      case dry => exact exec_eq_answer hmail rfl h (confined_refl _ s') (hact.trans (if_pos hdry))
      case real => exact exec_eq_answer hmail rfl h (confined_acceptEdits ..) (hact.trans (if_neg (by simp [p, hreal])))
      case deferred => simpa [es, s'] using acceptEdits_deferred s' c.src es

end Sys2Proof.Proofs

/-! PROOFS. The position of a car (R95–R139): what a position fault, a settling sample and the end of a learning trip leave of the
car, the recorder and the jobs. -/

namespace Sys2Proof.Machine

/-! ## A car after a change of it -/

section

variable (s : State) (c : CarId)

@[simp] theorem car_modPos (f : Pos → Pos) : (s.modPos c f).car c = { s.car c with pos := f (s.car c).pos } := car_modCar ..

@[simp] theorem car_modMotion (f : Motion → Motion) : (s.modMotion c f).car c = { s.car c with motion := f (s.car c).motion } :=
  car_modCar ..

@[simp] theorem modPos_nv (f : Pos → Pos) : (s.modPos c f).nv = s.nv := rfl

@[simp] theorem modPos_mkRec (f : Pos → Pos) : (s.modPos c f).mkRec = s.mkRec := rfl

@[simp] theorem car_record (code n : Nat) (data : List Byte) : (s.record code n data).car c = s.car c := rfl

@[simp] theorem record_recorder (code n : Nat) (data : List Byte) :
    (s.record code n data).nv.recorder = s.nv.recorder.add (s.mkRec code n data) := rfl

@[simp] theorem car_within (t : State) (ps : List Part) :
    (s.within ps t).car c = if Part.cars ∈ ps then t.car c else s.car c :=
  within_of_take (fun u => u.car c) .cars (fun q _ _ => by cases q <;> rfl) s t ps

end

/-- An event that is due takes place when the control plane runs. -/
theorem exec_of_carEvent {i : Instr} {ps : List Part} {due : Bool} {f : State → State} {s : State}
    (hexec : exec i s = .next (s.within ps (carEvent s due f))) (hrun : s.running = true) (hdue : due = true) :
    exec i s = .next (s.within ps (f s)) := by
  rw [hexec, carEvent, if_pos (by simp [hrun, hdue])]

/-! ## A position stop, and a car made FAULTED, leave its position (R140, R200) -/

section

variable (s : State) (c : CarId)

@[simp] theorem faultService_nv : (s.faultService c).nv = s.nv := by
  simp only [State.faultService, State.enterService]
  split <;> rfl

@[simp] theorem faultService_pos : ((s.faultService c).car c).pos = (s.car c).pos := by
  simp only [State.faultService, State.enterService]
  split <;> simp

@[simp] theorem positionStop_nv : (s.positionStop c).nv = s.nv := by
  simp only [State.positionStop]
  split <;> rfl

/-- A stop that sets the brakes (R158) changes the position's encoder track, its settling sample and PEAK_ERROR; nothing else of the
position is changed by a stop. -/
theorem positionStop_pos_apply {α : Type} (f : Pos → α)
    (hf : ∀ p track anchored settle peak,
      f { p with trackQ := track, anchored := anchored, settle := settle, peakError := peak } = f p) :
    f ((s.positionStop c).car c).pos = f (s.car c).pos := by
  simp only [State.positionStop, State.setBrakes]
  split <;> simp [hf]

@[simp] theorem positionStop_pos_state : ((s.positionStop c).car c).pos.state = (s.car c).pos.state :=
  positionStop_pos_apply s c Pos.state fun _ _ _ _ _ => rfl

@[simp] theorem positionStop_pos_raised : ((s.positionStop c).car c).pos.raised = (s.car c).pos.raised :=
  positionStop_pos_apply s c Pos.raised fun _ _ _ _ _ => rfl

@[simp] theorem positionStop_pos_faults : ((s.positionStop c).car c).pos.faults = (s.car c).pos.faults :=
  positionStop_pos_apply s c Pos.faults fun _ _ _ _ _ => rfl

@[simp] theorem positionStop_pos_apsOut : ((s.positionStop c).car c).pos.apsOut = (s.car c).pos.apsOut :=
  positionStop_pos_apply s c Pos.apsOut fun _ _ _ _ _ => rfl

@[simp] theorem positionStop_pos_apsPair : ((s.positionStop c).car c).pos.apsPair = (s.car c).pos.apsPair :=
  positionStop_pos_apply s c Pos.apsPair fun _ _ _ _ _ => rfl

@[simp] theorem positionStop_pos_corrBlocked : ((s.positionStop c).car c).pos.corrBlocked = (s.car c).pos.corrBlocked :=
  positionStop_pos_apply s c Pos.corrBlocked fun _ _ _ _ _ => rfl

end

/-! ## A position fault that is not yet raised in its frame (R130, R132) -/

/-- Where a fault leaves a car: APS_LOST (2) and ENC_LINE (3) take a source out of use, every other fault the placement of a
configured car. -/
def Placement.afterFault (code : Nat) (st : Placement) : Placement :=
  if code = 2 ∨ code = 3 then st else if st = .unconfigured then .unconfigured else .unplaced

theorem positionFault_of_raised {s : State} {c : CarId} {code : Nat} (h : bit (s.car c).pos.raised code = true) :
    s.positionFault c code = s :=
  if_pos h

section

variable {s : State} {c : CarId} {code : Nat} (h : bit (s.car c).pos.raised code = false)

include h

/-- A fault is recorded once, and counted. -/
theorem positionFault_marks :
    (s.positionFault c code).nv.recorder = s.nv.recorder.add (s.mkRec 0x0401 c.val [byte code])
      ∧ ((s.positionFault c code).car c).pos.faults = satInc 32 (s.car c).pos.faults
      ∧ ((s.positionFault c code).car c).pos.raised = (s.car c).pos.raised + 2 ^ code := by
  rw [State.positionFault, if_neg (by simp [h])]
  dsimp only
  split <;> simp

theorem positionFault_state : ((s.positionFault c code).car c).pos.state = (s.car c).pos.state.afterFault code := by
  rw [State.positionFault, if_neg (by simp [h])]
  dsimp only
  split <;> simp_all [Placement.afterFault]

/-- APS_LOST takes the APS out of use, and no reading accepted before it begins a pair (R131). -/
theorem positionFault_aps :
    ((s.positionFault c code).car c).pos.apsOut = ((s.car c).pos.apsOut || code == 2)
      ∧ ((s.positionFault c code).car c).pos.apsPair = if code = 2 then none else (s.car c).pos.apsPair := by
  rw [State.positionFault, if_neg (by simp [h])]
  dsimp only
  split <;> simp_all

end

/-- CORRECTION_FAILED blocks the next automatic run (R120). -/
theorem positionFault_corrBlocked {s : State} {c : CarId} (h : bit (s.car c).pos.raised 7 = false) :
    ((s.positionFault c 7).car c).pos.corrBlocked = true := by
  simp [State.positionFault, h]

/-- APS_LOST leaves the encoder as it is. -/
theorem positionFault_encUse {s : State} {c : CarId} (h : bit (s.car c).pos.raised 2 = false) :
    ((s.positionFault c 2).car c).pos.encUse = (s.car c).pos.encUse := by
  simp [State.positionFault, h, Pos.encUse]

/-- APS_LOST, newly raised, leaves the bit of SOURCES_LOST as it is. -/
theorem bit_add_two_pow_two {v : Nat} (h : bit v 2 = false) : bit (v + 2 ^ 2) 8 = bit v 8 := by
  simp only [bit, Nat.testBit_eq_decide_div_mod_eq, decide_eq_false_iff_not, decide_eq_decide] at h ⊢
  omega

/-! ## SOURCES_LOST (R130) -/

section

variable {s : State} {c : CarId}

theorem sourcesLost_of_encUse (h : (s.car c).pos.encUse = true) : s.sourcesLost c = s := by
  simp [State.sourcesLost, h]

theorem sourcesLost_of_noSource (haps : (s.car c).pos.apsUse = false) (henc : (s.car c).pos.encUse = false)
    (hconf : (s.car c).pos.state ≠ .unconfigured) : s.sourcesLost c = s.positionFault c 8 := by
  simp [State.sourcesLost, haps, henc, hconf]

/-- SOURCES_LOST says nothing of the APS. -/
theorem sourcesLost_aps : ((s.sourcesLost c).car c).pos.apsOut = (s.car c).pos.apsOut
    ∧ ((s.sourcesLost c).car c).pos.apsPair = (s.car c).pos.apsPair := by
  simp only [State.sourcesLost]
  split
  · cases h : bit (s.car c).pos.raised 8 with
    | true => simp [positionFault_of_raised h]
    | false => simp [positionFault_aps h]
  · exact ⟨rfl, rfl⟩

end

/-! ## APS_LOST (R103, R130) -/

section

variable {s : State} {c : CarId} (h : bit (s.car c).pos.raised 2 = false)

include h

theorem apsLost_aps : (((s.positionFault c 2).sourcesLost c).car c).pos.apsOut = true
    ∧ (((s.positionFault c 2).sourcesLost c).car c).pos.apsPair = none := by
  obtain ⟨hout, hpair⟩ := positionFault_aps h
  simp [sourcesLost_aps, hout, hpair]

/-- With the encoder in use a car keeps its placement when the APS is lost. -/
theorem apsLost_of_encUse (henc : (s.car c).pos.encUse = true) :
    (s.positionFault c 2).sourcesLost c = s.positionFault c 2 :=
  sourcesLost_of_encUse ((positionFault_encUse h).trans henc)

/-- Without the encoder the loss of the APS leaves no source, and the car UNPLACED. -/
theorem apsLost_state_of_not_encUse (henc : (s.car c).pos.encUse = false) (hconf : (s.car c).pos.state ≠ .unconfigured)
    (hnew : bit (s.car c).pos.raised 8 = false) :
    (((s.positionFault c 2).sourcesLost c).car c).pos.state = .unplaced := by
  obtain ⟨-, -, hraised⟩ := positionFault_marks h
  obtain ⟨hout, -⟩ := positionFault_aps h
  have hstate : ((s.positionFault c 2).car c).pos.state = (s.car c).pos.state := by
    simp [positionFault_state h, Placement.afterFault]
  have hnew' : bit ((s.positionFault c 2).car c).pos.raised 8 = false := by rw [hraised, bit_add_two_pow_two h, hnew]
  rw [sourcesLost_of_noSource (by simp [Pos.apsUse, hout]) ((positionFault_encUse h).trans henc) (hstate ▸ hconf),
    positionFault_state hnew', hstate]
  simp [Placement.afterFault, hconf]

end

/-! ## The settling sample (R126) -/

section

variable {s : State} {c : CarId} {x : Settle} (hx : (s.car c).pos.settle = some x)

include hx

theorem takeSample_settle : ((s.takeSample c).car c).pos.settle = none := by
  simp only [State.takeSample, hx]
  split <;> simp

/-- A bad sample, or one of a car that is not PLACED, is discarded and recorded. -/
theorem takeSample_of_bad (hbad : x.good = false ∨ (s.car c).pos.state ≠ .placed) :
    ((s.takeSample c).car c).pos.table = (s.car c).pos.table
      ∧ (s.takeSample c).nv.recorder = s.nv.recorder.add (s.mkRec 0x0403 c.val [byte x.landing, byte x.band]) := by
  simp only [State.takeSample, hx]
  rw [if_neg (by obtain h | h := hbad <;> simp [h])]
  simp

/-- A good sample of a PLACED car moves the band's STRETCH by an eighth of its error. -/
theorem takeSample_of_good (hgood : x.good = true) (hplaced : (s.car c).pos.state = .placed) :
    (s.takeSample c).nv.recorder = s.nv.recorder ∧ ∃ r : LandingRec,
      ((s.takeSample c).car c).pos.table = Mem.set {} (s.car c).pos.table (x.landing * 2 + x.side) r
      ∧ r.stretch[(Fin.ofNat 8 x.band).val] = ((s.car c).pos.record x.landing x.side).stretch[(Fin.ofNat 8 x.band).val]
          + ((s.car c).pos.units - x.pos
              - ((s.car c).pos.record x.landing x.side).stretch[(Fin.ofNat 8 x.band).val]).tdiv 8 := by
  simp only [State.takeSample, hx]
  rw [if_pos (by simp [hgood, hplaced])]
  exact ⟨rfl, _, by rw [car_modPos, car_modPos], Vector.getElem_set_self ..⟩

end

/-! ## The end of a learning trip (R122, R123) -/

/-- A learning trip that returned without a fault, in a car that is LEARNING, and has found all that it was to learn. -/
def Pos.learnedAll (p : Pos) (l : Learn) : Bool :=
  l.done && !l.failed && p.state == .learning && (!l.shaft || (p.zonesAgree l 0 && p.zonesAgree l 1))
    && (!l.scale || (p.learnScale l).isSome)

/-- A position once its learning trip has ended: what was learned waits for the next Calends. -/
def Pos.endLearning (p : Pos) (l : Learn) : Pos :=
  { p with
    learn := none, state := if p.state = .learning then .placed else p.state,
    learnt := if p.learnedAll l then some (if l.shaft then some (p.learnTable l) else none, if l.scale then p.learnScale l else none)
      else p.learnt }

theorem learnedAll_of_unfinished (p : Pos) {l : Learn} (h : l.failed = true ∨ l.done = false) : p.learnedAll l = false := by
  obtain h | h := h <;> simp [Pos.learnedAll, h]

section

variable (j : Job) (status : Nat) (payload : List Byte) (s : State)

theorem confined_endJob : Confined mailParts { s with grp := { s.grp with jobs := s.grp.jobs.filter fun x => x.id ≠ j.id } }
    (endJob j status payload s) := by
  unfold endJob
  dsimp only
  split
  · exact confined_refl ..
  · exact confined_postReply ..

/-- No job with the ID of one that has ended is left. -/
theorem endJob_jobs : (endJob j status payload s).grp.jobs = s.grp.jobs.filter fun x => x.id ≠ j.id :=
  ((confined_endJob j status payload s).2 .jobs (by decide)).1.symm

theorem endJob_car (c : CarId) : (endJob j status payload s).car c = s.car c :=
  congrArg (fun cars : Vector Car 8 => cars[c.val]) ((confined_endJob j status payload s).2 .cars (by decide)).symm

end

section

variable {s : State} {c : CarId} {l : Learn} (hl : (s.car c).pos.learn = some l)

include hl

theorem learnComplete_pos : ((s.learnComplete c).car c).pos = (s.car c).pos.endLearning l := by
  simp only [State.learnComplete, hl]
  split
  · simp [endJob_car, Pos.endLearning, Pos.learnedAll]
  · simp [Pos.endLearning, Pos.learnedAll]

theorem learnComplete_jobs {j : Job} (hj : s.findJob (fun j => j.kind == .posLearn c) = some j) :
    (s.learnComplete c).grp.jobs = s.grp.jobs.filter fun x => x.id ≠ j.id := by
  have hjobs (f : Pos → Pos) : (s.modPos c f).findJob (fun j => j.kind == .posLearn c) = some j := hj
  simp only [State.learnComplete, hl, hjobs]
  exact endJob_jobs ..

end

end Sys2Proof.Machine

namespace Sys2Proof.Proofs

open Sys2Proof Sys2Proof.Machine

/-- Settles O18: each event is due by its premises, and what it leaves follows from what a position fault, a settling sample or the
start of a trip changes; APS_LOST also raises SOURCES_LOST where no encoder is left. -/
theorem positionEvents : Obligations.PositionEvents := by
  unfold Obligations.PositionEvents
  refine ⟨fun c s hrun haps hin hrun' hnew => ⟨_, exec_of_carEvent rfl hrun ?disagreeDue, ?disagree⟩,
    fun c s hrun haps hin hage hnew => ⟨_, exec_of_carEvent rfl hrun ?lostDue, ?lost⟩,
    fun c s hrun hst hlimit hnew => ⟨_, exec_of_carEvent rfl hrun ?failedDue, ?failed⟩,
    fun c s hrun hdue => ⟨_, exec_of_carEvent rfl hrun hdue, ?correct⟩,
    fun c s hrun hdue => ⟨_, exec_of_carEvent rfl hrun hdue, ?learn⟩,
    fun c x s hrun hx hdue => ⟨_, exec_of_carEvent rfl hrun ?sampleDue, ?sample⟩,
    fun c s hrun hlong hnew => ⟨_, exec_of_carEvent rfl hrun ?relevelDue, ?relevel⟩⟩
  case disagreeDue => simp [Pos.apsDisagreeDue, Pos.apsUse, *]
  case lostDue => simp [Pos.apsLostDue, Pos.apsUse, *]
  case failedDue => simp only [State.correctionFailedDue, hst, hlimit, hnew]; simp
  case sampleDue =>
    simp only [State.sampleDue, hx]
    exact decide_eq_true hdue
  case relevelDue => simp [Pos.relevelDue, *]
  case disagree =>
    obtain ⟨hrec, hfaults, hraised⟩ := positionFault_marks hnew
    simp [hrec, hfaults, hraised, positionFault_state hnew, Placement.afterFault, byte]
  case lost =>
    refine ⟨by simp [apsLost_aps hnew], by simp [apsLost_aps hnew], fun henc hok => ?encoder, fun hno hconf hnew' => ?none⟩
    case encoder =>
      obtain ⟨hrec, -, -⟩ := positionFault_marks hnew
      rw [apsLost_of_encUse hnew (by simp [Pos.encUse, henc, hok])]
      simp [hrec, positionFault_state hnew, Placement.afterFault, byte]
    case none =>
      have henc : (s.car c).pos.encUse = false := by
        obtain hno | hno := hno <;> simp [Pos.encUse, hno]
      simp [apsLost_state_of_not_encUse hnew henc hconf hnew']
  case failed =>
    obtain ⟨hrec, -, -⟩ := positionFault_marks hnew
    simp [hrec, positionFault_state hnew, positionFault_corrBlocked hnew, Placement.afterFault, hst, byte]
  case correct => simp [Pos.startCorrection]
  case learn => simp [Pos.startLearning]
  case sample =>
    refine ⟨by simp [takeSample_settle hx], fun hbad => ?bad, fun hgood hplaced => ?good⟩
    case bad => simpa using takeSample_of_bad hx hbad
    case good => simpa using takeSample_of_good hx hgood hplaced
  case relevel => simp [State.demandRelevel]

/-- Settles O19: the end of a trip is one change of the position, and the job's end keeps every car. -/
theorem learningTripEnds : Obligations.LearningTripEnds := by
  unfold Obligations.LearningTripEnds
  intro c l s hrun hl hdue
  refine ⟨_, exec_of_carEvent rfl hrun hdue, ?_⟩
  have hpos := learnComplete_pos hl
  simp only [car_within, within_grp_jobs, List.mem_cons, true_or, or_true, if_true, hpos]
  refine ⟨rfl, rfl, rfl, rfl, fun hunfinished => ?unfinished, fun hdone hfailed hst hshaft hscale k hk => ?scale,
    fun j hj x hx => ?job⟩
  case unfinished => simp [Pos.endLearning, learnedAll_of_unfinished _ hunfinished]
  case scale => simp [Pos.endLearning, Pos.learnedAll, hdone, hfailed, hst, hshaft, hscale, hk]
  case job =>
    rw [learnComplete_jobs hl hj] at hx
    simpa using (List.mem_filter.mp hx).2

end Sys2Proof.Proofs

/-! PROOFS. Status commands (R27, R487): the layout of their replies, and what a command whose reply can hold free values leaves. -/

namespace Sys2Proof.Machine

/-! ## Little-endian fields (R9) -/

@[simp] theorem length_leBytes (n v : Nat) : (leBytes n v).length = n := by
  induction n generalizing v with
  | zero => rfl
  | succ n ih => simp [leBytes, ih]

@[simp] theorem length_leInt (n : Nat) (v : Int) : (leInt n v).length = n := length_leBytes ..

@[simp] theorem length_zeros (n : Nat) : (zeros n).length = n := List.length_replicate

@[simp] theorem length_padTo (n : Nat) (bs : List Byte) : (padTo n bs).length = n := by
  simp only [padTo, List.length_take, List.length_append, length_zeros]
  omega

theorem leNat_leBytes (n v : Nat) : leNat (leBytes n v) = v % 256 ^ n := by
  induction n generalizing v with
  | zero => simp [leBytes, leNat, Nat.mod_one]
  | succ n ih =>
    rw [leBytes, leNat, ih, BitVec.toNat_ofNat, show 256 ^ (n + 1) = 256 * 256 ^ n from Nat.pow_succ']
    exact Nat.mod_mul.symm

/-- A field beyond the first bytes is one of what follows them. -/
theorem fieldAt_append {a b : List Byte} {i n : Nat} (h : a.length ≤ i) : fieldAt (a ++ b) i n = fieldAt b (i - a.length) n := by
  rw [fieldAt, List.drop_append, List.drop_eq_nil_of_le h, List.nil_append, fieldAt]

theorem fieldAt_leBytes (n v : Nat) (b : List Byte) : fieldAt (leBytes n v ++ b) 0 n = v % 256 ^ n := by
  rw [fieldAt, List.drop_zero, List.take_left' (length_leBytes n v), leNat_leBytes]

/-- Records of `k` bytes each. -/
theorem length_flatMap_eq {α : Type} {f : α → List Byte} {k : Nat} (hf : ∀ a, (f a).length = k) (l : List α) :
    (l.flatMap f).length = k * l.length := by
  simp [List.length_flatMap, hf, mul_comm]

/-- Records of at most `k` bytes each, at most `n` of them. -/
theorem length_flatMap_le {α : Type} {f : α → List Byte} {k n : Nat} (hf : ∀ a, (f a).length ≤ k) {l : List α} (hl : l.length ≤ n) :
    (l.flatMap f).length ≤ k * n := by
  rw [List.length_flatMap]
  calc (l.map fun a => (f a).length).sum ≤ (l.map fun a => (f a).length).length • k :=
        List.sum_le_card_nsmul _ _ (List.forall_mem_map.mpr fun a _ => hf a)
    _ ≤ k * n := by simpa [mul_comm] using Nat.mul_le_mul_left k hl

/-! ## The lengths of the replies -/

section

variable (s : State) (c : Cmd)

theorem length_sysInfoReply : s.sysInfoReply.length = 48 := by simp [State.sysInfoReply]

theorem length_almStatusReply : (s.almStatusReply c).length = 32 := by simp [State.almStatusReply]

theorem length_posStatusReply (car : CarId) : (s.posStatusReply car).length = 44 := by
  simp only [State.posStatusReply]
  split <;> simp

theorem length_profStatusReply (car : CarId) : (s.profStatusReply car).length = 56 := by simp [State.profStatusReply]

theorem length_dispStatusReply : s.dispStatusReply.length = 32 := by simp [State.dispStatusReply]

theorem length_doorStatusReply (car : CarId) (side : Side) : (s.doorStatusReply car side).length = 52 := by
  simp [State.doorStatusReply]

theorem length_safeStatusReply (car : CarId) : (s.safeStatusReply car).length = 44 := by simp [State.safeStatusReply]

theorem length_bankStatusReply (b : BankId) : (s.bankStatusReply b).length = 32 := by simp [State.bankStatusReply]

theorem length_canStatusReply (b : BusId) : (s.canStatusReply b).length = 56 := by simp [State.canStatusReply]

theorem length_clStatusReply (l : CarId) : (s.clStatusReply l).length = 40 := by simp [State.clStatusReply]

theorem length_sigStatusReply (k : SlotId) : (s.sigStatusReply k).length = 40 := by simp [State.sigStatusReply]

theorem length_pairStatusReply : s.pairStatusReply.length = 60 := by simp [State.pairStatusReply]

theorem length_ringStatusReply (r : RingId) : (s.ringStatusReply r).length = 24 := by simp [State.ringStatusReply]

theorem length_ul40StatusReply (car : CarId) : (s.ul40StatusReply car).length = 28 := by simp [State.ul40StatusReply]

theorem length_recStatusReply : s.recStatusReply.length = 48 := by simp [State.recStatusReply]

theorem length_lifeStatusReply : s.lifeStatusReply.length = 64 := by simp [State.lifeStatusReply]

theorem length_frameStatusReply : s.frameStatusReply.length = 44 := by simp [State.frameStatusReply]

theorem length_stopListReply (car : CarId) :
    (s.stopListReply car).length = 16 + 4 * s.grp.shownCars[car.val].order.length := by
  refine List.length_append.trans (congrArg₂ (· + ·) ?_ (length_flatMap_eq (fun _ => by rfl) _))
  simp

theorem length_spectrumReply (car : CarId) (axis : Fin 2) : (s.spectrumReply car axis).length = 2064 := by
  rw [State.spectrumReply, List.length_append, length_flatMap_eq fun _ => length_leBytes .., List.length_range]
  simp

/-! ## Replies of a variable length -/

theorem length_insertJob (j : Job) (l : List Job) : (insertJob j l).length = l.length + 1 := by
  induction l with
  | nil => rfl
  | cons x l ih =>
    rw [insertJob]
    split <;> simp [ih]

theorem length_foldr_insertJob (l : List Job) : (l.foldr insertJob []).length = l.length := by
  induction l with
  | nil => rfl
  | cons j l ih => simp [length_insertJob, ih]

theorem le_length_sysJobsReply : 16 ≤ s.sysJobsReply.length := by
  rw [State.sysJobsReply, List.length_append]
  exact Nat.le_add_right_of_le (by simp)

/-- COUNT counts every job (R498). -/
theorem fieldAt_sysJobsReply : fieldAt s.sysJobsReply 0 2 = s.grp.jobs.length % 65536 := by
  simp only [State.sysJobsReply, List.append_assoc, fieldAt_leBytes, length_foldr_insertJob, Nat.reducePow]

/-- FRAME names the frame (R55). -/
theorem fieldAt_frameStatusReply : fieldAt s.frameStatusReply 8 8 = s.grp.frame % 2 ^ 64 := by
  simp [State.frameStatusReply, fieldAt_append, fieldAt_leBytes]

theorem length_entryBytes (e : Entry) : (s.entryBytes e).length = 32 := by simp [State.entryBytes]

theorem length_recBytes (r : Rec) (isOpen : Bool) : (r.bytes isOpen).length = 32 := by simp [Rec.bytes]

theorem length_readListed_le (hot : Bool) (n : Nat) (es : List (Nat × Entry)) : (readListed hot n es).length ≤ n :=
  List.length_take_le ..

theorem length_almReadReply_le (p : List Byte) : (s.almReadReply p).length ≤ 16 + 32 * fieldAt p 4 2 := by
  unfold State.almReadReply
  extract_lets first n skip hot es next
  have hes : es.length ≤ n := by
    simp only [es]
    split
    · exact length_readListed_le ..
    · exact (List.length_map _).trans_le ((List.length_filter_le ..).trans List.length_range.le)
  have hbytes : (es.flatMap fun q => s.entryBytes q.2).length ≤ 32 * n := length_flatMap_le (fun q => (length_entryBytes ..).le) hes
  rw [List.length_append]
  exact Nat.add_le_add (by simp) hbytes

theorem length_bytesAt_le (r : Recorder) (i : Nat) : (r.bytesAt i).length ≤ 32 := by
  rw [Recorder.bytesAt]
  split <;> simp [length_recBytes]

theorem length_readIndices_le (r : Recorder) (first count : Nat) (backward : Bool) :
    (r.readIndices first count backward).length ≤ count := by
  rw [Recorder.readIndices]
  split
  · simp
  · dsimp only
    split <;> simp

theorem length_recReadReply_le (p : List Byte) : (s.recReadReply p).length ≤ 16 + 32 * fieldAt p 8 2 := by
  have hbytes := length_flatMap_le (length_bytesAt_le s.nv.recorder)
    (length_readIndices_le s.nv.recorder (fieldAt p 0 8) (fieldAt p 8 2) (bit (byteAt p 10) 0))
  rw [State.recReadReply, List.length_append]
  exact Nat.add_le_add (by simp) hbytes

end

/-! ## A status command changes its source alone -/

section

variable {c : Cmd} {s : State} {i : Instr} {opcode len : Nat} {tests : State → List Byte → List Test}
  {reply : State → Cmd → List Byte} (hexec : exec i s = .next (s.within mailParts (serve (statusCmd opcode len tests reply) c s)))

include hexec

theorem exec_statusCmd (h : Judged (statusCmd opcode len tests reply) c s) :
    exec i s = .next ((s.consumed c).answer opcode c stOk (reply (s.consumed c) c)) :=
  exec_eq_answer (List.Subset.refl mailParts) hexec h (confined_refl ..) rfl

end

/-- A status command: judged well it is answered OK with a payload of `n` bytes, and changes only its source. -/
def StatusRow (c : Cmd) (s : State) (i : Instr) (d : CmdDef) (n : Nat) : Prop :=
  Judged d c s → ∃ p : List Byte, p.length = n ∧ exec i s = .next ((s.consumed c).answer d.opcode c stOk p)

theorem statusRow_of_length {c : Cmd} {s : State} {i : Instr} {opcode len n : Nat} {tests : State → List Byte → List Test}
    {reply : State → Cmd → List Byte} (hexec : exec i s = .next (s.within mailParts (serve (statusCmd opcode len tests reply) c s)))
    (hlen : (reply (s.consumed c) c).length = n) : StatusRow c s i (statusCmd opcode len tests reply) n :=
  fun h => ⟨_, hlen, exec_statusCmd hexec h⟩

theorem confined_measuredPeak (s : State) (n : Nat) :
    Confined (.frame :: mailParts) s { s with grp := { s.grp with measuredPeak := n } } :=
  (confined_within [.frame] s { s with grp := { s.grp with measuredPeak := n } }).mono (by decide)

/-- CLEAR_PEAK clears MEASURED_PEAK beside the source (R55). -/
theorem exec_frameStatus {c : Cmd} {s : State} (h : Judged frameStatusDef c s) :
    exec (.frameStatus c) s = .next (State.answer 0x0120 c stOk (s.consumed c).frameStatusReply
      (if bit (byteAt c.payload 0) 0 then { s.consumed c with grp := { (s.consumed c).grp with measuredPeak := 0 } }
       else s.consumed c)) := by
  refine exec_eq_answer (ps := .frame :: mailParts) (List.subset_cons_self ..) rfl h ?_ rfl
  split
  · exact confined_measuredPeak ..
  · exact confined_refl ..

theorem exec_sigSpectrum {c : Cmd} {s : State} (h : Judged sigSpectrumDef c s)
    (hconf : ((future (s.consumed c)).car (carOf c.payload)).configured = true) :
    exec (.sigSpectrum c) s = .next ((s.consumed c).answer 0x0B16 c stOk
      ((s.consumed c).spectrumReply (carOf c.payload) (Fin.ofNat 2 (byteAt c.payload 1)))) :=
  exec_eq_answer (List.Subset.refl mailParts) rfl h (confined_refl ..) (if_pos hconf)

/-! ## A landing of `pos.table` that has not been written (R135) -/

@[simp] theorem answer_free (s : State) (opcode : Nat) (c : Cmd) (status : Nat) (p : List Byte) :
    (s.answer opcode c status p).free = s.free :=
  ((confined_answer s opcode c status p).2 .free (by decide)).symm

theorem confined_drawBytes (s : State) (n : Nat) : Confined (.free :: mailParts) s (s.drawBytes n).2 :=
  (confined_within [.free] s (s.drawBytes n).2).mono (by decide)

/-- A landing side that the car's table does not hold has no LEVEL, and its reply draws one (log 3). -/
theorem exec_posTable_of_unwritten {c : Cmd} {s : State} (h : Judged posTableDef c s)
    (hconf : ((future (s.consumed c)).car (carOf c.payload)).configured = true)
    (hno : (Mem.get {} (s.car (carOf c.payload)).pos.table (landingKey c.payload)).written = false) :
    ∃ p, exec (.posTable c) s = .next (State.answer 0x0412 c stOk p { s.consumed c with free := s.free + 1 }) := by
  have hno' : (Mem.get {} ((s.consumed c).car (carOf c.payload)).pos.table (landingKey c.payload)).written = false := hno
  have hact : ∃ p, posTableDef.act (future (s.consumed c)) c (s.consumed c) = .done p ((s.consumed c).drawBytes 12).2 := by
    simp only [posTableDef, hconf, hno']
    exact ⟨_, rfl⟩
  obtain ⟨p, hact⟩ := hact
  exact ⟨p, exec_eq_answer (List.subset_cons_self ..) rfl h (confined_drawBytes (s.consumed c) 12) hact⟩

/-- The module runs and holds, RING00 is a COMMAND ring and car 0 configured. The latest Calends showed landing 0 of the car as
written, and the car's table in force does not hold it: a Calends shows the cars before what was accepted takes effect (R27, R28). -/
def landingShownOnly : State :=
  { State.reset with
    boot := { phase := .running }
    mem := { state := .holder }
    host := { rings := (Vector.replicate 64 ({} : Ring)).set 0 { use := .command } }
    grp := { cars := (Vector.replicate 8 ({} : Car)).set 0 { configured := true }
             shownCars := (Vector.replicate 8 ({} : Car)).set 0 { configured := true, pos := { table := [(0, { written := true })] } } } }

/-- `pos.table` of landing 0, FRONT, of car 0, as RING00 gives it. -/
def tableCmd : Cmd :=
  { seq := 1, payload := zeros 4, payCheck := crc16 (zeros 4),
    hdrCheck := crc16 (({ seq := 1, payload := zeros 4 } : Cmd).header 0x0412) }

theorem tableCmd_judged : Judged posTableDef tableCmd landingShownOnly where
  takes := by decide
  header := by decide +kernel
  new := by simp [Cmd.repeats, landingShownOnly]
  order := by simp [Cmd.inOrder, landingShownOnly]
  life := by decide
  whole := by decide
  check := by decide +kernel
  len := by decide
  chain := by decide
  target := by decide
  form := by decide

end Sys2Proof.Machine

namespace Sys2Proof.Proofs

open Sys2Proof Sys2Proof.Machine

/-- Settles O53: each row's reply is laid out in a fixed number of bytes or in records of 32, and its command has no other effect but
that of CLEAR_PEAK. -/
theorem statusReplies : Obligations.StatusReplies := by
  unfold Obligations.StatusReplies
  intro c s
  refine ⟨?rows, fun h => ?jobs, fun h => ?almanac, fun h => ?stops, fun h => ?recorder, fun h => ?frame, fun h hconf => ?spectrum⟩
  case rows =>
    change ∀ q ∈ (_ : List (Instr × CmdDef × Nat)), StatusRow c s q.1 q.2.1 q.2.2
    simp only [List.forall_mem_cons]
    exact ⟨statusRow_of_length rfl (length_sysInfoReply _), statusRow_of_length rfl (length_almStatusReply ..),
      statusRow_of_length rfl (length_posStatusReply ..), statusRow_of_length rfl (length_profStatusReply ..),
      statusRow_of_length rfl (length_dispStatusReply _), statusRow_of_length rfl (length_doorStatusReply ..),
      statusRow_of_length rfl (length_safeStatusReply ..), statusRow_of_length rfl (length_bankStatusReply ..),
      statusRow_of_length rfl (length_canStatusReply ..), statusRow_of_length rfl (length_clStatusReply ..),
      statusRow_of_length rfl (length_sigStatusReply ..), statusRow_of_length rfl (length_pairStatusReply _),
      statusRow_of_length rfl (length_ringStatusReply ..), statusRow_of_length rfl (length_ul40StatusReply ..),
      statusRow_of_length rfl (length_recStatusReply _), statusRow_of_length rfl (length_lifeStatusReply _),
      fun _ hq => absurd hq List.not_mem_nil⟩
  case jobs => exact ⟨_, le_length_sysJobsReply _, fieldAt_sysJobsReply _, exec_statusCmd rfl h⟩
  case almanac =>
    exact ⟨_, length_almReadReply_le _ c.payload, exec_eq_answer (List.Subset.refl mailParts) rfl h (confined_refl ..) rfl⟩
  case stops => exact ⟨_, length_stopListReply _ (carOf c.payload), exec_statusCmd rfl h⟩
  case recorder => exact ⟨_, length_recReadReply_le _ c.payload, exec_statusCmd rfl h⟩
  case frame => exact ⟨_, length_frameStatusReply _, fieldAt_frameStatusReply _, exec_frameStatus h⟩
  case spectrum => exact ⟨_, length_spectrumReply .., exec_sigSpectrum h hconf⟩

/-- Refutes O54: `pos.table` reads the car's table in force (R135), not the one that the latest Calends showed, so a landing that is
written in the shown table alone draws a free value. -/
theorem not_statusRepliesWithFreeValues : ¬ Obligations.StatusRepliesWithFreeValues := by
  unfold Obligations.StatusRepliesWithFreeValues
  intro h
  obtain ⟨htable, -⟩ := h tableCmd landingShownOnly
  have hconf : ((future (landingShownOnly.consumed tableCmd)).car (carOf tableCmd.payload)).configured = true := by decide
  obtain ⟨p, n, hexec, -, hdraws⟩ := htable tableCmd_judged hconf
  obtain ⟨q, hexec'⟩ := exec_posTable_of_unwritten tableCmd_judged hconf (by decide)
  have hn : n = landingShownOnly.free := hdraws (by decide)
  have hsame := congrArg State.free (Host.Outcome.next.inj (hexec'.symm.trans hexec))
  simp only [answer_free] at hsame
  omega

end Sys2Proof.Proofs

/-! PROOFS. The profile of a car (R140–R165, R200): what a position stop, a profile fault and the end of a trip leave of the car and
the recorder. -/

namespace Sys2Proof.Machine

/-! ## A car made FAULTED, a stop, and the brakes requested set (R130, R158, R200) -/

section

variable (s : State) (c : CarId)

@[simp] theorem modMotion_nv (f : Motion → Motion) : (s.modMotion c f).nv = s.nv := rfl

@[simp] theorem modMotion_grp_frame (f : Motion → Motion) : (s.modMotion c f).grp.frame = s.grp.frame := rfl

@[simp] theorem faultService_motion : ((s.faultService c).car c).motion = (s.car c).motion := by
  simp only [State.faultService, State.enterService]
  split <;> simp

@[simp] theorem faultService_safe : ((s.faultService c).car c).safe = (s.car c).safe := by
  simp only [State.faultService, State.enterService]
  split <;> simp

/-- A car that is not locked out becomes FAULTED (R200). -/
@[simp] theorem faultService_service : ((s.faultService c).car c).service =
    if (s.car c).service = .lockedOut then .lockedOut else .faulted := by
  simp only [State.faultService, State.enterService]
  split
  case isTrue h => exact h
  case isFalse => simp

@[simp] theorem setBrakes_nv : (s.setBrakes c).nv = s.nv := rfl

theorem setBrakes_motion :
    ((s.setBrakes c).car c).motion = { (s.car c).motion with phase := .stopping, since := s.grp.frame } := by
  simp [State.setBrakes]

theorem setBrakes_req :
    ((s.setBrakes c).car c).safe.req = { (s.car c).safe.req with lift := false, set := true } := by
  simp [State.setBrakes]

@[simp] theorem setBrakes_service : ((s.setBrakes c).car c).service = (s.car c).service := by simp [State.setBrakes]

@[simp] theorem positionStop_service : ((s.positionStop c).car c).service = (s.car c).service := by
  simp only [State.positionStop]
  split <;> simp

/-- A position stop ends the target in every phase. -/
theorem positionStop_noTarget :
    ((s.positionStop c).car c).motion.target = none ∧ ((s.positionStop c).car c).motion.committed = false := by
  simp only [State.positionStop]
  split <;> simp [Motion.noTarget, setBrakes_motion]

/-- A car that runs makes the soonest stop. -/
theorem positionStop_posStop {s : State} {c : CarId} (h : (s.car c).motion.phase = .running) :
    ((s.positionStop c).car c).motion.posStop = true := by
  simp [State.positionStop, Motion.noTarget, h]

end

/-! ## A trip that ends (R151, R153, R158, R180) -/

/-- The motion of a car whose trip has ended with its target: IDLE, without a plan. -/
def Motion.ended (m : Motion) : Motion :=
  { m.noTarget with
    kind := .normal, phase := .idle, plan := [], planFor := none, capped := false, posStop := false, rolling := false,
    ref := { s := m.ref.s } }

@[simp] theorem ended_noTarget (m : Motion) : m.noTarget.ended = m.ended := rfl

section

variable (x : Car)

@[simp] theorem endTrip_phase : x.endTrip.motion.phase = .idle := by
  simp only [Car.endTrip]
  split <;> rfl

@[simp] theorem endTrip_run : x.endTrip.safe.req.run = false := rfl

@[simp] theorem endTrip_service : x.endTrip.service = x.service := rfl

@[simp] theorem endTrip_servedAt : x.endTrip.servedAt = x.servedAt := rfl

/-- A trip that ends with its target dropped. -/
@[simp] theorem endTrip_motion_of_noTarget :
    ({ x with motion := { x.motion.noTarget with kind := .normal } } : Car).endTrip.motion = x.motion.ended := rfl

end

section

variable (s : State) (c : CarId)

@[simp] theorem completeStop_motion (l : Nat) : ((s.completeStop c l).car c).motion = (s.car c).motion.noTarget := by
  simp [State.completeStop]

theorem completeStop_servedAt (l : Nat) : ∃ sides acc, ((s.completeStop c l).car c).servedAt = some (l, sides, acc) := by
  simp [State.completeStop]

@[simp] theorem stopComplete_run : ((s.stopComplete c).car c).safe.req.run = false := by
  simp [State.stopComplete]

/-- However the trip ends, its deferred limits come into force, a reversal's dwell begins, and its target is gone. -/
theorem stopComplete_motion : ((s.stopComplete c).car c).motion =
    { (s.car c).motion.undefer with
      dwellFrom := if (s.car c).motion.reversal then some s.grp.frame else (s.car c).motion.dwellFrom }.ended := by
  simp only [State.stopComplete, car_modCar, endTrip_motion_of_noTarget]
  split
  case isTrue hlearn =>
    -- A learning trip marks its way, and completes no stop.
    simp only [hlearn, car_modCar, car_modMotion]
    split <;> simp_all [Motion.undefer]
  case isFalse =>
    -- A completed stop drops the target, which the end of the trip does too.
    split <;> split <;> simp_all [Motion.undefer]

/-- A normal trip with a target landing completes its stop there. -/
theorem stopComplete_servedAt {s : State} {c : CarId} {l : Nat} (hkind : (s.car c).motion.kind = .normal)
    (hl : (s.car c).motion.targetLanding = some l) :
    ∃ sides acc, ((s.stopComplete c).car c).servedAt = some (l, sides, acc) := by
  simpa [State.stopComplete, hkind, hl] using completeStop_servedAt _ c l

end

/-! ## A profile fault that is not yet raised in its frame (R132, R162) -/

/-- A profile fault recorded and its code kept for the frame, before its effect on the car. -/
def State.markFault (s : State) (c : CarId) (code : Nat) : State :=
  (s.record 0x0501 c.val [byte code, byte (if code = 2 then (s.car c).motion.status.code else 0)]).modMotion c fun m =>
    { m with raised := m.raised + 2 ^ code, fault := max m.fault code }

section

variable {s : State} {c : CarId}

@[simp] theorem markFault_car (code : Nat) : (s.markFault c code).car c =
    { s.car c with motion :=
      { (s.car c).motion with raised := (s.car c).motion.raised + 2 ^ code, fault := max (s.car c).motion.fault code } } := by
  simp [State.markFault]

@[simp] theorem markFault_recorder (code : Nat) : (s.markFault c code).nv.recorder = s.nv.recorder.add
    (s.mkRec 0x0501 c.val [byte code, byte (if code = 2 then (s.car c).motion.status.code else 0)]) := rfl

/-- FOLLOWING (1): a position stop, and the car FAULTED (R161). -/
theorem profileFault_following (h : bit (s.car c).motion.raised 1 = false) :
    s.profileFault c 1 = ((s.markFault c 1).positionStop c).faultService c :=
  if_neg (by simp [h])

/-- DRIVE_STATUS_LOST (3): a position stop of a car that runs (R162). -/
theorem profileFault_statusLost (h : bit (s.car c).motion.raised 3 = false) :
    s.profileFault c 3 =
      if (s.car c).motion.phase = .running then (s.markFault c 3).positionStop c else s.markFault c 3 :=
  if_neg (by simp [h])

/-- DRIVE_START_TIMEOUT (4): the trip ends, and the car is FAULTED (R158). -/
theorem profileFault_startTimeout (h : bit (s.car c).motion.raised 4 = false) :
    s.profileFault c 4 = ((s.markFault c 4).modCar c Car.endTrip).faultService c :=
  if_neg (by simp [h])

/-- REFERENCE_LOST (5): SG is told to drop the brakes, and the car is FAULTED (R165). -/
theorem profileFault_referenceLost (h : bit (s.car c).motion.raised 5 = false) :
    s.profileFault c 5 =
      ((s.markFault c 5).modMotion c fun m => { m with tellDrop := m.tellDrop ||| 4 }).faultService c :=
  if_neg (by simp [h])

end

end Sys2Proof.Machine

namespace Sys2Proof.Proofs

open Sys2Proof Sys2Proof.Machine

/-- Settles O20: each event is due by its premises, and what it leaves follows from its fault's effect, from the brakes requested
set, or from the end of the trip. -/
theorem profileEvents : Obligations.ProfileEvents := by
  unfold Obligations.ProfileEvents
  refine ⟨fun c s hrun hpres hlong hnew => ⟨_, exec_of_carEvent rfl hrun ?followingDue, ?following⟩,
    fun c s hrun hpres hmiss hnew => ⟨_, exec_of_carEvent rfl hrun ?referenceDue, ?reference⟩,
    fun c s hrun hpres hage hnew => ⟨_, exec_of_carEvent rfl hrun ?statusDue, ?status⟩,
    fun c s hrun hdue => ⟨_, exec_of_carEvent rfl hrun hdue, ?start⟩,
    fun c s hrun hphase htime => ⟨_, exec_of_carEvent rfl hrun ?settleDue, ?settle⟩,
    fun c s hrun hphase hset hask => ⟨_, exec_of_carEvent rfl hrun ?stopDue, ?stop⟩,
    fun c f s hrun hfrom htime => ⟨_, exec_of_carEvent rfl hrun ?dwellDue, ?dwell⟩⟩
  case followingDue => simp [Motion.followingDue, *]
  case referenceDue => simp [Motion.referenceLostDue, *]
  case statusDue => simp [Motion.statusLostDue, *]
  case settleDue => simp [State.settleTimeoutDue, State.msFrames, *]
  case stopDue => simp [State.stopCompleteDue, *]
  case dwellDue => simp [State.dwellOverDue, State.msFrames, *]
  case following =>
    rw [profileFault_following hnew]
    exact ⟨by simp [byte], by simp [positionStop_noTarget], by simp [positionStop_noTarget],
      fun hphase => by simp [positionStop_posStop, hphase], by simp⟩
  case reference =>
    rw [profileFault_referenceLost hnew]
    simp [byte]
  case status =>
    rw [profileFault_statusLost hnew]
    split
    case isTrue hphase => simp [positionStop_posStop, hphase, byte]
    case isFalse hphase => simp [hphase, byte]
  case start =>
    have hnew : bit (s.car c).motion.raised 4 = false := by simp_all [State.startTimeoutDue]
    rw [profileFault_startTimeout hnew]
    simp [byte]
  case settle => simp [State.settleTimeout, setBrakes_motion, setBrakes_req]
  case stop =>
    simp only [car_within, List.mem_cons, true_or, if_true, stopComplete_motion]
    exact ⟨rfl, rfl, stopComplete_run s c, rfl, rfl, fun hkind l hl => stopComplete_servedAt hkind hl⟩
  case dwell => simp

end Sys2Proof.Proofs

/-! PROOFS. Commands answered later or with a RESULT (R191, R207, R214, R287, R326, R368): what each leaves when it is accepted or
refused, and what an image or firmware chunk leaves (R409, R508). -/

namespace Sys2Proof.Machine

/-! ## A verdict that keeps to the command's parts -/

/-- The state that a verdict hands on before the command is counted and answered. -/
def Verdict.after (s : State) : Verdict → State
  | .refuse _ _ => s
  | .done _ t => t
  | .result _ _ t => t
  | .drop _ _ t => t
  | .later t => t

theorem confined_counted (s : State) (c : Cmd) : Confined mailParts s (s.counted c) := confined_modSource s c.src _

/-- To count a command and to answer it changes only the mail parts. -/
theorem confined_close (opcode : Nat) (c : Cmd) (s : State) (v : Verdict) :
    Confined mailParts (v.after s) (v.close opcode c s) := by
  cases v with
  | refuse st p => exact confined_replyTo s opcode c st p
  | done p t => exact confined_answer t opcode c stOk p
  | result st p t => exact confined_answer t opcode c st p
  | drop st p t => exact confined_replyTo t opcode c st p
  | later t => exact confined_counted t c

/-- A judged command ends as its verdict says, and nothing of it is lost that keeps to the command's parts. -/
theorem exec_eq_close {i : Instr} {d : CmdDef} {c : Cmd} {s : State} {ps : List Part} {v : Verdict} (hmail : mailParts ⊆ ps)
    (hexec : exec i s = .next (s.within ps (serve d c s))) (h : Judged d c s)
    (hact : d.act (future (s.consumed c)) c (s.consumed c) = v)
    (hkeeps : Confined ps (s.consumed c) (v.after (s.consumed c))) : exec i s = .next (v.close d.opcode c (s.consumed c)) := by
  rw [hexec, serve_of_judged h, hact]
  have hclose : Confined ps s (v.close d.opcode c (s.consumed c)) :=
    ((confined_consumed s c).mono hmail).trans (hkeeps.trans ((confined_close d.opcode c (s.consumed c) v).mono hmail))
  exact congrArg _ hclose.within_eq

/-- A change that the parts lose nothing of is confined to them. -/
theorem confined_of_within_eq {ps : List Part} {s t : State} (h : s.within ps t = t) : Confined ps s t :=
  h ▸ confined_within ps s t

theorem confined_modCar (s : State) (car : CarId) (g : Car → Car) : Confined [.cars] s (s.modCar car g) :=
  confined_of_within_eq rfl

theorem confined_modSafe (s : State) (car : CarId) (g : Safe → Safe) : Confined [.cars] s (s.modSafe car g) :=
  confined_modCar ..

theorem confined_modKernel (s : State) (k : SlotId) (g : Kernel → Kernel) : Confined [.kernels] s (s.modKernel k g) :=
  confined_of_within_eq rfl

theorem confined_dropChunks (s : State) (k : SlotId) : Confined [.kernels] s (s.dropChunks k) := confined_modKernel ..

theorem confined_drawNat (s : State) : Confined [.free] s s.drawNat.2 := confined_of_within_eq rfl

/-! ## A stop waits for its Calends (R207, R492) -/

section

variable {f : State} {c : Cmd} {s : State}

/-- A car with one more stop asked for, not yet tested (R147, R207). -/
def Car.asked (x : Car) (c : Cmd) (serial : Nat) : Car :=
  { x with asks := x.asks ++ [{ key := 0xFFFF, cmd := c, serial := serial }] }

theorem carStopAddDef_act_of_open (hconf : (f.car (carOf c.payload)).configured = true)
    (hfault : (f.car (carOf c.payload)).service ≠ .faulted) (hlock : (f.car (carOf c.payload)).service ≠ .lockedOut) :
    carStopAddDef.act f c s =
      .later ((s.modCar (carOf c.payload) fun x => x.asked c (s.serial c.src)).stage (.cmd 0x0611 c.payload)) :=
  if_neg (by simp [hconf, hfault, hlock])

theorem carStopAddDef_act_of_closed (hclosed : (f.car (carOf c.payload)).configured = false
      ∨ (f.car (carOf c.payload)).service = .faulted ∨ (f.car (carOf c.payload)).service = .lockedOut) :
    carStopAddDef.act f c s = .refuse stState [] :=
  if_pos (by simpa [or_assoc] using hclosed)

@[simp] theorem car_stage (s : State) (d : Deferred) (car : CarId) : (s.stage d).car car = s.car car := rfl

theorem confined_askStop (s : State) (car : CarId) (g : Car → Car) (d : Deferred) :
    Confined ([.cars, .deferred] ++ mailParts) s ((s.modCar car g).stage d) :=
  ((confined_modCar s car g).mono (by decide)).trans ((confined_stage _ d).mono (by decide))

/-! ## A registration is opened or refused by its rule (R191, R213) -/

/-- The configuration as it will stand, with what was accepted in this frame in force and no longer waiting. -/
def State.settled (f : State) : State := { f with grp := { f.grp with deferred := [] } }

/-- A request is answered REFUSED_FULL, and the refusal is counted and recorded as an event (R191). -/
def State.refuseFull (s : State) (origin dest : Nat) : State :=
  ({ s with grp := { s.grp with disp := { s.grp.disp with refusedFull := satInc 32 s.grp.disp.refusedFull } } } : State).record
    0x0601 0xFF [byte origin, byte dest]

theorem confined_refuseFull (s : State) (origin dest : Nat) : Confined [.disp, .recorder] s (s.refuseFull origin dest) :=
  confined_of_within_eq rfl

variable {origin dest flags : Nat} (fixture : Nat)

theorem request_of_full (hr : f.regResult origin dest flags = 0x10) :
    s.request f origin dest flags fixture = (0x10, none, s.refuseFull origin dest) := by
  rw [State.request, hr]
  rfl

/-- REFUSED_LANDING or REFUSED_MODE (R191): nothing is counted. -/
theorem request_of_refused (hr : f.regResult origin dest flags = 0x11 ∨ f.regResult origin dest flags = 0x12) :
    s.request f origin dest flags fixture = (f.regResult origin dest flags, none, s) := by
  rcases hr with hr | hr <;> simp [State.request, hr]

/-- Whichever channel is taken, to look for it draws one free value and changes nothing else. -/
theorem allocReg_snd (s f : State) : (s.allocReg f).2 = s.drawNat.2 := by
  simp only [State.allocReg]
  split <;> rfl

theorem request_of_opened (hr : f.regResult origin dest flags = 0x01) {ch : Nat} (hch : (s.allocReg f).1 = some ch) :
    s.request f origin dest flags fixture = (0x01, some ch, s.drawNat.2.stage (.register ch origin dest flags fixture)) := by
  have halloc : s.allocReg f = (some ch, s.drawNat.2) := Prod.ext hch (allocReg_snd s f)
  simp [State.request, hr, halloc]

/-- Which channel is free depends on what is taken alone. -/
theorem nextFreeReg_congr {s t : State} (h : ∀ ch, s.regTaken ch = t.regTaken ch) (n i : Nat) :
    s.nextFreeReg n i = t.nextFreeReg n i := by
  induction n generalizing i with
  | zero => rfl
  | succ n ih => simp only [State.nextFreeReg, h, ih]

/-- A command that is consumed leaves the channel that a registration takes. -/
theorem allocReg_consumed_fst (s : State) (c : Cmd) (f : State) : ((s.consumed c).allocReg f).1 = (s.allocReg f).1 := by
  have hfree := nextFreeReg_congr (s := (s.consumed c).drawNat.2) (t := s.drawNat.2) fun _ => rfl
  have hdraw : (s.consumed c).drawNat.1 = s.drawNat.1 := rfl
  have hregs : (s.consumed c).drawNat.2.registrations = s.drawNat.2.registrations := rfl
  have hwaits : (s.consumed c).drawNat.2.grp.deferred = s.drawNat.2.grp.deferred := rfl
  simp only [State.allocReg, hfree, hdraw, hregs, hwaits]
  cases s.drawNat.2.nextFreeReg (min 65536 (s.drawNat.2.registrations.length + s.drawNat.2.grp.deferred.length + 1))
    (s.drawNat.1 % 65536) <;> rfl

theorem dispRegisterDef_act {r : Nat} {ch : Option Nat} {t : State}
    (hreq : s.request f.settled (byteAt c.payload 0) (byteAt c.payload 1) (byteAt c.payload 2) noRef = (r, ch, t)) :
    dispRegisterDef.act f c s = .result (if r = 1 then stOk else stState) (leBytes 3 (ch.getD noRef) ++ [byte r]) t := by
  rw [State.settled] at hreq
  simp only [dispRegisterDef, hreq]

end

section

variable {c : Cmd} {s : State}

/-- RESULT of the registration that a `disp.register` asks for. -/
def registerResult (c : Cmd) (s : State) : Nat :=
  (future (s.consumed c)).settled.regResult (byteAt c.payload 0) (byteAt c.payload 1) (byteAt c.payload 2)

theorem mailParts_subset_registerParts : mailParts ⊆ [.free, .disp, .deferred, .recorder] ++ mailParts := by decide

theorem exec_dispRegister_of_refused (h : Judged dispRegisterDef c s)
    (hr : registerResult c s = 0x11 ∨ registerResult c s = 0x12) :
    exec (.dispRegister c) s =
      .next ((s.consumed c).answer 0x0623 c stState (leBytes 3 noRef ++ [byte (registerResult c s)])) := by
  have hstatus : (if registerResult c s = 1 then stOk else stState) = stState := if_neg (by omega)
  rw [← hstatus]
  exact exec_eq_close mailParts_subset_registerParts rfl h (dispRegisterDef_act (request_of_refused noRef hr)) (confined_refl ..)

theorem exec_dispRegister_of_full (h : Judged dispRegisterDef c s) (hr : registerResult c s = 0x10) :
    exec (.dispRegister c) s = .next (State.answer 0x0623 c stState (leBytes 3 noRef ++ [byte 0x10])
      ((s.consumed c).refuseFull (byteAt c.payload 0) (byteAt c.payload 1))) :=
  exec_eq_close mailParts_subset_registerParts rfl h (dispRegisterDef_act (request_of_full noRef hr))
    ((confined_refuseFull ..).mono (by decide))

theorem exec_dispRegister_of_opened (h : Judged dispRegisterDef c s) (hr : registerResult c s = 0x01) {ch : Nat}
    (hch : (s.allocReg (future (s.consumed c)).settled).1 = some ch) :
    exec (.dispRegister c) s = .next (State.answer 0x0623 c stOk (leBytes 3 ch ++ [1])
      ((s.consumed c).drawNat.2.stage
        (.register ch (byteAt c.payload 0) (byteAt c.payload 1) (byteAt c.payload 2) noRef))) :=
  exec_eq_close mailParts_subset_registerParts rfl h
    (dispRegisterDef_act (request_of_opened noRef hr ((allocReg_consumed_fst ..).trans hch)))
    (((confined_drawNat _).mono (by decide)).trans ((confined_stage ..).mono (by decide)))

/-! ## A cancelled send and a cancelled registration (R203, R214, R341, R368) -/

theorem exec_canCancel (h : Judged canCancelDef c s) : exec (.canCancel c) s =
    .next (((s.consumed c).stage (.answer 0x0A12 c (s.serial c.src))).counted c) :=
  exec_eq_close (ps := .deferred :: mailParts) (List.subset_cons_self ..) rfl h rfl ((confined_stage ..).mono (by decide))

theorem confined_voidAnnounce (s : State) (ch : Nat) : Confined [.deferred] s (s.voidAnnounce ch) :=
  confined_of_within_eq rfl

theorem exec_dispCancel (h : Judged dispCancelDef c s) : exec (.dispCancel c) s =
    .next ((((s.consumed c).voidAnnounce (fieldAt c.payload 0 3)).stage (.cmd 0x0624 c.payload)).answer 0x0624 c stOk []) :=
  exec_eq_answer (ps := .deferred :: mailParts) (List.subset_cons_self ..) rfl h
    (((confined_voidAnnounce ..).trans (confined_stage ..)).mono (by decide)) rfl

/-! ## A reset of the lockout waits for the next frame's test (R287, R294) -/

theorem exec_safeReset_of_accepted (h : Judged safeResetDef c s)
    (hr : s.resetResult (carOf c.payload) (fieldAt c.payload 2 2) = 0) :
    exec (.safeReset c) s = .next (((s.consumed c).modSafe (carOf c.payload) fun y =>
      { y with resetCmd := some (s.grp.frame, c, s.serial c.src) }).counted c) := by
  have hkeeps := confined_modSafe (s.consumed c) (carOf c.payload) fun y =>
    { y with resetCmd := some (s.grp.frame, c, s.serial c.src) }
  exact exec_eq_close (ps := .cars :: mailParts) (List.subset_cons_self ..) rfl h (if_pos hr) (hkeeps.mono (by decide))

theorem exec_safeReset_of_refused (h : Judged safeResetDef c s)
    (hr : s.resetResult (carOf c.payload) (fieldAt c.payload 2 2) ≠ 0) :
    exec (.safeReset c) s = .next ((s.consumed c).answer 0x0813 c stState
      [byte (s.resetResult (carOf c.payload) (fieldAt c.payload 2 2)), 0, 0, 0]) :=
  exec_eq_close (ps := .cars :: mailParts) (List.subset_cons_self ..) rfl h (if_neg hr) (confined_refl ..)

/-! ## An acknowledgement waits for the Calends at which it acts (R317, R320, R326) -/

theorem exec_bankAck_of_ready (h : Judged bankAckDef c s) (hr : s.ackResult c.payload = 0) :
    exec (.bankAck c) s = .next (((s.consumed c).stage (.answer 0x0911 c (s.serial c.src))).counted c) :=
  exec_eq_close (ps := .deferred :: mailParts) (List.subset_cons_self ..) rfl h (if_pos hr) ((confined_stage ..).mono (by decide))

theorem exec_bankAck_of_refused (h : Judged bankAckDef c s) (hr : s.ackResult c.payload ≠ 0) :
    exec (.bankAck c) s = .next ((s.consumed c).answer 0x0911 c stState [byte (s.ackResult c.payload), 0, 0, 0]) :=
  exec_eq_close (ps := .deferred :: mailParts) (List.subset_cons_self ..) rfl h (if_neg hr) (confined_refl ..)

end

/-! ## Chunks of a kernel image (R409, R564) -/

/-- The slot takes a chunk of an image: it is EMPTY, and the chunk is a FIRST one or follows another. -/
def State.takesChunk (f : State) (p : List Byte) : Prop :=
  (f.kernel (slotOf p)).state = .empty ∧ (bit (byteAt p 1) 0 = true ∨ (f.kernel (slotOf p)).staging ≠ none)

section

variable {f : State} {c : Cmd} {s : State}

theorem takesChunk_iff {p : List Byte} : f.takesChunk p ↔
    ¬ ((f.kernel (slotOf p)).state ≠ .empty ∨ ((!bit (byteAt p 1) 0) = true ∧ (f.kernel (slotOf p)).staging = none)) := by
  cases hfirst : bit (byteAt p 1) 0 <;> simp [State.takesChunk, hfirst]

/-- A chunk that is not the LAST joins the ones received for its slot. -/
theorem sigLoadDef_act_of_chunk (hlast : bit (byteAt c.payload 1) 1 = false) (htakes : f.takesChunk c.payload)
    (hlen : (f.wholeImage c.payload).length ≤ 82128) : sigLoadDef.act f c s =
      .done [] (s.modKernel (slotOf c.payload) fun y => { y with staging := some (f.wholeImage c.payload) }) := by
  simp only [sigLoadDef, hlast, Bool.not_false, if_true, if_neg (takesChunk_iff.mp htakes),
    if_neg (show ¬ 73936 + 8192 < (f.wholeImage c.payload).length by omega)]

variable (hlast : bit (byteAt c.payload 1) 1 = true) (hgood : f.imageBad (f.wholeImage c.payload) = none)
  (htakes : f.takesChunk c.payload)
  (howned : ∀ n ∈ (headerOf (f.wholeImage c.payload)).outputs, f.ul40Owns n = false)

include htakes howned

/-- An image for a slot that takes it, with no output of its own in a car's image (R522), is not refused STATE. -/
theorem not_imageRefused : ¬ ((f.kernel (slotOf c.payload)).state ≠ .empty
    ∨ ((!bit (byteAt c.payload 1) 0) = true ∧ (f.kernel (slotOf c.payload)).staging = none)
    ∨ (headerOf (f.wholeImage c.payload)).outputs.any f.ul40Owns = true) := by
  rw [← or_assoc, not_or]
  exact ⟨takesChunk_iff.mp htakes, by simpa using howned⟩

include hlast hgood

/-- A whole image whose signature is not as its life-cycle state asks is dropped with its chunks (R564). -/
theorem sigLoadDef_act_of_unsigned (hsigned : f.signed (f.wholeImage c.payload) = false) :
    sigLoadDef.act f c s = .drop stSignature [] (s.dropChunks (slotOf c.payload)) := by
  simp only [sigLoadDef, hlast, hgood, hsigned, if_neg (not_imageRefused htakes howned), Bool.not_true, Bool.not_false,
    Bool.false_eq_true, if_true, if_false]

/-- A whole image within every limit is staged as one chunk (R37, R409). -/
theorem sigLoadDef_act_of_admitted (hsigned : f.signed (f.wholeImage c.payload) = true)
    (hadmit : admitOf f (applySigLoad c.payload f) true (slotOf c.payload).val = none) :
    sigLoadDef.act f c s =
      .done (leBytes 4 ((applySigLoad c.payload f).kernel (slotOf c.payload)).charged
          ++ leBytes 4 (applySigLoad c.payload f).declared)
        (s.stage (.cmd 0x0B10 (loadOf c.payload (f.wholeImage c.payload)))) := by
  simp only [sigLoadDef, hlast, hgood, hsigned, hadmit, if_neg (not_imageRefused htakes howned), Bool.not_true,
    Bool.false_eq_true, if_false]

end

section

variable {c : Cmd} {s : State}

theorem mailParts_subset_sigLoadParts : mailParts ⊆ [.deferred, .kernels] ++ mailParts := by decide

theorem exec_sigLoad_of_chunk (h : Judged sigLoadDef c s) (hlast : bit (byteAt c.payload 1) 1 = false)
    (htakes : (future (s.consumed c)).takesChunk c.payload)
    (hlen : ((future (s.consumed c)).wholeImage c.payload).length ≤ 82128) : exec (.sigLoad c) s =
      .next (State.answer 0x0B10 c stOk [] ((s.consumed c).modKernel (slotOf c.payload) fun y =>
        { y with staging := some ((future (s.consumed c)).wholeImage c.payload) })) :=
  exec_eq_answer mailParts_subset_sigLoadParts rfl h ((confined_modKernel ..).mono (by decide))
    (sigLoadDef_act_of_chunk hlast htakes hlen)

variable (h : Judged sigLoadDef c s) (hlast : bit (byteAt c.payload 1) 1 = true)
  (hgood : (future (s.consumed c)).imageBad ((future (s.consumed c)).wholeImage c.payload) = none)
  (htakes : (future (s.consumed c)).takesChunk c.payload)
  (howned : ∀ n ∈ (headerOf ((future (s.consumed c)).wholeImage c.payload)).outputs, (future (s.consumed c)).ul40Owns n = false)

include h hlast hgood htakes howned

theorem exec_sigLoad_of_unsigned
    (hsigned : (future (s.consumed c)).signed ((future (s.consumed c)).wholeImage c.payload) = false) :
    exec (.sigLoad c) s = .next (((s.consumed c).dropChunks (slotOf c.payload)).replyTo 0x0B10 c stSignature []) :=
  exec_eq_close mailParts_subset_sigLoadParts rfl h (sigLoadDef_act_of_unsigned hlast hgood htakes howned hsigned)
    ((confined_dropChunks ..).mono (by decide))

theorem exec_sigLoad_of_admitted
    (hsigned : (future (s.consumed c)).signed ((future (s.consumed c)).wholeImage c.payload) = true)
    (hadmit : admitOf (future (s.consumed c)) (applySigLoad c.payload (future (s.consumed c))) true (slotOf c.payload).val = none) :
    ∃ r : List Byte, r.length = 8 ∧ exec (.sigLoad c) s = .next (State.answer 0x0B10 c stOk r
      ((s.consumed c).stage (.cmd 0x0B10 (loadOf c.payload ((future (s.consumed c)).wholeImage c.payload))))) :=
  ⟨_, by simp, exec_eq_answer mailParts_subset_sigLoadParts rfl h ((confined_stage ..).mono (by decide))
    (sigLoadDef_act_of_admitted hlast hgood htakes howned hsigned hadmit)⟩

end

/-! ## Chunks of a firmware image (R508) -/

section

variable (s : State) (p : List Byte)

/-- A chunk of a firmware image joins its transfer; a FIRST one begins it on the copy that does not run (R508). -/
def State.keepChunk (s : State) (p : List Byte) : State :=
  let t := if bit (byteAt p 1) 0 then s.fwBegin (s.fwTransfer p).members else s
  { t with grp := { t.grp with staging := some (s.fwTransfer p) } }

theorem confined_fwBegin (m : Nat) : Confined [.firmware] s (s.fwBegin m) := by
  unfold State.fwBegin
  split
  · exact confined_of_within_eq rfl
  · exact confined_refl [.firmware] s

theorem confined_keepChunk : Confined [.firmware, .staging] s (s.keepChunk p) := by
  unfold State.keepChunk
  extract_lets t
  have ht : Confined [.firmware, .staging] s t := by
    unfold t
    split
    · exact (confined_fwBegin s _).mono (by decide)
    · exact confined_refl _ s
  have hstaging : Confined [.staging] t { t with grp := { t.grp with staging := some (s.fwTransfer p) } } :=
    confined_of_within_eq rfl
  exact ht.trans (hstaging.mono (by decide))

@[simp] theorem keepChunk_staging : (s.keepChunk p).grp.staging = some (s.fwTransfer p) := rfl

/-- A chunk that is not the FIRST writes no NAND. -/
theorem keepChunk_nv_of_next {p : List Byte} (hnext : bit (byteAt p 1) 0 = false) : (s.keepChunk p).nv = s.nv := by
  simp [State.keepChunk, hnext]

/-- A FIRST chunk for this member sets the copy that does not run to STAGING, and the one that runs is preferred (R511). -/
theorem keepChunk_nv_of_first {p : List Byte} (hfirst : bit (byteAt p 1) 0 = true) (hself : s.namesSelf (byteAt p 0) = true) :
    (s.keepChunk p).nv.copies[s.otherCopy.val].state = .staging ∧ (s.keepChunk p).nv.preferred = s.boot.running := by
  have hmembers : (s.fwTransfer p).members = byteAt p 0 := by simp [State.fwTransfer, hfirst]
  have hnv : (s.keepChunk p).nv =
      { (s.modCopy s.otherCopy fun y => { y with state := .staging }).nv with preferred := s.boot.running } := by
    simp only [State.keepChunk, hfirst, if_true, hmembers, State.fwBegin, hself]
  rw [hnv]
  exact ⟨by simp [State.modCopy], rfl⟩

theorem exec_fwStage_of_chunk {c : Cmd} {s : State} (h : Judged fwStageDef c s) (hjob : s.stagingJob = none)
    (hlast : bit (byteAt c.payload 1) 1 = false) :
    exec (.fwStage c) s = .next (State.answer 0x0E10 c stOk [] ((s.consumed c).keepChunk c.payload)) := by
  have hjob' : (s.consumed c).stagingJob = none := hjob
  have hact : fwStageDef.act (future (s.consumed c)) c (s.consumed c) = .done [] ((s.consumed c).keepChunk c.payload) := by
    simp [fwStageDef, hlast, hjob', State.keepChunk]
  exact exec_eq_answer (ps := [.jobs, .staging, .firmware] ++ mailParts) (List.subset_append_right ..) rfl h
    ((confined_keepChunk ..).mono (by decide)) hact

end

/-! ## A ring is configured at once where no Calends falls (R479, R587) -/

theorem confined_applyRingConfig (p : List Byte) (s : State) : Confined mailParts s (applyRingConfig p s) := by
  unfold applyRingConfig
  extract_lets r t u
  have ht : Confined [.rings] s t := confined_of_within_eq rfl
  have hu : Confined mailParts t u := confined_modSource ..
  have hrings : Confined [.rings] u { u with host :=
      { u.host with held := u.host.held.set r.val [], rung := u.host.rung.set r.val false } } := confined_of_within_eq rfl
  exact ((ht.mono (by decide)).trans hu).trans (hrings.mono (by decide))

theorem exec_ringConfig_of_stopped {c : Cmd} {s : State} (h : Judged ringConfigDef c s) (hstop : s.running = false)
    (hidle : (s.consumed c).ringBusy (future (s.consumed c)) c = false)
    (hroom : overLimit 11 16777216 (future (s.consumed c)).ringBytes
      (applyRingConfig c.payload (future (s.consumed c))).ringBytes = none) :
    exec (.ringConfig c) s = .next ((applyRingConfig c.payload (s.consumed c)).answer 0x0D10 c stOk []) := by
  have hstop' : (s.consumed c).running = false := hstop
  have hact : ringConfigDef.act (future (s.consumed c)) c (s.consumed c) = .done [] (applyRingConfig c.payload (s.consumed c)) := by
    simp [ringConfigDef, hidle, hstop', hroom]
  exact exec_eq_answer (ps := .deferred :: mailParts) (List.subset_cons_self ..) rfl h
    ((confined_applyRingConfig ..).mono (by decide)) hact

end Sys2Proof.Machine

namespace Sys2Proof.Proofs

open Sys2Proof Sys2Proof.Machine

/-- Settles O59: each command's tests name its verdict, the state that a verdict hands on keeps to the command's parts, and to count
and answer the command changes only the mail parts. -/
theorem resultCommands : Obligations.ResultCommands := by
  unfold Obligations.ResultCommands
  intro c s f s' p car x
  refine ⟨fun h => ⟨fun hconf hfault hlock => ?asked, fun hclosed => ?closed⟩, exec_canCancel, fun h => ?register,
    exec_dispCancel, fun h => ⟨exec_safeReset_of_accepted h, exec_safeReset_of_refused h⟩,
    fun h => ⟨exec_bankAck_of_ready h, exec_bankAck_of_refused h⟩, fun h => ?load, fun h hjob hlast => ?stage,
    exec_ringConfig_of_stopped⟩
  case asked =>
    refine ⟨(s'.modCar car fun x => x.asked c (s'.serial c.src)).stage (.cmd 0x0611 p), ?exec, rfl, ?asks, ?stops⟩
    case exec =>
      exact exec_eq_close (List.subset_append_right ..) rfl h (carStopAddDef_act_of_open hconf hfault hlock) (confined_askStop ..)
    case asks =>
      rw [car_stage, car_modCar]
      rfl
    case stops =>
      rw [car_stage, car_modCar]
      rfl
  case closed => exact exec_eq_replyTo (List.subset_append_right ..) rfl h (carStopAddDef_act_of_closed hclosed)
  case register =>
    exact ⟨exec_dispRegister_of_refused h, exec_dispRegister_of_full h,
      fun hr ch hch => ⟨_, exec_dispRegister_of_opened h hr hch, rfl⟩⟩
  case load =>
    exact ⟨exec_sigLoad_of_chunk h, fun hlast hgood htakes howned =>
      ⟨exec_sigLoad_of_unsigned h hlast hgood htakes howned, exec_sigLoad_of_admitted h hlast hgood htakes howned⟩⟩
  case stage =>
    exact ⟨s'.keepChunk p, exec_fwStage_of_chunk h hjob hlast, keepChunk_staging s' p, keepChunk_nv_of_first s',
      keepChunk_nv_of_next s'⟩

end Sys2Proof.Proofs

/-! PROOFS. The doors of a car (R216–R254): what a change of a door, a door fault and a failed close leave of the door, its car and
the recorder. -/

namespace Sys2Proof.Machine

/-! ## A door after a change of it -/

section

variable (s : State) (c : CarId) (side : Side)

@[simp] theorem door_modDoor (f : Door → Door) : (s.modDoor c side f).door c side = f (s.door c side) := by
  simp [State.door, State.modDoor]

@[simp] theorem modDoor_service (f : Door → Door) : ((s.modDoor c side f).car c).service = (s.car c).service := by
  simp [State.modDoor]

@[simp] theorem modDoor_nv (f : Door → Door) : (s.modDoor c side f).nv = s.nv := rfl

@[simp] theorem modDoor_mkRec (f : Door → Door) : (s.modDoor c side f).mkRec = s.mkRec := rfl

@[simp] theorem door_record (code n : Nat) (data : List Byte) : (s.record code n data).door c side = s.door c side := rfl

@[simp] theorem door_within (t : State) (ps : List Part) :
    (s.within ps t).door c side = if Part.cars ∈ ps then t.door c side else s.door c side := by
  simp only [State.door, car_within]
  split <;> rfl

@[simp] theorem faultService_door : (s.faultService c).door c side = s.door c side := by
  simp only [State.door, State.faultService, State.enterService]
  split <;> simp

end

/-- A door event that is due takes place when the control plane runs its Plan phase (R48). -/
theorem exec_of_doorEvent {i : Instr} {ps : List Part} {c : CarId} {side : Side} {due : State → Door → Bool} {f : State → State}
    {s : State} (hexec : exec i s = .next (s.within ps (s.doorEvent c side due f))) (hrun : s.running = true)
    (hsafe : s.grp.safeState = false) (hdue : due s (s.door c side) = true) : exec i s = .next (s.within ps (f s)) := by
  rw [hexec, State.doorEvent, if_pos (by simp [hrun, hsafe, hdue])]

/-- Planning again changes the plan, and what it was made for, alone (R225). -/
theorem replan_eq (d : Door) : ∃ plan planFor, d.replan = { d with plan := plan, planFor := planFor } := by
  simp only [Door.replan]
  split
  · exact ⟨_, _, rfl⟩
  · split <;> exact ⟨_, _, rfl⟩

/-! ## A door fault (R244) -/

/-- A door that a fault has stopped: FAULTED with the fault's code, on its way to the soonest standstill. -/
def Door.failed (d : Door) (code : Nat) : Door :=
  ({ d with
      phase := .faulted, fault := code, hold := false, clearing := none, clearSent := none, refMove := false, openAfter := false,
      dwellMs := none, dwellFrom := none, nudging := false } : Door).halt d.cfg.dRev d.cfg.jRev

section

variable (s : State) (c : CarId) (side : Side) (code : Nat)

theorem doorFault_door :
    let d := s.door c side
    let e := (s.doorFault c side code).door c side
    e.phase = .faulted ∧ e.fault = code ∧ e.goal = .standstill ∧ e.decel = d.cfg.dRev ∧ e.jerk = d.cfg.jRev ∧ e.refMove = false
      ∧ e.nudging = false ∧ e.hold = false := by
  have hdoor : (s.doorFault c side code).door c side = ((s.door c side).failed code).replan := by
    simp [State.doorFault, Door.failed]
  obtain ⟨plan, planFor, hplan⟩ := replan_eq ((s.door c side).failed code)
  rw [hdoor, hplan]
  exact ⟨rfl, rfl, rfl, rfl, rfl, rfl, rfl, rfl⟩

@[simp] theorem doorFault_recorder : (s.doorFault c side code).nv.recorder =
    s.nv.recorder.add (s.mkRec 0x0702 c.val [byte side.val, byte code]) := by
  simp [State.doorFault]

@[simp] theorem doorFault_service : ((s.doorFault c side code).car c).service =
    if (s.car c).service = .lockedOut then .lockedOut else .faulted := by
  simp [State.doorFault]

/-- Of an event that acts on cars and recorder alone, all of a fault stands. -/
theorem within_doorFault (u : State) :
    let t := u.within [.cars, .recorder] (s.doorFault c side code)
    let d := s.door c side
    let e := t.door c side
    (e.phase = .faulted ∧ e.fault = code ∧ e.goal = .standstill ∧ e.decel = d.cfg.dRev ∧ e.jerk = d.cfg.jRev ∧ e.refMove = false
        ∧ e.nudging = false ∧ e.hold = false)
      ∧ t.nv.recorder = s.nv.recorder.add (s.mkRec 0x0702 c.val [byte side.val, byte code])
      ∧ ((s.car c).service ≠ .lockedOut → (t.car c).service = .faulted)
      ∧ ((s.car c).service = .lockedOut → (t.car c).service = .lockedOut) := by
  simp +contextual [doorFault_door]

end

/-! ## A close that CLOSED_POINT does not confirm (R241) -/

section

variable {s : State} {c : CarId} {side : Side}

/-- A re-opening may note the clamp of its deceleration (R232). -/
theorem reopenDoor_door :
    ∃ noted, (s.reopenDoor c side).door c side = ({ s.door c side with clampNoted := noted } : Door).reopen := by
  simp only [State.reopenDoor, State.noteClamp, door_modDoor]
  split
  · exact ⟨true, by simp⟩
  · exact ⟨_, rfl⟩

@[simp] theorem reopenDoor_service : ((s.reopenDoor c side).car c).service = (s.car c).service := by
  simp only [State.reopenDoor, State.noteClamp, modDoor_service]
  split <;> simp

/-- Short of NUDGE_COUNT failed nudging closes the door re-opens, and a nudging close counts as one that failed. -/
theorem notClosed_of_reopens (h : (s.door c side).nudging = true → (s.door c side).notClosedRun + 1 < (s.door c side).cfg.nudgeCount) :
    s.notClosed c side = ((s.modDoor c side Door.countReversal).reopenDoor c side).modDoor c side fun d =>
      ({ d with notClosedRun := if (s.door c side).nudging then (s.door c side).notClosedRun + 1 else 0 } : Door).replan := by
  refine if_neg ?_
  cases hn : (s.door c side).nudging with
  | false => simp
  | true => simpa using h hn

/-- The failed nudging close that reaches NUDGE_COUNT is a fault of the door (R244). -/
theorem notClosed_of_fails (hn : (s.door c side).nudging = true)
    (h : (s.door c side).cfg.nudgeCount ≤ (s.door c side).notClosedRun + 1) :
    s.notClosed c side = ((s.modDoor c side Door.countReversal).doorFault c side 5).modDoor c side fun d =>
      { d with notClosedRun := (s.door c side).notClosedRun + 1 } := by
  simp [State.notClosed, hn, h]

/-- A door that turns counts the reversal, and its failed nudging closes in a row. -/
theorem notClosed_door_of_reopens
    (h : (s.door c side).nudging = true → (s.door c side).notClosedRun + 1 < (s.door c side).cfg.nudgeCount) :
    let d := s.door c side
    let e := (s.notClosed c side).door c side
    e.phase = .reversing ∧ e.goal = .toOpen ∧ e.reversals = (if d.nudging then d.reversals else min 255 (d.reversals + 1))
      ∧ e.notClosedRun = if d.nudging then d.notClosedRun + 1 else 0 := by
  obtain ⟨noted, hopen⟩ := reopenDoor_door (s := s.modDoor c side Door.countReversal) (c := c) (side := side)
  rw [notClosed_of_reopens h, door_modDoor, hopen, door_modDoor]
  obtain ⟨plan, planFor, hplan⟩ := replan_eq { ({ (s.door c side).countReversal with clampNoted := noted } : Door).reopen with
    notClosedRun := if (s.door c side).nudging then (s.door c side).notClosedRun + 1 else 0 }
  rw [hplan]
  exact ⟨rfl, rfl, rfl, rfl⟩

theorem notClosed_service_of_reopens
    (h : (s.door c side).nudging = true → (s.door c side).notClosedRun + 1 < (s.door c side).cfg.nudgeCount) :
    ((s.notClosed c side).car c).service = (s.car c).service := by
  simp [notClosed_of_reopens h]

end

end Sys2Proof.Machine

namespace Sys2Proof.Proofs

open Sys2Proof Sys2Proof.Machine

/-- Settles O23: a fault's effect on the door is the same for each of its causes, and NOT_CLOSED either turns the door or is such
a fault, by the count of failed nudging closes. -/
theorem doorFaults : Obligations.DoorFaults := by
  unfold Obligations.DoorFaults
  refine ⟨fun c side s hrun hsafe q hq hdue => ?fault, fun c side s hrun hsafe hdue =>
    ⟨_, exec_of_doorEvent rfl hrun hsafe hdue, fun hn => ?turns, fun hn hfew => ?nudges, fun hn hmany => ?fails⟩⟩
  case fault =>
    simp only [List.mem_cons, List.not_mem_nil, or_false] at hq
    obtain rfl | rfl | rfl := hq
    · refine ⟨_, exec_of_doorEvent rfl hrun hsafe hdue, ?_⟩
      simpa [State.gearSync, and_assoc] using within_doorFault (s.modDoor c side fun d => { d with gearRun := 0 }) c side 3 s
    · exact ⟨_, exec_of_doorEvent rfl hrun hsafe hdue, by simpa only [and_assoc] using within_doorFault s c side 2 s⟩
    · exact ⟨_, exec_of_doorEvent rfl hrun hsafe hdue, by simpa only [and_assoc] using within_doorFault s c side 4 s⟩
  case turns =>
    have hopens : (s.door c side).nudging = true → (s.door c side).notClosedRun + 1 < (s.door c side).cfg.nudgeCount := by simp [hn]
    simpa [hn, notClosed_service_of_reopens hopens] using notClosed_door_of_reopens hopens
  case nudges =>
    obtain ⟨hphase, -, hreversals, hcount⟩ := notClosed_door_of_reopens fun _ => hfew
    simp [hphase, hreversals, hcount, hn]
  case fails =>
    obtain ⟨hphase, hfault, -⟩ := doorFault_door (s.modDoor c side Door.countReversal) c side 5
    simp [notClosed_of_fails hn hmany, hphase, hfault, byte]

end Sys2Proof.Proofs

/-! PROOFS. The car-top endpoint (R220, R355–R360): what a downlink, a sample instant, a loss and a stage's fault leave of it. -/

namespace Sys2Proof.Machine

/-! ## An endpoint after a change of it -/

theorem ends_within_modEnd (s : State) (l : CarId) (f : Endpoint → Endpoint) :
    (s.within [.ends] (s.modEnd l f)).io.ends[l.val] = f s.io.ends[l.val] := by
  simp

/-- A sequence number does not come after itself (R357). -/
theorem seqAdvances_self (n : Nat) : seqAdvances n n = false := by
  have hzero : (n + 2 ^ 32 - n % 2 ^ 32) % 2 ^ 32 = 0 := by omega
  rw [seqAdvances, hzero]
  rfl

/-! ## A stage takes its command record (R219, R220, R360) -/

section

variable (latched : Bool) (r : List Byte) (x : Stage)

theorem command_enabled : (x.command latched r).enabled = bit (byteAt r 6) 0 := by
  simp only [Stage.command]
  split
  · split <;> split <;> rfl
  · split <;> rfl

/-- Without the loss latch no stage is held: each takes its ANGLE, and its CURRENT unless it is faulted or not enabled. -/
theorem command_of_unlatched :
    let y := x.command false r
    y.angle = intAt r 0 4
      ∧ y.current = if !y.enabled || y.overcurrent || y.overtemp || y.undervolt then 0 else fieldAt r 4 2 := by
  simp [Stage.command]

end

/-! ## A downlink (R357, R358) -/

/-- The tests of a downlink but its sequence number (R357). -/
def LinkFrame.downlinkGood (f : LinkFrame) : Bool :=
  f.fcsGood && f.etherType == carLinkType && f.payload.length == 120 && crc16 (f.payload.take 118) == fieldAt f.payload 118 2

theorem downlinkGood_iff (f : LinkFrame) : f.downlinkGood = true ↔ f.fcsGood = true ∧ f.etherType = 0x88B5
    ∧ f.payload.length = 120 ∧ fieldAt f.payload 118 2 = crc16 (f.payload.take 118) := by
  simp only [LinkFrame.downlinkGood, carLinkType, Bool.and_eq_true, beq_iff_eq, and_assoc,
    eq_comm (a := crc16 (f.payload.take 118))]

section

variable {e : Endpoint} {port : Side} {f : LinkFrame}

theorem downlink_of_bad (h : f.downlinkGood = false) : e.downlink port f = e :=
  if_pos (by rw [← LinkFrame.downlinkGood, h]; rfl)

/-- A stage's record in a downlink (R219, R352). -/
def LinkFrame.stageRecord (f : LinkFrame) (i : Fin 4) : List Byte := (f.payload.drop (8 + 8 * i.val)).take 8

/-- A downlink whose sequence number is the first or a later one is accepted, and every stage takes its record; a loss latch that
no stage holds on ends (R360). -/
theorem downlink_of_new (hgood : f.downlinkGood = true)
    (hnew : e.started = false ∨ seqAdvances (fieldAt f.payload 0 4) e.lastSeq = true) :
    let y := e.downlink port f
    (y.started = true ∧ y.lastSeq = fieldAt f.payload 0 4 ∧ y.got = true ∧ y.sampleAt = fieldAt f.payload 6 2
        ∧ y.port1Used = (port == 1))
      ∧ ∀ i : Fin 4, ∃ held, y.stages[i.val] = { e.stages[i.val].command e.lossLatched (f.stageRecord i) with lossHeld := held } := by
  have hsame : (e.started && fieldAt f.payload 0 4 == e.lastSeq) = false := by
    obtain hfirst | hlater := hnew
    · simp [hfirst]
    · have hne : fieldAt f.payload 0 4 ≠ e.lastSeq := fun h => by simp [h, seqAdvances_self] at hlater
      simp [hne]
  have hold : (e.started && !seqAdvances (fieldAt f.payload 0 4) e.lastSeq) = false := by
    obtain hfirst | hlater := hnew <;> simp [*]
  intro y
  have hy : y = _ := (if_neg (by rw [← LinkFrame.downlinkGood, hgood]; simp)).trans
    ((if_neg (by simp [hsame])).trans (if_neg (by simp [hold])))
  rw [hy]
  refine ⟨⟨rfl, rfl, rfl, rfl, rfl⟩, fun i => ?stage⟩
  case stage =>
    dsimp only
    split
    · exact ⟨_, by rw [Vector.getElem_ofFn]; rfl⟩
    · exact ⟨false, by rw [Vector.getElem_map, Vector.getElem_ofFn]; rfl⟩

end

/-! ## A loss of downlinks (R359) -/

section

variable (e : Endpoint)

theorem latchLoss_lossHeld (i : Fin 4) : e.latchLoss.stages[i.val].lossHeld = true := by
  simp only [Endpoint.latchLoss, Vector.getElem_map]
  split
  case isTrue h => exact h
  case isFalse => rfl

theorem disable_stage (i : Fin 4) : e.disable.stages[i.val].enabled = false ∧ e.disable.stages[i.val].current = 0 := by
  simp [Endpoint.disable]

end

/-! ## A sample instant (R355, R358) -/

@[simp] theorem length_stageReport (x : Stage) (r : List Byte) : (x.report r).length = 16 := by simp [Stage.report]

/-- An uplink's 178 bytes begin with the sequence numbers of both directions and end with their check. -/
theorem uplinkBytes_layout (e : Endpoint) (x : EndpointIn) :
    ∃ h : List Byte, e.uplinkBytes x = h ++ leBytes 2 (crc16 h) ∧ h.length = 178 ∧ h.take 4 = leBytes 4 e.lastSeq
      ∧ (h.drop 4).take 4 = leBytes 4 e.upSeq := by
  refine ⟨_, rfl, ?length, ?last, ?up⟩
  case length =>
    simp only [List.length_append]
    rw [length_flatMap_eq (k := 16) fun i => by split <;> simp]
    simp
  case last =>
    simp only [List.append_assoc]
    exact List.take_left' (length_leBytes ..)
  case up =>
    simp only [List.append_assoc]
    rw [List.drop_left' (length_leBytes ..)]
    exact List.take_left' (length_leBytes ..)

/-- The endpoint as a sample instant finds it: a loss that is due has latched, and one of 1 s has disabled the stages (R359). -/
def Endpoint.settleLoss (e : Endpoint) : Endpoint :=
  let e := if e.lossDue then e.latchLoss else e
  if e.disableDue then e.disable else e

/-- A loss keeps the sequence numbers, and the count of missed periods for the sample instant. -/
theorem settleLoss_keeps (e : Endpoint) : e.settleLoss.lastSeq = e.lastSeq ∧ e.settleLoss.upSeq = e.upSeq
    ∧ e.settleLoss.got = e.got ∧ e.settleLoss.missed = e.missed := by
  simp only [Endpoint.settleLoss]
  split <;> split <;> exact ⟨rfl, rfl, rfl, rfl⟩

/-- An endpoint that a sample instant has counted a period for, with its stages one period on. -/
def Endpoint.countPeriod (e : Endpoint) (stages : Vector Stage 4) : Endpoint :=
  { e with
    got := false, missed := if e.got then 0 else min 65535 (e.missed + 1), stages := stages, upSeq := (e.upSeq + 1) % 2 ^ 32 }

theorem sample_of_started {e : Endpoint} (x : EndpointIn) (h : e.started = true) :
    ∃ stages, e.sample x =
      { e.settleLoss.countPeriod stages with uplink := (e.settleLoss.countPeriod stages).uplinkBytes x, dupMismatch := false } :=
  ⟨_, if_neg (by simp [h])⟩

/-! ## A stage's fault (R220) -/

theorem trip_of_cause (c : Fin 3) (x : Stage) :
    let y := x.trip c
    y.current = 0 ∧ y.overcurrent = (x.overcurrent || decide (c = 0)) ∧ y.overtemp = (x.overtemp || decide (c = 1))
      ∧ y.undervolt = (x.undervolt || decide (c = 2)) ∧ y.enabled = x.enabled ∧ y.angle = x.angle := by
  match c with
  | 0 => simp [Stage.trip]
  | 1 => simp [Stage.trip]
  | 2 => simp [Stage.trip]

theorem modStage_stage (e : Endpoint) (i : Fin 4) (f : Stage → Stage) : (e.modStage i f).stages[i.val] = f e.stages[i.val] :=
  Vector.getElem_set_self ..

end Sys2Proof.Machine

namespace Sys2Proof.Proofs

open Sys2Proof Sys2Proof.Machine

/-- Settles O17: each event changes its own endpoint alone, and what it leaves follows from the downlink's tests, from the loss that a
sample instant settles first, or from the stage's cause. -/
theorem endpoints : Obligations.Endpoints := by
  unfold Obligations.Endpoints
  refine ⟨fun l port f ns s hfcs htype hlen hcheck hnew => ⟨_, rfl, ?accepted⟩, fun l port f ns s hbad => ⟨_, rfl, ?discarded⟩,
    fun l x s hstart => ⟨_, rfl, ?sample⟩, fun l s hstart hgot hmissed hlatch => ⟨_, rfl, ?loss⟩,
    fun l s hstart hgot hmissed => ⟨_, rfl, ?disable⟩, fun l i c s => ⟨_, rfl, ?fault⟩⟩
  all_goals rw [ends_within_modEnd]
  case accepted =>
    have hgood : f.downlinkGood = true := (downlinkGood_iff f).mpr ⟨hfcs, htype, hlen, hcheck⟩
    obtain ⟨⟨hstart, hseq, hgot, hsample, hport⟩, hstages⟩ := downlink_of_new (port := port) hgood hnew
    refine ⟨hstart, hseq, hgot, hsample, hport, fun i => ?_⟩
    obtain ⟨held, hstage⟩ := hstages i
    rw [hstage]
    refine ⟨command_enabled .., fun hlatch => ?_⟩
    rw [hlatch]
    exact command_of_unlatched ..
  case discarded =>
    refine downlink_of_bad (Bool.eq_false_iff.mpr fun hgood => ?_)
    obtain ⟨hfcs, htype, hlen, hcheck⟩ := (downlinkGood_iff f).mp hgood
    simp [hfcs, htype, hlen, hcheck] at hbad
  case sample =>
    obtain ⟨hlast, hup, hgot, hmissed⟩ := settleLoss_keeps s.io.ends[l.val]
    obtain ⟨stages, hsample⟩ := sample_of_started x hstart
    obtain ⟨b, huplink, hlen, hdown, hseq⟩ := uplinkBytes_layout (s.io.ends[l.val].settleLoss.countPeriod stages) x
    rw [hsample]
    refine ⟨congrArg (fun n => (n + 1) % 2 ^ 32) hup, rfl, ?missed, b, huplink, hlen, hlast ▸ hdown, hseq⟩
    case missed => simp only [Endpoint.countPeriod, hgot, hmissed]
  case loss =>
    have hfourth : s.io.ends[l.val].missed = 3 ∨ 3 < s.io.ends[l.val].missed := by omega
    have hdue : s.io.ends[l.val].lossDue = true := by simp [Endpoint.lossDue, hstart, hgot, hlatch, hfourth]
    rw [if_pos hdue]
    exact ⟨rfl, rfl, rfl, latchLoss_lossHeld _⟩
  case disable =>
    rw [if_pos (by simp [Endpoint.disableDue, hstart, hgot, hmissed])]
    exact disable_stage _
  case fault =>
    rw [modStage_stage]
    exact trip_of_cause ..

end Sys2Proof.Proofs

/-! PROOFS. The safety core's causes (R261–R276, R285, R286): what the end of a brake test, a latched cause and a finding of an image
leave of a car. -/

namespace Sys2Proof.Machine

/-! ## A car after a change of its safeguard -/

section

variable (s : State) (c : CarId) (f : Safe → Safe)

@[simp] theorem car_modSafe : (s.modSafe c f).car c = { s.car c with safe := f (s.car c).safe } := car_modCar ..

theorem car_modSafe_ne {d : CarId} (h : d ≠ c) : (s.modSafe c f).car d = s.car d := car_modCar_ne s c d _ h.symm

@[simp] theorem modSafe_nv : (s.modSafe c f).nv = s.nv := rfl

@[simp] theorem modSafe_grp_sg : (s.modSafe c f).grp.sg = s.grp.sg := rfl

@[simp] theorem modSafe_grp_frame : (s.modSafe c f).grp.frame = s.grp.frame := rfl

theorem modSafe_modSafe (g : Safe → Safe) : (s.modSafe c f).modSafe c g = s.modSafe c fun x => g (f x) := by
  simp [State.modSafe, State.modCar, State.setCar, State.car]

theorem modSafe_of_eq (h : f (s.car c).safe = (s.car c).safe) : s.modSafe c f = s := by
  have hcar : { s.car c with safe := f (s.car c).safe } = s.car c := by rw [h]
  have hcars : s.grp.cars.set c.val (s.car c) = s.grp.cars := Vector.set_getElem_self ..
  rw [State.modSafe, State.modCar, hcar, State.setCar, hcars]

theorem modSafe_congr {g : Safe → Safe} (h : f (s.car c).safe = g (s.car c).safe) : s.modSafe c f = s.modSafe c g := by
  rw [State.modSafe, State.modCar, h]
  rfl

end

/-- An event that is not due changes nothing. -/
theorem exec_of_not_due {i : Instr} {ps : List Part} {due : Bool} {f : State → State} {s : State}
    (hexec : exec i s = .next (s.within ps (carEvent s due f))) (hdue : due = false) : exec i s = .next s := by
  rw [hexec, carEvent, if_neg (by simp [hdue]), (confined_refl ps s).within_eq]

/-! ## A brake test ends (R281, R295) -/

/-- A safeguard on which no brake test runs any more: the requests of one that ran have ended. -/
def Safe.testEnded (x : Safe) : Safe :=
  { x with
    test := none
    req := if x.test.isSome then { x.req with run := false, test := Vector.replicate 2 false } else x.req }

theorem testEnded_of_none {x : Safe} (h : x.test = none) : x.testEnded = x := by
  cases x
  simp_all [Safe.testEnded]

/-- The job of a brake test, where one ran, posts its results. -/
def State.endTestJob (s : State) (c : CarId) (ran : Option BrakeTest) : State :=
  match ran with
  | none => s
  | some t =>
    match s.findJob fun j => j.kind == .brakeTest c with
    | some j => endJob j stOk t.bytes s
    | none => s

/-- The parts that the end of a brake test changes: the car, the job and what posts its reply. -/
def testParts : List Part := [.cars, .jobs] ++ mailParts

section

variable (s : State) (c : CarId)

theorem finishTest_eq : s.finishTest c = (s.modSafe c Safe.testEnded).endTestJob c (s.car c).safe.test := by
  unfold State.finishTest
  split
  case h_1 hnone =>
    rw [modSafe_of_eq s c _ (testEnded_of_none hnone), hnone]
    rfl
  case h_2 t hsome =>
    rw [modSafe_congr s c _ (g := Safe.testEnded) (by simp [Safe.testEnded, hsome]), hsome]
    rfl

/-- An aborted test of a set is ABORTED in the results that its job posts. -/
theorem abortTest_eq : ∃ ran : Option BrakeTest, ran.isSome = (s.car c).safe.test.isSome
    ∧ s.abortTest c = (s.modSafe c Safe.testEnded).endTestJob c ran := by
  refine ⟨_, ?_, (finishTest_eq _ c).trans (congrArg (State.endTestJob · c _) ?_)⟩
  · simp
  · rw [modSafe_modSafe]
    exact modSafe_congr _ _ _ (by simp [Safe.testEnded])

theorem confined_endTestJob (ran : Option BrakeTest) : Confined (.jobs :: mailParts) s (s.endTestJob c ran) := by
  unfold State.endTestJob
  split
  case h_1 => exact confined_refl ..
  case h_2 =>
    split
    case h_1 j _ =>
      have hjobs : Confined [.jobs] s { s with grp := { s.grp with jobs := s.grp.jobs.filter fun x => x.id ≠ j.id } } :=
        confined_of_within_eq rfl
      exact (hjobs.mono (by decide)).trans ((confined_endJob ..).mono (by decide))
    case h_2 => exact confined_refl ..

theorem endTestJob_car (ran : Option BrakeTest) (d : CarId) : (s.endTestJob c ran).car d = s.car d :=
  congrArg (fun cars : Vector Car 8 => cars[d.val]) ((confined_endTestJob s c ran).2 .cars (by decide)).symm

theorem confined_abortTest : Confined testParts s (s.abortTest c) := by
  obtain ⟨ran, -, habort⟩ := abortTest_eq s c
  rw [habort]
  exact ((confined_modSafe s c _).mono (by decide)).trans ((confined_endTestJob _ c ran).mono (by decide))

theorem abortTest_car : (s.abortTest c).car c = { s.car c with safe := (s.car c).safe.testEnded } := by
  obtain ⟨ran, -, habort⟩ := abortTest_eq s c
  rw [habort, endTestJob_car, car_modSafe]

theorem abortTest_car_ne {d : CarId} (h : d ≠ c) : (s.abortTest c).car d = s.car d := by
  obtain ⟨ran, -, habort⟩ := abortTest_eq s c
  rw [habort, endTestJob_car, car_modSafe_ne _ _ _ h]

theorem abortTest_frame : (s.abortTest c).grp.frame = s.grp.frame :=
  ((confined_abortTest s c).2 .number (by decide)).symm

theorem abortTest_storedCauses : (s.abortTest c).nv.causes = s.nv.causes := by
  obtain ⟨-, -, -, -, -, -, -, hcauses⟩ := (confined_abortTest s c).2 .stored (by decide)
  exact hcauses.symm

theorem abortTest_recorder : (s.abortTest c).nv.recorder = s.nv.recorder :=
  ((confined_abortTest s c).2 .recorder (by decide)).symm

/-- The job of an aborted brake test ends with it. -/
theorem abortTest_jobs {j : Job} (htest : (s.car c).safe.test.isSome)
    (hj : s.findJob (fun j => j.kind == .brakeTest c) = some j) :
    (s.abortTest c).grp.jobs = s.grp.jobs.filter fun x => x.id ≠ j.id := by
  obtain ⟨ran, hran, habort⟩ := abortTest_eq s c
  obtain ⟨t, rfl⟩ := Option.isSome_iff_exists.mp (hran.trans htest)
  have hfind : (s.modSafe c Safe.testEnded).findJob (fun j => j.kind == .brakeTest c) = some j := hj
  rw [habort, State.endTestJob, hfind]
  exact endJob_jobs ..

end

/-! ## A cause latches (R285, R286) -/

@[simp] theorem allOff_outs (x : Safe) (o : Fin 6) : x.allOff.outs[o.val] = { x.outs[o.val] with want := false } := by
  simp [Safe.allOff]

/-- A safeguard that a cause has joined under a LOCKOUT_ID in frame `frame`. -/
def Safe.latched (x : Safe) (code id frame : Nat) : Safe :=
  { x.testEnded.allOff with
    causes := x.causes ||| 2 ^ code, raised := x.raised ||| 2 ^ code, lockId := id
    latchedAt := if x.causes = 0 then frame + 1 else x.latchedAt }

@[simp] theorem latched_outs (x : Safe) (code id frame : Nat) (o : Fin 6) :
    (x.latched code id frame).outs[o.val] = { x.outs[o.val] with want := false } := allOff_outs x.testEnded o

/-- The parts that a latched cause changes. -/
def latchParts : List Part := [.recorder, .stored] ++ testParts

theorem confined_record (s : State) (code n : Nat) (data : List Byte) : Confined [.recorder] s (s.record code n data) :=
  confined_of_within_eq rfl

theorem confined_irqEvent (s : State) (i : Nat) : Confined [.irq] s (s.irqEvent i) := confined_of_within_eq rfl

theorem confined_storeCauses (s : State) (causes : Vector Nat 8) :
    Confined [.stored] s { s with nv := { s.nv with causes := causes } } :=
  confined_of_within_eq rfl

section

variable (s : State) (c : CarId) (code chan id : Nat)

theorem confined_lockService (overrun : Bool) : Confined [.cars] s (s.lockService c overrun) := confined_modCar ..

theorem lockService_car (overrun : Bool) :
    let y := (s.lockService c overrun).car c
    y.safe = (s.car c).safe ∧ y.service = .lockedOut ∧ y.forced = true := by
  simp [State.lockService, State.enterService]

theorem lockService_car_ne (overrun : Bool) {d : CarId} (h : d ≠ c) : (s.lockService c overrun).car d = s.car d :=
  car_modCar_ne s c d _ h.symm

theorem confined_latchCause : Confined latchParts s (s.latchCause c code chan id) := by
  unfold State.latchCause
  extract_lets t u v nv w
  have ht : Confined latchParts s t := (confined_abortTest s c).mono (by decide)
  have hu : Confined latchParts t u := (confined_modSafe t c _).mono (by decide)
  have hv : Confined latchParts u v := (confined_record u ..).mono (by decide)
  have hw : Confined latchParts v w := (confined_storeCauses v _).mono (by decide)
  have hirq : Confined latchParts w (w.irqEvent 3) := (confined_irqEvent w 3).mono (by decide)
  exact ht.trans (hu.trans (hv.trans (hw.trans (hirq.trans ((confined_lockService ..).mono (by decide))))))

@[simp] theorem latchCause_grp_sg : (s.latchCause c code chan id).grp.sg = s.grp.sg :=
  ((confined_latchCause s c code chan id).2 .sg (by decide)).symm

theorem latchCause_car :
    let y := (s.latchCause c code chan id).car c
    y.safe = (s.car c).safe.latched code id s.grp.frame ∧ y.service = .lockedOut ∧ y.forced = true := by
  unfold State.latchCause
  extract_lets t u v nv w
  obtain ⟨hsafe, hservice, hforced⟩ := lockService_car (w.irqEvent 3) c (code == 16)
  refine ⟨hsafe.trans ?_, hservice, hforced⟩
  have hcar : (w.irqEvent 3).car c = u.car c := rfl
  rw [hcar, car_modSafe, abortTest_car, abortTest_frame]
  rfl

theorem latchCause_car_ne {d : CarId} (h : d ≠ c) : (s.latchCause c code chan id).car d = s.car d := by
  unfold State.latchCause
  extract_lets t u v nv w
  have hcar : (w.irqEvent 3).car d = u.car d := rfl
  rw [lockService_car_ne _ _ _ h, hcar, car_modSafe_ne _ _ _ h, abortTest_car_ne _ _ h]

theorem latchCause_storedCauses :
    (s.latchCause c code chan id).nv.causes = s.nv.causes.set c.val ((s.car c).safe.causes ||| 2 ^ code) := by
  unfold State.latchCause
  extract_lets t u v nv w
  have hcauses : u.nv.causes = s.nv.causes := abortTest_storedCauses s c
  have hset : (v.car c).safe.causes = (s.car c).safe.causes ||| 2 ^ code := by
    have hcar : v.car c = u.car c := rfl
    rw [hcar, car_modSafe, abortTest_car]
    rfl
  rw [← hcauses, ← hset]
  rfl

theorem latchCause_irq : (s.latchCause c code chan id).host.irqEvent.getLsbD 3 = true := by
  unfold State.latchCause
  extract_lets t u v nv w
  have hirq : ((w.irqEvent 3).lockService c (code == 16)).host.irqEvent = w.host.irqEvent ||| (1#6 <<< 3) := rfl
  rw [hirq]
  simp

end

/-! ## A cause of a car is raised (R286) -/

/-- The LOCKOUT_ID of a car's cause: that of the causes of its frame, else a new one. -/
def State.causeId (s : State) (c : CarId) : Nat :=
  if (s.car c).safe.raised = 0 then nextLockId s.grp.sg.counter else (s.car c).safe.lockId

/-- The counter of LOCKOUT_ID after a car's cause: a new ID advances it. -/
def State.causeCounter (s : State) (c : CarId) : Nat :=
  if (s.car c).safe.raised = 0 then nextLockId s.grp.sg.counter else s.grp.sg.counter

/-- The state with another counter of LOCKOUT_ID. -/
def State.withCounter (s : State) (n : Nat) : State := { s with grp := { s.grp with sg := { s.grp.sg with counter := n } } }

theorem raise_eq (s : State) (c : CarId) (code chan : Nat) :
    s.raise c code chan = (s.withCounter (s.causeCounter c)).latchCause c code chan (s.causeId c) := by
  unfold State.raise State.causeCounter State.causeId
  dsimp only
  by_cases h : (s.car c).safe.raised = 0
  · rw [if_neg (not_not_intro h), if_pos h, if_pos h, State.withCounter]
  · rw [if_pos h, if_neg h, if_neg h]
    rfl

section

variable (s : State) (c : CarId) (code chan : Nat)

theorem raise_car :
    let y := (s.raise c code chan).car c
    y.safe = (s.car c).safe.latched code (s.causeId c) s.grp.frame ∧ y.service = .lockedOut ∧ y.forced = true := by
  rw [raise_eq]
  exact latchCause_car ..

theorem raise_car_ne {d : CarId} (h : d ≠ c) : (s.raise c code chan).car d = s.car d := by
  rw [raise_eq, latchCause_car_ne _ _ _ _ _ h]
  rfl

theorem raise_counter : (s.raise c code chan).grp.sg.counter = s.causeCounter c := by
  rw [raise_eq, latchCause_grp_sg]
  rfl

theorem raise_storedCauses :
    (s.raise c code chan).nv.causes = s.nv.causes.set c.val ((s.car c).safe.causes ||| 2 ^ code) := by
  rw [raise_eq, latchCause_storedCauses]
  rfl

theorem raise_irq : (s.raise c code chan).host.irqEvent.getLsbD 3 = true := by
  rw [raise_eq]
  exact latchCause_irq ..

end

/-! ## A finding of an image raises its cause (R261, R264, R265, R272, R275, R276) -/

/-- A safeguard in which a finding is marked, and of cause 2, DISCREPANCY, its pair. -/
def Safe.found (x : Safe) (code n : Nat) (p : Fin 5) : Safe :=
  { x with told := x.told ||| 2 ^ n, pairs := if code = 2 then x.pairs ||| 2 ^ p.val else x.pairs }

/-- The findings of an image by their events: the event, whether it is due, its cause and its number in `told`. -/
def Safe.findings (x : Safe) (c : CarId) (p : Fin 5) (ch : Side) : List (Instr × Bool × Nat × Nat) :=
  [(.discrepancy c p, x.discDue p, 2, p.val), (.source c, x.sourceDue, 11, 5), (.xcheck c, x.xcheckDue, 10, 6),
    (.terminalSpeed c, x.terminalDue, 9, 7), (.mirror c ch, x.mirrorDue ch, 4, 8 + ch.val), (.lift c ch, x.liftDue ch, 5, 10 + ch.val)]

/-- What the event of a finding does: it marks the finding and raises its cause. -/
def State.takeFinding (s : State) (c : CarId) (p : Fin 5) (code n chan : Nat) : State :=
  (s.modSafe c fun x => x.found code n p).raise c code chan

theorem raiseDisc_eq (s : State) (c : CarId) (p : Fin 5) :
    s.raiseDisc c p = s.takeFinding c p 2 p.val ((s.car c).pairChan p) := by
  rw [State.raiseDisc, State.find, modSafe_modSafe]
  rfl

theorem raiseMirror_eq (s : State) (c : CarId) (p : Fin 5) (ch : Side) : s.raiseMirror c ch =
    s.takeFinding c p 4 (8 + ch.val) (pick #v[(s.car c).safe.cfg.lanes[8], (s.car c).safe.cfg.lanes[9]] (ch == 1)) :=
  rfl

theorem raiseLift_eq (s : State) (c : CarId) (p : Fin 5) (ch : Side) : s.raiseLift c ch =
    s.takeFinding c p 5 (10 + ch.val) (pick #v[(s.car c).safe.cfg.lanes[10], (s.car c).safe.cfg.lanes[11]] (ch == 1)) :=
  rfl

/-- Every finding's event, when due, takes the finding. -/
theorem exec_of_finding {s : State} {c : CarId} {p : Fin 5} {ch : Side} {q : Instr × Bool × Nat × Nat}
    (hq : q ∈ (s.car c).safe.findings c p ch) (hrun : s.running = true) (hdue : q.2.1 = true) :
    ∃ chan, exec q.1 s = .next (s.within lockoutParts (s.takeFinding c p q.2.2.1 q.2.2.2 chan)) := by
  simp only [Safe.findings, List.mem_cons, List.not_mem_nil, or_false] at hq
  obtain rfl | rfl | rfl | rfl | rfl | rfl := hq
  · exact ⟨_, (exec_of_carEvent rfl hrun hdue).trans (by rw [raiseDisc_eq])⟩
  · exact ⟨noRef, exec_of_carEvent (f := fun s => s.raiseSource c) rfl hrun hdue⟩
  · exact ⟨noRef, exec_of_carEvent (f := fun s => s.raiseXcheck c) rfl hrun hdue⟩
  · exact ⟨noRef, exec_of_carEvent (f := fun s => s.raiseTerminal c) rfl hrun hdue⟩
  · exact ⟨_, (exec_of_carEvent rfl hrun hdue).trans (by rw [raiseMirror_eq s c p])⟩
  · exact ⟨_, (exec_of_carEvent rfl hrun hdue).trans (by rw [raiseLift_eq s c p])⟩

/-- A finding that has raised its cause is not due again while it stands (log 4). -/
theorem exec_of_told {s : State} {c : CarId} {p : Fin 5} {ch : Side} {q : Instr × Bool × Nat × Nat}
    (hq : q ∈ (s.car c).safe.findings c p ch) (htold : bit (s.car c).safe.told q.2.2.2 = true) : exec q.1 s = .next s := by
  simp only [Safe.findings, List.mem_cons, List.not_mem_nil, or_false] at hq
  obtain rfl | rfl | rfl | rfl | rfl | rfl := hq
  · exact exec_of_not_due rfl (by simp [Safe.discDue, htold])
  · exact exec_of_not_due rfl (by simp [Safe.sourceDue, htold])
  · exact exec_of_not_due rfl (by simp [Safe.xcheckDue, htold])
  · exact exec_of_not_due rfl (by simp [Safe.terminalDue, htold])
  · exact exec_of_not_due rfl (by simp [Safe.mirrorDue, htold])
  · exact exec_of_not_due rfl (by simp [Safe.liftDue, htold])

section

variable (s : State) (c : CarId) (p : Fin 5) (code n chan : Nat)

theorem takeFinding_car :
    let y := (s.takeFinding c p code n chan).car c
    y.safe = ((s.car c).safe.found code n p).latched code (s.causeId c) s.grp.frame ∧ y.service = .lockedOut ∧ y.forced = true := by
  have hid : (s.modSafe c fun x => x.found code n p).causeId c = s.causeId c := by simp [State.causeId, Safe.found]
  have hcar := raise_car (s.modSafe c fun x => x.found code n p) c code chan
  rw [hid, car_modSafe] at hcar
  exact hcar

theorem takeFinding_car_ne {d : CarId} (h : d ≠ c) : (s.takeFinding c p code n chan).car d = s.car d := by
  rw [State.takeFinding, raise_car_ne _ _ _ _ h, car_modSafe_ne _ _ _ h]

theorem takeFinding_counter : (s.takeFinding c p code n chan).grp.sg.counter = s.causeCounter c := by
  rw [State.takeFinding, raise_counter]
  simp [State.causeCounter, Safe.found]

theorem takeFinding_storedCauses :
    (s.takeFinding c p code n chan).nv.causes = s.nv.causes.set c.val ((s.car c).safe.causes ||| 2 ^ code) := by
  rw [State.takeFinding, raise_storedCauses, car_modSafe]
  rfl

theorem takeFinding_irq : (s.takeFinding c p code n chan).host.irqEvent.getLsbD 3 = true := raise_irq ..

end

end Sys2Proof.Machine

namespace Sys2Proof.Proofs

open Sys2Proof Sys2Proof.Machine

/-- Settles O24: every finding's event marks the finding and raises its cause, and what it leaves of the car is the safeguard that the
cause has joined; a finding already marked is not due. -/
theorem lockoutsLatch : Obligations.LockoutsLatch := by
  unfold Obligations.LockoutsLatch
  intro c p ch s hrun x q hq
  refine ⟨fun hdue => ?due, fun htold => ⟨s, exec_of_told hq htold, rfl, rfl⟩⟩
  obtain ⟨chan, hexec⟩ := exec_of_finding hq hrun hdue
  refine ⟨_, hexec, ?_⟩
  obtain ⟨hsafe, hservice, hforced⟩ := takeFinding_car s c p q.2.2.1 q.2.2.2 chan
  have hcounter := takeFinding_counter s c p q.2.2.1 q.2.2.2 chan
  have hstored := takeFinding_storedCauses s c p q.2.2.1 q.2.2.2 chan
  have hirq := takeFinding_irq s c p q.2.2.1 q.2.2.2 chan
  simp only [car_within, within_grp_sg, within_nv_causes, within_host_irqEvent, lockoutParts, List.mem_cons, reduceCtorEq,
    true_or, or_true, if_true, hsafe, hservice, hforced, hcounter, hstored, hirq, true_and]
  refine ⟨rfl, rfl, rfl, rfl, rfl, rfl, rfl, fun o => latched_outs .., rfl, rfl, rfl, Vector.getElem_set_self .., fun c' hc' => ?_⟩
  rw [takeFinding_car_ne _ _ _ _ _ _ hc']
  exact ⟨rfl, Vector.getElem_set_ne _ _ fun h => hc' (Fin.ext h.symm)⟩

end Sys2Proof.Proofs

/-! PROOFS. Module causes of the safety core (R256, R286) and the overrun of the control plane (R47–R50). -/

namespace Sys2Proof.Machine

/-! ## Module causes (R256, R286) -/

/-- A car locked out by a module cause: the cause has joined those of the car before, under the cause's ID, and every safety output
goes off. -/
def Car.LockedBy (code id : Nat) (x y : Car) : Prop :=
  y.safe.causes = x.safe.causes ||| 2 ^ code ∧ y.safe.lockId = id ∧ y.service = .lockedOut
    ∧ ∀ o : Fin 6, y.safe.outs[o.val].want = false

/-- What a module cause leaves of a car. -/
def Car.AfterModuleCause (code id : Nat) (x y : Car) : Prop :=
  (x.configured = true → x.LockedBy code id y) ∧ (x.configured = false → y = x)

/-- What a module cause leaves: every configured car is locked out under one ID, that of the frame's module causes. -/
def ModuleCaused (code : Nat) (s t : State) : Prop :=
  t.grp.sg.causes = s.grp.sg.causes ||| 2 ^ code ∧ t.grp.sg.frameId = some s.moduleId
    ∧ ∀ c : CarId, (s.car c).AfterModuleCause code s.moduleId (t.car c)

/-- A module cause latches in a car that is configured. -/
def State.latchConfigured (code id : Nat) (s : State) (c : CarId) : State :=
  if (s.car c).configured then s.latchCause c code noRef id else s

/-- The state with a module cause latched in the safety core, its ID that of the frame. -/
def State.withModuleCause (s : State) (code id : Nat) : State :=
  { s with grp := { s.grp with sg := { s.grp.sg with causes := s.grp.sg.causes ||| 2 ^ code, counter := id, frameId := some id } } }

theorem confined_foldl {ps : List Part} {α : Type} {f : State → α → State} (hf : ∀ s a, Confined ps s (f s a)) (l : List α)
    (s : State) : Confined ps s (l.foldl f s) := by
  induction l generalizing s with
  | nil => exact confined_refl ps s
  | cons a l ih => exact (hf s a).trans (ih (f s a))

section

variable (s : State) (c : CarId) (code id : Nat)

theorem latchCause_lockedBy (chan : Nat) : (s.car c).LockedBy code id ((s.latchCause c code chan id).car c) := by
  obtain ⟨hsafe, hservice, -⟩ := latchCause_car s c code chan id
  refine ⟨congrArg Safe.causes hsafe, congrArg Safe.lockId hsafe, hservice, fun o => ?_⟩
  rw [hsafe, latched_outs]

theorem latchConfigured_car : (s.car c).AfterModuleCause code id ((s.latchConfigured code id c).car c) := by
  unfold State.latchConfigured
  refine ⟨fun hconf => ?_, fun hconf => ?_⟩
  · rw [if_pos hconf]
    exact latchCause_lockedBy ..
  · rw [if_neg (by simp [hconf])]

theorem latchConfigured_car_ne {d : CarId} (h : d ≠ c) : (s.latchConfigured code id c).car d = s.car d := by
  unfold State.latchConfigured
  split
  · exact latchCause_car_ne _ _ _ _ _ h
  · rfl

theorem confined_latchConfigured : Confined latchParts s (s.latchConfigured code id c) := by
  unfold State.latchConfigured
  split
  · exact confined_latchCause ..
  · exact confined_refl ..

theorem foldl_latchConfigured_car_of_not_mem {l : List CarId} (h : c ∉ l) :
    (l.foldl (State.latchConfigured code id) s).car c = s.car c := by
  induction l generalizing s with
  | nil => rfl
  | cons a l ih =>
    obtain ⟨hne, hl⟩ := not_or.mp (List.mem_cons.not.mp h)
    exact (ih _ hl).trans (latchConfigured_car_ne s a code id hne)

/-- A module cause latches once in each of the cars that it is taken to. -/
theorem foldl_latchConfigured_car {l : List CarId} (hnodup : l.Nodup) (h : c ∈ l) :
    (s.car c).AfterModuleCause code id ((l.foldl (State.latchConfigured code id) s).car c) := by
  induction l generalizing s with
  | nil => cases h
  | cons a l ih =>
    obtain ⟨hnot, hl⟩ := List.nodup_cons.mp hnodup
    obtain rfl | hmem := List.mem_cons.mp h
    · rw [List.foldl_cons, foldl_latchConfigured_car_of_not_mem _ _ _ _ hnot]
      exact latchConfigured_car ..
    · have hne : c ≠ a := fun heq => hnot (heq ▸ hmem)
      rw [← latchConfigured_car_ne s a code id hne]
      exact ih _ hl hmem

theorem raiseModule_eq : s.raiseModule code =
    if (List.finRange 8).any fun c => (s.car c).configured then
      (List.finRange 8).foldl (State.latchConfigured code s.moduleId) (s.withModuleCause code s.moduleId)
    else (s.withModuleCause code s.moduleId).record 0x0801 0xFF ([byte code] ++ leBytes 2 s.moduleId ++ leBytes 3 noRef) :=
  rfl

/-- But for the safety core's own record of it, a module cause changes what a cause of a car does. -/
theorem confined_raiseModule : Confined latchParts (s.withModuleCause code s.moduleId) (s.raiseModule code) := by
  rw [raiseModule_eq]
  split
  · exact confined_foldl (fun t c => confined_latchConfigured t c code _) ..
  · exact (confined_record ..).mono (by decide)

theorem raiseModule_car : (s.car c).AfterModuleCause code s.moduleId ((s.raiseModule code).car c) := by
  have hcar : (s.withModuleCause code s.moduleId).car c = s.car c := rfl
  rw [raiseModule_eq]
  split
  case isTrue =>
    rw [← hcar]
    exact foldl_latchConfigured_car _ c code _ (List.nodup_finRange 8) (List.mem_finRange c)
  case isFalse hnone =>
    rw [car_record, hcar]
    exact ⟨fun hconf => absurd (List.any_eq_true.mpr ⟨c, List.mem_finRange c, hconf⟩) hnone, fun _ => rfl⟩

theorem moduleCaused_raiseModule : ModuleCaused code s (s.raiseModule code) := by
  have hsg : (s.raiseModule code).grp.sg = (s.withModuleCause code s.moduleId).grp.sg :=
    ((confined_raiseModule s code).2 .sg (by decide)).symm
  refine ⟨?_, ?_, fun c => raiseModule_car s c code⟩
  · rw [hsg]
    rfl
  · rw [hsg]
    rfl

theorem raiseModule_overrun : (s.raiseModule code).grp.overrun = s.grp.overrun := by
  obtain ⟨-, -, -, -, hoverrun, -, -⟩ := (confined_raiseModule s code).2 .frame (by decide)
  exact hoverrun.symm

theorem confined_causeRelease : Confined [.member] s (s.causeRelease code) := by
  refine confined_of_within_eq ?_
  unfold State.causeRelease
  (repeat' split) <;> rfl

/-- A member that follows enters RELEASED at a cause of its own safety core (R426). -/
theorem causeRelease_of_vigil {s : State} {code : Nat} (hpair : s.boot.pair.paired = true) (hstate : s.mem.state = .vigil)
    (hcode : 17 ≤ code ∧ code ≤ 33) :
    s.causeRelease code = s.modMem fun m => { m with state := .released, vigilReady := false, completeRun := 0 } := by
  simp [State.causeRelease, hpair, hstate, hcode]

end

/-- What a module cause leaves is in the cars and the safety core. -/
theorem ModuleCaused.of_same {code : Nat} {s t u : State} (h : ModuleCaused code s t) (hsg : u.grp.sg = t.grp.sg)
    (hcars : ∀ c, u.car c = t.car c) : ModuleCaused code s u := by
  obtain ⟨hcauses, hid, hcar⟩ := h
  refine ⟨hsg ▸ hcauses, hsg ▸ hid, fun c => ?_⟩
  rw [hcars]
  exact hcar c

/-- Within parts that hold the cars and the safety core, all of a module cause stands. -/
theorem ModuleCaused.within {code : Nat} {s t : State} (h : ModuleCaused code s t) (u : State) {ps : List Part} (hcars : .cars ∈ ps)
    (hsg : .sg ∈ ps) : ModuleCaused code s (u.within ps t) :=
  h.of_same (by rw [within_grp_sg, if_pos hsg]) fun c => by rw [car_within, if_pos hcars]

theorem moduleCaused_causeRelease {code : Nat} {s t : State} (h : ModuleCaused code s t) :
    ModuleCaused code s (t.causeRelease code) :=
  h.of_same ((confined_causeRelease t code).2 .sg (by decide)).symm fun c =>
    congrArg (fun cars : Vector Car 8 => cars[c.val]) ((confined_causeRelease t code).2 .cars (by decide)).symm

/-- The events of the safety core's own causes, with their codes. -/
def sgEvents : List (Instr × Nat) := [(.sgCycle, 21), (.sgClock, 18), (.sgSupply, 19)]

/-- An event takes place when the control plane runs. -/
theorem exec_of_whenRunning {i : Instr} {ps : List Part} {f : State → State} {s : State}
    (hexec : exec i s = .next (s.within ps (whenRunning s f))) (hrun : s.running = true) :
    exec i s = .next (s.within ps (f s)) := by
  rw [hexec, whenRunning_of s f hrun]

theorem exec_sgEvent {s : State} (hrun : s.running = true) {q : Instr × Nat} (hq : q ∈ sgEvents) :
    exec q.1 s = .next (s.within ([.member] ++ lockoutParts) (s.sgModuleCause q.2)) := by
  simp only [sgEvents, List.mem_cons, List.not_mem_nil, or_false] at hq
  obtain rfl | rfl | rfl := hq
  · exact exec_of_whenRunning (f := fun s => s.sgModuleCause 21) rfl hrun
  · exact exec_of_whenRunning (f := fun s => s.sgModuleCause 18) rfl hrun
  · exact exec_of_whenRunning (f := fun s => s.sgModuleCause 19) rfl hrun

theorem sgModuleCause_of_holds {s : State} {code : Nat} (h : s.holds = true) :
    s.sgModuleCause code = (s.raiseModule code).causeRelease code := if_pos h

theorem sgModuleCause_of_not_holds {s : State} {code : Nat} (h : s.holds = false) : s.sgModuleCause code = s.causeRelease code :=
  if_neg (by simp [h])

theorem exec_overrun {s : State} (hrun : s.running = true) : exec .controlPlaneOverrun s =
    .next (s.within ([.frame, .deferred] ++ lockoutParts) (s.latchOverrun s.grp.frame)) :=
  exec_of_whenRunning (f := fun s => s.latchOverrun s.grp.frame) rfl hrun

/-- The state with an overrun latched, and of what was staged that which it leaves (R50). -/
def State.withOverrun (s : State) (n : Nat) (kept : List Deferred) : State :=
  { s with grp := { s.grp with overrun := some (s.grp.overrun.getD n), deferred := kept } }

theorem latchOverrun_eq (s : State) (n : Nat) : ∃ kept, s.latchOverrun n = (s.withOverrun n kept).raiseModule 16 := ⟨_, rfl⟩

theorem moduleCaused_latchOverrun (s : State) (n : Nat) : ModuleCaused 16 s (s.latchOverrun n) := by
  obtain ⟨kept, hlatch⟩ := latchOverrun_eq s n
  obtain ⟨hcauses, hid, hcar⟩ := moduleCaused_raiseModule (s.withOverrun n kept) 16
  rw [hlatch]
  exact ⟨hcauses, hid, hcar⟩

/-- The first overrun's frame number stays. -/
theorem latchOverrun_overrun (s : State) (n : Nat) : (s.latchOverrun n).grp.overrun = some (s.grp.overrun.getD n) := by
  obtain ⟨kept, hlatch⟩ := latchOverrun_eq s n
  rw [hlatch, raiseModule_overrun]
  rfl

end Sys2Proof.Machine

namespace Sys2Proof.Proofs

open Sys2Proof Sys2Proof.Machine

/-- Settles O25: a module cause of a member that holds is raised for every configured car, by induction on the cars; a member that
follows only enters RELEASED. -/
theorem moduleLockouts : Obligations.ModuleLockouts := by
  unfold Obligations.ModuleLockouts
  refine ⟨fun s hrun hholds q hq => ?causes, fun s hrun => ⟨_, exec_overrun hrun, ?overrun⟩,
    fun s hrun hholds hpair hstate i hi => ?follower⟩
  case causes =>
    obtain hsg | hoverrun := List.mem_append.mp (show q ∈ sgEvents ++ [(.controlPlaneOverrun, 16)] from hq)
    · refine ⟨_, exec_sgEvent hrun hsg, ?_⟩
      rw [sgModuleCause_of_holds hholds]
      exact (moduleCaused_causeRelease (moduleCaused_raiseModule s q.2)).within s (by decide) (by decide)
    · obtain rfl := List.mem_singleton.mp hoverrun
      exact ⟨_, exec_overrun hrun, (moduleCaused_latchOverrun s _).within s (by decide) (by decide)⟩
  case overrun => simp [latchOverrun_overrun]
  case follower =>
    obtain ⟨code, hq, hcode⟩ : ∃ code, (i, code) ∈ sgEvents ∧ 17 ≤ code ∧ code ≤ 33 := by
      simp only [List.mem_cons, List.not_mem_nil, or_false] at hi
      obtain rfl | rfl | rfl := hi
      · exact ⟨21, by decide⟩
      · exact ⟨18, by decide⟩
      · exact ⟨19, by decide⟩
    refine ⟨_, exec_sgEvent hrun hq, ?_⟩
    rw [sgModuleCause_of_not_holds hholds, ((confined_causeRelease s code).mono (by decide)).within_eq,
      causeRelease_of_vigil hpair hstate hcode]
    exact ⟨rfl, rfl, rfl⟩

end Sys2Proof.Proofs

/-! PROOFS. Tests and windows of the safety core (R280, R284, R287). -/

namespace Sys2Proof.Machine

/-! ## A dark-test pulse's result (R284) -/

/-- A safety output after the result of a pulse on it: one that passed restarts its time. -/
def SafeOut.tested (y : SafeOut) (passed : Bool) : SafeOut :=
  { y with testing := false, onSince := if passed then y.pulsed.getD y.onSince else y.onSince }

/-- A safeguard after the result of a pulse on one of its outputs. -/
def Safe.outTested (x : Safe) (o : Fin 6) (passed : Bool) : Safe := { x with outs := x.outs.set o.val (x.outs[o.val].tested passed) }

@[simp] theorem outTested_outs (x : Safe) (o : Fin 6) (passed : Bool) :
    (x.outTested o passed).outs[o.val] = x.outs[o.val].tested passed := Vector.getElem_set_self ..

section

variable {s : State} {c : CarId} {o : Fin 6} (h : (s.car c).safe.outs[o.val].testing = true)

include h

theorem darkResult_eq (passed : Bool) :
    let t := s.modSafe c fun x => x.outTested o passed
    s.darkResult c o passed = if passed then t else t.raise c 3 ((t.car c).safe.cfg.outChan o) := by
  have hout : (s.modSafe c fun x => { x with outs := x.outs.set o.val ((s.car c).safe.outs[o.val].tested passed) })
      = s.modSafe c fun x => x.outTested o passed := modSafe_congr _ _ _ rfl
  rw [← hout]
  exact if_neg (by simp [h])

theorem darkResult_of_passed : s.darkResult c o true = s.modSafe c fun x => x.outTested o true := darkResult_eq h true

theorem darkResult_of_failed : ∃ chan, s.darkResult c o false = (s.modSafe c fun x => x.outTested o false).raise c 3 chan :=
  ⟨_, darkResult_eq h false⟩

end

/-! ## The limits of a brake test's steps (R280) -/

/-- The state in which a limit other than TEST_MS has expired: it is recorded, and every safety output goes off. -/
def State.testExpired (s : State) (c : CarId) : State :=
  (s.record 0x0802 c.val [3]).modSafe c fun y => { y.allOff with ended := true }

theorem testExpired_car (s : State) (c : CarId) :
    (s.testExpired c).car c = { s.car c with safe := { (s.car c).safe.allOff with ended := true } } :=
  car_modSafe ..

section

variable {s : State} {c : CarId} {x : BrakeTest} (hx : (s.car c).safe.test = some x)

include hx

/-- The limits of the steps that have one. -/
theorem testTimeoutDue_of_past {ms : Nat}
    (hlimit : x.step = 1 ∧ ms = (s.car c).motion.cfg.enableMs ∨ x.step = 3 ∧ ms = 2000 ∨ x.step = 4 ∧ ms = x.testMs)
    (hpast : x.since + s.msFrames ms ≤ s.grp.frame) : s.testTimeoutDue (s.car c) = true := by
  obtain ⟨hstep, rfl⟩ | ⟨hstep, rfl⟩ | ⟨hstep, rfl⟩ := hlimit <;> simpa [State.testTimeoutDue, hx, hstep] using hpast

theorem testTimeout_of_step4 (hstep : x.step = 4) :
    s.testTimeout c = s.modSafe c fun y => { y with test := some { x with step := 5, since := s.grp.frame } } := by
  simp only [State.testTimeout, hx, hstep, if_true]

theorem testTimeout_of_abort (hstep : x.step ≠ 4) : s.testTimeout c = (s.testExpired c).abortTest c := by
  simp only [State.testTimeout, hx, if_neg hstep]
  rfl

end

end Sys2Proof.Machine

namespace Sys2Proof.Proofs

open Sys2Proof Sys2Proof.Machine

/-- Settles O26: a pulse's result and the expiry of TEST_MS or of a reset window each change the safeguard alone; a failed pulse raises
a cause, and any other limit turns the outputs off and aborts the test. -/
theorem safetyTests : Obligations.SafetyTests := by
  unfold Obligations.SafetyTests
  refine ⟨fun c o s hrun htesting => ⟨_, exec_of_carEvent rfl hrun htesting, ?passed⟩,
    fun c o s hrun htesting => ⟨_, exec_of_carEvent rfl hrun htesting, ?failed⟩,
    fun c x s hrun hx hstep hpast => ⟨_, exec_of_carEvent rfl hrun (testTimeoutDue_of_past hx (by simp [hstep]) hpast), ?testMs⟩,
    fun c x s hrun hx hlimit => ⟨_, exec_of_carEvent rfl hrun ?due, ?abort⟩,
    fun c e s hrun hwindow hpast => ⟨_, exec_of_carEvent rfl hrun ?windowOver, ?window⟩⟩
  case passed =>
    rw [darkResult_of_passed htesting, car_within, if_pos (by decide), car_modSafe]
    exact ⟨outTested_outs .., rfl, rfl⟩
  case failed =>
    obtain ⟨chan, hfailed⟩ := darkResult_of_failed htesting
    obtain ⟨hsafe, hservice, -⟩ := raise_car (s.modSafe c fun x => x.outTested o false) c 3 chan
    rw [car_modSafe, modSafe_grp_frame] at hsafe
    rw [hfailed, car_within, if_pos (by decide), hsafe, hservice]
    dsimp only
    rw [latched_outs, outTested_outs]
    exact ⟨rfl, rfl, rfl, rfl, fun o' => congrArg SafeOut.want (latched_outs ..)⟩
  case testMs =>
    rw [testTimeout_of_step4 hx hstep]
    simp
  case due =>
    obtain ⟨hstep, hpast⟩ | ⟨hstep, hpast⟩ := hlimit
    · exact testTimeoutDue_of_past hx (by simp [hstep]) hpast
    · exact testTimeoutDue_of_past hx (by simp [hstep]) hpast
  case abort =>
    rw [testTimeout_of_abort hx (by omega)]
    have hcar := abortTest_car (s.testExpired c) c
    rw [testExpired_car] at hcar
    simp only [car_within, within_nv_recorder, within_grp_jobs, List.mem_cons, reduceCtorEq, true_or, or_true, if_true, hcar,
      abortTest_recorder]
    refine ⟨rfl, ?run, rfl, rfl, fun j hj y hy => ?job, fun o => ?out⟩
    case run => simp [Safe.testEnded, Safe.allOff, hx]
    case job =>
      rw [abortTest_jobs (s.testExpired c) c (by simp [testExpired_car, Safe.allOff, hx]) hj] at hy
      simpa using (List.mem_filter.mp hy).2
    case out => exact congrArg SafeOut.want (allOff_outs (s.car c).safe o)
  case windowOver => simp [State.windowOver, hwindow, hpast]
  case window => simp [Safe.closeWindow]

end Sys2Proof.Proofs

/-! PROOFS. Field banks (R300–R324): where an analog limit lies, what samples, runs of the supply, reports, timers, shutdowns and
refreshes leave of a bank and its lanes, and of the encoder receivers (R104). -/

namespace Sys2Proof.Machine

/-! ## A limit lies within its tolerance (R300, R306, R315) -/

section

variable (b : BankId) (l : Nat) (x : Limit)

theorem range_ordered : x.range.1 ≤ x.range.2 := by
  cases x <;> decide

theorem le_limitAt : x.range.1 ≤ limitAt b l x := le_max_left ..

theorem limitAt_le : limitAt b l x ≤ x.range.2 := max_le (range_ordered x) (min_le_left ..)

/-- The tolerance is only a shortcut: a value reaches a limit exactly where it lies at or above it. -/
theorem reaches_eq (v : Int) : reaches b l x v = decide ((limitAt b l x : Int) ≤ v) := by
  have hlow := le_limitAt b l x
  have hhigh := limitAt_le b l x
  rw [Bool.eq_iff_iff]
  simp only [reaches, Bool.or_eq_true, Bool.and_eq_true, decide_eq_true_eq]
  omega

theorem exceedsLimit_eq (v : Int) : exceedsLimit b l x v = decide ((limitAt b l x : Int) < v) := by
  have hlow := le_limitAt b l x
  have hhigh := limitAt_le b l x
  rw [Bool.eq_iff_iff]
  simp only [exceedsLimit, Bool.or_eq_true, Bool.and_eq_true, decide_eq_true_eq]
  omega

end

/-! ## A change of one bank -/

@[simp] theorem within_banks_modBank (s : State) (b : BankId) (f : Bank → Bank) :
    s.within [.banks] (s.modBank b f) = s.modBank b f := rfl

@[simp] theorem bank_modBank (s : State) (b : BankId) (f : Bank → Bank) :
    (s.modBank b f).io.banks[b.val] = f s.io.banks[b.val] := by
  simp

/-- An event of a bank that is due changes that bank alone. -/
theorem exec_of_bankEvent {i : Instr} {due : Bool} {b : BankId} {f : Bank → Bank} {s : State}
    (hexec : exec i s = .next (s.within [.banks] (if due then s.modBank b f else s))) (hdue : due = true) :
    exec i s = .next (s.modBank b f) := by
  rw [hexec, if_pos hdue, within_banks_modBank]

theorem banksUp_of {s : State} (h : s.boot.phase ≠ .off) : s.banksUp = true := by
  simp [State.banksUp, h]

/-! ## Samples of a lane (R300–R302, R306, R307) -/

section

variable (b : BankId) (l : LaneId) (gate : Bool) (y : Lane)

/-- A lane whose counter of R302, counter of R306, and sum and number of current samples are as given. -/
def Lane.counted (q w : Nat × Bool) (sum n : Nat) : Lane :=
  { y with count := q.1, filtered := q.2, wireCount := w.1, broken := w.2, curSum := sum, curN := n }

section

variable {y} (huse : y.use = .input) (hlim : 0 < y.limit)

include huse hlim

theorem laneAfter_of_counts (xs : List Sample) : laneAfter b l true y xs =
    y.counted (xs.foldl (fun q x => filterStep y.limit q (sampleOn b l y q.2 x)) (y.count, y.filtered))
      (if y.wireBreak then
        xs.foldl (fun q x => filterStep y.limit q (decide ((x.ua : Int) < limitAt b l.val .broken))) (y.wireCount, y.broken)
      else (y.wireCount, y.broken))
      (xs.foldl (fun n x => n + x.ua) y.curSum) (y.curN + xs.length) :=
  if_pos ⟨huse, hlim, rfl⟩

theorem sample_of_counts (x : Sample) : y.sample b l true x =
    y.counted (filterStep y.limit (y.count, y.filtered) (sampleOn b l y y.filtered x))
      (if y.wireBreak then filterStep y.limit (y.wireCount, y.broken) (decide ((x.ua : Int) < limitAt b l.val .broken))
      else (y.wireCount, y.broken))
      (y.curSum + x.ua) (y.curN + 1) := by
  have hon : y.rawOn b l true x = sampleOn b l y y.filtered x := by
    simp only [Lane.rawOn, sampleOn, isOn, exceedsLimit_eq, Bool.and_true]
    cases y.wireBreak <;> cases y.type3 <;> rfl
  have hbroken : rawBroken b l x = decide ((x.ua : Int) < limitAt b l.val .broken) := by
    rw [rawBroken, reaches_eq, ← decide_not, decide_eq_decide, not_le]
  rw [Lane.sample, if_neg (by simp [huse, Nat.ne_of_gt hlim]), hon, hbroken]
  rfl

end

theorem laneAfter_nil : laneAfter b l gate y [] = y := by
  simp [laneAfter]

theorem laneAfter_cons (x : Sample) (xs : List Sample) :
    laneAfter b l gate y (x :: xs) = laneAfter b l gate (y.sample b l gate x) xs := by
  by_cases hcounts : y.use = .input ∧ 0 < y.limit ∧ gate = true
  · obtain ⟨huse, hlim, rfl⟩ := hcounts
    have hlen : y.curN + (xs.length + 1) = y.curN + 1 + xs.length := by omega
    rw [sample_of_counts b l huse hlim, laneAfter_of_counts b l huse hlim,
      laneAfter_of_counts b l (y := y.counted _ _ _ _) huse hlim]
    simp only [Lane.counted, List.length_cons, List.foldl_cons, hlen]
    split <;> rfl
  · have hsample : y.sample b l gate x = y := if_pos (by
      by_contra h
      simp only [not_or, ne_eq, not_not, Bool.not_eq_false, ← Nat.pos_iff_ne_zero] at h
      exact hcounts h)
    rw [hsample, laneAfter, laneAfter, if_neg hcounts, if_neg hcounts]

/-- Samples one after another leave of a lane what its counters make of all of them. -/
theorem foldl_sample (xs : List Sample) : xs.foldl (Lane.sample b l gate) y = laneAfter b l gate y xs := by
  induction xs generalizing y with
  | nil => exact (laneAfter_nil b l gate y).symm
  | cons x xs ih => rw [List.foldl_cons, ih, laneAfter_cons]

end

/-- A bank whose lane has counted samples is otherwise as it was. -/
theorem samples_eq (b : BankId) (k : Bank) (l : LaneId) (xs : List Sample) :
    k.samples b l xs = { k with lanes := k.lanes.set l.val (laneAfter b l k.gateOpen k.lanes[l.val] xs) } := by
  rw [Bank.samples, foldl_sample]

/-! ## A counter at its ends (R302) -/

section

variable {limit : Nat} {on : Bool → Sample → Bool}

/-- As many ON samples as the limit has left to count fill the counter and turn the state on. -/
theorem foldl_filterStep_of_on (xs : List Sample) (q : Nat × Bool) (hon : ∀ x ∈ xs, ∀ was, on was x = true)
    (hfill : limit ≤ q.1 + xs.length) (hnil : xs = [] → q = (limit, true)) :
    xs.foldl (fun q x => filterStep limit q (on q.2 x)) q = (limit, true) := by
  induction xs generalizing q with
  | nil => exact hnil rfl
  | cons x xs ih =>
    rw [List.length_cons] at hfill
    rw [List.foldl_cons, hon x (by simp)]
    refine ih _ (fun z hz => hon z (by simp [hz])) ?fill fun hxs => ?last
    case fill => simp only [filterStep, if_true]; omega
    case last =>
      subst hxs
      have hmin : min (q.1 + 1) limit = limit := min_eq_right (by simpa using hfill)
      simp [filterStep, hmin]

/-- As many OFF samples as the counter holds empty it and turn the state off. -/
theorem foldl_filterStep_of_off (xs : List Sample) (q : Nat × Bool) (hlim : 0 < limit)
    (hoff : ∀ x ∈ xs, ∀ was, on was x = false) (hdrain : q.1 ≤ xs.length) (hnil : xs = [] → q = (0, false)) :
    xs.foldl (fun q x => filterStep limit q (on q.2 x)) q = (0, false) := by
  induction xs generalizing q with
  | nil => exact hnil rfl
  | cons x xs ih =>
    rw [List.length_cons] at hdrain
    rw [List.foldl_cons, hoff x (by simp)]
    refine ih _ (fun z hz => hoff z (by simp [hz])) ?drain fun hxs => ?last
    case drain => simp only [filterStep, Bool.false_eq_true, if_false]; omega
    case last =>
      subst hxs
      have hzero : q.1 - 1 = 0 := by simpa [Nat.sub_eq_zero_iff_le] using hdrain
      simp [filterStep, hzero, Nat.ne_of_lt hlim]

end

section

variable {b : BankId} {l : LaneId} {y : Lane} {x : Sample}

/-- A sample above every tolerance is ON, whatever the lane's type and state. -/
theorem sampleOn_of_above (hmv : 14500 < x.mv) (hua : 2000 < x.ua) (was : Bool) : sampleOn b l y was x = true := by
  have hrise1 : limitAt b l.val .rise1 ≤ 14500 := limitAt_le ..
  have hrise3 : limitAt b l.val .rise3 ≤ 10500 := limitAt_le ..
  have honRise : limitAt b l.val .onRise ≤ 2000 := limitAt_le ..
  simp only [sampleOn, Bool.or_eq_true, decide_eq_true_eq]
  left
  split
  · dsimp only; omega
  · split <;> (dsimp only; omega)

/-- A sample below every tolerance is OFF: no falling limit lies below it, and no rising one either. -/
theorem sampleOn_of_below (hmv : x.mv ≤ 6000) (hua : x.ua ≤ 1400) (was : Bool) : sampleOn b l y was x = false := by
  have hrise1 : 10500 ≤ limitAt b l.val .rise1 := le_limitAt b _ .rise1
  have hfall1 : 9500 ≤ limitAt b l.val .fall1 := le_limitAt b _ .fall1
  have hrise3 : 7000 ≤ limitAt b l.val .rise3 := le_limitAt b _ .rise3
  have hfall3 : 6000 ≤ limitAt b l.val .fall3 := le_limitAt b _ .fall3
  have honRise : 1600 ≤ limitAt b l.val .onRise := le_limitAt b _ .onRise
  have honFall : 1400 ≤ limitAt b l.val .onFall := le_limitAt b _ .onFall
  simp only [sampleOn, Bool.or_eq_false_iff, Bool.and_eq_false_iff, decide_eq_false_iff_not]
  split
  · dsimp only; omega
  · split <;> (dsimp only; omega)

end

/-! ## Runs of the field supply (R315–R317) -/

theorem supplyGood_eq (b : BankId) (v : Nat) :
    supplyGood b v = decide (limitAt b 8 .lowRise ≤ v ∧ limitAt b 8 .lowFall ≤ v) := by
  simp only [supplyGood, reaches_eq, Nat.cast_le, Bool.decide_and]

theorem supply_eq_supplyAfter (b : BankId) : Bank.supply b = supplyAfter b := by
  funext k x
  simp only [Bank.supply, supplyAfter, reaches_eq, supplyGood_eq, Nat.cast_le, decide_eq_true_eq]
  generalize (if limitAt b 8 .missing ≤ x.mv then 0 else k.missUs + x.us) = miss
  by_cases hgone : miss ≠ 0 ∧ limitAt b 8 .missTime ≤ miss
  · have hdec : (decide (miss ≠ 0) && decide (limitAt b 8 .missTime ≤ miss)) = true := by simpa using hgone
    rw [if_pos hgone, hdec]
    simp [Bank.missing, Bank.drive]
  · have hdec : (decide (miss ≠ 0) && decide (limitAt b 8 .missTime ≤ miss)) = false := by simpa using hgone
    rw [if_neg hgone, hdec]
    simp

section

variable {b : BankId} {k : Bank} {x : SupplyRun}

theorem supplyLow_of_low (hmv : x.mv < 18200) (hus : 2100 ≤ x.us) : (supplyAfter b k x).supplyLow = true := by
  have hfall : 18200 ≤ limitAt b 8 .lowFall := le_limitAt b _ .lowFall
  have htime : limitAt b 8 .lowTime ≤ 2100 := limitAt_le ..
  have hlow : ¬ limitAt b 8 .lowFall ≤ x.mv := by omega
  have hpast : limitAt b 8 .lowTime ≤ k.lowUs + x.us := by omega
  simp only [supplyAfter, if_neg hlow, if_pos hpast]

/-- At 19.3 V or more the supply lies at or above both LOW limits, and above the MISSING one. -/
theorem limits_of_good (b : BankId) (hmv : 19300 ≤ x.mv) :
    limitAt b 8 .lowFall ≤ x.mv ∧ limitAt b 8 .lowRise ≤ x.mv ∧ limitAt b 8 .missing ≤ x.mv := by
  have hfall : limitAt b 8 .lowFall ≤ 18800 := limitAt_le ..
  have hrise : limitAt b 8 .lowRise ≤ 19300 := limitAt_le ..
  have hmiss : limitAt b 8 .missing ≤ 12500 := limitAt_le ..
  omega

theorem supplyLow_of_good (hmv : 19300 ≤ x.mv) (hus : 2100 ≤ x.us) : (supplyAfter b k x).supplyLow = false := by
  obtain ⟨hfall, hrise, -⟩ := limits_of_good b hmv
  have hleast : 1901 ≤ limitAt b 8 .lowTime := le_limitAt b _ .lowTime
  have htime : limitAt b 8 .lowTime ≤ 2100 := limitAt_le ..
  have hnone : ¬ limitAt b 8 .lowTime ≤ 0 := by omega
  have hpast : limitAt b 8 .lowTime ≤ k.goodUs + x.us := by omega
  simp only [supplyAfter, if_pos hfall, if_neg hnone, if_pos (And.intro hrise hfall), if_pos hpast]

theorem supplyReady_of_good (hmv : 19300 ≤ x.mv) (hus : 52000 ≤ x.us) : (supplyAfter b k x).supplyReady = true := by
  obtain ⟨hfall, hrise, hmiss⟩ := limits_of_good b hmv
  have htime : limitAt b 8 .goodTime ≤ 52000 := limitAt_le ..
  have hpast : limitAt b 8 .goodTime ≤ k.goodUs + x.us := by omega
  simp [supplyAfter, hmiss, hrise, hfall, hpast]

theorem not_supplyReady_of_low (hmv : x.mv < 18200) : (supplyAfter b k x).supplyReady = false := by
  have hfall : 18200 ≤ limitAt b 8 .lowFall := le_limitAt b _ .lowFall
  have hleast : 50000 ≤ limitAt b 8 .goodTime := le_limitAt b _ .goodTime
  have hlow : ¬ (limitAt b 8 .lowRise ≤ x.mv ∧ limitAt b 8 .lowFall ≤ x.mv) := by omega
  have hnone : ¬ limitAt b 8 .goodTime ≤ 0 := by omega
  simp only [supplyAfter, if_neg hlow, decide_eq_false hnone, Bool.and_false]

/-- A supply below 11.5 V for the detection time is MISSING (R316): every output is off, and the latch is set. -/
theorem supplyAfter_of_missing (hmv : x.mv < 11500) (hus : 50 ≤ x.us) :
    (supplyAfter b k x).supplyMissing = true ∧ (supplyAfter b k x).supplyReady = false
      ∧ ∀ l : LaneId, (supplyAfter b k x).lanes[l.val] = { k.lanes[l.val] with driven := false } := by
  have hlimit : 11500 ≤ limitAt b 8 .missing := le_limitAt b _ .missing
  have htime : limitAt b 8 .missTime ≤ 50 := limitAt_le ..
  have hmiss : ¬ limitAt b 8 .missing ≤ x.mv := by omega
  have hgone : (decide (k.missUs + x.us ≠ 0) && decide (limitAt b 8 .missTime ≤ k.missUs + x.us)) = true := by
    simp only [Bool.and_eq_true, decide_eq_true_eq]
    omega
  simp only [supplyAfter, if_neg hmiss, hgone]
  exact ⟨Bool.or_true _, rfl, fun l => by simp⟩

theorem supplyAfter_of_present (hmv : 12500 ≤ x.mv) :
    (supplyAfter b k x).supplyMissing = k.supplyMissing ∧ (supplyAfter b k x).lanes = k.lanes := by
  have hmiss : limitAt b 8 .missing ≤ x.mv := (limitAt_le b 8 .missing).trans hmv
  simp [supplyAfter, hmiss]

end

/-- A supply row answers, with power, what the bank has measured of its runs. -/
theorem exec_of_supplyRuns {i : Instr} {b : BankId} {xs : List SupplyRun} {s : State}
    (hexec : exec i s = .next (s.within [.banks] (s.supplyRuns b xs))) (hon : s.boot.phase ≠ .off) :
    exec i s = .next (s.modBank b fun k => xs.foldl (supplyAfter b) k) := by
  rw [exec_of_bankEvent hexec (banksUp_of hon), supply_eq_supplyAfter]

/-! ## A report that fails (R321) -/

/-- A report that a failed link takes is counted, and leaves the lanes of the bank and of its image as they were. -/
theorem latch_of_failing {k : Bank} (x : FrameIn) (us : Nat) (b : BankId) (old : BankImage) (h : k.failing ≠ 0) :
    k.latch x us b old =
      ({ k with badReports := k.badReports + 1, failing := k.failing - 1, linkErrors := satInc 32 k.linkErrors,
                linkFault := k.linkFault || decide (2 ≤ k.badReports + 1) },
       { old with linkFault := k.linkFault || decide (2 ≤ k.badReports + 1), linkErrors := satInc 32 k.linkErrors }) :=
  if_pos (by simp [h])

/-! ## The safe-state timer (R319, R320, R324) -/

theorem exec_safeTimerExpiry {b : BankId} {s : State} (hon : s.boot.phase ≠ .off)
    (hmay : s.running = true → 950 * s.io.banks[b.val].safeTimerMs ≤ (s.io.banks[b.val].sinceRefresh + 1) * s.grp.frameLen.us) :
    exec (.safeTimerExpiry b) s = .next (s.within [.banks] (s.timerEvent b)) := by
  have hdue : (s.banksUp && s.timerMay b) = true := by
    rw [banksUp_of hon, State.timerMay]
    cases hrun : s.running
    case false => rfl
    case true => simpa using hmay hrun
  exact congrArg (fun t => Host.Outcome.next (s.within [.banks] t)) (if_pos hdue)

/-- What a lane drives once the timer has expired (R319, R324). -/
theorem safe_eq (owned : Bool) (y : Lane) : y.safe owned =
    if y.use != .output || owned then false else if y.safeState = 1 then true else if y.safeState = 2 then y.command else false := by
  unfold Lane.safe
  cases huse : y.use == .output
  case false => simp [bne, huse]
  case true =>
    cases owned
    case true => simp
    case false =>
      simp only [bne, huse, Bool.not_true, Bool.not_false, Bool.or_false, Bool.true_and, Bool.false_eq_true, if_false]
      split <;> simp_all

/-- The lanes of a bank whose timer expires: off while its supply is missing or its gate closed, and else each as `safe_eq` says. -/
theorem timerExpires_lane (s : State) (b : BankId) (l : LaneId) :
    let k := s.io.banks[b.val]
    let y := k.lanes[l.val]
    (s.timerExpires b).io.banks[b.val].lanes[l.val] = { y with driven :=
      if k.supplyMissing || !k.gateOpen || y.thermal || y.use != .output || (laneOwner s.grp.alm s.grp.cars b l).isSome then false
      else if y.safeState = 1 then true else if y.safeState = 2 then y.command else false } := by
  intro k y
  have hlatched : (!k.supplyMissing && k.gateOpen && !y.thermal) = !(k.supplyMissing || !k.gateOpen || y.thermal) := by simp
  rw [State.timerExpires, bank_modBank]
  dsimp only
  rw [Vector.getElem_ofFn, safe_eq, hlatched]
  cases k.supplyMissing || !k.gateOpen || y.thermal
  case true => rfl
  case false => rfl

/-! ## Parallel groups and thermal shutdowns (R310–R312) -/

@[simp] theorem sameGroup_self (p : Nat) (l : LaneId) : sameGroup p l l = true := by
  unfold sameGroup
  split <;> exact beq_self_eq_true _

theorem shutdown_lane {k : Bank} {l : LaneId} (huse : k.lanes[l.val].use = .output) :
    (k.shutdown l).lanes[l.val] =
      { k.lanes[l.val] with
        driven := false, thermal := true, thermalOff := false, thermalOn := false, holdoffEnd := false, sinceShut := 0 } := by
  simp [Bank.shutdown, huse]

theorem endHoldoff_lane (k : Bank) (l m : LaneId) : (k.endHoldoff l).lanes[m.val] =
    if sameGroup k.lanes[l.val].parallel l m && k.lanes[m.val].thermal then
      (if k.lanes[m.val].thermalOff && k.lanes[m.val].thermalOn && k.lanes[m.val].command && !k.blocked then
        { k.lanes[m.val] with holdoffEnd := true, thermal := false, driven := true }
      else { k.lanes[m.val] with holdoffEnd := true })
    else k.lanes[m.val] := by
  simp only [Bank.endHoldoff, Vector.getElem_ofFn, Lane.holdoff]
  cases sameGroup k.lanes[l.val].parallel l m
  case false => rfl
  case true => cases k.lanes[m.val].thermal <;> rfl

theorem exec_thermalHoldoffEnd {b : BankId} {l : LaneId} {s : State} (hon : s.boot.phase ≠ .off)
    (hmay : s.running = true → 1000000 ≤ (s.io.banks[b.val].lanes[l.val].sinceShut + 1) * s.grp.frameLen.us) :
    exec (.thermalHoldoffEnd b l) s = .next (s.modBank b (Bank.endHoldoff l)) := by
  refine exec_of_bankEvent rfl ?_
  rw [banksUp_of hon, State.holdoffMay, State.mayHavePassed]
  cases hrun : s.running
  case false => rfl
  case true => simpa using hmay hrun

/-! ## A valid refresh of a lane (R309, R310, R316, R324) -/

section

variable (blocked : Bool) (y : Lane)

theorem refresh_command : (y.refresh blocked).command = (y.use == .output && y.committed) := by
  simp only [Lane.refresh]
  split_ifs <;> rfl

variable {y}

theorem refresh_driven_of_cool (hcool : y.thermal = false) :
    (y.refresh blocked).driven = if blocked then y.driven else (y.refresh blocked).command := by
  rw [refresh_command]
  simp only [Lane.refresh, hcool]
  cases blocked <;> rfl

/-- A THERMAL latch ends with an on command that comes after an off one and after the 1,000 ms, on a bank whose outputs are not
latched off; the lane drives again with it, and not before. -/
theorem refresh_of_thermal (hhot : y.thermal = true) :
    (y.refresh blocked).thermal = !((y.refresh blocked).command && y.thermalOff && y.holdoffEnd && !blocked)
      ∧ (y.refresh blocked).driven = if (y.refresh blocked).thermal then y.driven else true := by
  rw [refresh_command]
  simp only [Lane.refresh, hhot]
  cases y.use == .output && y.committed
  case false => exact ⟨rfl, rfl⟩
  case true =>
    cases y.thermalOff
    case false => exact ⟨rfl, rfl⟩
    case true => cases y.holdoffEnd <;> cases blocked <;> exact ⟨rfl, rfl⟩

end

end Sys2Proof.Machine

namespace Sys2Proof.Proofs

open Sys2Proof Sys2Proof.Machine

/-- Settles O9: both rows fold the samples into the lane, which is one run of its counters; samples beyond every tolerance count the
same way whatever the state, and as many as LIMIT bring a counter to its end. -/
theorem laneCountersFollowSamples : Obligations.LaneCountersFollowSamples := by
  unfold Obligations.LaneCountersFollowSamples
  refine ⟨fun b l xs s i hi => ?samples,
    fun b l y xs huse hlim hcount hlen => ⟨fun habove => ?on, fun hbelow => ?off, fun hlow hwire _ => ?broken⟩⟩
  case samples =>
    have hexec : exec i s = .next (s.within [.banks] (if s.banksUp then s.modBank b (Bank.samples b · l xs) else s)) := by
      obtain rfl | rfl : i = .laneFilterChange b l xs ∨ i = .laneBroken b l xs := by simpa using hi
      · rfl
      · rfl
    refine ⟨fun hon => ?_, fun hoff => ?_⟩
    · rw [exec_of_bankEvent hexec (banksUp_of hon), State.modBank, samples_eq]
    · rw [hexec, if_neg (by simp [State.banksUp, hoff])]
      rfl
  all_goals
    have hne : xs ≠ [] := List.ne_nil_of_length_pos (hlen ▸ hlim)
    rw [laneAfter_of_counts b l huse hlim]
  case on =>
    have hfold := foldl_filterStep_of_on (limit := y.limit) (on := sampleOn b l y) xs (y.count, y.filtered)
      (fun x hx => sampleOn_of_above (habove x hx).1 (habove x hx).2) (by simp [hlen]) fun h => absurd h hne
    exact ⟨congrArg Prod.snd hfold, congrArg Prod.fst hfold⟩
  case off =>
    have hfold := foldl_filterStep_of_off (limit := y.limit) (on := sampleOn b l y) xs (y.count, y.filtered) hlim
      (fun x hx => sampleOn_of_below (hbelow x hx).1 (hbelow x hx).2) (hlen ▸ hcount) fun h => absurd h hne
    exact ⟨congrArg Prod.snd hfold, congrArg Prod.fst hfold⟩
  case broken =>
    have hlimit : 150 ≤ limitAt b l.val .broken := le_limitAt b _ .broken
    have hfold := foldl_filterStep_of_on (limit := y.limit) (on := fun _ x => decide ((x.ua : Int) < limitAt b l.val .broken)) xs
      (y.wireCount, y.broken) (fun x hx _ => decide_eq_true (by have := hlow x hx; omega)) (by simp [hlen]) fun h => absurd h hne
    rw [if_pos hwire, hfold]
    rfl

/-- Settles O10: a bank's measure of one run is `supplyAfter`, whose flags follow from where the limits lie; a failed link keeps two
reports from the image, and each of them is only counted. -/
theorem bankSupplies : Obligations.BankSupplies := by
  unfold Obligations.BankSupplies
  refine ⟨fun b xs s hon i hi => ?runs,
    fun b k x => ⟨supplyLow_of_low, supplyLow_of_good, supplyReady_of_good, fun _ => not_supplyReady_of_low,
      supplyAfter_of_missing, supplyAfter_of_present⟩,
    fun b s hrun => ⟨_, exec_of_bankEvent rfl hrun, ?link⟩, fun x us b k old hfail => ?report,
    fun e bad s hrun => ⟨_, rfl, fun e' => ?encoder⟩⟩
  case runs =>
    obtain rfl | rfl | rfl : i = .supplyLowChange b xs ∨ i = .supplyMissing ⟨b, xs⟩ ∨ i = .releaseReady ⟨b, xs⟩ := by
      simpa using hi
    · exact exec_of_supplyRuns rfl hon
    · exact exec_of_supplyRuns rfl hon
    · exact exec_of_supplyRuns rfl hon
  case link =>
    rw [bank_modBank]
    exact ⟨by simp only [Bank.failLink]; omega, rfl, rfl, rfl⟩
  case report =>
    have hsecond : decide (2 ≤ k.badReports + 1) = decide (1 ≤ k.badReports) := by simp
    rw [latch_of_failing x us b old hfail, hsecond]
    exact ⟨rfl, rfl, rfl, rfl, rfl⟩
  case encoder =>
    rw [whenRunning_of s _ hrun]
    simp only [within_io_encFault, List.mem_singleton, if_true, Vector.getElem_set, Fin.val_inj, eq_comm (a := e)]

/-- Settles O11: each event changes its bank alone, and what it leaves of each lane is what the timer, a shutdown, the end of the
hold-off or a refresh makes of that lane. -/
theorem bankOutputs : Obligations.BankOutputs := by
  unfold Obligations.BankOutputs
  refine ⟨fun b s hon hmay => ⟨_, exec_safeTimerExpiry hon hmay, ?timer⟩,
    fun b l s hon huse => ⟨_, exec_of_bankEvent rfl (by simp [banksUp_of hon, huse]), ?shutdown⟩,
    fun b l s hon hmay => ⟨_, exec_thermalHoldoffEnd hon hmay, fun m => ?holdoff⟩,
    fun b good s hrun => ⟨_, exec_of_bankEvent rfl hrun, fun hbad => ?counted, fun hgood => ?refreshed⟩⟩
  case timer =>
    cases hexpired : s.io.banks[b.val].timerExpired
    case true =>
      rw [State.timerEvent, if_pos hexpired, within_banks_modBank, bank_modBank]
      exact ⟨hexpired, rfl, fun _ => rfl, fun h => absurd h (by simp)⟩
    case false =>
      have hwithin : s.within [.banks] (s.timerExpires b) = s.timerExpires b := within_banks_modBank ..
      rw [State.timerEvent, if_neg (by simp [hexpired]), hwithin]
      exact ⟨congrArg Bank.timerExpired (bank_modBank ..), congrArg Bank.refreshRun (bank_modBank ..), fun h => absurd h (by simp),
        fun _ l => timerExpires_lane s b l⟩
  case shutdown =>
    rw [bank_modBank, shutdown_lane huse]
    exact ⟨rfl, rfl, rfl, rfl, rfl⟩
  case holdoff =>
    rw [bank_modBank]
    exact endHoldoff_lane ..
  case counted => rw [bank_modBank, hbad]; rfl
  case refreshed =>
    subst hgood
    rw [bank_modBank]
    refine ⟨rfl, fun l => ?_⟩
    dsimp only
    rw [if_neg (by decide), Vector.getElem_map]
    exact ⟨refresh_command .., refresh_driven_of_cool _, refresh_of_thermal _⟩

end Sys2Proof.Proofs

/-! PROOFS. CAN controllers (R329–R348): what frames, errors, attempts, age limits, bus-off and CANopen's times leave of a bus, and
which frame its queue offers. -/

namespace Sys2Proof.Machine

/-! ## An event of a bus -/

/-- An event that keeps to its parts does with the control plane running all that it does. -/
theorem exec_of_confined {i : Instr} {ps : List Part} {f : State → State} {s t : State}
    (hexec : exec i s = .next (s.within ps (whenRunning s f))) (hrun : s.running = true) (ht : f s = t) (hconf : Confined ps s t) :
    exec i s = .next t := by
  rw [exec_of_whenRunning hexec hrun, ht, hconf.within_eq]

theorem within_car {ps : List Part} (h : .cars ∈ ps) (s t : State) (c : CarId) : (s.within ps t).car c = t.car c := by
  simp [h]

theorem within_buses {ps : List Part} (h : .buses ∈ ps) (s t : State) : (s.within ps t).io.buses = t.io.buses := by
  simp [h]

section

variable (s : State) (b : BusId) (f : Bus → Bus)

theorem confined_modBus : Confined [.buses] s (s.modBus b f) := confined_of_within_eq rfl

@[simp] theorem bus_modBus : (s.modBus b f).io.buses[b.val] = f s.io.buses[b.val] := by
  simp

end

theorem Confined.bus_eq {ps : List Part} {s t : State} (h : Confined ps s t) (hps : .buses ∉ ps) (b : BusId) :
    t.io.buses[b.val] = s.io.buses[b.val] :=
  congrArg (fun buses : Vector Bus 16 => buses[b.val]) (h.2 .buses hps).symm

theorem Confined.car_eq {ps : List Part} {s t : State} (h : Confined ps s t) (hps : .cars ∉ ps) (c : CarId) : t.car c = s.car c :=
  congrArg (fun cars : Vector Car 8 => cars[c.val]) (h.2 .cars hps).symm

/-! ## A frame that completes without error (R332, R342, R343, R436) -/

theorem recvDown_of_low {x : Bus} (n : Nat) (h : x.recv ≤ 127) : x.recvDown n = x.recv - 1 := if_neg (by omega)

/-- ISO 11898-1 leaves open which value of 119 to 127 REC takes. -/
theorem recvDown_of_high {x : Bus} (n : Nat) (h : 127 < x.recv) : 119 ≤ x.recvDown n ∧ x.recvDown n ≤ 127 := by
  rw [Bus.recvDown, if_pos h]
  omega

theorem confined_partnerRef (s : State) (b : BusId) (f : CanFrame) : Confined [.cars] s (s.partnerRef b f) := by
  refine confined_foldl (fun s c => ?_) _ s
  dsimp only
  split
  · exact confined_modCar ..
  · exact confined_refl ..

theorem receive_bus {s : State} {b : BusId} {f : CanFrame} (hlive : s.io.buses[b.val].live = true)
    (hfd : f.fd = true → s.io.buses[b.val].cfg.fdEnable = true) :
    let x := s.io.buses[b.val]
    ∃ (n : Nat) (echoed : List CanFrame), (s.receive b f).io.buses[b.val] =
      { x with
        recv := x.recvDown n, errorState := errorStateOf x.tec (x.recvDown n), lonely := false, ackRun := 0,
        rxFrames := satInc 32 x.rxFrames, echoed := echoed,
        received := if s.ownDup b f then x.received else (x.received ++ [{ f with data := f.data.take 64 }]).take 8 } := by
  have hclassic : (f.fd && !s.io.buses[b.val].cfg.fdEnable) = false := by
    cases h : f.fd <;> simp_all
  have hdraw : s.drawNat.2.ownDup b f = s.ownDup b f := rfl
  rw [State.receive, if_neg (by simp [hlive]), if_neg (by simp [hclassic])]
  dsimp only
  rw [bus_modBus, hdraw]
  cases s.ownDup b f
  case false => exact ⟨_, _, rfl⟩
  case true =>
    rw [if_pos rfl, (confined_partnerRef ..).bus_eq (by decide)]
    exact ⟨_, _, rfl⟩

/-! ## What an attempt leaves beside its bus (R338, R339, R367) -/

section

variable (s : State)

theorem confined_endJob_jobs (j : Job) (status : Nat) (payload : List Byte) :
    Confined (.jobs :: mailParts) s (endJob j status payload s) := by
  have hjobs : Confined [.jobs] s { s with grp := { s.grp with jobs := s.grp.jobs.filter fun x => x.id ≠ j.id } } :=
    confined_of_within_eq rfl
  exact (hjobs.mono (by decide)).trans ((confined_endJob ..).mono (by decide))

theorem confined_endSend (job outcome : Nat) : Confined (.jobs :: mailParts) s (s.endSend job outcome) := by
  unfold State.endSend
  split
  · exact confined_endJob_jobs ..
  · exact confined_refl ..

theorem confined_setEntry (chan : Nat) (e : Entry) : Confined [.alm] s (s.setEntry chan e) := confined_of_within_eq rfl

theorem confined_countDiscard (chan : Nat) : Confined [.alm, .recorder] s (s.countDiscard chan) := by
  unfold State.countDiscard
  dsimp only
  split_ifs
  · exact confined_refl ..
  · exact (confined_setEntry ..).mono (by decide)
  · exact confined_refl ..
  · exact ((confined_setEntry ..).mono (by decide)).trans ((confined_record ..).mono (by decide))

end

/-! ## A discarded transmission (R339, R340) -/

/-- The parts that a discarded transmission changes: its stream's counter, its job and what posts the reply, and its bus. -/
def discardParts : List Part := [.alm, .jobs, .buses, .recorder] ++ mailParts

section

variable (s : State) (b : BusId)

/-- Of its bus a discarded transmission changes TX_DISCARDED alone. -/
theorem discarded_bus (t : TxEntry) :
    ∃ n, (s.discarded b t).io.buses[b.val] = { s.io.buses[b.val] with txDiscarded := n } := by
  unfold State.discarded
  split
  case h_1 => exact ⟨_, (confined_countDiscard ..).bus_eq (by decide) b⟩
  case h_2 =>
    rw [(confined_endSend ..).bus_eq (by decide), bus_modBus]
    exact ⟨_, rfl⟩
  case h_3 =>
    rw [bus_modBus]
    exact ⟨_, rfl⟩

theorem confined_discarded (t : TxEntry) : Confined discardParts s (s.discarded b t) := by
  unfold State.discarded
  split
  case h_1 => exact (confined_countDiscard ..).mono (by decide)
  case h_2 => exact ((confined_modBus ..).mono (by decide)).trans ((confined_endSend ..).mono (by decide))
  case h_3 => exact (confined_modBus ..).mono (by decide)

theorem foldl_discarded_queue (gone : List TxEntry) :
    (gone.foldl (State.discarded b) s).io.buses[b.val].queue = s.io.buses[b.val].queue := by
  induction gone generalizing s with
  | nil => rfl
  | cons t gone ih =>
    obtain ⟨n, hbus⟩ := discarded_bus s b t
    rw [List.foldl_cons, ih, hbus]

/-- A frame at its age limit leaves the queue, one in an attempt with the end of that attempt. -/
theorem expireBus_queue : (s.expireBus b).io.buses[b.val].queue =
    (s.io.buses[b.val].queue.filter fun e => e.started || !e.due s.grp.frame).map
      fun e => if e.due s.grp.frame then { e with last := true } else e := by
  have hkept : (fun e : TxEntry => !(e.due s.grp.frame && !e.started)) = fun e => e.started || !e.due s.grp.frame := by
    funext e
    rw [Bool.not_and, Bool.not_not, Bool.or_comm]
  rw [State.expireBus, State.dropTx, foldl_discarded_queue, bus_modBus, hkept]

end

/-! ## An attempt that ends without an acknowledgement (R338, R340, R342, R343) -/

section

variable {s : State} {b : BusId} {i : Nat}

theorem confined_endAttempt (s : State) (b : BusId) (i : Nat) : Confined discardParts s (s.endAttempt b i) := by
  unfold State.endAttempt
  dsimp only
  split
  · exact ((confined_modBus ..).mono (by decide)).trans (confined_discarded ..)
  · exact (confined_modBus ..).mono (by decide)

/-- An attempt's end changes the queue and TX_DISCARDED of its bus alone. -/
theorem endAttempt_bus (s : State) (b : BusId) (i : Nat) : ∃ queue n,
    (s.endAttempt b i).io.buses[b.val] = { s.io.buses[b.val] with queue := queue, txDiscarded := n } := by
  unfold State.endAttempt
  dsimp only
  split
  · obtain ⟨n, hbus⟩ := discarded_bus (s.modBus b fun x => { x with queue := s.io.buses[b.val].queue.eraseIdx i }) b
      (s.io.buses[b.val].queue.getD i {})
    rw [hbus, bus_modBus]
    exact ⟨_, _, rfl⟩
  · rw [bus_modBus]
    exact ⟨_, _, rfl⟩

/-- A bus on which the attempt of a frame has ended that may be tried again. -/
def Bus.keepPending (i : Nat) (x : Bus) : Bus :=
  { x with queue := x.queue.modify i fun e => { e with started := false, offered := true } }

theorem endAttempt_of_not_last (h : (s.io.buses[b.val].queue.getD i {}).last = false) :
    s.endAttempt b i = s.modBus b (Bus.keepPending i) :=
  if_neg (ne_true_of_eq_false h)

/-- The attempts without an acknowledgement in a row, once another has ended (R343). -/
def TxError.ackRun (n : Nat) : TxError → Nat
  | .ack _ => n + 1
  | _ => 0

theorem TxError.ackRun_eq (cause : TxError) (n : Nat) :
    cause.ackRun n = if cause = .ack true ∨ cause = .ack false then n + 1 else 0 := by
  cases cause with
  | ack dominant => cases dominant <;> rfl
  | arbitration => rfl
  | other more => rfl

/-- A bus after an attempt without an acknowledgement: TEC rises, and only the holder becomes lonely (R342, R343, R435). -/
def Bus.countError (rise run : Nat) (holds : Bool) (x : Bus) : Bus :=
  { x with
    tec := x.tec + rise, errorState := errorStateOf (x.tec + rise) x.recv, ackRun := run,
    lonely := x.lonely || (holds && decide (16 ≤ run)) }

theorem txError_of_retry {cause : TxError} (hoffer : s.offered s.io.buses[b.val] = some i)
    (hmay : s.io.buses[b.val].mayTry = true) (hlast : (s.io.buses[b.val].queue.getD i {}).last = false)
    (hrise : s.io.buses[b.val].tec + cause.rise s.io.buses[b.val].errorState ≤ 255) :
    let x := s.io.buses[b.val]
    (s.txError b cause).io.buses[b.val] =
      (x.keepPending i).countError (cause.rise x.errorState) (cause.ackRun x.ackRun) s.holds := by
  unfold State.txError
  dsimp only
  rw [hoffer]
  dsimp only
  rw [if_neg (by simp [hmay]), if_neg (by omega), endAttempt_of_not_last hlast, bus_modBus, bus_modBus]
  cases cause <;> rfl

end

/-! ## A frame that is acknowledged (R338, R342, R343) -/

section

variable {s : State} {b : BusId} {i : Nat}

theorem sent_eq (us : Nat) (hoffer : s.offered s.io.buses[b.val] = some i) (hmay : s.io.buses[b.val].mayTry = true) :
    ∃ echoed : Bus → List CanFrame, s.sent b us =
      (s.modBus b fun x =>
        { x with
          queue := x.queue.eraseIdx i, txFrames := satInc 32 x.txFrames, tec := x.tec - 1,
          errorState := errorStateOf (x.tec - 1) x.recv, lonely := false, ackRun := 0, echoed := echoed x }).completed
        (s.io.buses[b.val].queue.getD i {}) := by
  simp only [State.sent, hoffer, hmay]
  exact ⟨_, rfl⟩

theorem completed_bus (s : State) (t : TxEntry) (b : BusId) : (s.completed t).io.buses[b.val] = s.io.buses[b.val] := by
  unfold State.completed
  split
  case h_1 => rfl
  case h_2 => split <;> rfl
  case h_3 => exact (confined_endSend ..).bus_eq (by decide) b
  case h_4 => rfl

/-- A drive reference is known as done when it completes in its own frame (R165). -/
theorem completed_car_of_reference {t : TxEntry} {c : CarId} (s : State) (h : t.kind = .reference c) :
    (s.completed t).car c =
      if t.queuedAt = s.grp.frame then { s.car c with motion := { (s.car c).motion with refDone := true } } else s.car c := by
  simp only [State.completed, h]
  split
  · exact car_modMotion ..
  · rfl

end

/-! ## Bus-off (R344, R345) -/

/-- The attempt that bus-off finds under way, if there is one, ends. -/
def State.endStarted (s : State) (b : BusId) : State :=
  match s.io.buses[b.val].queue.findIdx? fun e => e.started with
  | some i => s.endAttempt b i
  | none => s

/-- The frames of the bus-offs that count toward the hold of recovery, the present one first (R345). -/
def Bus.recentOffs (x : Bus) (frame : Nat) (len : FrameLen) : List Nat :=
  frame :: x.busOffAt.filter fun f => decide (frame < f + 10 * len.perSecond)

/-- A bus that enters bus-off. -/
def Bus.wentOff (x : Bus) (frame : Nat) (len : FrameLen) : Bus :=
  let held := x.recoveryHeld || decide (8 ≤ (x.recentOffs frame len).length)
  { x with
    errorState := .busOff, busOffCount := satInc 16 x.busOffCount, busOffAt := (x.recentOffs frame len).take 8,
    recoveryHeld := held, recovering := x.cfg.autoRecover && !held, recoverAt := frame, tec := 256 }

section

variable (s : State) (b : BusId)

theorem confined_endStarted : Confined discardParts s (s.endStarted b) := by
  unfold State.endStarted
  split
  · exact confined_endAttempt ..
  · exact confined_refl ..

theorem endStarted_bus : ∃ queue n,
    (s.endStarted b).io.buses[b.val] = { s.io.buses[b.val] with queue := queue, txDiscarded := n } := by
  unfold State.endStarted
  split
  · exact endAttempt_bus ..
  · exact ⟨_, _, rfl⟩

theorem busOff_bus_endStarted : (s.busOff b).io.buses[b.val] =
    (s.endStarted b).io.buses[b.val].wentOff (s.endStarted b).grp.frame (s.endStarted b).grp.frameLen := by
  unfold State.busOff
  extract_lets t x k recent held u
  have hbus : u.io.buses[b.val] = _ := bus_modBus ..
  split
  · exact hbus
  · exact hbus

theorem busOff_bus : ∃ n, (s.busOff b).io.buses[b.val] =
    { s.io.buses[b.val].wentOff s.grp.frame s.grp.frameLen with
      queue := (s.endStarted b).io.buses[b.val].queue, txDiscarded := n } := by
  obtain ⟨queue, n, hbus⟩ := endStarted_bus s b
  have hframe : (s.endStarted b).grp.frame = s.grp.frame := ((confined_endStarted s b).2 .number (by decide)).symm
  have hlen : (s.endStarted b).grp.frameLen = s.grp.frameLen := ((confined_endStarted s b).2 .frame (by decide)).1.symm
  rw [busOff_bus_endStarted, hframe, hlen, hbus]
  exact ⟨n, rfl⟩

variable {s b}

theorem endStarted_of_none (h : ∀ e ∈ s.io.buses[b.val].queue, e.started = false) : s.endStarted b = s := by
  have hnone : (s.io.buses[b.val].queue.findIdx? fun e => e.started) = none := List.findIdx?_eq_none_iff.mpr h
  rw [State.endStarted, hnone]

theorem endStarted_of_some {i : Nat} (h : (s.io.buses[b.val].queue.findIdx? fun e => e.started) = some i) :
    s.endStarted b = s.endAttempt b i := by
  rw [State.endStarted, h]

end

/-! ## The frame that a queue offers (R338, R343) -/

/-- The frames of a queue that may go now, with their places: those in an attempt, and those that no age limit and no lonely bus
keeps. -/
def State.sendable (s : State) (b : Bus) : List (TxEntry × Nat) :=
  b.queue.zipIdx.filter fun q => s.maySend q.1 && (q.1.started || !(q.1.due s.grp.frame || b.throttles q.1))

theorem mem_sendable {s : State} {b : Bus} {e : TxEntry} {i : Nat} : (e, i) ∈ s.sendable b ↔
    b.queue[i]? = some e ∧ s.maySend e = true ∧ (e.started = true ∨ e.due s.grp.frame = false ∧ b.throttles e = false) := by
  simp [State.sendable, List.mem_zipIdx_iff_getElem?]

/-- The one in an attempt goes first, then the first of the lowest in arbitration. -/
theorem offered_eq (s : State) (b : Bus) : s.offered b =
    (((s.sendable b).find? fun q => q.1.started).or ((s.sendable b).argmin fun q => q.1.frame.rank)).map Prod.snd := by
  have hlowest : (fun (best : Option (TxEntry × Nat)) q => match best with
      | some p => if q.1.frame.rank < p.1.frame.rank then some q else some p
      | none => some q) = List.argAux fun p q => p.1.frame.rank < q.1.frame.rank := by
    funext best q
    cases best <;> rfl
  unfold State.offered
  rw [← State.sendable]
  dsimp only
  cases (s.sendable b).find? fun q => q.1.started
  case some q => rfl
  case none => exact congrArg (fun f => ((s.sendable b).foldl f none).map Prod.snd) hlowest

/-! ## CANopen's times (R346, R348) -/

section

variable {s : State} {b : BusId}

theorem heartbeatDue_of (hco : s.io.buses[b.val].canopen = true) (hmode : s.io.buses[b.val].modeStarted = true)
    (hat : s.io.buses[b.val].heartbeatAt + s.io.buses[b.val].cfg.heartbeatMs * s.grp.frameLen.perMs ≤ s.grp.frame) :
    s.heartbeatDue s.io.buses[b.val] = true := by
  simp [State.heartbeatDue, State.msFrames, hco, hmode, hat]

theorem syncDue_of (hco : s.io.buses[b.val].canopen = true) (hmode : s.io.buses[b.val].modeStarted = true)
    (hsync : s.io.buses[b.val].cfg.syncFrames ≠ 0)
    (hat : s.io.buses[b.val].syncAt + s.io.buses[b.val].cfg.syncFrames ≤ s.grp.frame) :
    s.syncDue s.io.buses[b.val] = true := by
  simp [State.syncDue, hco, hmode, hsync, hat]

theorem heartbeat_bus (s : State) (b : BusId) : (s.heartbeat b).io.buses[b.val] =
    { s.io.buses[b.val].wait (coFrame (0x700 + s.io.buses[b.val].cfg.nodeId) [5]) with heartbeatAt := s.grp.frame } := by
  rw [State.heartbeat, bus_modBus]

theorem sendSync_bus (s : State) (b : BusId) :
    (s.sendSync b).io.buses[b.val] = { s.io.buses[b.val].wait (coFrame 0x080 []) with syncAt := s.grp.frame } := by
  rw [State.sendSync, bus_modBus]

theorem nodeLost_bus (s : State) (b : BusId) (n : Nat) : (s.nodeLost b n).io.buses[b.val] =
    { s.io.buses[b.val] with nodesLost := s.io.buses[b.val].nodesLost ||| (1#128 <<< n) } :=
  bus_modBus s b fun x => { x with nodesLost := x.nodesLost ||| (1#128 <<< n) }

theorem lt_of_nodeLostDue {x : Bus} {n : Nat} (h : s.nodeLostDue x n = true) : n < 128 := by
  simp only [State.nodeLostDue, Bool.and_eq_true, decide_eq_true_eq] at h
  omega

theorem getLsbD_mark (w : BitVec 128) {n : Nat} (h : n < 128) (m : Nat) :
    (w ||| (1#128 <<< n)).getLsbD m = (w.getLsbD m || decide (m = n)) := by
  rw [BitVec.getLsbD_or, ← BitVec.twoPow_eq, BitVec.getLsbD_twoPow]
  simp [h, eq_comm]

theorem confined_nodeLost (s : State) (b : BusId) (n : Nat) : Confined [.buses, .recorder] s (s.nodeLost b n) :=
  ((confined_modBus ..).mono (by decide)).trans ((confined_record ..).mono (by decide))

theorem confined_sendMap (s : State) (i : Fin 512) (v : Int) : Confined [.buses, .map] s (s.sendMap i v) :=
  confined_of_within_eq rfl

theorem sendMap_map (s : State) (i : Fin 512) (v : Int) :
    (s.sendMap i v).io.map[i.val] = { s.io.map[i.val] with lastSent := some v, sentAt := s.grp.frame } :=
  Vector.getElem_set_self ..

theorem sendMap_bus (s : State) (i : Fin 512) (v : Int) :
    (s.sendMap i v).io.buses[s.io.map[i.val].busId.val] = s.io.buses[s.io.map[i.val].busId.val].wait
      (s.io.map[i.val].pdo s.io.buses[s.io.map[i.val].busId.val].cfg.voutCobId v) :=
  bus_modBus s s.io.map[i.val].busId fun x => x.wait (s.io.map[i.val].pdo x.cfg.voutCobId v)

end

end Sys2Proof.Machine

namespace Sys2Proof.Proofs

open Sys2Proof Sys2Proof.Machine

/-- Settles O12: each event leaves the rest of its bus, and what a received frame leaves of it follows from REC's two ranges and from
whether the frame is a PAIR_DUP frame of the group. -/
theorem canReceives : Obligations.CanReceives := by
  unfold Obligations.CanReceives
  refine ⟨fun b f s hrun hlive hfd => ⟨_, exec_of_whenRunning rfl hrun, ?frame⟩,
    fun b primary more s hrun hlive => ⟨_, exec_of_confined rfl hrun (if_pos hlive) (confined_modBus ..), ?error⟩,
    fun b s hrun hlive => ⟨_, exec_of_confined rfl hrun (if_pos hlive) (confined_modBus ..), bus_modBus ..⟩,
    fun b s hrun => ⟨_, exec_of_confined rfl hrun rfl (confined_modBus ..), bus_modBus ..⟩,
    fun b s hrun hoff hrec htime =>
      ⟨_, exec_of_confined rfl hrun (if_pos (decide_eq_true htime)) (confined_modBus ..), ?recovered⟩⟩
  case frame =>
    obtain ⟨n, echoed, hbus⟩ := receive_bus hlive hfd
    rw [within_buses (by decide), hbus]
    exact ⟨rfl, rfl, rfl, rfl, rfl, recvDown_of_low n, recvDown_of_high n, fun hown => if_neg (by simp [hown]),
      fun hown => if_pos hown, rfl⟩
  case error =>
    rw [bus_modBus]
    exact ⟨rfl, rfl, rfl⟩
  case recovered =>
    rw [bus_modBus, Bus.recovered, if_pos ⟨hoff, hrec⟩]
    exact ⟨rfl, rfl, rfl, rfl, rfl⟩

/-- Settles O13: an acknowledgement takes the frame off the queue, an attempt without one leaves it there while it may be tried
again, and of a discarded frame and of bus-off the bus keeps all but its queue and its own counters. -/
theorem canTransmits : Obligations.CanTransmits := by
  unfold Obligations.CanTransmits
  refine ⟨fun b us i s hrun hoffer hmay => ⟨_, exec_of_whenRunning rfl hrun, ?sent⟩,
    fun b cause i s hrun hoffer hmay hlast => ?failed,
    fun b s hrun => ⟨_, exec_of_whenRunning rfl hrun, ?expired⟩,
    fun b s hrun hlive => ⟨_, exec_of_whenRunning rfl hrun, ?busOff⟩⟩
  case sent =>
    obtain ⟨echoed, hsent⟩ := sent_eq us hoffer hmay
    rw [hsent, within_buses (by decide), completed_bus, bus_modBus]
    refine ⟨rfl, rfl, rfl, rfl, rfl, fun c hkind => ?_⟩
    rw [within_car (by decide), completed_car_of_reference _ hkind, modBus_grp]
    split <;> rfl
  case failed =>
    intro x rise hrise
    have hcause : rise = cause.rise x.errorState := by cases cause <;> rfl
    rw [hcause] at hrise ⊢
    refine ⟨_, exec_of_whenRunning rfl hrun, ?_⟩
    rw [within_buses (by decide), txError_of_retry hoffer hmay hlast hrise]
    exact ⟨rfl, rfl, rfl, cause.ackRun_eq _, rfl⟩
  case expired =>
    rw [within_buses (by decide), expireBus_queue]
    rfl
  case busOff =>
    obtain ⟨n, hbus⟩ := busOff_bus s b
    rw [within_buses (by decide), if_pos hlive, hbus]
    refine ⟨rfl, fun hnone => ?_, fun i hsome hlast => ?_, rfl, ?_, rfl⟩
    · exact congrArg (fun t : State => t.io.buses[b.val].queue) (endStarted_of_none hnone)
    · dsimp only
      rw [endStarted_of_some hsome, endAttempt_of_not_last hlast, bus_modBus, Bus.keepPending]
    · simp [Bus.wentOff, Bus.recentOffs]

/-- Settles O14: the frame in an attempt is found first; without one the offer is the minimum in arbitration of those that may go. -/
theorem canOffersLowest : Obligations.CanOffersLowest := by
  unfold Obligations.CanOffersLowest
  intro b s i hoffer
  rw [offered_eq, Option.map_eq_some_iff] at hoffer
  obtain ⟨⟨e, j⟩, hq, rfl⟩ := hoffer
  obtain hstarted | ⟨hnone, hmin⟩ := Option.or_eq_some_iff.mp hq
  · obtain ⟨hqueue, hsend, -⟩ := mem_sendable.mp (List.mem_of_find?_eq_some hstarted)
    exact ⟨e, hqueue, hsend, .inl (List.find?_some (p := fun q : TxEntry × Nat => q.1.started) hstarted)⟩
  · obtain ⟨hqueue, hsend, -⟩ := mem_sendable.mp (List.argmin_mem hmin)
    refine ⟨e, hqueue, hsend, .inr fun k g hg hgsend hdue hthrottle => ?_⟩
    have hgmem : (g, k) ∈ s.sendable b := mem_sendable.mpr ⟨hg, hgsend, .inr ⟨hdue, hthrottle⟩⟩
    exact ⟨by simpa using List.find?_eq_none.mp hnone _ hgmem,
      List.le_of_mem_argmin (f := fun q : TxEntry × Nat => q.1.frame.rank) hgmem hmin⟩

/-- Settles O15: what is due changes its own bus, and the recorder or its map entry with it. -/
theorem canOpenTimes : Obligations.CanOpenTimes := by
  unfold Obligations.CanOpenTimes
  refine ⟨fun b s hrun hco hmode hat =>
      ⟨_, exec_of_confined rfl hrun (if_pos (heartbeatDue_of hco hmode hat)) (confined_modBus ..), ?heartbeat⟩,
    fun b s hrun hco hmode hsync hat =>
      ⟨_, exec_of_confined rfl hrun (if_pos (syncDue_of hco hmode hsync hat)) (confined_modBus ..), ?sync⟩,
    fun b n s hrun hdue => ⟨_, exec_of_confined rfl hrun (if_pos hdue) (confined_nodeLost ..), ?lost⟩,
    fun i s hrun hdue => ⟨_, exec_of_confined rfl hrun ?refreshes (confined_sendMap s i _), sendMap_map .., ?refresh⟩⟩
  case heartbeat =>
    rw [heartbeat_bus]
    exact ⟨rfl, rfl⟩
  case sync =>
    rw [sendSync_bus]
    exact ⟨rfl, rfl⟩
  case lost =>
    have hlt := lt_of_nodeLostDue hdue
    rw [nodeLost_bus]
    refine ⟨?_, fun m hm => ?_, rfl⟩
    · rw [getLsbD_mark _ hlt]
      simp
    · rw [getLsbD_mark _ hlt]
      simp [hm]
  case refreshes =>
    simp [finOf, State.outRefresh, hdue]
  case refresh => exact congrArg Bus.waiting (sendMap_bus s i _)

end Sys2Proof.Proofs

/-! PROOFS. The module's side of a car link (R361, R362): what uplinks, the PHY and the end of an exchange leave of it. -/

namespace Sys2Proof.Machine

/-! ## A link after a change of it -/

section

variable (s : State) (l : CarId) (f : CarLink → CarLink)

theorem confined_modLink : Confined [.links] s (s.modLink l f) := confined_of_within_eq rfl

@[simp] theorem link_modLink : (s.modLink l f).io.links[l.val] = f s.io.links[l.val] := by
  simp

end

/-! ## An uplink (R361) -/

/-- The tests of an uplink but its CAR_ECHO and its UP_SEQ (R361). -/
def LinkFrame.uplinkGood (f : LinkFrame) : Bool :=
  f.fcsGood && f.etherType == carLinkType && f.payload.length == 180 && crc16 (f.payload.take 178) == fieldAt f.payload 178 2

theorem uplinkGood_iff (f : LinkFrame) : f.uplinkGood = true ↔ f.fcsGood = true ∧ f.etherType = 0x88B5
    ∧ f.payload.length = 180 ∧ fieldAt f.payload 178 2 = crc16 (f.payload.take 178) := by
  simp only [LinkFrame.uplinkGood, carLinkType, Bool.and_eq_true, beq_iff_eq, and_assoc, eq_comm (a := crc16 (f.payload.take 178))]

section

variable {s : State} {l : CarId} {f : LinkFrame} (hactive : s.io.links[l.val].active = true) (hphy : s.io.links[l.val].phyUp = true)

include hactive hphy

theorem uplink_of_bad (ns : Nat) (hbad : f.uplinkGood = false) :
    s.uplink l f ns = s.modLink l fun x => { x with rejected := satInc 32 x.rejected } := by
  rw [State.uplink, if_neg (by simp [hactive, hphy])]
  exact if_pos (by rw [← LinkFrame.uplinkGood, hbad]; rfl)

/-- An uplink that echoes its link and is the first or comes after the last one is accepted (R361). -/
theorem uplink_of_new (ns : Nat) (hgood : f.uplinkGood = true) (hecho : byteAt f.payload 15 = l.val)
    (hnew : s.io.links[l.val].fresh = true ∨ seqAdvances (fieldAt f.payload 4 4) s.io.links[l.val].upSeq = true) :
    ∃ (late : Bool) (delay : Nat), s.uplink l f ns = s.modLink l fun x =>
      { x with
        echoWrong := none, fresh := false, accepted := satInc 32 x.accepted, late := if late then satInc 32 x.late else x.late,
        health := byteAt f.payload 8, ports := byteAt f.payload 9, seqEcho := fieldAt f.payload 0 4, upSeq := fieldAt f.payload 4 4,
        vSupply := fieldAt f.payload 12 2, delayNs := delay, pendingUp := newerUplink x.pendingUp f.payload } := by
  have hseq : (s.io.links[l.val].fresh || seqAdvances (fieldAt f.payload 4 4) s.io.links[l.val].upSeq) = true := by
    simpa using hnew
  unfold State.uplink
  dsimp only
  rw [← LinkFrame.uplinkGood, if_neg (by simp [hactive, hphy]), if_neg (by simp [hgood]), if_neg (by simp [hecho]),
    if_neg (by simp [hseq])]
  exact ⟨_, _, rfl⟩

end

end Sys2Proof.Machine

namespace Sys2Proof.Proofs

open Sys2Proof Sys2Proof.Machine

/-- Settles O16: each event changes its own link alone, and what it leaves of it follows from the uplink's tests or from the end of
the exchange. -/
theorem carLinkUplinks : Obligations.CarLinkUplinks := by
  unfold Obligations.CarLinkUplinks
  refine ⟨fun l f ns s hrun hactive hphy hfcs htype hlen hcheck hecho hnew => ?accepted,
    fun l f ns s hrun hactive hphy hbad => ?rejected, fun l up s => ⟨_, rfl, ?phy⟩,
    fun l s hrun hactive hmiss hup hnone hends => ⟨_, exec_of_confined rfl hrun rfl (confined_modLink ..), ?down⟩⟩
  case accepted =>
    obtain ⟨late, delay, huplink⟩ := uplink_of_new hactive hphy ns ((uplinkGood_iff f).mpr ⟨hfcs, htype, hlen, hcheck⟩) hecho hnew
    refine ⟨_, exec_of_confined rfl hrun huplink ((confined_modLink ..).mono (by decide)), ?_⟩
    rw [link_modLink]
    exact ⟨rfl, rfl, rfl, rfl, rfl, rfl, rfl, fun hnone => congrArg (newerUplink · f.payload) hnone⟩
  case rejected =>
    have hgood : f.uplinkGood = false := Bool.eq_false_iff.mpr fun hgood => by
      obtain ⟨hfcs, htype, hlen, hcheck⟩ := (uplinkGood_iff f).mp hgood
      simp [hfcs, htype, hlen, hcheck] at hbad
    exact ⟨_, exec_of_confined rfl hrun (uplink_of_bad hactive hphy ns hgood) ((confined_modLink ..).mono (by decide)),
      link_modLink ..⟩
  case phy => rw [(confined_modLink ..).within_eq, link_modLink]
  case down =>
    have hdue : s.io.links[l.val].downDue s.grp.frameLen (s.grp.frame + 1) = true := by
      simp [CarLink.downDue, hactive, hmiss, hup, hnone, hends]
    rw [link_modLink, if_pos hdue]
    rfl

end Sys2Proof.Proofs

/-! PROOFS. The dispatch of commands: every command but the test access port's and CAN_BUS_OFF acts within the parts that it names, so
it answers a next state and leaves every other part. -/

namespace Sys2Proof.Machine

open Sys2Proof

/-! ## A command acts within its parts -/

/-- Each meaning is cut to the parts that its command names; the test access port's parts depend on the instruction. -/
theorem exec_eq_within {i : Instr} (htap : ∀ ir, i ≠ .tapInstruction ir) (hbus : ∀ b, i ≠ .canBusOff b) (s : State) :
    ∃ u, exec i s = .next (s.within i.parts u) := by
  cases i
  case tapInstruction ir => exact absurd rfl (htap ir)
  case canBusOff b => exact absurd rfl (hbus b)
  all_goals exact ⟨_, rfl⟩


/-- CAN_BUS_OFF alone reaches beyond the parts that it names: the frame whose attempt it ends may be discarded. -/
theorem exec_canBusOff_eq_within (b : BusId) (s : State) :
    ∃ u, exec (.canBusOff b) s = .next (s.within [.alm, .jobs, .sessions, .buses, .rings, .irq, .net, .recorder] u) := ⟨_, rfl⟩

/-- The life cycle lets the test access port obey a test mode of the maker's own (R549). -/
def State.privateAllowed (s : State) : Prop := s.boot.phase ≠ .off ∧ (s.boot.life = .maker ∨ s.boot.life = .returned)

/-- Every instruction of the test access port but a test mode of the maker's own acts within the counts or within the kernels. -/
theorem exec_tapInstruction_eq_within {ir : TapIr} (hir : ir ≠ .privateMode) (s : State) :
    ∃ ps u, ps ⊆ [Part.kernels, .counts] ∧ exec (.tapInstruction ir) s = .next (s.within ps u) := by
  cases ir
  case privateMode => exact absurd rfl hir
  case debugHalt => exact ⟨[.kernels], _, by decide, rfl⟩
  case debugResume => exact ⟨[.kernels], _, by decide, rfl⟩
  all_goals exact ⟨[.counts], _, by decide, rfl⟩

theorem exec_privateMode_of_allowed {s : State} (h : s.privateAllowed) :
    exec (.tapInstruction .privateMode) s = .refused .privateTest := if_pos h

theorem exec_privateMode_of_not_allowed {s : State} (h : ¬ s.privateAllowed) :
    exec (.tapInstruction .privateMode) s = .next s := if_neg h

theorem exec_tapInstruction_confined {ir : TapIr} {s t : State} (h : exec (.tapInstruction ir) s = .next t) :
    Confined [.kernels, .counts] s t := by
  by_cases hir : ir = .privateMode
  · subst hir
    by_cases hallowed : s.privateAllowed
    · rw [exec_privateMode_of_allowed hallowed] at h
      cases h
    · rw [exec_privateMode_of_not_allowed hallowed] at h
      cases h
      exact confined_refl ..
  · obtain ⟨ps, u, hps, hexec⟩ := exec_tapInstruction_eq_within hir s
    rw [hexec] at h
    cases h
    exact (confined_within ps s u).mono hps

/-- What a command answers differs from the state in its own parts alone, or in what a discarded frame takes along. -/
theorem exec_confined {i : Instr} {s t : State} (h : exec i s = .next t) : Confined (i.parts ++ discardParts) s t := by
  by_cases htap : ∃ ir, i = .tapInstruction ir
  · obtain ⟨ir, rfl⟩ := htap
    exact (exec_tapInstruction_confined h).mono (List.subset_append_left ..)
  by_cases hbus : ∃ b, i = .canBusOff b
  · obtain ⟨b, rfl⟩ := hbus
    obtain ⟨u, hexec⟩ := exec_canBusOff_eq_within b s
    rw [hexec] at h
    cases h
    exact (confined_within _ s u).mono (show _ ⊆ [Part.buses, .recorder] ++ discardParts by decide)
  obtain ⟨u, hexec⟩ := exec_eq_within (not_exists.mp htap) (not_exists.mp hbus) s
  rw [hexec] at h
  cases h
  exact (confined_within _ s u).mono (List.subset_append_left ..)

/-! ## A frame that CAN_BUS_OFF discards -/

/-- A Stream channel (R68): type 11. -/
def streamEntry : Entry := { type := 11 }

/-- The last attempt of a stream's frame (R338, R340). -/
def lastAttempt : TxEntry := { kind := .stream 0, started := true, last := true }

/-- A running module whose bus 0 is sending the last attempt of a stream's frame. -/
def sendingLast : State :=
  { State.reset with
    boot := { State.reset.boot with phase := .running }
    grp := { State.reset.grp with alm := [(0, streamEntry)] }
    io := { State.reset.io with buses := Vector.replicate 16 { cfg := { mode := .raw }, queue := [lastAttempt] } } }

end Sys2Proof.Machine

namespace Sys2Proof.Proofs

open Sys2Proof Sys2Proof.Machine

/-- Settles O1: the step takes the queue apart and dispatches its front. -/
theorem stepRunsFront : Obligations.StepRunsFront := by
  unfold Obligations.StepRunsFront
  refine ⟨fun c rest s => rfl, fun s hempty => ?_⟩
  rw [step, hempty]

/-- Settles O4: two states that agree in the parts agree in every field of them. -/
theorem partsAreTheState : Obligations.PartsAreTheState := by
  unfold Obligations.PartsAreTheState
  exact fun s t hpend hsame => State.eq_of_same hsame hpend

/-- Settles O2: every meaning is an answer within some parts, but for the maker's own test mode, whose answer its permission decides. -/
theorem onlyPrivateTestStops : Obligations.OnlyPrivateTestStops := by
  unfold Obligations.OnlyPrivateTestStops
  intro i s
  constructor
  · rintro ⟨rfl, hallowed⟩
    exact exec_privateMode_of_allowed hallowed
  · intro hother
    by_cases htap : ∃ ir, i = .tapInstruction ir
    · obtain ⟨ir, rfl⟩ := htap
      by_cases hir : ir = .privateMode
      · subst hir
        exact ⟨s, exec_privateMode_of_not_allowed fun h => hother ⟨rfl, h⟩⟩
      · obtain ⟨ps, u, -, hexec⟩ := exec_tapInstruction_eq_within hir s
        exact ⟨_, hexec⟩
    by_cases hbus : ∃ b, i = .canBusOff b
    · obtain ⟨b, rfl⟩ := hbus
      obtain ⟨u, hexec⟩ := exec_canBusOff_eq_within b s
      exact ⟨_, hexec⟩
    obtain ⟨u, hexec⟩ := exec_eq_within (not_exists.mp htap) (not_exists.mp hbus) s
    exact ⟨_, hexec⟩

/-- Refutes O3: CAN_BUS_OFF names the buses and the recorder, but it ends the attempt under way (R345), and where that was the
frame's last one (R340) the frame is discarded and counted in its stream's Almanac entry (R339). -/
theorem not_footprint : ¬ Obligations.Footprint := by
  unfold Obligations.Footprint
  intro h
  obtain ⟨-, hsame⟩ := h (.canBusOff 0) sendingLast _ rfl
  have halm : sendingLast.grp.alm = _ := hsame .alm (by decide)
  exact absurd halm (by decide)

end Sys2Proof.Proofs

/-! PROOFS. Power and start-up (R450, R552, R582–R593): which commands change fuses, EPOCH, LIFE, the straps and the pair's state, what
the start-up steps make of them, and that nothing takes back what fuses and NAND have counted. -/

namespace Sys2Proof.Machine

open Sys2Proof

/-! ## A command outside power, reset and start-up keeps fuses, EPOCH and straps -/

/-- Straps, fuses and EPOCH change only in the commands of `Laws.Rare` (R450, R552, R582, R593). -/
theorem rare_parts (i : Instr) : Laws.Rare.Statement i := by
  cases i <;> rfl

theorem powers_of_starts {i : Instr} (h : Laws.Rare.starts i = true) : Laws.Rare.powers i = true := by
  unfold Laws.Rare.starts at h
  split at h
  · rfl
  · rfl
  · cases h

theorem starts_of_releases {i : Instr} (h : Laws.Rare.releases i = true) : Laws.Rare.starts i = true := by
  unfold Laws.Rare.releases at h
  split at h
  · rfl
  · cases h

theorem rareParts_not_mem {i : Instr} (h : Laws.Rare.powers i = false) :
    Part.straps ∉ i.parts ++ discardParts ∧ Part.fuses ∉ i.parts ++ discardParts ∧ Part.epoch ∉ i.parts ++ discardParts := by
  have hstart : Laws.Rare.starts i = false := Bool.eq_false_iff.mpr fun hs => by simp [powers_of_starts hs] at h
  have hrelease : Laws.Rare.releases i = false := Bool.eq_false_iff.mpr fun hr => by simp [starts_of_releases hr] at hstart
  have hrare : _ = true := rare_parts i
  have hdiscard : Part.straps ∉ discardParts ∧ Part.fuses ∉ discardParts ∧ Part.epoch ∉ discardParts := by decide
  simpa [h, hstart, hrelease, hdiscard, and_assoc] using hrare

/-! ## The pair's state changes only with a running control plane (R415) -/

/-- The events of a pair's member, and the Calends. -/
def actsInPair : Instr → Bool
  | .calends _ | .secondsTick | .coldWaitExpiry | .holdRelease _ | .contention | .contentionTimeout | .releaseRecord _ | .holdSilence
  | .pairImagePart _ | .pairDecisionPart _ | .pairStatePart _ | .vigilLost _ | .eth1LinkLoss _ | .calendsLock _ | .resyncComplete
  | .selfCause _ | .pairSelReport _ _ | .sgCycle | .sgClock | .sgSupply => true
  | _ => false

theorem member_parts (i : Instr) : (!i.parts.contains .member || Laws.Rare.powers i || actsInPair i) = true := by
  cases i <;> rfl

/-- An event whose effect leaves the state answers the state. -/
theorem exec_of_effect_eq {i : Instr} {ps : List Part} {s u : State} (hexec : exec i s = .next (s.within ps u)) (hu : u = s) :
    exec i s = .next s := by
  rw [hexec, hu, (confined_refl ps s).within_eq]

theorem exec_of_not_running {i : Instr} {ps : List Part} {f : State → State} {s : State}
    (hexec : exec i s = .next (s.within ps (whenRunning s f))) (hrun : s.running = false) : exec i s = .next s :=
  exec_of_effect_eq hexec (whenRunning_not s f hrun)

theorem not_follows_of_not_running {s : State} (hrun : s.running = false) : s.follows = false := by
  simp [State.follows, hrun]

/-- Before and without a running control plane no event of the pair does anything. -/
theorem exec_actsInPair_of_not_running {i : Instr} {s : State} (hi : actsInPair i = true) (hrun : s.running = false) :
    exec i s = .next s := by
  have hfollows := not_follows_of_not_running hrun
  unfold actsInPair at hi
  split at hi
  case h_1 x => exact exec_of_effect_eq exec_calends (calends_of_not_running hrun)
  case h_9 p =>
    refine exec_of_effect_eq rfl ?_
    exact if_pos (by simp [hfollows])
  case h_10 p =>
    refine exec_of_effect_eq rfl ?_
    exact if_pos (by simp [hfollows])
  case h_11 p =>
    refine exec_of_effect_eq rfl ?_
    exact if_pos (by simp [hfollows])
  case h_15 =>
    refine exec_of_effect_eq rfl ?_
    exact if_neg (by simp [hfollows])
  case h_21 => cases hi
  all_goals exact exec_of_not_running rfl hrun

/-! ## What a command of power, reset or start-up keeps of fuses, EPOCH, LIFE and straps -/

/-- Fuses, EPOCH, the fused security version and RETIRED only grow (R534, R552, R553, R563, R593). -/
structure Unblown (s t : State) : Prop where
  groups   : ∀ g : Fin 4, s.nv.groups[g.val] ≤ t.nv.groups[g.val]
  security : s.nv.security ≤ t.nv.security
  epoch    : s.nv.epoch ≤ t.nv.epoch
  retired  : s.boot.life = .retired → t.boot.life = .retired

/-- A step from a sound state to a sound one that takes nothing back. -/
def KeepsSound (s t : State) : Prop := Sound t ∧ Unblown s t

/-- What the soundness of a state rests on, and what no step takes back, is the same in both states. -/
structure SameSound (s t : State) : Prop where
  groups   : t.nv.groups = s.nv.groups
  security : t.nv.security = s.nv.security
  epoch    : t.nv.epoch = s.nv.epoch
  phase    : t.boot.phase = s.boot.phase
  mode     : t.boot.mode = s.boot.mode
  scan     : t.boot.scanEn = s.boot.scanEn
  life     : t.boot.life = s.boot.life
  member   : s.boot.phase ≠ .running → t.mem.state = s.mem.state

theorem keepsSound_of_same {s t : State} (h : Sound s) (hsame : SameSound s t) : KeepsSound s t := by
  obtain ⟨hgroups, hsecurity, hepoch, hphase, hmode, hscan, hlife, hmember⟩ := hsame
  refine ⟨⟨hgroups ▸ h.fuses, hepoch ▸ h.epoch, by rw [hlife, hgroups, h.life], hmode ▸ h.straps, ?_, ?_, ?_⟩,
    ⟨fun g => by rw [hgroups], hsecurity.ge, hepoch.ge, fun hr => hlife.trans hr⟩⟩
  · rw [hphase, hmode, hscan, hlife]
    exact h.started
  · rw [hphase, hlife]
    exact h.retired
  · rw [hphase]
    exact fun hp => (hmember hp).trans (h.member hp)

/-- A change outside straps, fuses and EPOCH that leaves the pair's state where no control plane runs. -/
theorem sameSound_of_confined {ps : List Part} {s t : State} (hconf : Confined ps s t)
    (hps : Part.straps ∉ ps ∧ Part.fuses ∉ ps ∧ Part.epoch ∉ ps) (hmember : s.boot.phase ≠ .running → t.mem = s.mem) :
    SameSound s t := by
  obtain ⟨hstraps, hfuses, hepoch⟩ := hps
  obtain ⟨hphase, hmode, -, hscan, hlife, -⟩ := hconf.2 .straps hstraps
  obtain ⟨hgroups, hsecurity⟩ := hconf.2 .fuses hfuses
  obtain ⟨hepoch, -⟩ := hconf.2 .epoch hepoch
  exact ⟨hgroups.symm, hsecurity.symm, hepoch.symm, hphase.symm, hmode.symm, hscan.symm, hlife.symm, fun hp => by rw [hmember hp]⟩

theorem keepsSound_of_not_powers {i : Instr} {s t : State} (h : Sound s) (hi : Laws.Rare.powers i = false)
    (hexec : exec i s = .next t) : KeepsSound s t := by
  refine keepsSound_of_same h (sameSound_of_confined (exec_confined hexec) (rareParts_not_mem hi) fun hp => ?_)
  by_cases hpair : actsInPair i = true
  · rw [exec_actsInPair_of_not_running hpair (by simpa [State.running] using hp)] at hexec
    cases hexec
    rfl
  · have hparts := member_parts i
    have hdiscard : Part.member ∉ discardParts := by decide
    exact ((exec_confined hexec).2 .member (by simpa [hi, hpair, hdiscard] using hparts)).symm

/-! ## Power and resets (R571, R572, R580, R582, R583) -/

theorem exec_of_confined_effect {i : Instr} {ps : List Part} {s t : State} (hexec : exec i s = .next (s.within ps t))
    (hconf : Confined ps s t) : exec i s = .next t := by
  rw [hexec, hconf.within_eq]

/-- What a reset keeps (R582): fuses, NAND, the endpoints, and the model's counter of free values. -/
theorem mem_resetParts (p : Part) :
    p ∈ resetParts ∨ p ∈ [Part.free, .ends, .fuses, .life, .firmware, .stored, .epoch, .saveTime] := by
  cases p <;> decide

theorem confined_afterReset (s : State) (cause : Nat) (phase : Phase) : Confined resetParts s (s.afterReset cause phase) := by
  refine ⟨rfl, fun p hp => ?_⟩
  have hkept := (mem_resetParts p).resolve_left hp
  simp only [List.mem_cons, List.not_mem_nil, or_false] at hkept
  obtain rfl | rfl | rfl | rfl | rfl | rfl | rfl | rfl := hkept <;> simp [Part.same, State.afterReset]

/-- A memory reset leaves the bank dies as their expired timers and closed gates do (R571). -/
def State.expiredBanks (s : State) : Vector Bank 16 :=
  (eachPort State.timerExpires s).io.banks.map fun b => { b with gateOpen := false }

theorem reboot_of_off {s : State} (h : s.boot.phase = .off) (cause : ResetCause) : s.reboot cause = s := if_pos h

theorem reboot_of_on {s : State} (h : s.boot.phase ≠ .off) {cause : ResetCause} (hcause : cause ≠ .memory) :
    s.reboot cause = s.afterReset cause.code .powered := by
  rw [State.reboot, if_neg h, if_neg hcause]

theorem reboot_of_memory {s : State} (h : s.boot.phase ≠ .off) : s.reboot .memory =
    { s.afterReset 1 .powered with io := { (s.afterReset 1 .powered).io with banks := s.expiredBanks } } := by
  rw [State.reboot, if_neg h, if_pos rfl]
  rfl

theorem confined_setBanks (s : State) (banks : Vector Bank 16) : Confined [.banks] s { s with io := { s.io with banks := banks } } :=
  confined_of_within_eq rfl

theorem confined_reboot (s : State) (cause : ResetCause) : Confined resetParts s (s.reboot cause) := by
  by_cases h : s.boot.phase = .off
  · rw [reboot_of_off h]
    exact confined_refl ..
  by_cases hcause : cause = .memory
  · subst hcause
    rw [reboot_of_memory h]
    exact (confined_afterReset s 1 .powered).trans ((confined_setBanks ..).mono (by decide))
  · rw [reboot_of_on h hcause]
    exact confined_afterReset ..

theorem confined_failModule (s : State) (code : Nat) (cause : ResetCause) : Confined resetParts s (s.failModule code cause) := by
  unfold State.failModule
  split_ifs
  · exact confined_refl ..
  · exact (confined_causeRelease ..).mono (by decide)
  · exact confined_reboot ..

theorem exec_reset (cause : ResetCause) (s : State) : exec (.reset cause) s = .next (s.reboot cause) :=
  exec_of_confined_effect rfl (confined_reboot s cause)

theorem exec_brownOut (s : State) : exec .brownOut s = .next (s.afterReset 0 .off) :=
  exec_of_confined_effect rfl (confined_afterReset s 0 .off)

theorem exec_watchdog (cc : Fin 2) (s : State) : exec (.watchdog cc) s = .next (s.failModule 33 .watchdog) :=
  exec_of_confined_effect rfl (confined_failModule s 33 .watchdog)

/-- The words read are counted where they were corrected (R569, R570). -/
def State.countWords (cache : Bool) (n : Nat) (s : State) : State :=
  if cache then { s with boot := { s.boot with cacheCorrected := satAdd 32 s.boot.cacheCorrected n } }
  else { s with boot := { s.boot with dramCorrected := satAdd 32 s.boot.dramCorrected n } }

theorem confined_countWords (s : State) (cache : Bool) (n : Nat) : Confined [.counts] s (s.countWords cache n) := by
  cases cache <;> exact confined_of_within_eq rfl

theorem readWords_of_up {s : State} (h : s.up = true) (cache : Bool) (ms : List MemWord) : s.readWords cache ms =
    if countReads .uncorrectable ms = 0 then s.countWords cache (countReads .corrected ms)
    else (s.countWords cache (countReads .corrected ms)).failModule 32 .memory := by
  rw [State.readWords, if_neg (by simp [h])]
  rfl

theorem readWords_of_not_up {s : State} (h : s.up = false) (cache : Bool) (ms : List MemWord) : s.readWords cache ms = s :=
  if_pos (by simp [h])

theorem confined_readWords (s : State) (cache : Bool) (ms : List MemWord) : Confined resetParts s (s.readWords cache ms) := by
  cases hup : s.up
  · rw [readWords_of_not_up hup]
    exact confined_refl ..
  · rw [readWords_of_up hup]
    have hcount := (confined_countWords s cache (countReads .corrected ms)).mono (show _ ⊆ resetParts by decide)
    split_ifs
    · exact hcount
    · exact hcount.trans (confined_failModule ..)

/-- The state in which a patrol pass reads the words that it did not find clean (R570). -/
def State.countPass (s : State) : State := { s with boot := { s.boot with scrubPasses := satInc 32 s.boot.scrubPasses } }

theorem confined_countPass (s : State) : Confined [.counts] s s.countPass := confined_of_within_eq rfl

theorem exec_memoryUncorrectable (m : MemWord) (s : State) :
    exec (.memoryUncorrectable m) s = .next (s.readWords m.cache [m]) :=
  exec_of_confined_effect rfl (confined_readWords s m.cache [m])

theorem exec_patrolScrub (ms : List MemWord) (s : State) :
    exec (.patrolScrub ms) s = .next (if s.up then s.countPass.readWords false ms else s) := by
  refine exec_of_confined_effect rfl ?_
  split_ifs
  · exact ((confined_countPass s).mono (by decide)).trans (confined_readWords ..)
  · exact confined_refl ..

theorem afterReset_keepsSound {s : State} (h : Sound s) (cause : Nat) {phase : Phase} (hphase : phase = .off ∨ phase = .powered) :
    KeepsSound s (s.afterReset cause phase) := by
  refine ⟨⟨h.fuses, h.epoch, rfl, by simp [State.afterReset], ?_, ?_, fun _ => rfl⟩,
    ⟨fun _ => le_rfl, le_rfl, le_rfl, fun hr => h.life.symm.trans hr⟩⟩
  all_goals obtain rfl | rfl := hphase <;> simp [State.afterReset]

theorem KeepsSound.trans {s t u : State} (ht : KeepsSound s t) (hu : KeepsSound t u) : KeepsSound s u :=
  ⟨hu.1, fun g => (ht.2.groups g).trans (hu.2.groups g), ht.2.security.trans hu.2.security, ht.2.epoch.trans hu.2.epoch,
    fun hr => hu.2.retired (ht.2.retired hr)⟩

theorem keepsSound_refl {s : State} (h : Sound s) : KeepsSound s s :=
  keepsSound_of_same h ⟨rfl, rfl, rfl, rfl, rfl, rfl, rfl, fun _ => rfl⟩

theorem reboot_keepsSound {s : State} (h : Sound s) (cause : ResetCause) : KeepsSound s (s.reboot cause) := by
  by_cases hoff : s.boot.phase = .off
  · rw [reboot_of_off hoff]
    exact keepsSound_refl h
  by_cases hcause : cause = .memory
  · subst hcause
    rw [reboot_of_memory hoff]
    have hreset := afterReset_keepsSound h 1 (.inr rfl)
    exact hreset.trans (keepsSound_of_same hreset.1 ⟨rfl, rfl, rfl, rfl, rfl, rfl, rfl, fun _ => rfl⟩)
  · rw [reboot_of_on hoff hcause]
    exact afterReset_keepsSound h _ (.inr rfl)

theorem failModule_keepsSound {s : State} (h : Sound s) (code : Nat) (cause : ResetCause) :
    KeepsSound s (s.failModule code cause) := by
  unfold State.failModule
  split_ifs with hup hpair
  · exact keepsSound_refl h
  · have hrun : s.boot.phase = .running := by
      rw [Bool.and_eq_true] at hpair
      simpa [State.running] using hpair.1
    exact keepsSound_of_same h (sameSound_of_confined (confined_causeRelease ..) (by decide) fun hp => absurd hrun hp)
  · exact reboot_keepsSound h cause

theorem counts_keepsSound {s t : State} (h : Sound s) (hconf : Confined [.counts] s t) : KeepsSound s t :=
  keepsSound_of_same h (sameSound_of_confined hconf (by decide) fun _ => (hconf.2 .member (by decide)).symm)

theorem readWords_keepsSound {s : State} (h : Sound s) (cache : Bool) (ms : List MemWord) :
    KeepsSound s (s.readWords cache ms) := by
  cases hup : s.up
  · rw [readWords_of_not_up hup]
    exact keepsSound_refl h
  · rw [readWords_of_up hup]
    have hcount := counts_keepsSound h (confined_countWords s cache (countReads .corrected ms))
    split_ifs
    · exact hcount
    · exact hcount.trans (failModule_keepsSound hcount.1 ..)

/-- POWER_GOOD ends the reset hold (R580). -/
theorem exec_powerGood_of_off {s : State} (h : s.boot.phase = .off) :
    exec .powerGood s = .next { s with boot := { s.boot with phase := .powered } } := by
  refine exec_of_confined_effect (ps := [.straps]) ?_ (confined_of_within_eq rfl)
  exact congrArg (fun u => Host.Outcome.next (s.within [.straps] u)) (if_pos h)

theorem exec_powerGood_of_on {s : State} (h : s.boot.phase ≠ .off) : exec .powerGood s = .next s :=
  exec_of_effect_eq rfl (if_neg h)

theorem powerGood_keepsSound {s t : State} (h : Sound s) (hexec : exec .powerGood s = .next t) : KeepsSound s t := by
  by_cases hoff : s.boot.phase = .off
  · rw [exec_powerGood_of_off hoff] at hexec
    cases hexec
    exact ⟨⟨h.fuses, h.epoch, h.life, h.straps, by simp, by simp, fun _ => h.member (by simp [hoff])⟩,
      ⟨fun _ => le_rfl, le_rfl, le_rfl, id⟩⟩
  · rw [exec_powerGood_of_on hoff] at hexec
    cases hexec
    exact keepsSound_refl h

/-! ## A pending transition (R552, R553, R574) -/

section

variable (nv : Nv) (n : Nat)

theorem blowGroup_of_none (h : nv.pendingLife.bind (fun q => q.1.group) = none) : nv.blowGroup n = nv := by
  rw [Nv.blowGroup, h]

theorem blowGroup_of_some {g : Fin 4} (h : nv.pendingLife.bind (fun q => q.1.group) = some g) :
    nv.blowGroup n = { nv with groups := nv.groups.set g.val (max nv.groups[g.val] (min 8 n)) } := by
  rw [Nv.blowGroup, h]

theorem le_blowGroup (i : Fin 4) : nv.groups[i.val] ≤ (nv.blowGroup n).groups[i.val] := by
  cases h : nv.pendingLife.bind fun q => q.1.group with
  | none => rw [blowGroup_of_none nv n h]
  | some g =>
    rw [blowGroup_of_some nv n h]
    simp only [Vector.getElem_set]
    split <;> simp_all

theorem blowGroup_le (hfuses : ∀ i : Fin 4, nv.groups[i.val] ≤ 8) (i : Fin 4) : (nv.blowGroup n).groups[i.val] ≤ 8 := by
  cases h : nv.pendingLife.bind fun q => q.1.group with
  | none =>
    rw [blowGroup_of_none nv n h]
    exact hfuses i
  | some g =>
    rw [blowGroup_of_some nv n h]
    simp only [Vector.getElem_set]
    split
    · exact max_le (hfuses g) (min_le_left ..)
    · exact hfuses i

@[simp] theorem blowGroup_epoch : (nv.blowGroup n).epoch = nv.epoch := by
  unfold Nv.blowGroup
  split <;> rfl

@[simp] theorem blowGroup_security : (nv.blowGroup n).security = nv.security := by
  unfold Nv.blowGroup
  split <;> rfl

@[simp] theorem blowGroup_attestBlocks : (nv.blowGroup n).attestBlocks = nv.attestBlocks := by
  unfold Nv.blowGroup
  split <;> rfl

theorem cutTransit_eq : ∃ pending, nv.cutTransit n = { nv.blowGroup n with pendingLife := pending } := by
  unfold Nv.cutTransit
  dsimp only
  split_ifs
  · exact ⟨_, rfl⟩
  · exact ⟨none, rfl⟩

/-- Blown fuses of one group leave LIFE or bring it to that group's state (R552). -/
theorem lifeOf_set_group (groups : Vector Nat 4) {life : Life} {g : Fin 4} (h : life.group = some g) {k : Nat}
    (hk : groups[g.val] ≤ k) : lifeOf (groups.set g.val k) = lifeOf groups ∨ lifeOf (groups.set g.val k) = life := by
  cases life
  case maker => cases h
  all_goals
    cases h
    simp only [lifeOf, Vector.getElem_set]
    simp at hk ⊢
    split_ifs <;> simp_all <;> omega

theorem lifeOf_cutTransit : lifeOf (nv.cutTransit n).groups = lifeOf nv.groups
    ∨ nv.pendingLife.map (fun q => q.1) = some (lifeOf (nv.cutTransit n).groups) := by
  obtain ⟨pending, hcut⟩ := cutTransit_eq nv n
  rw [hcut]
  cases h : nv.pendingLife.bind fun q => q.1.group with
  | none =>
    rw [blowGroup_of_none nv n h]
    exact .inl rfl
  | some g =>
    rw [blowGroup_of_some nv n h]
    obtain ⟨q, hq, hg⟩ := Option.bind_eq_some_iff.mp h
    rw [hq]
    obtain hold | hnew := lifeOf_set_group nv.groups hg (le_max_left nv.groups[g.val] (min 8 n))
    · exact .inl hold
    · exact .inr (congrArg some hnew.symm)

/-- What a pending transition leaves of what a start-up counts. -/
theorem transit_keeps : nv.transit.pendingLife = none ∧ nv.transit.epoch = nv.epoch ∧ nv.transit.security = nv.security
    ∧ nv.transit.attestBlocks = nv.attestBlocks
    ∧ (nv.transit.groups = nv.groups ∨ nv.transit.groups = (nv.blowGroup 8).groups) := by
  unfold Nv.transit Nv.eraseFor
  split
  case h_1 h => exact ⟨h, rfl, rfl, rfl, .inl rfl⟩
  case h_2 =>
    split_ifs <;> exact ⟨rfl, blowGroup_epoch nv 8, blowGroup_security nv 8, blowGroup_attestBlocks nv 8, .inr rfl⟩

theorem le_transit (i : Fin 4) : nv.groups[i.val] ≤ nv.transit.groups[i.val] := by
  obtain ⟨-, -, -, -, h | h⟩ := transit_keeps nv <;> rw [h]
  exact le_blowGroup nv 8 i

theorem transit_le (hfuses : ∀ i : Fin 4, nv.groups[i.val] ≤ 8) (i : Fin 4) : nv.transit.groups[i.val] ≤ 8 := by
  obtain ⟨-, -, -, -, h | h⟩ := transit_keeps nv <;> rw [h]
  · exact hfuses i
  · exact blowGroup_le nv 8 hfuses i

end

theorem lifeOf_eq_retired_iff (g : Vector Nat 4) : lifeOf g = .retired ↔ 5 ≤ g[3] := by
  unfold lifeOf
  split_ifs <;> simp_all

/-- RETIRED is never left: its fuses stay blown (R552, R534). -/
theorem lifeOf_retired_mono {g g' : Vector Nat 4} (hle : ∀ i : Fin 4, g[i.val] ≤ g'[i.val]) (h : lifeOf g = .retired) :
    lifeOf g' = .retired :=
  (lifeOf_eq_retired_iff g').mpr (((lifeOf_eq_retired_iff g).mp h).trans (hle 3))

/-! ## The start-up steps (R584–R587, R590, R591) -/

/-- What steps 2 to 5 leave as step 1 has made it: the straps, LIFE, the next leaf, fuses, EPOCH and the clock. -/
structure StartKept (s t : State) : Prop where
  mode     : t.boot.mode = s.boot.mode
  pairSel  : t.boot.pairSel = s.boot.pairSel
  scan     : t.boot.scanEn = s.boot.scanEn
  life     : t.boot.life = s.boot.life
  nextQ    : t.boot.nextQ = s.boot.nextQ
  groups   : t.nv.groups = s.nv.groups
  security : t.nv.security = s.nv.security
  epoch    : t.nv.epoch = s.nv.epoch
  pending  : t.nv.pendingLife = s.nv.pendingLife
  seconds  : t.grp.seconds = s.grp.seconds
  leaves   : t.nv.attestBlocks = s.nv.attestBlocks

theorem StartKept.trans {s t u : State} (ht : StartKept s t) (hu : StartKept t u) : StartKept s u where
  mode := hu.mode.trans ht.mode
  pairSel := hu.pairSel.trans ht.pairSel
  scan := hu.scan.trans ht.scan
  life := hu.life.trans ht.life
  nextQ := hu.nextQ.trans ht.nextQ
  groups := hu.groups.trans ht.groups
  security := hu.security.trans ht.security
  epoch := hu.epoch.trans ht.epoch
  pending := hu.pending.trans ht.pending
  seconds := hu.seconds.trans ht.seconds
  leaves := hu.leaves.trans ht.leaves

/-- A change outside the parts that hold them. -/
theorem startKept_of_confined {ps : List Part} {s t : State} (h : Confined ps s t)
    (hps : ∀ p ∈ [Part.straps, .leaf, .fuses, .epoch, .life, .clock], p ∉ ps) : StartKept s t := by
  obtain ⟨-, hmode, hsel, hscan, hlife, -⟩ := h.2 .straps (hps _ (by decide))
  obtain ⟨hgroups, hsecurity⟩ := h.2 .fuses (hps _ (by decide))
  obtain ⟨hnext, hleaves⟩ := h.2 .leaf (hps _ (by decide))
  obtain ⟨hepoch, -⟩ := h.2 .epoch (hps _ (by decide))
  obtain ⟨hpending, -⟩ := h.2 .life (hps _ (by decide))
  obtain ⟨hseconds, -⟩ := h.2 .clock (hps _ (by decide))
  exact ⟨hmode.symm, hsel.symm, hscan.symm, hlife.symm, hnext.symm, hgroups.symm, hsecurity.symm, hepoch.symm, hpending.symm,
    hseconds.symm, hleaves.symm⟩

theorem startKept_record (s : State) (code n : Nat) (data : List Byte) : StartKept s (s.record code n data) :=
  startKept_of_confined (confined_record ..) (by decide)

theorem startKept_stepSignature (s : State) (i : Fin 2) (fallback : Bool) : StartKept s (s.stepSignature i fallback) := by
  cases fallback <;> exact ⟨rfl, rfl, rfl, rfl, rfl, rfl, rfl, rfl, rfl, rfl, rfl⟩

theorem startKept_stepLoad (s : State) (x : ReleaseIn) : StartKept s (s.stepLoad x) := by
  have hload : StartKept s (s.within loadParts (s.restoreAll x)) :=
    startKept_of_confined (confined_within ..) (by decide)
  exact hload.trans ⟨rfl, rfl, rfl, rfl, rfl, rfl, rfl, rfl, rfl, rfl, rfl⟩

theorem startKept_firstRings (s : State) : StartKept s s.firstRings := by
  unfold State.firstRings
  split <;> exact ⟨rfl, rfl, rfl, rfl, rfl, rfl, rfl, rfl, rfl, rfl, rfl⟩

/-- Step 4 and the load of step 5 (R584, R590), which name the entries that were lost (R94). -/
def State.loaded (x : ReleaseIn) (s : State) : State :=
  let s := if s.boot.life = .retired then s
    else { s with io := { s.io with banks := Vector.ofFn fun b => { Bank.powerUp with linkFault := x.noReport.getLsbD b.val } } }
  let s := (s.stepLoad x).recordStart
  ((s.nv.saved.filter fun q => x.badEntries.contains q.1).map fun q => q.1).foldl (fun s ch => s.record 0x0302 0xFF (leBytes 3 ch)) s

theorem startKept_loaded (s : State) (x : ReleaseIn) : StartKept s (s.loaded x) := by
  have hlost (lost : List Nat) (t : State) : StartKept t (lost.foldl (fun s ch => s.record 0x0302 0xFF (leBytes 3 ch)) t) :=
    startKept_of_confined (confined_foldl (fun s _ => confined_record s ..) lost t) (by decide)
  refine StartKept.trans ?_ (((startKept_stepLoad _ x).trans (startKept_record ..)).trans (hlost _ _))
  split_ifs
  · exact startKept_of_confined (confined_refl [] s) (by decide)
  · exact startKept_of_confined (confined_setBanks s _) (by decide)

theorem stepsOn_of_copy {s : State} {x : ReleaseIn} {q : Fin 2 × Bool} (h : s.nv.pickCopy x = some q) : s.stepsOn x =
    if x.scrubBad then (s.stepSignature q.1 q.2).recordStart.stop (.stopped 3)
    else if ((s.stepSignature q.1 q.2).loaded x).boot.life = .retired then
      ((s.stepSignature q.1 q.2).loaded x).firstRings.stop .retired
    else ((s.stepSignature q.1 q.2).loaded x).stop .ready := by
  rw [State.stepsOn, h]
  rfl

/-- The phase that steps 2 to 5 come to (R584, R586, R587). -/
def State.startPhase (s : State) (x : ReleaseIn) : Phase :=
  match s.nv.pickCopy x with
  | none => .stopped 2
  | some _ => if x.scrubBad then .stopped 3 else if s.boot.life = .retired then .retired else .ready

theorem stepsOn_eq_stop (s : State) (x : ReleaseIn) : ∃ u, StartKept s u ∧ s.stepsOn x = u.stop (s.startPhase x) := by
  unfold State.startPhase
  cases h : s.nv.pickCopy x with
  | none => exact ⟨s, startKept_of_confined (confined_refl [] s) (by decide), by rw [State.stepsOn, h]⟩
  | some q =>
    have hsign := startKept_stepSignature s q.1 q.2
    have hload := hsign.trans (startKept_loaded _ x)
    rw [stepsOn_of_copy h, hload.life]
    dsimp only
    split_ifs
    · exact ⟨_, hsign.trans (startKept_record ..), rfl⟩
    · exact ⟨_, hload.trans (startKept_firstRings _), rfl⟩
    · exact ⟨_, hload, rfl⟩

/-- The phase that the start-up comes to once step 1 has read the fuses (R451, R550, R584–R587). -/
def State.releasePhase (s : State) (x : ReleaseIn) : Phase :=
  if x.fuseMismatch then .stopped 1
  else if x.scanEn then .scanHold
  else if s.boot.mode = 3 ∧ s.boot.life ≠ .returned then .refused
  else s.startPhase x

theorem exec_resetRelease_of_off {s : State} (x : ReleaseIn) (h : s.boot.phase ≠ .powered) : exec (.resetRelease x) s = .next s :=
  exec_of_effect_eq rfl (if_pos h)

theorem cutTransit_fields (nv : Nv) (n : Nat) :
    ∃ groups pending, nv.cutTransit n = { nv with groups := groups, pendingLife := pending } := by
  obtain ⟨pending, hcut⟩ := cutTransit_eq nv n
  rw [hcut]
  cases h : nv.pendingLife.bind fun q => q.1.group with
  | none => exact ⟨nv.groups, pending, by rw [blowGroup_of_none nv n h]⟩
  | some g => exact ⟨_, pending, by rw [blowGroup_of_some nv n h]⟩

/-- The state after the power has failed in step 1 (R574). -/
def State.cutOff (s : State) (n : Nat) : State :=
  { s with nv := s.nv.cutTransit n, boot := { s.boot with phase := .off, life := lifeOf (s.nv.cutTransit n).groups } }

theorem confined_cutOff (s : State) (n : Nat) : Confined [.straps, .fuses, .life] s (s.cutOff n) := by
  obtain ⟨groups, pending, hcut⟩ := cutTransit_fields s.nv n
  rw [State.cutOff, hcut]
  exact confined_of_within_eq rfl

theorem exec_resetRelease_of_cut {s : State} {x : ReleaseIn} {n : Nat} (h : s.boot.phase = .powered) (hcut : x.cut = some n) :
    exec (.resetRelease x) s = .next (s.cutOff n) := by
  have hexec : exec (.resetRelease x) s = .next (s.within startParts (s.cutOff n)) := by
    change execResetRelease x s = _
    rw [execResetRelease, if_neg (not_not_intro h), hcut]
    rfl
  rw [hexec, ((confined_cutOff s n).mono (by decide)).within_eq]

theorem exec_resetRelease_of_whole {s : State} {x : ReleaseIn} (h : s.boot.phase = .powered) (hcut : x.cut = none) :
    ∃ u, StartKept (s.stepFuses x) u
      ∧ exec (.resetRelease x) s = .next (s.within startParts (u.stop ((s.stepFuses x).releasePhase x))) := by
  have hexec : exec (.resetRelease x) s = .next (s.within startParts (
      if x.fuseMismatch then (s.stepFuses x).stop (.stopped 1)
      else if x.scanEn then (s.stepFuses x).stop .scanHold
      else if (s.stepFuses x).boot.mode = 3 ∧ (s.stepFuses x).boot.life ≠ .returned then (s.stepFuses x).stop .refused
      else (s.stepFuses x).stepsOn x)) := by
    change execResetRelease x s = _
    rw [execResetRelease, if_neg (not_not_intro h), hcut]
  have hrefl : StartKept (s.stepFuses x) (s.stepFuses x) := startKept_of_confined (confined_refl [] _) (by decide)
  obtain ⟨u, hkept, hsteps⟩ := stepsOn_eq_stop (s.stepFuses x) x
  rw [hexec, hsteps]
  unfold State.releasePhase
  split_ifs
  · exact ⟨_, hrefl, rfl⟩
  · exact ⟨_, hrefl, rfl⟩
  · exact ⟨_, hrefl, rfl⟩
  · exact ⟨u, hkept, rfl⟩

/-- What a start-up leaves (R584): straps as sampled, the transition made, EPOCH counted, and the phase. -/
structure Released (x : ReleaseIn) (s t : State) : Prop where
  mode     : t.boot.mode = x.mode % 4
  pairSel  : t.boot.pairSel = x.pairSel
  scan     : t.boot.scanEn = x.scanEn
  groups   : t.nv.groups = s.nv.transit.groups
  pending  : t.nv.pendingLife = none
  life     : t.boot.life = lifeOf s.nv.transit.groups
  epoch    : t.nv.epoch = min 0xFFFFFF (s.nv.epoch + 1)
  security : t.nv.security = s.nv.security
  nextQ    : t.boot.nextQ = 1024 * s.nv.attestBlocks
  seconds  : t.grp.seconds = s.nv.transit.restoredSeconds
  phase    : t.boot.phase = (s.stepFuses x).releasePhase x
  member   : t.mem = s.mem
  leaves   : t.nv.attestBlocks = s.nv.attestBlocks

theorem exec_resetRelease {s : State} {x : ReleaseIn} (h : s.boot.phase = .powered) (hcut : x.cut = none) :
    ∃ t, exec (.resetRelease x) s = .next t ∧ Released x s t := by
  obtain ⟨u, hkept, hexec⟩ := exec_resetRelease_of_whole h hcut
  obtain ⟨hmode, hsel, hscan, hlife, hnext, hgroups, hsecurity, hepoch, hpending, hseconds, hleaves⟩ := hkept
  obtain ⟨hnone, hkeptEpoch, hkeptSecurity, hkeptLeaves, -⟩ := transit_keeps s.nv
  refine ⟨_, hexec, ?_⟩
  constructor <;> simp only [startParts, groupParts, bodyParts, State.stop, within_boot_mode, within_boot_pairSel, within_boot_scanEn,
    within_boot_life, within_boot_phase, within_boot_nextQ, within_nv_groups, within_nv_pendingLife, within_nv_epoch,
    within_nv_security, within_nv_attestBlocks, within_grp_seconds, within_mem, *] <;> simp
  case mode => rfl
  case pairSel => rfl
  case scan => rfl
  case groups => rfl
  case pending => exact hnone
  case life => rfl
  case epoch => exact congrArg (fun n => min 0xFFFFFF (n + 1)) hkeptEpoch
  case security => exact hkeptSecurity
  case nextQ => exact congrArg (1024 * ·) hkeptLeaves
  case seconds => rfl
  case leaves => exact hkeptLeaves

theorem startPhase_spec (s : State) (x : ReleaseIn) : (s.startPhase x = .ready → s.boot.life ≠ .retired)
    ∧ (s.startPhase x = .retired → s.boot.life = .retired) ∧ s.startPhase x ≠ .running := by
  unfold State.startPhase
  cases s.nv.pickCopy x with
  | none => simp
  | some q =>
    dsimp only
    split_ifs <;> simp_all

/-- A started module has the straps and the life cycle under which it runs, a retired one is RETIRED (R451, R550, R587). -/
theorem releasePhase_spec (s : State) (x : ReleaseIn) :
    (s.releasePhase x = .ready → x.scanEn = false ∧ (s.boot.mode = 3 → s.boot.life = .returned) ∧ s.boot.life ≠ .retired)
    ∧ (s.releasePhase x = .retired → s.boot.life = .retired) ∧ s.releasePhase x ≠ .running := by
  obtain ⟨hready, hretired, hnot⟩ := startPhase_spec s x
  unfold State.releasePhase
  split_ifs with hfuse hscan hmode
  · simp
  · simp
  · simp
  · exact ⟨fun h => ⟨by simpa using hscan, fun hm => by_contra fun hl => hmode ⟨hm, hl⟩, hready h⟩, hretired, hnot⟩

theorem stepFuses_boot (s : State) (x : ReleaseIn) :
    (s.stepFuses x).boot.mode = x.mode % 4 ∧ (s.stepFuses x).boot.life = lifeOf s.nv.transit.groups := ⟨rfl, rfl⟩

theorem Released.keepsSound {x : ReleaseIn} {s t : State} (h : Sound s) (hoff : s.boot.phase = .powered) (hr : Released x s t) :
    KeepsSound s t := by
  obtain ⟨hmode, hlife⟩ := stepFuses_boot s x
  obtain ⟨hready, hretired, hnot⟩ := releasePhase_spec (s.stepFuses x) x
  rw [hmode, hlife, ← hr.mode, ← hr.scan, ← hr.life] at hready
  rw [hlife, ← hr.life] at hretired
  rw [← hr.phase] at hready hretired hnot
  refine ⟨⟨?_, ?_, ?_, ?_, ?_, hretired, ?_⟩, ⟨?_, ?_, ?_, ?_⟩⟩
  · exact hr.groups ▸ transit_le s.nv h.fuses
  · rw [hr.epoch]
    exact min_le_left ..
  · rw [hr.life, hr.groups]
  · rw [hr.mode]
    exact Nat.mod_lt _ (by decide)
  · rintro (hrun | hrdy)
    · exact absurd hrun hnot
    · exact hready hrdy
  · rw [hr.member]
    exact fun _ => h.member (by simp [hoff])
  · rw [hr.groups]
    exact le_transit s.nv
  · exact hr.security.ge
  · rw [hr.epoch]
    have := h.epoch
    omega
  · intro hl
    rw [hr.life]
    exact lifeOf_retired_mono (le_transit s.nv) (h.life ▸ hl)

theorem cutOff_keepsSound {s : State} (h : Sound s) (hoff : s.boot.phase = .powered) (n : Nat) : KeepsSound s (s.cutOff n) := by
  obtain ⟨pending, hcut⟩ := cutTransit_eq s.nv n
  have hgroups : (s.cutOff n).nv.groups = (s.nv.blowGroup n).groups := by rw [State.cutOff, hcut]
  have hepoch : (s.cutOff n).nv.epoch = s.nv.epoch := by rw [State.cutOff, hcut, blowGroup_epoch]
  have hsecurity : (s.cutOff n).nv.security = s.nv.security := by rw [State.cutOff, hcut, blowGroup_security]
  have hle : ∀ i : Fin 4, s.nv.groups[i.val] ≤ (s.cutOff n).nv.groups[i.val] := hgroups ▸ le_blowGroup s.nv n
  refine ⟨⟨hgroups ▸ blowGroup_le s.nv n h.fuses, hepoch ▸ h.epoch, rfl, h.straps, by simp [State.cutOff], by simp [State.cutOff],
    fun _ => h.member (by simp [hoff])⟩, ⟨hle, hsecurity.ge, hepoch.ge, fun hl => ?_⟩⟩
  exact lifeOf_retired_mono hle (h.life ▸ hl)

theorem resetRelease_keepsSound {x : ReleaseIn} {s t : State} (h : Sound s) (hexec : exec (.resetRelease x) s = .next t) :
    KeepsSound s t := by
  by_cases hoff : s.boot.phase = .powered
  · cases hcut : x.cut with
    | none =>
      obtain ⟨u, hu, hr⟩ := exec_resetRelease hoff hcut
      rw [hu] at hexec
      cases hexec
      exact hr.keepsSound h hoff
    | some n =>
      rw [exec_resetRelease_of_cut hoff hcut] at hexec
      cases hexec
      exact cutOff_keepsSound h hoff n
  · rw [exec_resetRelease_of_off x hoff] at hexec
    cases hexec
    exact keepsSound_refl h

/-! ## The first Calends (R585, R591–R593) -/

/-- The state in which the control plane starts: frame 0, and the fuse counter of the image that runs (R563). -/
def State.started (s : State) : State :=
  { s with boot := { s.boot with phase := .running }, grp := { s.grp with frame := 0, fis := 0 },
           nv := s.nv.blowSecurity s.boot.security }

theorem exec_firstCalends_of_ready {s : State} (hd : Bool) (h : s.boot.phase = .ready) : exec (.firstCalends hd) s =
    .next (s.within ([.straps, .fuses] ++ frameParts) (s.started.within phaseParts (s.started.firstWork hd))) := by
  change execFirstCalends hd s = _
  rw [execFirstCalends, if_neg (not_not_intro h)]
  rfl

theorem exec_firstCalends_of_not_ready {s : State} (hd : Bool) (h : s.boot.phase ≠ .ready) : exec (.firstCalends hd) s = .next s :=
  exec_of_effect_eq rfl (if_pos h)

/-- What the first Calends leaves: the control plane runs, and the rest of what a start-up decided stands. -/
theorem exec_firstCalends {s : State} (hd : Bool) (h : s.boot.phase = .ready) : ∃ t, exec (.firstCalends hd) s = .next t
    ∧ t.boot.phase = .running ∧ t.boot.mode = s.boot.mode ∧ t.boot.scanEn = s.boot.scanEn ∧ t.boot.life = s.boot.life
    ∧ t.grp.frame = 0 ∧ t.nv.groups = s.nv.groups ∧ t.nv.epoch = s.nv.epoch
    ∧ t.nv.security = max s.nv.security s.boot.security ∧ t.mem = (s.started.firstWork hd).mem := by
  refine ⟨_, exec_firstCalends_of_ready hd h, ?_⟩
  simp [frameParts, groupParts, portParts, bodyParts, phaseParts, State.started, Nv.blowSecurity]

theorem firstCalends_keepsSound {hd : Bool} {s t : State} (h : Sound s) (hexec : exec (.firstCalends hd) s = .next t) :
    KeepsSound s t := by
  by_cases hready : s.boot.phase = .ready
  · obtain ⟨u, hu, hphase, hmode, hscan, hlife, -, hgroups, hepoch, hsecurity, -⟩ := exec_firstCalends hd hready
    rw [hu] at hexec
    cases hexec
    refine ⟨⟨hgroups ▸ h.fuses, hepoch ▸ h.epoch, by rw [hlife, hgroups, h.life], hmode ▸ h.straps, fun _ => ?_, ?_, ?_⟩,
      ⟨fun g => by rw [hgroups], hsecurity ▸ le_max_left .., hepoch.ge, fun hr => hlife.trans hr⟩⟩
    · rw [hscan, hmode, hlife]
      exact h.started (.inr hready)
    · simp [hphase]
    · simp [hphase]
  · rw [exec_firstCalends_of_not_ready hd hready] at hexec
    cases hexec
    exact keepsSound_refl h

theorem confined_firstLockouts (s : State) : Confined [.cars, .sg] s s.firstLockouts := by
  refine confined_foldl (fun s c => ?_) _ s
  dsimp only
  split_ifs
  · exact Confined.trans (confined_of_within_eq rfl) ((confined_modSafe ..).mono (by decide))
  · exact confined_refl ..

theorem firstRings_boot (s : State) : s.firstRings.boot = s.boot := by
  unfold State.firstRings
  split <;> rfl

/-- A standby of a pair starts without HOLD (R421). -/
theorem firstHold_syncing {s : State} {hd : Bool} (hpair : s.boot.pair.paired = true)
    (hstandby : s.boot.pairSel = true ∨ hd = true) :
    (s.firstHold hd).mem.state = .syncing ∧ (s.firstHold hd).boot = s.boot := by
  have hhold : (!s.boot.pair.paired || (!s.boot.pairSel && !hd)) = false := by
    obtain h | h := hstandby <;> simp [hpair, h]
  rw [State.firstHold, if_neg (by simp [hhold])]
  exact ⟨rfl, rfl⟩

/-- A standby's first Calends ends with its HOLD test: the first frame is the holder's. -/
theorem firstWork_syncing {s : State} {hd : Bool} (hpair : s.boot.pair.paired = true) (hstandby : s.boot.pairSel = true ∨ hd = true)
    (hheld : s.boot.heldKind = 0) : (s.firstWork hd).mem.state = .syncing := by
  have hrings := firstRings_boot s
  obtain ⟨hstate, hboot⟩ := firstHold_syncing (s := s.firstRings) (hd := hd) (by rwa [hrings]) (by rwa [hrings])
  have hlock := confined_firstLockouts (s.firstRings.firstHold hd)
  have hmem : (s.firstRings.firstHold hd).firstLockouts.mem.state = .syncing := by rw [← hlock.2 .member (by decide), hstate]
  have hkind : (s.firstRings.firstHold hd).firstLockouts.boot.heldKind = 0 := by
    rw [hlock.boot_eq (by decide), hboot, hrings, hheld]
  rw [State.firstWork, State.firstAdmission, if_pos hkind, if_neg (by simp [State.holds, hmem]), hmem]

/-! ## Every step (R588) -/

theorem powers_keepsSound {i : Instr} {s t : State} (h : Sound s) (hi : Laws.Rare.powers i = true) (hexec : exec i s = .next t) :
    KeepsSound s t := by
  unfold Laws.Rare.powers at hi
  split at hi
  case h_1 => exact powerGood_keepsSound h hexec
  case h_2 =>
    rw [exec_brownOut] at hexec
    cases hexec
    exact afterReset_keepsSound h 0 (.inl rfl)
  case h_3 cause =>
    rw [exec_reset] at hexec
    cases hexec
    exact reboot_keepsSound h cause
  case h_4 cc =>
    rw [exec_watchdog] at hexec
    cases hexec
    exact failModule_keepsSound h ..
  case h_5 m =>
    rw [exec_memoryUncorrectable] at hexec
    cases hexec
    exact readWords_keepsSound h ..
  case h_6 ms =>
    rw [exec_patrolScrub] at hexec
    cases hexec
    have hpass := counts_keepsSound h (confined_countPass s)
    split_ifs
    · exact hpass.trans (readWords_keepsSound hpass.1 ..)
    · exact keepsSound_refl h
  case h_7 x => exact resetRelease_keepsSound h hexec
  case h_8 hd => exact firstCalends_keepsSound h hexec
  case h_9 => cases hi

theorem exec_keepsSound {i : Instr} {s t : State} (h : Sound s) (hexec : exec i s = .next t) : KeepsSound s t := by
  cases hi : Laws.Rare.powers i
  · exact keepsSound_of_not_powers h hi hexec
  · exact powers_keepsSound h hi hexec

theorem step_keepsSound {s t : State} (h : Sound s) (hstep : step s = .next t) : KeepsSound s t := by
  rw [step] at hstep
  split at hstep
  · cases hstep
    exact keepsSound_refl h
  next c rest hq =>
    have hrest : KeepsSound s { s with pending := rest } := keepsSound_of_same h ⟨rfl, rfl, rfl, rfl, rfl, rfl, rfl, fun _ => rfl⟩
    exact hrest.trans (exec_keepsSound hrest.1 hstep)

end Sys2Proof.Machine

namespace Sys2Proof.Proofs

open Sys2Proof Sys2Proof.Machine

/-- Settles O5: outside power, reset and start-up no command reaches straps, fuses or EPOCH, and the pair's events ask for a running
control plane; each of the others is held to what it makes of them. -/
theorem soundKept : Obligations.SoundKept := by
  unfold Obligations.SoundKept
  exact fun s t h hstep => (step_keepsSound h hstep).1

/-- Settles O7: a transition blows fuses, the first Calends raises the security version, a start-up counts EPOCH, and every other
command leaves them; LIFE is read from the fuses. -/
theorem nothingUnblown : Obligations.NothingUnblown := by
  unfold Obligations.NothingUnblown
  intro s t h hstep
  obtain ⟨hgroups, hsecurity, hepoch, hretired⟩ := (step_keepsSound h hstep).2
  exact ⟨hgroups, hsecurity, hepoch, hretired⟩

/-- Settles O8: the start-up comes to the phase that its tests give, with what step 1 made; the first Calends keeps what the start-up
decided, and where the member is a standby its HOLD test leaves it SYNCING. -/
theorem startUp : Obligations.StartUp := by
  unfold Obligations.StartUp
  refine ⟨fun s hoff => ⟨_, exec_powerGood_of_off hoff, rfl⟩, fun x s hoff hcut => ?released, fun x n s hoff hcut => ?cut,
    fun hd s hready => ?first⟩
  case released =>
    obtain ⟨t, hexec, hr⟩ := exec_resetRelease hoff hcut
    refine ⟨t, hexec, hr.mode, hr.pairSel, hr.scan, hr.groups, hr.pending, ?_, hr.epoch, ?_, hr.seconds, ?_⟩
    · rw [hr.life, hr.groups]
    · rw [hr.nextQ, hr.leaves]
    · rw [hr.phase, hr.life]
      rfl
  case cut =>
    obtain ⟨pending, hcutNv⟩ := cutTransit_eq s.nv n
    refine ⟨_, exec_resetRelease_of_cut hoff hcut, rfl, rfl, lifeOf_cutTransit s.nv n, ?_, rfl, ?_⟩
    · rw [State.cutOff, hcutNv]
      exact le_blowGroup s.nv n
    · rw [State.cutOff, hcutNv, blowGroup_epoch]
  case first =>
    obtain ⟨t, hexec, hphase, hmode, -, hlife, hframe, -, -, hsecurity, hmem⟩ := exec_firstCalends hd hready
    refine ⟨t, hexec, hphase, hmode, hlife, hframe, hsecurity, fun hpair hstandby hheld => ?_⟩
    rw [hmem]
    exact firstWork_syncing hpair hstandby hheld

end Sys2Proof.Proofs

/-! PROOFS. Resets and the memory code (R569–R572, R582, R583), the module's time (R532, R533, R539) and the test access port
(R549–R551). -/

namespace Sys2Proof.Machine

open Sys2Proof

/-! ## What a reset leaves of the banks (R571) -/

theorem timerExpires_expired (s : State) {b b' : BankId}
    (h : b' = b ∨ s.io.banks[b.val].timerExpired = true) : (s.timerExpires b').io.banks[b.val].timerExpired = true := by
  simp only [State.timerExpires, modBank_io_banks, Vector.getElem_set]
  split
  · rfl
  · next hne => exact h.resolve_left fun he => hne (congrArg Fin.val he)

theorem foldl_timerExpires_expired (l : List BankId) (s : State) {b : BankId}
    (h : b ∈ l ∨ s.io.banks[b.val].timerExpired = true) :
    (l.foldl State.timerExpires s).io.banks[b.val].timerExpired = true := by
  induction l generalizing s with
  | nil => exact h.resolve_left List.not_mem_nil
  | cons b' l ih =>
    refine ih _ ?_
    rw [List.mem_cons, or_assoc] at h
    obtain rfl | h | h := h
    · exact .inr (timerExpires_expired s (.inl rfl))
    · exact .inl h
    · exact .inr (timerExpires_expired s (.inr h))

theorem expiredBanks_spec (s : State) (b : BankId) :
    s.expiredBanks[b.val].timerExpired = true ∧ s.expiredBanks[b.val].gateOpen = false := by
  simp only [State.expiredBanks, Vector.getElem_map, and_true]
  exact foldl_timerExpires_expired _ s (.inl (List.mem_finRange b))

/-! ## A module that fails (R424, R426, R571, R572) -/

theorem up_of_running {s : State} (h : s.running = true) : s.up = true := by simp [State.up, h]

theorem on_of_running {s : State} (h : s.running = true) : s.boot.phase ≠ .off := by
  intro hoff
  simp [State.running, hoff] at h

theorem failModule_of_single {s : State} (hrun : s.running = true) (hsingle : s.boot.pair.paired = false) (code : Nat)
    (cause : ResetCause) : s.failModule code cause = s.reboot cause := by
  rw [State.failModule, if_neg (by simp [up_of_running hrun]), if_neg (by simp [hsingle])]

theorem failModule_of_paired {s : State} (hrun : s.running = true) (hpair : s.boot.pair.paired = true) (code : Nat)
    (cause : ResetCause) : s.failModule code cause = s.causeRelease code := by
  rw [State.failModule, if_neg (by simp [up_of_running hrun]), if_pos (by simp [hrun, hpair])]

theorem causeRelease_of_holder {s : State} (hpair : s.boot.pair.paired = true) (hstate : s.mem.state = .holder)
    (hdue : s.mem.releaseDue = none) (code : Nat) :
    s.causeRelease code = { s with mem := { s.mem with releaseDue := some code } } := by
  rw [State.causeRelease, if_neg (by simp [hpair]), hstate]
  dsimp only [State.modMem]
  rw [hdue]

/-- A standby with a cause of codes 17 to 33 (R426). -/
theorem causeRelease_of_standby {s : State} (hpair : s.boot.pair.paired = true)
    (hstate : s.mem.state = .vigil ∨ s.mem.state = .syncing) {code : Nat} (hcode : 17 ≤ code ∧ code ≤ 33) :
    s.causeRelease code = { s with mem := { s.mem with state := .released, vigilReady := false, completeRun := 0 } } := by
  rw [State.causeRelease, if_neg (by simp [hpair])]
  obtain h | h := hstate <;> rw [h] <;> exact if_pos hcode

/-! ## Words as they are read (R569–R571) -/

theorem satAdd_zero {w v : Nat} (h : v < 2 ^ w) : satAdd w v 0 = v := by
  rw [satAdd]
  omega

theorem satAdd_one (w v : Nat) : satAdd w v 1 = satInc w v := by
  unfold satAdd satInc
  split_ifs <;> omega

theorem countReads_singleton (r : WordRead) (m : MemWord) : countReads r [m] = if m.read = r then 1 else 0 := by
  by_cases h : m.read = r <;> simp [countReads, h]

theorem countReads_eq_zero {ms : List MemWord} (h : ∀ m ∈ ms, m.read ≠ .uncorrectable) : countReads .uncorrectable ms = 0 := by
  simp only [countReads, List.length_eq_zero_iff, List.filter_eq_nil_iff, beq_iff_eq]
  exact h

theorem countReads_ne_zero {ms : List MemWord} {m : MemWord} (hm : m ∈ ms) (h : m.read = .uncorrectable) :
    countReads .uncorrectable ms ≠ 0 := by
  simp only [countReads, ne_eq, List.length_eq_zero_iff, List.filter_eq_nil_iff, not_forall, beq_iff_eq, not_not]
  exact ⟨m, hm, h⟩

theorem countWords_zero {s : State} (hcache : s.boot.cacheCorrected < 2 ^ 32) (hdram : s.boot.dramCorrected < 2 ^ 32) (cache : Bool) :
    s.countWords cache 0 = s := by
  cases cache
  · rw [State.countWords, if_neg (by decide), satAdd_zero hdram]
  · rw [State.countWords, if_pos rfl, satAdd_zero hcache]

/-- A single word beyond correction fails the module, with no word counted. -/
theorem readWords_uncorrectable {m : MemWord} (hm : m.read = .uncorrectable) {s : State} (hrun : s.running = true) :
    s.readWords m.cache [m] = (s.countWords m.cache 0).failModule 32 .memory := by
  rw [readWords_of_up (up_of_running hrun), countReads_singleton, countReads_singleton, if_pos hm, if_neg (by decide),
    if_neg (by simp [hm])]

theorem readWords_correctable {m : MemWord} (hm : m.read ≠ .uncorrectable) {s : State} (hrun : s.running = true) :
    s.readWords m.cache [m] = s.countWords m.cache (if m.read = .corrected then 1 else 0) := by
  rw [readWords_of_up (up_of_running hrun), countReads_singleton, countReads_singleton, if_neg hm, if_pos rfl]

@[simp] theorem countWords_running (s : State) (cache : Bool) (n : Nat) : (s.countWords cache n).running = s.running := by
  cases cache <;> rfl

@[simp] theorem countWords_pair (s : State) (cache : Bool) (n : Nat) : (s.countWords cache n).boot.pair = s.boot.pair := by
  cases cache <;> rfl

theorem foldl_timerExpires_boot (l : List BankId) (s : State) (b : Boot) :
    l.foldl State.timerExpires { s with boot := b } = { l.foldl State.timerExpires s with boot := b } := by
  induction l generalizing s with
  | nil => rfl
  | cons c l ih => exact ih (s.timerExpires c)

/-- A memory reset forgets the start-up state, what it has counted with it. -/
theorem reboot_memory_of_boot {s : State} (hon : s.boot.phase ≠ .off) {b : Boot} (hb : b.phase ≠ .off) :
    ({ s with boot := b } : State).reboot .memory = s.reboot .memory := by
  have hbanks : ({ s with boot := b } : State).expiredBanks = s.expiredBanks := by
    rw [State.expiredBanks, eachPort, foldl_timerExpires_boot]
    rfl
  rw [reboot_of_memory hon, reboot_of_memory (s := { s with boot := b }) hb, hbanks]
  rfl

theorem countWords_eq (s : State) (cache : Bool) (n : Nat) : ∃ b : Boot, s.countWords cache n = { s with boot := b }
    ∧ b.phase = s.boot.phase := by
  cases cache <;> exact ⟨_, rfl, rfl⟩

/-- A word beyond correction resets a single module as a memory reset does, whatever was counted with it (R571). -/
theorem readWords_of_single {s : State} (hrun : s.running = true) (hsingle : s.boot.pair.paired = false) {ms : List MemWord}
    {m : MemWord} (hm : m ∈ ms) (hread : m.read = .uncorrectable) (cache : Bool) : s.readWords cache ms = s.reboot .memory := by
  have hon := on_of_running hrun
  rw [readWords_of_up (up_of_running hrun), if_neg (countReads_ne_zero hm hread),
    failModule_of_single (by simpa using hrun) (by simpa using hsingle)]
  obtain ⟨b, hb, hphase⟩ := countWords_eq s cache (countReads .corrected ms)
  rw [hb, reboot_memory_of_boot hon (hphase ▸ hon)]

/-! ## The code corrects at most three symbols (R569) -/

/-- A word with the errors at some places taken off. -/
def correctAt (l : List (Nat × Byte)) (w : List Byte) : List Byte := l.foldl (fun w q => w.set q.1 (w.getD q.1 0 ^^^ q.2)) w

theorem length_correctAt (l : List (Nat × Byte)) (w : List Byte) : (correctAt l w).length = w.length := by
  induction l generalizing w with
  | nil => rfl
  | cons q l ih => exact (ih _).trans (List.length_set ..)

theorem getD_correctAt_of_not_mem {l : List (Nat × Byte)} {i : Nat} (h : i ∉ l.map Prod.fst) (w : List Byte) :
    (correctAt l w).getD i 0 = w.getD i 0 := by
  induction l generalizing w with
  | nil => rfl
  | cons q l ih =>
    simp only [List.map_cons, List.mem_cons, not_or] at h
    refine (ih h.2 _).trans ?_
    simp [List.getD_eq_getElem?_getD, List.getElem?_set_ne (Ne.symm h.1)]

/-- So many corrections change a word in at most so many places. -/
theorem countP_correctAt_le (l : List (Nat × Byte)) (w : List Byte) (n : Nat) :
    ((List.range n).countP fun i => (correctAt l w).getD i 0 != w.getD i 0) ≤ l.length := by
  rw [List.countP_eq_length_filter, ← List.length_map (f := Prod.fst)]
  refine ((List.nodup_range.filter _).subperm fun i hi => ?_).length_le
  rw [List.mem_filter, bne_iff_ne] at hi
  exact by_contra fun h => hi.2 (getD_correctAt_of_not_mem h w)

/-- What the decoder makes of a word that is no codeword (R569): a codeword of its length within three symbols of it. -/
theorem rsDecode_spec {w x : List Byte} (h : rsDecode w = some x) (hne : x ≠ w) : isCodeword x = true ∧ x.length = w.length
    ∧ ∀ n, ((List.range n).countP fun i => x.getD i 0 != w.getD i 0) ≤ 3 := by
  unfold rsDecode at h
  dsimp only at h
  split_ifs at h with hcode
  · exact absurd (Option.some.inj h).symm hne
  · obtain ⟨n, hn, hfix⟩ := List.exists_of_findSome?_eq_some h
    split_ifs at hfix with hplaces
    obtain ⟨hput, hword⟩ := Option.filter_eq_some_iff.mp hfix
    obtain ⟨es, -, rfl⟩ := Option.map_eq_some_iff.mp hput
    refine ⟨hword, length_correctAt .., fun m => (countP_correctAt_le ..).trans ?_⟩
    rw [List.length_zip, hplaces]
    simp only [List.mem_cons, List.not_mem_nil, or_false] at hn
    omega

/-- A word is read as corrected where its decoder's codeword differs from it and has its address symbols (R569, R571). -/
theorem read_eq_corrected {m : MemWord} (h : m.read = .corrected) :
    let w := padTo 32 m.data ++ addressSymbols m.addr ++ padTo 6 m.check
    ∃ x, rsDecode w = some x ∧ x ≠ w ∧ (x.drop 32).take 2 = addressSymbols m.addr := by
  unfold MemWord.read at h
  dsimp only at h ⊢
  split at h
  · cases h
  · next x hx =>
    split_ifs at h with hclean haddr
    exact ⟨x, hx, hclean, haddr⟩

/-! ## Time (R532, R533, R539) -/

theorem confined_tickSecond (s : State) : Confined [.clock, .member] s s.tickSecond := by
  unfold State.tickSecond
  split
  · exact confined_of_within_eq rfl
  · exact confined_refl ..

theorem exec_secondsTick {s : State} (hrun : s.running = true) : exec .secondsTick s = .next s.tickSecond :=
  exec_of_confined rfl hrun rfl (confined_tickSecond s)

theorem tickSecond_of_early {s : State} (h : s.grp.fis < s.grp.frameLen.perSecond) : s.tickSecond = s :=
  if_neg fun hdue => by omega

theorem exec_recorderFlush (s : State) :
    exec .recorderFlush s = .next { s with nv := { s.nv with recorder := s.nv.recorder.flush } } :=
  exec_of_confined_effect rfl (confined_of_within_eq rfl)

/-! ## The test access port (R549–R551) -/

section

variable (s : State)

theorem confined_setExtest (v : Bool) : Confined [.counts] s (s.setExtest v) := confined_of_within_eq rfl

theorem exec_idcode : exec (.tapInstruction .idcode) s = .next (s.setExtest false) :=
  exec_of_confined_effect rfl (confined_setExtest s false)

theorem exec_bypass : exec (.tapInstruction .bypass) s = .next (s.setExtest false) :=
  exec_of_confined_effect rfl (confined_setExtest s false)

theorem exec_extest : exec (.tapInstruction .extest) s = .next (if s.scanAllowed then s.setExtest true else s) := by
  refine exec_of_confined_effect (ps := [.counts]) rfl ?_
  split_ifs
  · exact confined_setExtest s true
  · exact confined_refl ..

theorem exec_sample : exec (.tapInstruction .sample) s = .next (if s.scanAllowed then s.setExtest false else s) := by
  refine exec_of_confined_effect (ps := [.counts]) rfl ?_
  split_ifs
  · exact confined_setExtest s false
  · exact confined_refl ..

theorem scanAllowed_iff : s.scanAllowed = true
    ↔ s.boot.phase ≠ .off ∧ (s.boot.life = .maker ∨ s.boot.life = .issued ∨ s.boot.phase = .scanHold) := by
  simp only [State.scanAllowed, Bool.and_eq_true, bne_iff_ne, Bool.or_eq_true, beq_iff_eq, ne_eq, and_congr_right_iff]
  tauto

theorem debugAllowed_iff : s.debugAllowed = true ↔ s.running = true ∧ (s.boot.life = .maker ∨ s.boot.life = .issued) := by
  simp [State.debugAllowed]

@[simp] theorem kernel_modKernel (k : SlotId) (f : Kernel → Kernel) : (s.modKernel k f).kernel k = f (s.kernel k) := by
  simp [State.kernel, State.modKernel]

theorem kernel_modKernel_ne {k k' : SlotId} (f : Kernel → Kernel) (h : k' ≠ k) : (s.modKernel k f).kernel k' = s.kernel k' := by
  have hne : k.val ≠ k'.val := fun e => h (Fin.ext e.symm)
  simp [State.kernel, State.modKernel, hne]

theorem exec_debugHalt (k : SlotId) : exec (.tapInstruction (.debugHalt k)) s =
    .next (if s.debugAllowed && (s.kernel k).state != .empty then s.modKernel k fun x => { x with halted := true } else s) := by
  refine exec_of_confined_effect (ps := [.kernels]) rfl ?_
  split_ifs
  · exact confined_modKernel ..
  · exact confined_refl ..

theorem exec_debugResume (k : SlotId) : exec (.tapInstruction (.debugResume k)) s =
    .next (if s.debugAllowed then s.modKernel k fun x => { x with halted := false } else s) := by
  refine exec_of_confined_effect (ps := [.kernels]) rfl ?_
  split_ifs
  · exact confined_modKernel ..
  · exact confined_refl ..

end

end Sys2Proof.Machine

namespace Sys2Proof.Proofs

open Sys2Proof Sys2Proof.Machine

/-- Settles O32: a tick is due by FRAME_IN_SECOND alone, and the save and the flush each change one field of NAND. -/
theorem timeKept : Obligations.TimeKept := by
  unfold Obligations.TimeKept
  refine ⟨fun s hrun hstarted hdue => ⟨_, exec_secondsTick hrun, ?tick⟩, fun s hearly => ?early, fun s hrun => ?save,
    fun s => ⟨_, exec_recorderFlush s, rfl, rfl, fun h => ?opened, fun h => ?closed⟩⟩
  case tick =>
    rw [State.tickSecond, if_pos ⟨hstarted, hdue⟩]
    exact ⟨rfl, rfl⟩
  case early =>
    cases hrun : s.running
    · exact exec_of_not_running rfl hrun
    · rw [exec_secondsTick hrun, tickSecond_of_early hearly]
  case save => exact exec_of_confined rfl hrun rfl (confined_of_within_eq rfl)
  case opened => simp [Recorder.flush, h]
  case closed => simp [Recorder.flush, h]

/-- Settles O33: each instruction changes the pins or one kernel where its permission holds, and nothing elsewhere. -/
theorem testPort : Obligations.TestPort := by
  unfold Obligations.TestPort
  refine ⟨fun s ir hir => ?always, fun s => ⟨fun h => ?allowed, fun h => ?barred⟩, fun k s => ?debugger⟩
  case always =>
    simp only [List.mem_cons, List.not_mem_nil, or_false] at hir
    obtain rfl | rfl := hir
    · exact exec_idcode s
    · exact exec_bypass s
  case allowed =>
    rw [exec_extest, exec_sample, if_pos ((scanAllowed_iff s).mpr h), if_pos ((scanAllowed_iff s).mpr h)]
    exact ⟨rfl, rfl⟩
  case barred =>
    rw [← scanAllowed_iff] at h
    rw [exec_extest, exec_sample, if_neg h, if_neg h]
    exact ⟨rfl, rfl⟩
  case debugger =>
    refine ⟨fun h hloaded => ?_, fun h ir hir => ?_⟩ <;> rw [← debugAllowed_iff] at h
    · rw [exec_debugHalt, exec_debugResume, if_pos (by simp [h, hloaded]), if_pos h]
      exact ⟨⟨_, rfl, kernel_modKernel .., fun k' => kernel_modKernel_ne s _⟩, _, rfl, kernel_modKernel ..,
        fun k' => kernel_modKernel_ne s _⟩
    · simp only [List.mem_cons, List.not_mem_nil, or_false] at hir
      obtain rfl | rfl := hir
      · rw [exec_debugHalt, if_neg (by simp [h])]
      · rw [exec_debugResume, if_neg h]

/-- Settles O30: a reset is `afterReset`, which keeps fuses, NAND and the endpoints; what fails a module is either that reset or the
release that its pair's member is asked for; and a word is corrected only by the decoder's own word. -/
theorem resets : Obligations.Resets := by
  unfold Obligations.Resets
  refine ⟨fun x s hon => ⟨_, exec_reset x s, ?reset⟩, fun x s hoff => ?off, fun s => ⟨_, exec_brownOut s, rfl, rfl, rfl, rfl, rfl, rfl⟩,
    fun s hrun hsingle => ⟨fun cc => ?watchdog, fun m hm => ?word⟩, fun s cc m hrun hpair hm hcache hdram q hq => ?paired,
    fun m s hrun hcache hdram => ?read, fun m hm => ?code, fun ms s hrun hgood => ?patrol, fun ms m s hrun hsingle hmem hm => ?bad⟩
  case reset =>
    by_cases hx : x = .memory
    · subst hx
      rw [reboot_of_memory hon]
      exact ⟨rfl, rfl, rfl, rfl, rfl, rfl, rfl, rfl, rfl, rfl, rfl, fun h => absurd rfl h, fun _ b => expiredBanks_spec s b⟩
    · rw [reboot_of_on hon hx]
      exact ⟨rfl, rfl, rfl, rfl, rfl, rfl, rfl, rfl, rfl, rfl, rfl, fun _ => rfl, fun h => absurd h hx⟩
  case off => rw [exec_reset, reboot_of_off hoff]
  case watchdog =>
    rw [exec_watchdog, failModule_of_single hrun hsingle, exec_reset]
    exact ⟨_, rfl, rfl⟩
  case word =>
    rw [exec_memoryUncorrectable, readWords_of_single hrun hsingle List.mem_cons_self hm, exec_reset]
    exact ⟨_, rfl, rfl⟩
  case paired =>
    have hfail : exec q.1 s = .next (s.causeRelease q.2) ∧ 17 ≤ q.2 ∧ q.2 ≤ 33 := by
      simp only [List.mem_cons, List.not_mem_nil, or_false] at hq
      obtain rfl | rfl := hq
      · rw [exec_watchdog, failModule_of_paired hrun hpair]
        exact ⟨rfl, by norm_num⟩
      · rw [exec_memoryUncorrectable, readWords_uncorrectable hm hrun, countWords_zero hcache hdram, failModule_of_paired hrun hpair]
        exact ⟨rfl, by norm_num⟩
    obtain ⟨hexec, hcode⟩ := hfail
    rw [hexec]
    exact ⟨fun hstate hdue => congrArg _ (causeRelease_of_holder hpair hstate hdue q.2),
      fun hstate => congrArg _ (causeRelease_of_standby hpair hstate hcode)⟩
  case read =>
    refine ⟨fun hm => ?_, fun hm hc => ?_, fun hm hc => ?_⟩
    all_goals rw [exec_memoryUncorrectable, readWords_correctable (by simp [hm]) hrun, hm]
    · exact congrArg _ (countWords_zero hcache hdram m.cache)
    · rw [hc, State.countWords, if_pos rfl, if_pos rfl, satAdd_one]
    · rw [hc, State.countWords, if_neg (by decide), if_pos rfl, satAdd_one]
  case code =>
    obtain ⟨x, hx, hne, haddr⟩ := read_eq_corrected hm
    obtain ⟨hcode, hlen, hcount⟩ := rsDecode_spec hx hne
    exact ⟨x, hcode, by simp [hlen, addressSymbols], hne, hcount 40, haddr⟩
  case patrol =>
    rw [exec_patrolScrub, if_pos (up_of_running hrun), readWords_of_up (up_of_running (s := s.countPass) hrun),
      if_pos (countReads_eq_zero hgood)]
    rfl
  case bad =>
    rw [exec_patrolScrub, if_pos (up_of_running hrun), readWords_of_single (s := s.countPass) hrun hsingle hmem hm, exec_reset,
      show s.countPass.reboot .memory = _ from reboot_memory_of_boot (on_of_running hrun) (on_of_running (s := s.countPass) hrun)]
    exact ⟨_, rfl, rfl⟩

end Sys2Proof.Proofs

/-! PROOFS. The host port's writes: the UL-40 image (R512–R519), the native window (R453–R465), and the canonical form of the rings'
bytes. -/

namespace Sys2Proof.Machine

open Sys2Proof

/-! ## The UL-40 image (R515, R518, R519) -/

/-- A staged write of a register of a car's image (R515). -/
def Deferred.writes (car : CarId) (reg : Nat) : Deferred → Bool
  | .image c r _ => c == car && r == reg
  | _ => false

/-- What of the staged changes a write of a register leaves (R515). -/
def keepOthers (car : CarId) (reg : Nat) (l : List Deferred) : List Deferred := l.filter fun d => !d.writes car reg

theorem writes_iff {car : CarId} {reg : Nat} {d : Deferred} : d.writes car reg = true ↔ ∃ n, d = .image car reg n := by
  cases d <;> simp [Deferred.writes]

section

variable {s : State} {car : CarId} (reg : Nat) (v : BitVec 16)

theorem imageWrite_of_down (h : s.imageUp car = false) : imageWrite car reg v s = s := if_pos (by simp [h])

theorem imageWrite_of_up (h : s.imageUp car = true) (hreg : imageWs reg = true) : imageWrite car reg v s =
    let t := s.modUl car fun u => { u with writes := satInc 32 u.writes }
    { t with grp := { t.grp with deferred := keepOthers car reg s.grp.deferred ++ [.image car reg v.toNat] } } := by
  have hkeep : s.grp.deferred.filter (fun d => match d with
      | .image c r _ => !(c == car && r == reg)
      | _ => true) = keepOthers car reg s.grp.deferred := by
    refine List.filter_congr fun d _ => ?_
    cases d <;> rfl
  rw [imageWrite, if_neg (by simp [h]), if_neg (by simp [hreg])]
  dsimp only [State.stage]
  rw [← hkeep]
  rfl

theorem confined_modUl (s : State) (c : CarId) (f : Ul40 → Ul40) : Confined [.cars] s (s.modUl c f) := confined_modCar ..

@[simp] theorem car_modUl (s : State) (c : CarId) (f : Ul40 → Ul40) :
    (s.modUl c f).car c = { s.car c with ul40 := f (s.car c).ul40 } := car_modCar ..

theorem confined_imageWrite (s : State) (car : CarId) : Confined [.cars, .deferred] s (imageWrite car reg v s) := by
  unfold imageWrite
  dsimp only
  split_ifs
  · exact confined_refl ..
  · exact (confined_modUl ..).mono (by decide)
  · exact ((confined_modUl ..).mono (by decide)).trans (confined_of_within_eq rfl)

end

/-- The writes of an image by their commands, each with its register (R517). -/
def imageWrites (c : CarId) (v : BitVec 16) : List (Instr × Nat) :=
  [(.doorCmdOpen c v, 0x0E), (.doorCmdClose c v, 0x0E), (.doorCmdStop c v, 0x0E), (.stopCmdAdd c v, 0x0F), (.stopCmdRemove c v, 0x0F),
    (.stopCmdClearTarget c v, 0x0F), (.serviceCmd c v, 0x11), (.vmaxCmd c v, 0x12), (.outWord c v, 0x14), (.dwell c v, 0x0B),
    (.accessDwell c v, 0x0C), (.nudgeCount c v, 0x0D)]

theorem exec_imageWrites {c : CarId} {v : BitVec 16} {q : Instr × Nat} (hq : q ∈ imageWrites c v) (s : State) :
    exec q.1 s = .next (imageWrite c q.2 v s) ∧ imageWs q.2 = true := by
  have hwithin : exec q.1 s = .next (s.within [.cars, .deferred] (imageWrite c q.2 v s)) ∧ imageWs q.2 = true := by
    simp only [imageWrites, List.mem_cons, List.not_mem_nil, or_false] at hq
    obtain rfl | rfl | rfl | rfl | rfl | rfl | rfl | rfl | rfl | rfl | rfl | rfl := hq <;> exact ⟨rfl, rfl⟩
  exact ⟨exec_of_confined_effect hwithin.1 (confined_imageWrite ..), hwithin.2⟩

/-- A write of a register of an image that serves (R515). -/
theorem imageWrite_spec {s : State} {c : CarId} {reg : Nat} (v : BitVec 16) (h : s.imageUp c = true) (hreg : imageWs reg = true) :
    ((imageWrite c reg v s).car c).ul40 = { (s.car c).ul40 with writes := satInc 32 (s.car c).ul40.writes }
      ∧ (imageWrite c reg v s).grp.deferred = keepOthers c reg s.grp.deferred ++ [.image c reg v.toNat] := by
  rw [imageWrite_of_up reg v h hreg]
  exact ⟨congrArg Car.ul40 (car_modUl s c fun u => { u with writes := satInc 32 u.writes }), rfl⟩

theorem keepOthers_spec (c : CarId) (reg : Nat) (l : List Deferred) : (keepOthers c reg l).Sublist l
    ∧ (∀ n : Nat, Deferred.image c reg n ∉ keepOthers c reg l)
    ∧ ∀ d ∈ l, (∀ n : Nat, d ≠ .image c reg n) → d ∈ keepOthers c reg l := by
  refine ⟨List.filter_sublist, fun n hn => ?_, fun d hd hne => ?_⟩
  · have hout := (List.mem_filter.mp hn).2
    simp [writes_iff.mpr ⟨n, rfl⟩] at hout
  · exact List.mem_filter.mpr ⟨hd, by simpa [writes_iff, ← Bool.not_eq_true] using hne⟩

theorem exec_posLoRead (c : CarId) (s : State) : exec (.posLoRead c) s = .next (if s.imageUp c then
    s.modUl c fun u =>
      { u with posHi := ({ s.grp.shownCars[c.val] with ul40 := u } : Car).imagePos / 65536, reads := satInc 32 u.reads }
    else s) := by
  refine exec_of_confined_effect (ps := [.cars]) rfl ?_
  split_ifs
  · exact confined_modUl ..
  · exact confined_refl ..

theorem exec_eventsRead (c : CarId) (s : State) : exec (.eventsRead c) s = .next (if s.imageUp c then
    s.modUl c fun u => { u with events := 0, reads := satInc 32 u.reads } else s) := by
  refine exec_of_confined_effect (ps := [.cars]) rfl ?_
  split_ifs
  · exact confined_modUl ..
  · exact confined_refl ..

/-! ## The native window (R456–R465) -/

section

variable (s : State) (r : RingId) (v : BitVec 16)

theorem confined_modRing (f : Ring → Ring) : Confined [.rings] s (s.modRing r f) := confined_of_within_eq rfl

theorem confined_badIndex : Confined [.rings, .irq] s (s.badIndex r) :=
  ((confined_modRing ..).mono (by decide)).trans ((confined_irqEvent ..).mono (by decide))

theorem confined_writeProd : Confined [.rings, .irq] s (writeProd r v s) := by
  unfold writeProd
  dsimp only
  split_ifs
  · exact (confined_modRing ..).mono (by decide)
  · exact confined_badIndex ..

theorem confined_writeCons : Confined [.rings, .irq] s (writeCons r v s) := by
  unfold writeCons
  dsimp only
  split_ifs
  · exact (confined_modRing ..).mono (by decide)
  · exact confined_badIndex ..

theorem confined_ringDoorbell : Confined [.rings, .irq] s (ringDoorbell r s) := by
  unfold ringDoorbell
  split_ifs
  · exact confined_badIndex ..
  · exact confined_of_within_eq rfl

theorem confined_windowWrite (w : Fin 4) (o : Nat) : Confined [.rings, .irq] s (windowWrite w o v s) := by
  unfold windowWrite
  dsimp only
  split_ifs
  · exact confined_refl ..
  · exact confined_badIndex ..
  · exact ((confined_modRing ..).trans (confined_modRing ..)).mono (by decide)

theorem exec_prodWrite : exec (.prodWrite r v) s = .next (if s.nativeUp then writeProd r v s else s) := by
  refine exec_of_confined_effect (ps := [.rings, .irq]) rfl ?_
  split_ifs
  · exact confined_writeProd ..
  · exact confined_refl ..

theorem exec_consWrite : exec (.consWrite r v) s = .next (if s.nativeUp then writeCons r v s else s) := by
  refine exec_of_confined_effect (ps := [.rings, .irq]) rfl ?_
  split_ifs
  · exact confined_writeCons ..
  · exact confined_refl ..

theorem exec_doorbell : exec (.doorbell r) s = .next (if s.nativeUp then ringDoorbell r s else s) := by
  refine exec_of_confined_effect (ps := [.rings, .irq]) rfl ?_
  split_ifs
  · exact confined_ringDoorbell ..
  · exact confined_refl ..

theorem exec_slotWindowWrite (w : Fin 4) (o : Nat) :
    exec (.slotWindowWrite w o v) s = .next (if s.nativeUp then windowWrite w o v s else s) := by
  refine exec_of_confined_effect (ps := [.rings, .irq]) rfl ?_
  split_ifs
  · exact confined_windowWrite ..
  · exact confined_refl ..

/-- The parts that the native window's words change. -/
def windowParts : List Part := [.cars, .deferred, .rings, .irq, .window]

theorem confined_nativeWrite (a : Nat) : Confined windowParts s (nativeWrite a v s) := by
  have hring : [Part.rings, .irq] ⊆ windowParts := by decide
  have hirq : [Part.irq] ⊆ windowParts := by decide
  have hwindow : [Part.window] ⊆ windowParts := by decide
  unfold nativeWrite
  dsimp only
  split_ifs
  iterate 4 exact (confined_of_within_eq rfl).mono hirq
  iterate 2 exact (confined_of_within_eq rfl).mono hwindow
  · split
    · exact (confined_writeProd ..).mono hring
    · exact (confined_writeCons ..).mono hring
    · exact (confined_modRing ..).mono (by decide)
    · exact confined_refl ..
  · exact (confined_ringDoorbell ..).mono hring
  · exact (confined_windowWrite ..).mono hring
  · exact confined_refl ..

theorem confined_busWrite (b : BusSelect) (a : Nat) : Confined windowParts s (busWrite b a v s) := by
  unfold busWrite
  have hwindow : [Part.window] ⊆ windowParts := by decide
  split_ifs
  · exact (confined_of_within_eq rfl).mono hwindow
  · exact confined_refl ..
  · exact (confined_imageWrite ..).mono (by decide)
  · exact confined_refl ..
  · exact (confined_of_within_eq rfl).mono hwindow
  · exact confined_nativeWrite ..
  · exact confined_refl ..

theorem exec_registerWrite (b : BusSelect) (a : Nat) : exec (.registerWrite b a v) s = .next (busWrite b a v s) :=
  exec_of_confined_effect rfl (confined_busWrite ..)

end

/-! ## The rings' bytes keep their canonical form (R461, R464) -/

/-- Every ring's bytes are in canonical form. -/
def RingsCanonical (s : State) : Prop := ∀ r : RingId, Mem.wf 0 s.host.rings[r.val].data = true

theorem RingsCanonical.of_eq {s t : State} (h : RingsCanonical s) (hrings : t.host.rings = s.host.rings) : RingsCanonical t :=
  fun r => by
    rw [hrings]
    exact h r

theorem RingsCanonical.modRing {s : State} (h : RingsCanonical s) (r : RingId) {f : Ring → Ring}
    (hf : ∀ q, Mem.wf 0 q.data = true → Mem.wf 0 (f q).data = true) : RingsCanonical (s.modRing r f) := by
  intro r'
  simp only [State.modRing, Vector.getElem_set]
  split
  · exact hf _ (h r)
  · exact h r'

theorem RingsCanonical.badIndex {s : State} (h : RingsCanonical s) (r : RingId) : RingsCanonical (s.badIndex r) :=
  (h.modRing r (f := fun q => { q with badIndex := true, badEvents := satInc 32 q.badEvents }) fun _ hq => hq).of_eq rfl

section

variable {s : State} (h : RingsCanonical s) (r : RingId) (v : BitVec 16)

include h

theorem writeProd_canonical : RingsCanonical (writeProd r v s) := by
  unfold writeProd
  dsimp only
  split_ifs
  · exact h.modRing r fun _ hq => hq
  · exact h.badIndex r

theorem writeCons_canonical : RingsCanonical (writeCons r v s) := by
  unfold writeCons
  dsimp only
  split_ifs
  · exact h.modRing r fun _ hq => hq
  · exact h.badIndex r

theorem ringDoorbell_canonical : RingsCanonical (ringDoorbell r s) := by
  unfold ringDoorbell
  split_ifs
  · exact h.badIndex r
  · exact h.of_eq rfl

theorem windowByte_canonical (w : Fin 4) (o : Nat) (b : Byte) : RingsCanonical (windowByte w o b s) :=
  h.modRing _ fun _ hq => Mem.wf_set 0 _ _ hq

theorem windowWrite_canonical (w : Fin 4) (o : Nat) : RingsCanonical (windowWrite w o v s) := by
  unfold windowWrite
  dsimp only
  split_ifs
  · exact h
  · exact h.badIndex _
  · exact windowByte_canonical (windowByte_canonical h w _ _) w _ _

theorem nativeWrite_canonical (a : Nat) : RingsCanonical (nativeWrite a v s) := by
  unfold nativeWrite
  dsimp only
  split_ifs
  iterate 6 exact h.of_eq rfl
  · split
    · exact writeProd_canonical h _ v
    · exact writeCons_canonical h _ v
    · exact h.modRing _ fun _ hq => hq
    · exact h
  · exact ringDoorbell_canonical h _
  · exact windowWrite_canonical h v _ _
  · exact h

theorem busWrite_canonical (b : BusSelect) (a : Nat) : RingsCanonical (busWrite b a v s) := by
  unfold busWrite
  split_ifs
  · exact h.of_eq rfl
  · exact h
  · obtain ⟨hrings, -⟩ := (confined_imageWrite (a / 2 % 64) v s b.cs).2 .rings (by decide)
    exact h.of_eq hrings.symm
  · exact h
  · exact h.of_eq rfl
  · exact nativeWrite_canonical h v a
  · exact h

end

/-! ## The words of the native window at their addresses (R457–R465) -/

section

variable {s : State} (v : BitVec 16)

theorem mode_of_nativeUp (h : s.nativeUp = true) : s.boot.mode = 0 := by
  simp only [State.nativeUp, Bool.and_eq_true, decide_eq_true_eq] at h
  exact h.1

theorem imageMode_of_native (h : s.boot.mode = 0) : s.imageMode = false := by simp [State.imageMode, h]

theorem busWrite_of_native (h : s.nativeUp = true) (a : Nat) : busWrite {} a v s = nativeWrite a v s := by
  have hmode := mode_of_nativeUp h
  rw [busWrite, if_neg (by simp [imageMode_of_native hmode]), if_neg (by simp [hmode]), if_neg (by decide), if_pos h]

theorem nativeWrite_ident {a : Nat} (h : a < 0x100) : nativeWrite a v s = s := by
  have ha : a % 0x20000 / 2 * 2 < 0x100 := by omega
  unfold nativeWrite
  dsimp only
  iterate 8 rw [if_neg (by omega)]

variable (k : Fin 4)

theorem nativeWrite_irqRing : nativeWrite (0x100 + 2 * k.val) v s =
    { s with host := { s.host with irqRing := clear64 s.host.irqRing k.val v } } := by
  have ha : (0x100 + 2 * k.val) % 0x20000 / 2 * 2 = 0x100 + 2 * k.val := by omega
  have hk : (0x100 + 2 * k.val - 0x100) / 2 = k.val := by omega
  unfold nativeWrite
  dsimp only
  simp only [ha]
  rw [if_pos (by omega), hk]

theorem nativeWrite_irqMask : nativeWrite (0x108 + 2 * k.val) v s =
    { s with host := { s.host with irqMask := put64 s.host.irqMask k.val v } } := by
  have ha : (0x108 + 2 * k.val) % 0x20000 / 2 * 2 = 0x108 + 2 * k.val := by omega
  have hk : (0x108 + 2 * k.val - 0x108) / 2 = k.val := by omega
  unfold nativeWrite
  dsimp only
  simp only [ha]
  rw [if_neg (by omega), if_pos (by omega), hk]

theorem nativeWrite_irqEvent : nativeWrite 0x110 v s =
    { s with host := { s.host with irqEvent := s.host.irqEvent &&& ~~~(v.setWidth 6) } } := rfl

theorem nativeWrite_pageRing : nativeWrite (0x120 + 4 * k.val) v s =
    { s with host := { s.host with pageRing := s.host.pageRing.set k.val (v.toNat % 64) } } := by
  fin_cases k <;> simp [nativeWrite]

theorem nativeWrite_pageSlot : nativeWrite (0x122 + 4 * k.val) v s =
    { s with host := { s.host with pageSlot := s.host.pageSlot.set k.val (v.toNat % 4096) } } := by
  fin_cases k <;> simp [nativeWrite]

variable (r : RingId)

theorem nativeWrite_prod : nativeWrite (0x200 + 8 * r.val) v s = writeProd r v s := by
  have ha : (0x200 + 8 * r.val) % 0x20000 / 2 * 2 = 0x200 + 8 * r.val := by omega
  have hr : Fin.ofNat 64 ((0x200 + 8 * r.val - 0x200) / 8) = r := Fin.ext (by simp only [Fin.val_ofNat]; omega)
  have hw : (0x200 + 8 * r.val - 0x200) % 8 = 0 := by omega
  unfold nativeWrite
  dsimp only
  simp only [ha]
  iterate 5 rw [if_neg (by omega)]
  rw [if_pos (by omega), hw, hr]
  rfl

theorem nativeWrite_cons : nativeWrite (0x202 + 8 * r.val) v s = writeCons r v s := by
  have ha : (0x202 + 8 * r.val) % 0x20000 / 2 * 2 = 0x202 + 8 * r.val := by omega
  have hr : Fin.ofNat 64 ((0x202 + 8 * r.val - 0x200) / 8) = r := Fin.ext (by simp only [Fin.val_ofNat]; omega)
  have hw : (0x202 + 8 * r.val - 0x200) % 8 = 2 := by omega
  unfold nativeWrite
  dsimp only
  simp only [ha]
  iterate 5 rw [if_neg (by omega)]
  rw [if_pos (by omega), hw, hr]
  rfl

theorem nativeWrite_doorbell : nativeWrite (0x400 + 2 * r.val) v s = ringDoorbell r s := by
  have ha : (0x400 + 2 * r.val) % 0x20000 / 2 * 2 = 0x400 + 2 * r.val := by omega
  have hr : Fin.ofNat 64 ((0x400 + 2 * r.val - 0x400) / 2) = r := Fin.ext (by simp only [Fin.val_ofNat]; omega)
  unfold nativeWrite
  dsimp only
  simp only [ha]
  iterate 6 rw [if_neg (by omega)]
  rw [if_pos (by omega), hr]

end

/-- Bit `n` of a word put in place `k` of a 64-bit field. -/
theorem getLsbD_shifted (v : BitVec 16) (k : Fin 4) (n : Fin 64) :
    ((v.setWidth 64) <<< (16 * k.val)).getLsbD n.val = (decide (n.val / 16 = k.val) && v.getLsbD (n.val % 16)) := by
  rw [BitVec.getLsbD_shiftLeft, BitVec.getLsbD_setWidth]
  by_cases h : n.val / 16 = k.val
  · have hmod : n.val - 16 * k.val = n.val % 16 := by omega
    have hle : ¬ n.val < 16 * k.val := by omega
    simp [h, hmod, hle]
    omega
  · by_cases hlt : n.val < 16 * k.val
    · simp [h, hlt]
    · have hge : 16 ≤ n.val - 16 * k.val := by omega
      simp [h, BitVec.getLsbD_of_ge v _ hge]

theorem getLsbD_clear64 (x : BitVec 64) (k : Fin 4) (v : BitVec 16) (n : Fin 64) : (clear64 x k.val v).getLsbD n.val =
    (x.getLsbD n.val && !(decide (n.val / 16 = k.val) && v.getLsbD (n.val % 16))) := by
  rw [clear64, BitVec.getLsbD_and, BitVec.getLsbD_not, getLsbD_shifted]
  simp

theorem getLsbD_put64 (x : BitVec 64) (k : Fin 4) (v : BitVec 16) (n : Fin 64) : (put64 x k.val v).getLsbD n.val =
    if n.val / 16 = k.val then v.getLsbD (n.val % 16) else x.getLsbD n.val := by
  have hmask : (0xFFFF#64 <<< (16 * k.val)).getLsbD n.val = decide (n.val / 16 = k.val) := by
    have hall : (0xFFFF#16).getLsbD (n.val % 16) = true := by
      rw [show 0xFFFF#16 = BitVec.allOnes 16 from rfl, BitVec.getLsbD_allOnes]
      simp [Nat.mod_lt]
    rw [show 0xFFFF#64 = (0xFFFF#16).setWidth 64 from rfl, getLsbD_shifted, hall, Bool.and_true]
  rw [put64, BitVec.getLsbD_or, BitVec.getLsbD_and, BitVec.getLsbD_not, hmask, getLsbD_shifted]
  by_cases h : n.val / 16 = k.val <;> simp [h]

end Sys2Proof.Machine

namespace Sys2Proof.Proofs

open Sys2Proof Sys2Proof.Machine

/-- Settles O35: every write of a ring writes its bytes through `Mem.set` or leaves them. -/
theorem ringBytesCanonical : Obligations.RingBytesCanonical := by
  unfold Obligations.RingBytesCanonical
  intro i r v w o b a s t hi hs hexec
  have hcanonical : RingsCanonical s := hs
  suffices RingsCanonical t from this
  simp only [List.mem_cons, List.not_mem_nil, or_false] at hi
  obtain rfl | rfl | rfl | rfl | rfl := hi
  · rw [exec_prodWrite] at hexec
    cases hexec
    split_ifs
    · exact writeProd_canonical hcanonical r v
    · exact hcanonical
  · rw [exec_consWrite] at hexec
    cases hexec
    split_ifs
    · exact writeCons_canonical hcanonical r v
    · exact hcanonical
  · rw [exec_doorbell] at hexec
    cases hexec
    split_ifs
    · exact ringDoorbell_canonical hcanonical r
    · exact hcanonical
  · rw [exec_slotWindowWrite] at hexec
    cases hexec
    split_ifs
    · exact windowWrite_canonical hcanonical v w o
    · exact hcanonical
  · rw [exec_registerWrite] at hexec
    cases hexec
    exact busWrite_canonical hcanonical v b a

/-- Settles O36: the twelve writes are one write of a register, which takes a staged one's place; the reads change the image alone. -/
theorem imageAccesses : Obligations.ImageAccesses := by
  unfold Obligations.ImageAccesses
  refine ⟨fun c v s hup q hq => ?write, fun c v s hdown i hi => ?down, fun c s hup => ⟨_, exec_posLoRead c s, ?latch⟩,
    fun c s hup => ⟨_, exec_eventsRead c s, ?clear⟩⟩
  case write =>
    obtain ⟨hexec, hreg⟩ := exec_imageWrites hq s
    obtain ⟨hcar, hstaged⟩ := imageWrite_spec v hup hreg
    exact ⟨_, hexec, hcar, _, hstaged, keepOthers_spec ..⟩
  case down =>
    have hwrites : ∀ q ∈ imageWrites c v, exec q.1 s = .next s := fun q hq => by
      rw [(exec_imageWrites hq s).1, imageWrite_of_down q.2 v hdown]
    have hread : exec (.posLoRead c) s = .next s := by rw [exec_posLoRead, if_neg (by simp [hdown])]
    have hclear : exec (.eventsRead c) s = .next s := by rw [exec_eventsRead, if_neg (by simp [hdown])]
    have hmem : i ∈ (imageWrites c v).map Prod.fst ++ [.posLoRead c, .eventsRead c] := hi
    simp only [List.mem_append, List.mem_map, List.mem_cons, List.not_mem_nil, or_false] at hmem
    obtain ⟨q, hq, rfl⟩ | rfl | rfl := hmem
    · exact hwrites q hq
    · exact hread
    · exact hclear
  case latch =>
    rw [if_pos hup, car_modUl]
    exact ⟨rfl, rfl, rfl⟩
  case clear => rw [if_pos hup, car_modUl]

/-- Settles O37: a write cycle goes to the image or to the native window by the mode, and each word of the window has its address. -/
theorem registerWrites : Obligations.RegisterWrites := by
  unfold Obligations.RegisterWrites
  have hnative {s : State} (h : s.nativeUp = true) (a : Nat) (v : BitVec 16) :
      exec (.registerWrite {} a v) s = .next (nativeWrite a v s) := by
    rw [exec_registerWrite, busWrite_of_native v h]
  refine ⟨fun c a v s hup hreg => ⟨_, exec_registerWrite .., ?image⟩,
    fun k v s hup => ⟨⟨_, hnative hup .., ?irq⟩, ⟨_, hnative hup .., ?mask⟩, ?ring, ?slot⟩,
    fun v s hup => ⟨_, hnative hup .., ?event⟩, fun r v s hup => ⟨?prod, ?cons, ?bell⟩, fun a v s hup ha => ?ident,
    fun b a v s hmode => ?images, fun b a v s hmode => ?bus⟩
  case image =>
    have himage : s.imageMode = true := by
      simp only [State.imageUp, Bool.and_eq_true, and_assoc] at hup
      exact hup.1
    have hwrite : busWrite { cs := c } a v s = imageWrite c (a / 2 % 64) v s := by
      rw [busWrite, if_pos himage, if_neg Bool.false_ne_true, if_neg Bool.false_ne_true]
    obtain ⟨hcar, hstaged⟩ := imageWrite_spec v hup hreg
    rw [hwrite, hcar, hstaged]
    refine ⟨rfl, List.mem_append_right _ List.mem_cons_self, ?_⟩
    rw [imageWrite_of_up _ v hup hreg]
    rfl
  case irq =>
    rw [nativeWrite_irqRing]
    exact ⟨rfl, getLsbD_clear64 _ k v⟩
  case mask =>
    rw [nativeWrite_irqMask]
    exact ⟨rfl, getLsbD_put64 _ k v⟩
  case ring => rw [hnative hup, nativeWrite_pageRing]
  case slot => rw [hnative hup, nativeWrite_pageSlot]
  case event =>
    rw [nativeWrite_irqEvent]
    refine ⟨rfl, fun n => ?_⟩
    simp
  case prod => rw [hnative hup, nativeWrite_prod, exec_prodWrite, if_pos hup]
  case cons => rw [hnative hup, nativeWrite_cons, exec_consWrite, if_pos hup]
  case bell => rw [hnative hup, nativeWrite_doorbell, exec_doorbell, if_pos hup]
  case ident => rw [hnative hup, nativeWrite_ident v ha]
  case images =>
    have himage : s.imageMode = true := by
      obtain h | h := hmode <;> simp [State.imageMode, h]
    rw [exec_registerWrite, busWrite, if_pos himage]
    exact ⟨fun h => by rw [if_pos h], fun h hrd => by rw [if_neg (by simp [h]), if_pos hrd]⟩
  case bus =>
    rw [exec_registerWrite, busWrite, if_neg (by simp [imageMode_of_native hmode])]
    exact ⟨fun h => by rw [if_pos (.inr h)], fun h hrd => by rw [if_neg (by simp [hmode, h]), if_pos hrd]⟩

end Sys2Proof.Proofs

/-! PROOFS. The signal engines (R374–R394). A write of a register reaches registers alone, so an engine's place (address, cycles,
flow, writes under way) can be followed apart from its registers; `issue_eq` and `exec_calm` say once what an issue does. -/

namespace Sys2Proof.Machine

open Sys2Proof

/-! ### Engines and kernels of the state -/

@[simp] theorem eng_modEngine (s : State) (e : EngId) (f : Engine → Engine) : (s.modEngine e f).eng e = f (s.eng e) := by
  simp [State.eng, State.modEngine]

theorem eng_modEngine_ne (s : State) {e e' : EngId} (hne : e' ≠ e) (f : Engine → Engine) :
    (s.modEngine e f).eng e' = s.eng e' := by
  have hv : e.val ≠ e'.val := fun h => hne (Fin.ext h.symm)
  simp [State.eng, State.modEngine, hv]

@[simp] theorem eng_modKernel (s : State) (k : SlotId) (f : Kernel → Kernel) (e : EngId) : (s.modKernel k f).eng e = s.eng e := rfl

@[simp] theorem kernel_modEngine (s : State) (e : EngId) (f : Engine → Engine) (k : SlotId) :
    (s.modEngine e f).kernel k = s.kernel k := rfl

@[simp] theorem eng_within_engineParts (s t : State) (e : EngId) : (s.within engineParts t).eng e = t.eng e := by
  simp [State.eng, engineParts]

@[simp] theorem kernel_within_engineParts (s t : State) (k : SlotId) : (s.within engineParts t).kernel k = t.kernel k := by
  simp [State.kernel, engineParts]

/-! ### Register banks -/

@[simp] theorem bankOf_interrupt (g : Engine) : g.bankOf g.interrupt = g.bank := rfl

/-! ### Register writes reach registers alone -/

/-- The engine `g` in the place of `h`: its data memories, address, cycles, flow and the writes under way. The registers are
`g`'s. -/
def Engine.placed (g h : Engine) : Engine :=
  { g with x := h.x, y := h.y, pc := h.pc, cycles := h.cycles, delayed := h.delayed, rep := h.rep, pipe := h.pipe, stack := h.stack }

theorem apply_placed (w : PipeWrite) (g h : Engine) : w.apply (g.placed h) = (w.apply g).placed h := by
  cases w with
  | g sh r v => cases sh <;> simp only [PipeWrite.apply] <;> split <;> rfl
  | p sh r v => cases sh <;> simp only [PipeWrite.apply] <;> split <;> rfl
  | m r v => rfl
  | bexp v => rfl
  | bexpMin v => by_cases hv : v < g.bexp.toNat <;> simp [PipeWrite.apply, Engine.placed, hv]
  | acc sh r v => cases sh <;> rfl
  | st sh v => cases sh <;> rfl
  | flags sh z n c v => cases sh <;> rfl
  | setZ sh z => cases sh <;> rfl
  | setOv sh => cases sh <;> rfl
  | rf sh full => cases sh <;> rfl

theorem foldl_apply_placed (ws : List PipeWrite) (g h : Engine) :
    ws.foldl (fun g w => w.apply g) (g.placed h) = (ws.foldl (fun g w => w.apply g) g).placed h := by
  induction ws generalizing g with
  | nil => rfl
  | cons w ws ih => simp only [List.foldl_cons, apply_placed, ih]

/-- What a register write leaves: everything of the engine but its registers. -/
structure RegsOnly (g h : Engine) : Prop where
  prog : h.prog = g.prog
  x : h.x = g.x
  y : h.y = g.y
  stack : h.stack = g.stack
  pc : h.pc = g.pc
  interrupt : h.interrupt = g.interrupt
  ctx : h.ctx = g.ctx
  cycles : h.cycles = g.cycles
  delayed : h.delayed = g.delayed
  rep : h.rep = g.rep
  pipe : h.pipe = g.pipe
  queue : h.queue = g.queue
  bgCtx : h.bgCtx = g.bgCtx
  bgQueue : h.bgQueue = g.bgQueue

theorem RegsOnly.trans {g h k : Engine} (a : RegsOnly g h) (b : RegsOnly h k) : RegsOnly g k := by
  constructor <;> simp [a.prog, a.x, a.y, a.stack, a.pc, a.interrupt, a.ctx, a.cycles, a.delayed, a.rep, a.pipe, a.queue, a.bgCtx, a.bgQueue,
    b.prog, b.x, b.y, b.stack, b.pc, b.interrupt, b.ctx, b.cycles, b.delayed, b.rep, b.pipe,
    b.queue, b.bgCtx, b.bgQueue]

theorem regsOnly_setBank (g : Engine) (sh : Bool) (b : RegBank) : RegsOnly g (g.setBank sh b) := by
  cases sh <;> constructor <;> rfl

theorem regsOnly_apply (w : PipeWrite) (g : Engine) : RegsOnly g (w.apply g) := by
  cases w with
  | g sh r v =>
    simp only [PipeWrite.apply]
    split
    · exact regsOnly_setBank g sh _
    · constructor <;> rfl
  | p sh r v =>
    simp only [PipeWrite.apply]
    split
    · exact regsOnly_setBank g sh _
    · constructor <;> rfl
  | m r v => constructor <;> rfl
  | bexp v => constructor <;> rfl
  | bexpMin v =>
    simp only [PipeWrite.apply]
    split <;> constructor <;> rfl
  | acc sh r v => exact regsOnly_setBank g sh _
  | st sh v => exact regsOnly_setBank g sh _
  | flags sh z n c v => exact regsOnly_setBank g sh _
  | setZ sh z => exact regsOnly_setBank g sh _
  | setOv sh => exact regsOnly_setBank g sh _
  | rf sh full => exact regsOnly_setBank g sh _

theorem regsOnly_foldl_apply (ws : List PipeWrite) (g : Engine) : RegsOnly g (ws.foldl (fun g w => w.apply g) g) := by
  induction ws generalizing g with
  | nil => constructor <;> rfl
  | cons w ws ih => exact (regsOnly_apply w g).trans (ih _)

/-! ### The pipeline -/

/-- The writes that the next issue makes visible, in order. -/
def dueWrites (p : List (Nat × PipeWrite)) : List PipeWrite := (p.filter fun x => decide (x.1 = 0)).map (·.2)

/-- The writes that are still on their way after it. -/
def laterWrites (p : List (Nat × PipeWrite)) : List (Nat × PipeWrite) :=
  (p.filter fun x => decide (x.1 ≠ 0)).map fun x => (x.1 - 1, x.2)

@[simp] theorem dueWrites_nil : dueWrites [] = [] := rfl
@[simp] theorem laterWrites_nil : laterWrites [] = [] := rfl

@[simp] theorem dueWrites_cons_zero (w : PipeWrite) (p : List (Nat × PipeWrite)) : dueWrites ((0, w) :: p) = w :: dueWrites p := rfl
@[simp] theorem dueWrites_cons_succ (n : Nat) (w : PipeWrite) (p : List (Nat × PipeWrite)) :
    dueWrites ((n + 1, w) :: p) = dueWrites p := rfl
@[simp] theorem laterWrites_cons_zero (w : PipeWrite) (p : List (Nat × PipeWrite)) :
    laterWrites ((0, w) :: p) = laterWrites p := rfl
@[simp] theorem laterWrites_cons_succ (n : Nat) (w : PipeWrite) (p : List (Nat × PipeWrite)) :
    laterWrites ((n + 1, w) :: p) = (n, w) :: laterWrites p := rfl
@[simp] theorem dueWrites_cons_one (w : PipeWrite) (p : List (Nat × PipeWrite)) : dueWrites ((1, w) :: p) = dueWrites p := rfl
@[simp] theorem dueWrites_cons_two (w : PipeWrite) (p : List (Nat × PipeWrite)) : dueWrites ((2, w) :: p) = dueWrites p := rfl
@[simp] theorem laterWrites_cons_one (w : PipeWrite) (p : List (Nat × PipeWrite)) :
    laterWrites ((1, w) :: p) = (0, w) :: laterWrites p := rfl
@[simp] theorem laterWrites_cons_two (w : PipeWrite) (p : List (Nat × PipeWrite)) :
    laterWrites ((2, w) :: p) = (1, w) :: laterWrites p := rfl

/-- A tick, its due writes applied to the engine as it was. -/
theorem tick_eq (g : Engine) :
    g.tick = { (dueWrites g.pipe).foldl (fun g w => w.apply g) g with pipe := laterWrites g.pipe } := by
  have hplace := foldl_apply_placed (dueWrites g.pipe) g { g with pipe := laterWrites g.pipe }
  have hregs := regsOnly_foldl_apply (dueWrites g.pipe) g
  have htick : g.tick = (dueWrites g.pipe).foldl (fun g w => w.apply g) (g.placed { g with pipe := laterWrites g.pipe }) := by
    simp only [dueWrites, List.foldl_map]
    rfl
  rw [htick, hplace]
  simp only [Engine.placed, ← hregs.x, ← hregs.y, ← hregs.pc, ← hregs.cycles, ← hregs.delayed, ← hregs.rep, ← hregs.stack]

/-! ### One issue -/

/-- The engine after an issue of `n` cycles whose operation left `h`, in the delay slot and the repetition that were open. -/
def Engine.issued (h : Engine) (slot : Option Delayed) (rep : Option Nat) (n : Nat) : Engine :=
  { advance slot rep h.tick with cycles := h.cycles + n }

/-- What an issue asks for: in the delay slot of RETI, the end of the handler (R387). -/
def slotEvent (slot : Option Delayed) (ev : EngEvent) : EngEvent :=
  match slot with
  | some .reti => .reti
  | _ => ev

theorem slotEvent_of_ne {slot : Option Delayed} (hslot : slot ≠ some .reti) (ev : EngEvent) : slotEvent slot ev = ev := by
  unfold slotEvent
  split
  next => exact absurd rfl hslot
  next => rfl

theorem cycles_tick (g : Engine) : g.tick.cycles = g.cycles := by
  rw [tick_eq]
  exact (regsOnly_foldl_apply _ g).cycles

theorem cycles_advance (slot : Option Delayed) (rep : Option Nat) (g : Engine) : (advance slot rep g).cycles = g.cycles := by
  unfold advance
  split
  · rfl
  · cases rep <;> rcases slot with _ | (_ | _ | _) <;> rfl

theorem engIssue_eq {r : Regions} {rings : EngRings} {i : EInstr} {g h : Engine} {ev : EngEvent}
    (hflow : i.isFlow = true → g.delayed = none ∧ g.rep = none) (hop : engOp r rings i g = .ok (h, ev)) :
    engIssue r rings i g = .ok (h.issued g.delayed g.rep (engCycles i (movedBytes ev rings)),
      slotEvent g.delayed ev) := by
  have hopen : (i.isFlow && (g.delayed.isSome || g.rep.isSome)) = false := by
    cases hi : i.isFlow with
    | false => rfl
    | true => simp [hflow hi]
  simp only [engIssue, hopen, hop, Engine.issued, ← cycles_tick h, ← cycles_advance g.delayed g.rep h.tick]
  rfl

theorem engIssue_error {r : Regions} {rings : EngRings} {i : EInstr} {g : Engine} {code : Nat}
    (hd : g.delayed = none) (hr : g.rep = none) (hop : engOp r rings i g = .error code) : engIssue r rings i g = .error code := by
  simp [engIssue, hd, hr, hop, bind, Except.bind]

/-- An issue is the operation, the place after it, and what the operation asks for. -/
theorem issue_eq {s : State} {e : EngId} {i : EInstr} {h : Engine} {ev : EngEvent} (hrun : s.running = true)
    (hcyc : s.cyclesOut e = false) (hflow : i.isFlow = true → (s.eng e).delayed = none ∧ (s.eng e).rep = none)
    (hop : engOp (s.regions (s.eng e)) (s.ringsOf (s.eng e)) i (s.eng e) = .ok (h, ev)) :
    s.issue e i = (s.modEngine e fun _ => h.issued (s.eng e).delayed (s.eng e).rep
      (engCycles i (movedBytes ev (s.ringsOf (s.eng e))))).engEvent e (s.eng e).ctx
        (slotEvent (s.eng e).delayed ev) := by
  simp only [State.issue, hrun, hcyc, engIssue_eq hflow hop]
  rfl

/-- No handler is taken where none waits, and none at interrupt level. -/
theorem pollHandlers_of_none {s : State} {e : EngId}
    (h : (s.eng e).queue = [] ∨ ∃ k, (s.eng e).ctx = .frame k ∨ (s.eng e).ctx = .ring k ∨ (s.eng e).ctx = .mbx k) :
    s.pollHandlers e = s := by
  simp only [State.pollHandlers]
  rcases h with hq | ⟨k, hc | hc | hc⟩
  · rw [hq]
    cases (s.eng e).ctx <;> rfl
  all_goals rw [hc]

theorem calm_kept {s t : State} {e : EngId} (hc : EngCalm s e) (hq : (t.eng e).queue = (s.eng e).queue)
    (hctx : (t.eng e).ctx = (s.eng e).ctx) :
    (t.eng e).queue = [] ∨ ∃ k, (t.eng e).ctx = .frame k ∨ (t.eng e).ctx = .ring k ∨ (t.eng e).ctx = .mbx k := by
  obtain ⟨-, -, -, -, -, h⟩ := hc
  rw [hq, hctx]
  exact h

/-! ### What an operation keeps -/

/-- An engine under one operation: its context and what waits, and the canonical form of its data memories. -/
structure EngKept (g h : Engine) : Prop where
  ctx : h.ctx = g.ctx
  queue : h.queue = g.queue
  x : Mem.wf 0 g.x = true → Mem.wf 0 h.x = true
  y : Mem.wf 0 g.y = true → Mem.wf 0 h.y = true

theorem EngKept.refl (g : Engine) : EngKept g g := ⟨rfl, rfl, id, id⟩

theorem EngKept.trans {g h k : Engine} (a : EngKept g h) (b : EngKept h k) : EngKept g k :=
  ⟨b.ctx.trans a.ctx, b.queue.trans a.queue, fun w => b.x (a.x w), fun w => b.y (a.y w)⟩

theorem RegsOnly.kept {g h : Engine} (a : RegsOnly g h) : EngKept g h :=
  ⟨a.ctx, a.queue, fun w => by rw [a.x]; exact w, fun w => by rw [a.y]; exact w⟩

theorem engKept_push (g : Engine) (d : Nat) (w : PipeWrite) : EngKept g (g.push d w) := ⟨rfl, rfl, id, id⟩

theorem engKept_pushIf (b : Bool) (g : Engine) (d : Nat) (w : PipeWrite) : EngKept g (if b = true then g.push d w else g) := by
  cases b with
  | false => exact .refl g
  | true => exact engKept_push g d w

theorem engKept_pushP (g : Engine) (p : Fin 4) (q : Option (BitVec 14)) : EngKept g (g.pushP p q) := by
  cases q with
  | none => exact .refl g
  | some v => exact engKept_push g _ _

theorem engKept_pushAlu (g : Engine) (gd : Option GReg) (r : AluRes) : EngKept g (g.pushAlu gd r) := by
  cases gd with
  | none => exact engKept_push g _ _
  | some d => exact (engKept_push g _ _).trans (engKept_push _ _ _)

theorem engKept_pushAcc (g : Engine) (a : Fin 2) (v : BitVec 40) (ov : Bool) : EngKept g (g.pushAcc a v ov) := by
  have hbank : EngKept g ((g.setBank g.interrupt { g.bank with fwd := g.bank.fwd.set a.val v }).push 2 (.acc g.interrupt a v)) :=
    (regsOnly_setBank g _ _).kept.trans (engKept_push _ _ _)
  cases ov with
  | false => exact hbank
  | true => exact hbank.trans (engKept_push _ _ _)

theorem engKept_movsAcc (g : Engine) (a : Fin 2) (v : BitVec 32) (hi : Bool) : EngKept g (movsAcc g a v hi) :=
  (regsOnly_setBank g _ _).kept.trans (engKept_push _ _ _)

/-- A special register is written on its own way, and an accumulator's views on theirs. -/
theorem writeSreg_cases {g h : Engine} {n : Fin 16} {v : BitVec 32} (hw : writeSreg g n v = some h) :
    (∃ w, h = g.push 1 w) ∨ ∃ a hi, h = movsAcc g a v hi := by
  unfold writeSreg at hw
  split at hw <;> cases hw
  iterate 10 exact .inl ⟨_, rfl⟩
  all_goals exact .inr ⟨_, _, rfl⟩

theorem engKept_writeSreg {g h : Engine} {n : Fin 16} {v : BitVec 32} (hw : writeSreg g n v = some h) : EngKept g h := by
  obtain ⟨w, rfl⟩ | ⟨a, hi, rfl⟩ := writeSreg_cases hw
  · exact engKept_push g 1 w
  · exact engKept_movsAcc g a v hi

theorem except_bind_eq_ok {α β : Type} {x : Except Nat α} {f : α → Except Nat β} {b : β} (h : (x >>= f) = .ok b) :
    ∃ a, x = .ok a ∧ f a = .ok b := by
  cases x with
  | error c => cases h
  | ok a => exact ⟨a, rfl, h⟩

theorem except_map_eq_ok {α β : Type} {x : Except Nat α} {f : α → β} {b : β} (h : x.map f = .ok b) : ∃ a, x = .ok a ∧ f a = b := by
  cases x with
  | error c => cases h
  | ok a => exact ⟨a, rfl, by cases h; rfl⟩

theorem engKept_writeWord {g h : Engine} {r : Regions} {sp : Bool} {a : Nat} {w : BitVec 16} (hw : g.writeWord r sp a w = .ok h) :
    EngKept g h := by
  unfold Engine.writeWord at hw
  split at hw
  · cases hw
    cases sp with
    | false => exact ⟨rfl, rfl, fun hx => Mem.wf_set 0 _ _ hx, id⟩
    | true => exact ⟨rfl, rfl, id, fun hy => Mem.wf_set 0 _ _ hy⟩
  · cases hw

theorem engKept_storeWord {g h : Engine} {r : Regions} {sp bx : Bool} {a : Nat} {w : BitVec 16}
    (hw : storeWord r sp bx a w g = .ok h) : EngKept g h := by
  obtain ⟨k, hk, hb⟩ := except_bind_eq_ok hw
  cases hb
  cases bx with
  | false => exact engKept_writeWord hk
  | true => exact (engKept_writeWord hk).trans (engKept_push _ _ _)

theorem engKept_writeWords {r : Regions} (ws : List (BitVec 16)) {a : Nat} {g h : Engine} (hw : writeWords r ws a g = .ok h) :
    EngKept g h := by
  induction ws generalizing a g with
  | nil => cases hw; exact .refl _
  | cons w ws ih =>
    obtain ⟨k, hk, hb⟩ := except_bind_eq_ok hw
    exact (engKept_writeWord hk).trans (ih hb)

/-- The pointer that a parallel load leaves, if it moves one (R388). -/
def dPointer (g : Engine) (p mode : Fin 4) : Except Nat (Option (BitVec 14)) :=
  if mode.val = 1 then .ok none
  else if mode.val = 2 then .ok (some (g.readP p + 1))
  else (postModify (g.readP p) g.m[p.val]).map some

theorem dLoad_none (r : Regions) (sp : Bool) (p dst) {mode : Fin 4} (hm : mode.val = 0) (g : Engine) :
    dLoad r sp p mode dst g = .ok g := by
  unfold dLoad
  simp only [hm]

theorem dLoad_some (r : Regions) (sp : Bool) (p dst) {mode : Fin 4} (hm : mode.val ≠ 0) (g : Engine) :
    dLoad r sp p mode dst g = (dPointer g p mode >>= fun q => g.readWord r sp (g.readP p).toNat >>= fun w =>
      .ok ((g.push 1 (.g g.interrupt dst (w.signExtend 32))).pushP p q)) := by
  match mode, hm with
  | 0, h => exact absurd rfl h
  | 1, _ => rfl
  | 2, _ => rfl
  | 3, _ => rfl

/-- The value that LD brings (R389). -/
def loadValue (r : Regions) (f : MForm) (a : Nat) (g : Engine) : Except Nat (BitVec 32) :=
  g.readWord r f.spaceY a >>= fun lo =>
    if f.wide then (g.readWord r f.spaceY (a + 1)).map (· ++ lo) else .ok (lo.signExtend 32)

theorem engOp_ld (r : Regions) (rings : EngRings) {f : MForm} (hf : (f.wide && f.bx) = false) (g : Engine) :
    engOp r rings (.ld f) g = (effAddr g f.mode f.p (f.addr.setWidth 14).toNat (f.addr.setWidth 8).toInt >>= fun q =>
      loadValue r f q.1 g >>= fun v => .ok ((g.push 1 (.g g.interrupt f.g v)).pushP f.p q.2, .none)) := by
  simp only [engOp, hf, loadValue, Bool.false_eq_true, if_false]
  congr 1
  funext q
  cases g.readWord r f.spaceY q.1 with
  | error c => rfl
  | ok lo => cases f.wide <;> rfl

/-- The words that ST writes (R379, R389). -/
def storeValue (r : Regions) (f : MForm) (a : Nat) (v : BitVec 32) (g : Engine) : Except Nat Engine :=
  if f.wide && !inRegion r f.spaceY ((a + 1) % 16384) then .error faultMemory
  else storeWord r f.spaceY f.bx a (v.setWidth 16) g >>= fun g' =>
    if f.wide then g'.writeWord r f.spaceY (a + 1) (v.extractLsb' 16 16) else .ok g'

theorem engOp_st (r : Regions) (rings : EngRings) {f : MForm} (hf : (f.wide && f.bx) = false) (g : Engine) :
    engOp r rings (.st f) g = (effAddr g f.mode f.p (f.addr.setWidth 14).toNat (f.addr.setWidth 8).toInt >>= fun q =>
      storeValue r f q.1 (g.readG f.g) g >>= fun g' => .ok (g'.pushP f.p q.2, .none)) := by
  simp only [engOp, hf, storeValue, Bool.false_eq_true, if_false]
  congr 1
  funext q
  cases (f.wide && !inRegion r f.spaceY ((q.1 + 1) % 16384)) with
  | true => rfl
  | false =>
    simp only [Bool.false_eq_true, if_false]
    cases storeWord r f.spaceY f.bx q.1 ((g.readG f.g).setWidth 16) g with
    | error c => rfl
    | ok g' => cases f.wide <;> rfl

theorem engOp_wide_bx (r : Regions) (rings : EngRings) {f : MForm} (hf : (f.wide && f.bx) = true) (g : Engine) :
    engOp r rings (.ld f) g = .error faultIllegal ∧ engOp r rings (.st f) g = .error faultIllegal := by
  simp only [engOp, hf, if_true]
  exact ⟨rfl, rfl⟩

theorem engKept_storeValue {g h : Engine} {r : Regions} {f : MForm} {a : Nat} {v : BitVec 32}
    (hs : storeValue r f a v g = .ok h) : EngKept g h := by
  unfold storeValue at hs
  split at hs
  · cases hs
  · obtain ⟨k, hk, hw⟩ := except_bind_eq_ok hs
    split at hw
    · exact (engKept_storeWord hk).trans (engKept_writeWord hw)
    · cases hw; exact engKept_storeWord hk

theorem engKept_dLoad {g h : Engine} {r : Regions} {sp : Bool} {p mode : Fin 4} {dst : GReg} (hd : dLoad r sp p mode dst g = .ok h) :
    EngKept g h := by
  by_cases hm : mode.val = 0
  · rw [dLoad_none r sp p dst hm] at hd
    cases hd
    exact .refl _
  · rw [dLoad_some r sp p dst hm] at hd
    obtain ⟨q, -, hq⟩ := except_bind_eq_ok hd
    obtain ⟨w, -, hw⟩ := except_bind_eq_ok hq
    cases hw
    exact (engKept_push _ _ _).trans (engKept_pushP _ _ _)

theorem engKept_dLoads {g h : Engine} {r : Regions} {f : DForm} (hd : dLoads r f g = .ok h) : EngKept g h := by
  obtain ⟨k, hk, hb⟩ := except_bind_eq_ok hd
  exact (engKept_dLoad hk).trans (engKept_dLoad hb)

theorem engKept_dAcc {g h : Engine} {r : Regions} {f : DForm} {comb : Int → Int → Int} (hd : dAcc r f g comb = .ok h) :
    EngKept g h :=
  (engKept_pushAcc g f.a _ _).trans (engKept_dLoads (r := r) (f := f) hd)

theorem engKept_branch {g h : Engine} {r : Regions} {taken : Bool} {target : Nat} (hb : branch r taken target g = .ok h) :
    EngKept g h := by
  unfold branch at hb
  split at hb
  · split at hb <;> cases hb
    exact ⟨rfl, rfl, id, id⟩
  · cases hb
    exact ⟨rfl, rfl, id, id⟩

theorem engKept_stack (g : Engine) (st : List (BitVec 14)) : EngKept g { g with stack := st } := ⟨rfl, rfl, id, id⟩

theorem engKept_setRep {g h : Engine} {n : Nat} (hs : setRep n g = .ok h) : EngKept g h := by
  unfold setRep at hs
  split at hs <;> cases hs
  exact ⟨rfl, rfl, id, id⟩

theorem engKept_engOp {r : Regions} {rings : EngRings} {i : EInstr} {g h : Engine} {ev : EngEvent}
    (hop : engOp r rings i g = .ok (h, ev)) : EngKept g h := by
  cases i with
  | alu op gd ga gb => cases hop; exact engKept_pushAlu _ _ _
  | shift op gd ga n => cases hop; exact engKept_push _ _ _
  | cmp ga gb => cases hop; exact engKept_pushAlu _ _ _
  | abs gd ga => cases hop; exact engKept_push _ _ _
  | neg gd ga => cases hop; exact engKept_push _ _ _
  | mov gd ga => cases hop; exact engKept_push _ _ _
  | movsR gd n =>
    simp only [engOp] at hop
    split at hop <;> cases hop
    exact engKept_push _ _ _
  | movsW n ga =>
    simp only [engOp] at hop
    split at hop
    next hw => cases hop; exact engKept_writeSreg hw
    next => cases hop
  | clsa gd ga => cases hop; exact (engKept_push _ _ _).trans (engKept_push _ _ _)
  | addi gd imm => cases hop; exact engKept_pushAlu _ _ _
  | movi gd imm => cases hop; exact engKept_push _ _ _
  | movhi gd imm => cases hop; exact engKept_push _ _ _
  | andi gd imm => cases hop; exact engKept_pushAlu _ _ _
  | cmpi gd imm => cases hop; exact engKept_pushAlu _ _ _
  | ld f =>
    cases hf : f.wide && f.bx with
    | true => rw [(engOp_wide_bx r rings hf g).1] at hop; cases hop
    | false =>
      rw [engOp_ld r rings hf] at hop
      obtain ⟨q, -, hq⟩ := except_bind_eq_ok hop
      obtain ⟨v, -, hv⟩ := except_bind_eq_ok hq
      cases hv
      exact (engKept_push _ _ _).trans (engKept_pushP _ _ _)
  | st f =>
    cases hf : f.wide && f.bx with
    | true => rw [(engOp_wide_bx r rings hf g).2] at hop; cases hop
    | false =>
      rw [engOp_st r rings hf] at hop
      obtain ⟨q, -, hq⟩ := except_bind_eq_ok hop
      obtain ⟨k, hk, hv⟩ := except_bind_eq_ok hq
      cases hv
      exact (engKept_storeValue hk).trans (engKept_pushP _ _ _)
  | mpy f => obtain ⟨k, hk, hb⟩ := except_map_eq_ok hop; cases hb; exact engKept_dAcc hk
  | mac f => obtain ⟨k, hk, hb⟩ := except_map_eq_ok hop; cases hb; exact engKept_dAcc hk
  | msu f => obtain ⟨k, hk, hb⟩ := except_map_eq_ok hop; cases hb; exact engKept_dAcc hk
  | clra f =>
    obtain ⟨k, hk, hb⟩ := except_map_eq_ok hop
    cases hb
    exact (engKept_pushAcc _ _ _ _).trans (engKept_dLoads hk)
  | sac f =>
    obtain ⟨q, -, hq⟩ := except_bind_eq_ok hop
    obtain ⟨k, hk, hv⟩ := except_bind_eq_ok hq
    cases hv
    exact ((engKept_storeWord hk).trans (engKept_pushP k f.p q.2)).trans (engKept_pushIf _ _ _ _)
  | sacg f =>
    cases hop
    exact (engKept_push _ _ _).trans (engKept_pushIf _ _ _ _)
  | lda f => cases hop; exact engKept_pushAcc _ _ _ _
  | adda f => cases hop; exact engKept_pushAcc _ _ _ _
  | suba f => cases hop; exact engKept_pushAcc _ _ _ _
  | bexpclr => cases hop; exact engKept_push _ _ _
  | b c imm =>
    simp only [engOp] at hop
    split at hop
    · cases hop
    · obtain ⟨k, hk, hb⟩ := except_map_eq_ok hop; cases hb; exact engKept_branch hk
  | call c imm =>
    simp only [engOp] at hop
    split at hop
    · cases hop
    · obtain ⟨k, hk, hb⟩ := except_map_eq_ok hop; cases hb; exact engKept_branch hk
    · split at hop
      · obtain ⟨k, hk, hb⟩ := except_map_eq_ok hop
        cases hb
        exact (engKept_stack g _).trans (engKept_branch hk)
      · cases hop
  | ret =>
    simp only [engOp] at hop
    split at hop
    · cases hop
    · obtain ⟨k, hk, hb⟩ := except_map_eq_ok hop
      cases hb
      exact (engKept_stack g _).trans (engKept_branch hk)
  | reti => cases hop; exact ⟨rfl, rfl, id, id⟩
  | repImm imm => obtain ⟨k, hk, hb⟩ := except_map_eq_ok hop; cases hb; exact engKept_setRep hk
  | repG d => obtain ⟨k, hk, hb⟩ := except_map_eq_ok hop; cases hb; exact engKept_setRep hk
  | kend => cases hop; exact .refl _
  | yield => cases hop; exact .refl _
  | nop => cases hop; exact .refl _
  | rget d =>
    simp only [engOp] at hop
    split at hop
    · cases hop
    · split at hop
      · cases hop; exact engKept_push _ _ _
      · obtain ⟨k, hk, hb⟩ := except_bind_eq_ok hop
        cases hb
        exact (engKept_writeWords _ hk).trans (engKept_push _ _ _)
  | rput d =>
    simp only [engOp] at hop
    split at hop
    · obtain ⟨ws, -, hb⟩ := except_bind_eq_ok hop
      cases hb
      exact engKept_push _ _ _
    · cases hop
      exact engKept_push _ _ _

theorem engKept_issued (h : Engine) (slot : Option Delayed) (rep : Option Nat) (n : Nat) : EngKept h (h.issued slot rep n) := by
  have htick : EngKept h h.tick := by
    rw [tick_eq]
    exact (regsOnly_foldl_apply _ h).kept.trans ⟨rfl, rfl, id, id⟩
  have hadv : EngKept h.tick (advance slot rep h.tick) := by
    unfold advance
    split
    · exact ⟨rfl, rfl, id, id⟩
    · cases rep <;> rcases slot with _ | (_ | _ | _) <;> exact ⟨rfl, rfl, id, id⟩
  exact (htick.trans hadv).trans ⟨rfl, rfl, id, id⟩

/-! ### One issue of a calm engine -/

theorem engAfter_eq (g : Engine) (ws : List PipeWrite) :
    engAfter g ws = { ws.foldl (fun g w => w.apply g) g with pc := (g.pc + 1) % 16384, cycles := g.cycles + 1 } := by
  have hplace := foldl_apply_placed ws g { g with pc := (g.pc + 1) % 16384, cycles := g.cycles + 1 }
  have hregs := regsOnly_foldl_apply ws g
  have hafter : engAfter g ws = ws.foldl (fun g w => w.apply g)
      (g.placed { g with pc := (g.pc + 1) % 16384, cycles := g.cycles + 1 }) := rfl
  rw [hafter, hplace]
  simp only [Engine.placed, ← hregs.x, ← hregs.y, ← hregs.delayed, ← hregs.rep, ← hregs.stack, ← hregs.pipe]

@[simp] theorem engAfter_push (g : Engine) (d : Nat) (w : PipeWrite) (ws : List PipeWrite) :
    engAfter (g.push d w) ws = { engAfter g ws with pipe := g.pipe ++ [(d, w)] } := by
  have hplace := foldl_apply_placed ws g (g.push d w)
  have hpush : g.push d w = g.placed (g.push d w) := rfl
  have hregs := regsOnly_foldl_apply ws g
  rw [engAfter_eq, hpush, hplace, engAfter_eq]
  simp only [Engine.placed, Engine.push, ← hregs.x, ← hregs.y, ← hregs.delayed, ← hregs.rep, ← hregs.stack]

@[simp] theorem pipe_push (g : Engine) (d : Nat) (w : PipeWrite) : (g.push d w).pipe = g.pipe ++ [(d, w)] := rfl
@[simp] theorem interrupt_push (g : Engine) (d : Nat) (w : PipeWrite) : (g.push d w).interrupt = g.interrupt := rfl

theorem pipe_engAfter (g : Engine) (ws : List PipeWrite) : (engAfter g ws).pipe = g.pipe := by
  rw [engAfter_eq]
  exact (regsOnly_foldl_apply ws g).pipe

theorem engAfter_with_pipe {g : Engine} {p : List (Nat × PipeWrite)} (hp : g.pipe = p) (ws : List PipeWrite) :
    { engAfter g ws with pipe := p } = engAfter g ws := by
  subst hp
  rw [← pipe_engAfter g ws]

theorem issued_calm (h : Engine) (n : Nat) :
    h.issued none none n = { engAfter h (dueWrites h.pipe) with pipe := laterWrites h.pipe, cycles := h.cycles + n } := by
  have hregs := regsOnly_foldl_apply (dueWrites h.pipe) h
  rw [engAfter_eq]
  simp only [Engine.issued, advance, tick_eq, Option.isSome_none, Bool.false_eq_true, if_false, hregs.pc]

theorem confined_modEngine (s : State) (e : EngId) (f : Engine → Engine) : Confined [.engines] s (s.modEngine e f) :=
  confined_of_within_eq rfl

/-- A calm engine issues an instruction of one cycle that asks for nothing around it: that engine alone changes. -/
theorem exec_calm {I : Instr} {i : EInstr} {s : State} {e : EngId} {h : Engine}
    (hexec : exec I s = .next (s.within engineParts (s.issue e i))) (hc : EngCalm s e)
    (hop : engOp (s.regions (s.eng e)) (s.ringsOf (s.eng e)) i (s.eng e) = .ok (h, .none)) (hone : engCycles i 0 = 1) :
    exec I s = .next (s.modEngine e fun _ => { engAfter h (dueWrites h.pipe) with pipe := laterWrites h.pipe }) := by
  have hcalm := hc
  obtain ⟨hrun, hcyc, hd, hr, -, -⟩ := hc
  have hkept := (engKept_engOp hop).trans (engKept_issued h none none 1)
  have hcycles : (engAfter h (dueWrites h.pipe)).cycles = h.cycles + 1 := by rw [engAfter_eq]
  have hissue : s.issue e i = s.modEngine e fun _ => { engAfter h (dueWrites h.pipe) with pipe := laterWrites h.pipe } := by
    rw [issue_eq hrun hcyc (fun _ => ⟨hd, hr⟩) hop, hd, hr]
    simp only [movedBytes, hone, slotEvent, State.engEvent]
    rw [pollHandlers_of_none (calm_kept hcalm (by simpa using hkept.queue) (by simpa using hkept.ctx)), issued_calm, ← hcycles]
  rw [hexec, hissue, ((confined_modEngine s e _).mono (by decide)).within_eq]

/-- `exec_calm`, with the engine that it leaves named, and the other engines. -/
theorem exec_calm_eng {I : Instr} {i : EInstr} {s : State} {e : EngId} {h g' : Engine}
    (hexec : exec I s = .next (s.within engineParts (s.issue e i))) (hc : EngCalm s e)
    (hop : engOp (s.regions (s.eng e)) (s.ringsOf (s.eng e)) i (s.eng e) = .ok (h, .none)) (hone : engCycles i 0 = 1)
    (hg : { engAfter h (dueWrites h.pipe) with pipe := laterWrites h.pipe } = g') :
    ∃ t, exec I s = .next t ∧ t.eng e = g' ∧ ∀ e' : EngId, e' ≠ e → t.eng e' = s.eng e' :=
  ⟨_, exec_calm hexec hc hop hone, by rw [eng_modEngine, hg], fun _ hne => eng_modEngine_ne s hne _⟩

end Sys2Proof.Machine

/-! PROOFS. O40 to O43: registers, sums, logic, and special registers of an engine. -/

namespace Sys2Proof.Machine

open Sys2Proof

theorem clampInt_above {lo hi v : Int} (hlh : lo ≤ hi) (hv : hi < v) : clampInt lo hi v = hi := by
  unfold clampInt
  omega

theorem clampInt_below {lo hi v : Int} (hv : v < lo) : clampInt lo hi v = lo := by
  unfold clampInt
  omega

theorem clampInt_inside {lo hi v : Int} (hlo : lo ≤ v) (hhi : v ≤ hi) : clampInt lo hi v = v := by
  unfold clampInt
  omega

/-- SAT holds a sum to the ends of its range (R377). -/
theorem satWrap_eq (sat : Bool) (n : Int) : satWrap sat n = sum32 sat n := by
  cases sat with
  | false => simp [satWrap, sum32]
  | true =>
    simp only [satWrap, sum32, if_true, true_and]
    split_ifs with hhi hlo
    · rw [clampInt_above (by decide) hhi]
      rfl
    · rw [clampInt_below hlo]
      rfl
    · rw [clampInt_inside (by omega) (by omega)]

theorem calm_pipe {s : State} {e : EngId} (hc : EngCalm s e) : (s.eng e).pipe = [] := by
  obtain ⟨-, -, -, -, hp, -⟩ := hc
  exact hp

/-- An ALU result of a calm engine: the flags, then the register if one is named, visible at once. -/
theorem exec_pushAlu {I : Instr} {i : EInstr} {s : State} {e : EngId} {gd : Option GReg} {r : AluRes}
    (hexec : exec I s = .next (s.within engineParts (s.issue e i))) (hc : EngCalm s e)
    (hop : engOp (s.regions (s.eng e)) (s.ringsOf (s.eng e)) i (s.eng e) = .ok ((s.eng e).pushAlu gd r, .none))
    (hone : engCycles i 0 = 1) :
    ∃ t, exec I s = .next t ∧ t.eng e = engAfter (s.eng e) (.flags (s.eng e).interrupt r.z r.n r.c r.v ::
        gd.toList.map fun d => .g (s.eng e).interrupt d r.val) ∧ ∀ e' : EngId, e' ≠ e → t.eng e' = s.eng e' := by
  refine exec_calm_eng hexec hc hop hone ?_
  cases gd <;> simp [Engine.pushAlu, calm_pipe hc, engAfter_with_pipe (calm_pipe hc)]

/-- A register result of a calm engine, visible at once. -/
theorem exec_pushG {I : Instr} {i : EInstr} {s : State} {e : EngId} {gd : GReg} {v : BitVec 32}
    (hexec : exec I s = .next (s.within engineParts (s.issue e i))) (hc : EngCalm s e)
    (hop : engOp (s.regions (s.eng e)) (s.ringsOf (s.eng e)) i (s.eng e) =
      .ok ((s.eng e).push 0 (.g (s.eng e).interrupt gd v), .none)) (hone : engCycles i 0 = 1) :
    ∃ t, exec I s = .next t ∧ t.eng e = engAfter (s.eng e) [.g (s.eng e).interrupt gd v]
      ∧ ∀ e' : EngId, e' ≠ e → t.eng e' = s.eng e' :=
  exec_calm_eng hexec hc hop hone (by simp [calm_pipe hc, engAfter_with_pipe (calm_pipe hc)])

/-- One write of a calm engine that is visible one instruction later than a result. -/
theorem exec_pushLate {I : Instr} {i : EInstr} {s : State} {e : EngId} {b : Engine} {w : PipeWrite}
    (hexec : exec I s = .next (s.within engineParts (s.issue e i))) (hc : EngCalm s e) (hb : b.pipe = [])
    (hop : engOp (s.regions (s.eng e)) (s.ringsOf (s.eng e)) i (s.eng e) = .ok (b.push 1 w, .none))
    (hone : engCycles i 0 = 1) :
    ∃ t, exec I s = .next t ∧ t.eng e = { engAfter b [] with pipe := [(0, w)] } := by
  obtain ⟨t, hexec, heng, -⟩ := exec_calm_eng hexec hc hop hone (g' := { engAfter b [] with pipe := [(0, w)] }) (by simp [hb])
  exact ⟨t, hexec, heng⟩

/-! ### Register access -/

theorem readG_setBank (g : Engine) (b : RegBank) (r : GReg) :
    (g.setBank g.interrupt b).readG r = if h : r.val < 8 then b.g[r.val] else g.gHi[r.val - 8] := by
  cases hi : g.interrupt <;> simp [Engine.readG, Engine.setBank, Engine.bank, hi]

theorem readG_setBank_other (g : Engine) (b : RegBank) (r : GReg) : (g.setBank (!g.interrupt) b).readG r = g.readG r := by
  cases hi : g.interrupt <;> simp [Engine.readG, Engine.setBank, Engine.bank, hi]

theorem readP_setBank (g : Engine) (b : RegBank) (p : Fin 4) :
    (g.setBank g.interrupt b).readP p = if h : p.val < 2 then b.p[p.val] else g.pHi[p.val - 2] := by
  cases hi : g.interrupt <;> simp [Engine.readP, Engine.setBank, Engine.bank, hi]

theorem readP_setBank_g (g : Engine) (b : RegBank) (p : Fin 4) (hb : b.p = g.bank.p) :
    (g.setBank g.interrupt b).readP p = g.readP p := by
  rw [readP_setBank, hb]
  rfl

theorem readG_apply_g (g : Engine) (r r' : GReg) (v : BitVec 32) :
    ((PipeWrite.g g.interrupt r v).apply g).readG r' = if r' = r then v else g.readG r' := by
  by_cases hr : r.val < 8
  · simp only [PipeWrite.apply, hr, dif_pos, readG_setBank, Vector.getElem_set, bankOf_interrupt]
    by_cases hr' : r'.val < 8
    · simp only [hr', dif_pos, Engine.readG, Fin.ext_iff, eq_comm]
    · have hne : r' ≠ r := fun h => hr' (h ▸ hr)
      simp [hr', hne, Engine.readG]
  · simp only [PipeWrite.apply, hr, dif_neg, not_false_iff]
    by_cases hr' : r'.val < 8
    · have hne : r' ≠ r := fun h => hr (h ▸ hr')
      simp [Engine.readG, Engine.bank, hr', hne]
    · have hiff : r.val - 8 = r'.val - 8 ↔ r' = r := by rw [Fin.ext_iff]; omega
      simp [Engine.readG, hr', Vector.getElem_set, hiff]

theorem readP_apply_p (g : Engine) (p p' : Fin 4) (v : BitVec 14) :
    ((PipeWrite.p g.interrupt p v).apply g).readP p' = if p' = p then v else g.readP p' := by
  by_cases hp : p.val < 2
  · simp only [PipeWrite.apply, hp, dif_pos, readP_setBank, Vector.getElem_set, bankOf_interrupt]
    by_cases hp' : p'.val < 2
    · simp only [hp', dif_pos, Engine.readP, Fin.ext_iff, eq_comm]
    · have hne : p' ≠ p := fun h => hp' (h ▸ hp)
      simp [hp', hne, Engine.readP]
  · simp only [PipeWrite.apply, hp, dif_neg, not_false_iff]
    by_cases hp' : p'.val < 2
    · have hne : p' ≠ p := fun h => hp (h ▸ hp')
      simp [Engine.readP, Engine.bank, hp', hne]
    · have hiff : p.val - 2 = p'.val - 2 ↔ p' = p := by rw [Fin.ext_iff]; omega
      simp [Engine.readP, hp', Vector.getElem_set, hiff]

theorem readG_apply_g_other (g : Engine) {r : GReg} (r' : GReg) (v : BitVec 32) (hr : r.val < 8) :
    ((PipeWrite.g (!g.interrupt) r v).apply g).readG r' = g.readG r' := by
  simp only [PipeWrite.apply, hr, dif_pos, readG_setBank_other]

theorem readP_apply_g (g : Engine) (r : GReg) (p : Fin 4) (v : BitVec 32) :
    ((PipeWrite.g g.interrupt r v).apply g).readP p = g.readP p := by
  simp only [PipeWrite.apply]
  split
  · exact readP_setBank_g g _ p rfl
  · rfl

/-! ### Headroom -/

/-- The headroom counts the bits below the top that equal it, and stops at the first that differs. -/
theorem headroomGo_spec (w : Nat) (x : BitVec w) (k : Nat) (hk : k < w)
    (hsame : ∀ i, k ≤ i → i ≤ w - 1 → x.getLsbD i = x.msb) :
    headroomGo w x k ≤ w - 1
      ∧ (∀ i, w - 1 - headroomGo w x k ≤ i → i ≤ w - 1 → x.getLsbD i = x.msb)
      ∧ (headroomGo w x k < w - 1 → x.getLsbD (w - 2 - headroomGo w x k) ≠ x.msb) := by
  induction k with
  | zero =>
    refine ⟨Nat.le_refl _, fun i _ hi => hsame i (Nat.zero_le i) hi, fun h => absurd h (Nat.lt_irrefl _)⟩
  | succ k ih =>
    unfold headroomGo
    split
    next hbit =>
      refine ih (by omega) fun i hki hi => ?_
      rcases Nat.eq_or_lt_of_le hki with rfl | hlt
      · exact hbit
      · exact hsame i hlt hi
    next hbit =>
      have hat : w - 2 - (w - 1 - (k + 1)) = k := by omega
      refine ⟨Nat.sub_le _ _, fun i hlo hi => hsame i (by omega) hi, fun _ => ?_⟩
      rw [hat]
      exact hbit

theorem headroom_spec {w : Nat} (x : BitVec w) (hw : 0 < w) :
    headroom w x ≤ w - 1 ∧ (∀ i, w - 1 - headroom w x ≤ i → i ≤ w - 1 → x.getLsbD i = x.msb)
      ∧ (headroom w x < w - 1 → x.getLsbD (w - 2 - headroom w x) ≠ x.msb) := by
  refine headroomGo_spec w x (w - 1) (by omega) fun i hlo hhi => ?_
  obtain rfl : i = w - 1 := Nat.le_antisymm hhi hlo
  rw [BitVec.msb_eq_getLsbD_last]

end Sys2Proof.Machine

namespace Sys2Proof.Proofs

open Sys2Proof Sys2Proof.Machine

/-- Settles O40: the banks of an interrupt level and of a background level are apart, and G8–G15, P2 and P3 have one bank. -/
theorem engineRegisters : Obligations.EngineRegisters :=
  ⟨readG_apply_g, fun g _ r' v hr => readG_apply_g_other g r' v hr, readP_apply_p, readP_apply_g⟩

/-- Settles O41: the flags go on their way, then the result; both are visible to the next instruction. -/
theorem engineSums : Obligations.EngineSums := by
  intro e gd ga gb imm s hc
  refine ⟨?_, ?_⟩
  · intro q hq
    simp only [List.mem_cons, List.not_mem_nil, or_false] at hq
    rcases hq with rfl | rfl | rfl <;> simp only [← satWrap_eq]
    · exact exec_pushAlu (i := .alu .add gd ga gb) (gd := some gd) rfl hc rfl rfl
    · exact exec_pushAlu (i := .alu .sub gd ga gb) (gd := some gd) rfl hc rfl rfl
    · exact exec_pushAlu (i := .addi gd imm) (gd := some gd) rfl hc rfl rfl
  · intro q hq
    simp only [List.mem_cons, List.not_mem_nil, or_false] at hq
    rcases hq with rfl | rfl <;> simp only [← satWrap_eq]
    · obtain ⟨t, hexec, heng, -⟩ := exec_pushAlu (I := .cmp e ga gb) (i := .cmp ga gb) (gd := none) rfl hc rfl rfl
      exact ⟨t, hexec, heng⟩
    · obtain ⟨t, hexec, heng, -⟩ := exec_pushAlu (I := .cmpi e gd imm) (i := .cmpi gd imm) (gd := none) rfl hc rfl rfl
      exact ⟨t, hexec, heng⟩

/-- Settles O42: a logical operation is an ALU result without carry and overflow, the others are a register's result alone. -/
theorem engineLogic : Obligations.EngineLogic := by
  intro e gd ga gb n imm s hc
  refine ⟨?_, ?_⟩
  · intro q hq
    have hlogic : ∀ {I : Instr} {i : EInstr} {v : BitVec 32}, exec I s = .next (s.within engineParts (s.issue e i)) →
        engOp (s.regions (s.eng e)) (s.ringsOf (s.eng e)) i (s.eng e) =
          .ok ((s.eng e).pushAlu (some gd) (aluRes v false false), .none) → engCycles i 0 = 1 →
        ∃ t, exec I s = .next t ∧ t.eng e = engAfter (s.eng e)
          [.flags (s.eng e).interrupt (decide (v = 0)) v.msb false false, .g (s.eng e).interrupt gd v] := by
      intro I i v hexec hop hone
      obtain ⟨t, ht, heng, -⟩ := exec_pushAlu hexec hc hop hone
      exact ⟨t, ht, heng⟩
    simp only [List.mem_cons, List.not_mem_nil, or_false] at hq
    rcases hq with rfl | rfl | rfl | rfl
    · exact hlogic (i := .alu .and gd ga gb) rfl rfl rfl
    · exact hlogic (i := .alu .or gd ga gb) rfl rfl rfl
    · exact hlogic (i := .alu .xor gd ga gb) rfl rfl rfl
    · exact hlogic (i := .andi gd imm) rfl rfl rfl
  · intro q hq
    simp only [List.mem_cons, List.not_mem_nil, or_false] at hq
    rcases hq with rfl | rfl | rfl | rfl | rfl | rfl | rfl | rfl <;> simp only [← satWrap_eq]
    · exact exec_pushG (i := .shift .asr gd ga n) rfl hc rfl rfl
    · exact exec_pushG (i := .shift .lsr gd ga n) rfl hc rfl rfl
    · exact exec_pushG (i := .shift .shl gd ga n) rfl hc rfl rfl
    · exact exec_pushG (i := .abs gd ga) rfl hc rfl rfl
    · exact exec_pushG (i := .neg gd ga) rfl hc rfl rfl
    · exact exec_pushG (i := .mov gd ga) rfl hc rfl rfl
    · exact exec_pushG (i := .movi gd imm) rfl hc rfl rfl
    · exact exec_pushG (i := .movhi gd imm) rfl hc rfl rfl

theorem exec_movsRead {s : State} {e : EngId} {gd : GReg} {n : Fin 16} {v : BitVec 32} (hc : EngCalm s e)
    (hr : readSreg (s.eng e) n = some v) :
    ∃ t, exec (.movsRead e gd n) s = .next t
      ∧ t.eng e = { engAfter (s.eng e) [] with pipe := [(0, .g (s.eng e).interrupt gd v)] } :=
  exec_pushLate (i := .movsR gd n) rfl hc (calm_pipe hc) (by simp only [engOp, hr]) rfl

theorem exec_movsWrite {s : State} {e : EngId} {ga : GReg} {n : Fin 16} {b : Engine} {w : PipeWrite} (hc : EngCalm s e)
    (hb : b.pipe = []) (hw : writeSreg (s.eng e) n ((s.eng e).readG ga) = some (b.push 1 w)) :
    ∃ t, exec (.movsWrite e n ga) s = .next t ∧ t.eng e = { engAfter b [] with pipe := [(0, w)] } :=
  exec_pushLate (i := .movsW n ga) rfl hc hb (by simp only [engOp, hw]) rfl

/-- CLSA: the figure of the accumulator that bit 0 of GA names, and Z (R389). -/
theorem exec_clsa {s : State} {e : EngId} (gd ga : GReg) (hc : EngCalm s e) :
    ∃ t, exec (.clsa e gd ga) s = .next t ∧
      let a := if ((s.eng e).readG ga).getLsbD 0 then (s.eng e).bank.a[1] else (s.eng e).bank.a[0]
      t.eng e = engAfter (s.eng e) [.g (s.eng e).interrupt gd (BitVec.ofNat 32 (headroom 40 a)),
        .setZ (s.eng e).interrupt (decide (a = 0))] := by
  have hop : ∀ (b : Bool) (hb : b.toNat < 2), (s.eng e).bank.a[b.toNat] =
      if b = true then (s.eng e).bank.a[1] else (s.eng e).bank.a[0] := by
    intro b hb
    cases b <;> rfl
  obtain ⟨t, ht, heng, -⟩ := exec_calm_eng (i := .clsa gd ga) (I := .clsa e gd ga) rfl hc rfl rfl rfl
  refine ⟨t, ht, ?_⟩
  rw [heng]
  simp only [pipe_push, engAfter_push, calm_pipe hc, List.nil_append, List.cons_append, dueWrites_cons_zero,
    dueWrites_nil, laterWrites_cons_zero, laterWrites_nil, engAfter_with_pipe (calm_pipe hc), hop]
  rfl

/-- Settles O43: MOVS and BEXPCLR make one late write; CLSA's figure is `headroom_spec`'s. -/
theorem engineSpecials : Obligations.EngineSpecials := by
  intro e gd ga s hc
  refine ⟨?_, ?_, ?_, ?_, ?_⟩
  · intro q hq
    refine exec_movsRead hc ?_
    simp only [List.mem_cons, List.not_mem_nil, or_false] at hq
    rcases hq with rfl | rfl | rfl | rfl | rfl | rfl | rfl | rfl | rfl | rfl | rfl | rfl | rfl | rfl <;> rfl
  · intro q hq
    refine exec_movsWrite hc (calm_pipe hc) ?_
    simp only [List.mem_cons, List.not_mem_nil, or_false] at hq
    rcases hq with rfl | rfl | rfl | rfl | rfl | rfl | rfl | rfl | rfl | rfl <;> rfl
  · intro q hq
    refine exec_movsWrite hc ?_ ?_
    · exact (regsOnly_setBank _ _ _).pipe.trans (calm_pipe hc)
    · simp only [List.mem_cons, List.not_mem_nil, or_false] at hq
      rcases hq with rfl | rfl | rfl | rfl <;> rfl
  · exact exec_pushLate (i := .bexpclr) rfl hc (calm_pipe hc) rfl rfl
  · obtain ⟨t, ht, heng⟩ := exec_clsa gd ga hc
    obtain ⟨hle, hsame, hstop⟩ := headroom_spec (w := 40)
      (if ((s.eng e).readG ga).getLsbD 0 then (s.eng e).bank.a[1] else (s.eng e).bank.a[0]) (by decide)
    exact ⟨t, ht, _, hle, hsame, hstop, heng⟩

end Sys2Proof.Proofs

/-! PROOFS. O44 and O46: the data memories and the accumulators of an engine. `Engine.stored` is one written word; the pipeline
and the registers do not see it. -/

namespace Sys2Proof.Machine

open Sys2Proof

/-! ### Words of the data memories -/

/-- One word as it stands in a data memory. -/
def Engine.dataWord (g : Engine) (sp : Bool) (n : Nat) : Nat := Mem.get 0 (if sp then g.y else g.x) n

/-- An engine after one written word. -/
def Engine.stored (g : Engine) (sp : Bool) (a : Nat) (w : BitVec 16) : Engine :=
  if sp then { g with y := Mem.set 0 g.y a w.toNat } else { g with x := Mem.set 0 g.x a w.toNat }

/-- Both data memories in canonical form. -/
def Engine.memWf (g : Engine) : Prop := Mem.wf 0 g.x = true ∧ Mem.wf 0 g.y = true

theorem readWord_ok {g : Engine} {r : Regions} {sp : Bool} {a : Nat} (hin : inRegion r sp (a % 16384) = true) :
    g.readWord r sp a = .ok (BitVec.ofNat 16 (g.dataWord sp (a % 16384))) := by
  simp only [Engine.readWord, hin, if_true]
  rfl

theorem writeWord_ok {g : Engine} {r : Regions} {sp : Bool} {a : Nat} (w : BitVec 16) (hin : inRegion r sp (a % 16384) = true) :
    g.writeWord r sp a w = .ok (g.stored sp (a % 16384) w) := by
  simp only [Engine.writeWord, hin, if_true]
  rfl

theorem dataWord_stored {g : Engine} (hwf : g.memWf) (sp : Bool) (a : Nat) (w : BitVec 16) (y : Bool) (n : Nat) :
    (g.stored sp a w).dataWord y n = if y = sp ∧ n = a then w.toNat else g.dataWord y n := by
  obtain ⟨hx, hy⟩ := hwf
  have hset : ∀ m : List (Nat × Nat), Mem.wf 0 m = true →
      Mem.get 0 (Mem.set 0 m a w.toNat) n = if n = a then w.toNat else Mem.get 0 m n := by
    intro m hm
    split
    next h => rw [h, Mem.get_set_self 0 m a _ hm]
    next h => rw [Mem.get_set_of_ne 0 m _ h hm]
  cases sp <;> cases y <;> simp [Engine.stored, Engine.dataWord, hset _ hx, hset _ hy]

theorem memWf_stored {g : Engine} (hwf : g.memWf) (sp : Bool) (a : Nat) (w : BitVec 16) : (g.stored sp a w).memWf := by
  obtain ⟨hx, hy⟩ := hwf
  cases sp with
  | false => exact ⟨Mem.wf_set 0 _ _ hx, hy⟩
  | true => exact ⟨hx, Mem.wf_set 0 _ _ hy⟩

theorem stored_placed (g : Engine) (sp : Bool) (a : Nat) (w : BitVec 16) : g.stored sp a w = g.placed (g.stored sp a w) := by
  cases sp <;> rfl

/-- The pipeline does not see the data memories. -/
theorem engAfter_stored (g : Engine) (sp : Bool) (a : Nat) (w : BitVec 16) (ws : List PipeWrite) :
    engAfter (g.stored sp a w) ws = (engAfter g ws).stored sp a w := by
  have hplace := foldl_apply_placed ws g (g.stored sp a w)
  have hregs := regsOnly_foldl_apply ws g
  rw [engAfter_eq, stored_placed, hplace, engAfter_eq]
  cases sp <;> simp only [Engine.placed, Engine.stored, ← hregs.x, ← hregs.y, ← hregs.stack, ← hregs.delayed, ← hregs.rep,
    ← hregs.pipe] <;> rfl

@[simp] theorem pipe_stored (g : Engine) (sp : Bool) (a : Nat) (w : BitVec 16) : (g.stored sp a w).pipe = g.pipe := by
  cases sp <;> rfl
@[simp] theorem interrupt_stored (g : Engine) (sp : Bool) (a : Nat) (w : BitVec 16) :
    (g.stored sp a w).interrupt = g.interrupt := by
  cases sp <;> rfl

theorem dataWord_engAfter (g : Engine) (ws : List PipeWrite) (y : Bool) (n : Nat) :
    (engAfter g ws).dataWord y n = g.dataWord y n := by
  have hregs := regsOnly_foldl_apply ws g
  rw [engAfter_eq]
  simp only [Engine.dataWord, hregs.x, hregs.y]

theorem memWf_engAfter {g : Engine} (hwf : g.memWf) (ws : List PipeWrite) : (engAfter g ws).memWf := by
  have hregs := regsOnly_foldl_apply ws g
  rw [engAfter_eq]
  simp only [Engine.memWf, hregs.x, hregs.y]
  exact hwf

/-- The engine without its data memories: those of another are put in. -/
theorem stored_with_mem (g : Engine) (sp : Bool) (a : Nat) (w : BitVec 16) (x y : List (Nat × Nat)) :
    { g.stored sp a w with x := x, y := y } = { g with x := x, y := y } := by
  cases sp <;> rfl

theorem engAfter_own_mem (g : Engine) (ws : List PipeWrite) : { engAfter g ws with x := g.x, y := g.y } = engAfter g ws := by
  have hregs := regsOnly_foldl_apply ws g
  rw [engAfter_eq]
  simp only [← hregs.x, ← hregs.y]

/-! ### Pointers and stores on their way -/

/-- The pointer writes of an addressing mode (R380). -/
def pointerWrites (sh : Bool) (p : Fin 4) (q : Option (BitVec 14)) : List PipeWrite :=
  match q with
  | none => []
  | some v => [.p sh p v]

theorem pushP_eq (g : Engine) (p : Fin 4) (q : Option (BitVec 14)) :
    g.pushP p q = { g with pipe := g.pipe ++ (pointerWrites g.interrupt p q).map fun w => (0, w) } := by
  cases q with
  | none => simp only [Engine.pushP, pointerWrites, List.map_nil, List.append_nil]
  | some v => rfl

theorem engAfter_setPipe (g : Engine) (p : List (Nat × PipeWrite)) (ws : List PipeWrite) :
    engAfter { g with pipe := p } ws = { engAfter g ws with pipe := p } := by
  have hplace := foldl_apply_placed ws g { g with pipe := p }
  have hg : ({ g with pipe := p } : Engine) = g.placed { g with pipe := p } := rfl
  have hregs := regsOnly_foldl_apply ws g
  rw [engAfter_eq, hg, hplace, engAfter_eq]
  simp only [Engine.placed, ← hregs.x, ← hregs.y, ← hregs.delayed, ← hregs.rep, ← hregs.stack]

@[simp] theorem dueWrites_append (p q : List (Nat × PipeWrite)) : dueWrites (p ++ q) = dueWrites p ++ dueWrites q := by
  simp [dueWrites]
@[simp] theorem laterWrites_append (p q : List (Nat × PipeWrite)) : laterWrites (p ++ q) = laterWrites p ++ laterWrites q := by
  simp [laterWrites]
@[simp] theorem dueWrites_now (ws : List PipeWrite) : dueWrites (ws.map fun w => (0, w)) = ws := by
  simp [dueWrites, List.filter_map, Function.comp_def]
@[simp] theorem laterWrites_now (ws : List PipeWrite) : laterWrites (ws.map fun w => (0, w)) = [] := by
  simp [laterWrites, List.filter_map, Function.comp_def]

theorem readG_stored (g : Engine) (sp : Bool) (a : Nat) (w : BitVec 16) (r : GReg) : (g.stored sp a w).readG r = g.readG r := by
  cases sp <;> rfl

/-- A calm engine whose operation writes words `h` has, with the writes `p` under way: both are followed apart. -/
theorem exec_calm_pipe {I : Instr} {i : EInstr} {s : State} {e : EngId} {h : Engine} {p : List (Nat × PipeWrite)}
    (hexec : exec I s = .next (s.within engineParts (s.issue e i))) (hc : EngCalm s e)
    (hop : engOp (s.regions (s.eng e)) (s.ringsOf (s.eng e)) i (s.eng e) = .ok ({ h with pipe := p }, .none))
    (hone : engCycles i 0 = 1) :
    ∃ t, exec I s = .next t ∧ t.eng e = { engAfter h (dueWrites p) with pipe := laterWrites p } := by
  obtain ⟨t, ht, heng, -⟩ := exec_calm_eng hexec hc hop hone rfl
  refine ⟨t, ht, ?_⟩
  rw [heng, engAfter_setPipe]

/-! ### Format M -/

theorem loadValue_ok {g : Engine} {r : Regions} {f : MForm} {a : Nat} (hin : inRegion r f.spaceY (a % 16384) = true)
    (hin' : f.wide = true → inRegion r f.spaceY ((a + 1) % 16384) = true) :
    loadValue r f a g = .ok (if f.wide then
        BitVec.ofNat 16 (g.dataWord f.spaceY ((a + 1) % 16384)) ++ BitVec.ofNat 16 (g.dataWord f.spaceY (a % 16384))
      else (BitVec.ofNat 16 (g.dataWord f.spaceY (a % 16384))).signExtend 32) := by
  unfold loadValue
  rw [readWord_ok hin]
  cases hw : f.wide with
  | false => rfl
  | true =>
    rw [readWord_ok (hin' hw)]
    rfl

/-- What a store with BX puts on its way: BEXP may fall to the word's headroom (R379). -/
def bexpWrites (bx : Bool) (w : BitVec 16) : List (Nat × PipeWrite) := if bx then [(1, .bexpMin (headroom 16 w))] else []

theorem with_own_pipe {g : Engine} {p : List (Nat × PipeWrite)} (hp : g.pipe = p) : { g with pipe := p } = g := by
  subst hp
  rfl

theorem storeWord_ok {g : Engine} {r : Regions} {sp : Bool} (bx : Bool) {a : Nat} (w : BitVec 16)
    (hin : inRegion r sp (a % 16384) = true) :
    storeWord r sp bx a w g = .ok { g.stored sp (a % 16384) w with pipe := g.pipe ++ bexpWrites bx w } := by
  unfold storeWord bexpWrites
  rw [writeWord_ok w hin, ← pipe_stored g sp (a % 16384) w]
  cases bx with
  | false => simp only [Bool.false_eq_true, if_false, List.append_nil]; rfl
  | true => rfl

/-- The engine after the one or two words of a store (R389). -/
def storedValue (f : MForm) (a : Nat) (v : BitVec 32) (g : Engine) : Engine :=
  let h := g.stored f.spaceY (a % 16384) (v.setWidth 16)
  if f.wide then h.stored f.spaceY ((a + 1) % 16384) (v.extractLsb' 16 16) else h

theorem storeValue_ok {g : Engine} {r : Regions} {f : MForm} {a : Nat} (v : BitVec 32) (hf : (f.wide && f.bx) = false)
    (hin : inRegion r f.spaceY (a % 16384) = true)
    (hin' : f.wide = true → inRegion r f.spaceY ((a + 1) % 16384) = true) :
    storeValue r f a v g = .ok { storedValue f a v g with pipe := g.pipe ++ bexpWrites f.bx (v.setWidth 16) } := by
  unfold storeValue storedValue
  cases hw : f.wide with
  | false =>
    rw [storeWord_ok f.bx _ hin]
    rfl
  | true =>
    have hbx : f.bx = false := by simpa [hw] using hf
    have hfirst : storeWord r f.spaceY false a (v.setWidth 16) g = .ok (g.stored f.spaceY (a % 16384) (v.setWidth 16)) :=
      (storeWord_ok false _ hin).trans (by rw [with_own_pipe (by simp [bexpWrites])])
    simp only [hin' hw, hbx, hfirst, Bool.not_true, Bool.and_false, Bool.false_eq_true, if_false, if_true]
    rw [with_own_pipe (by simp [bexpWrites])]
    exact writeWord_ok _ (hin' hw)

theorem engAfter_storedValue (f : MForm) (a : Nat) (v : BitVec 32) (g : Engine) (ws : List PipeWrite) :
    engAfter (storedValue f a v g) ws = storedValue f a v (engAfter g ws) := by
  unfold storedValue
  cases f.wide <;> simp only [Bool.false_eq_true, if_false, if_true, engAfter_stored]

theorem interrupt_storedValue (f : MForm) (a : Nat) (v : BitVec 32) (g : Engine) :
    (storedValue f a v g).interrupt = g.interrupt := by
  unfold storedValue
  cases f.wide <;> simp only [Bool.false_eq_true, if_false, if_true, interrupt_stored]

theorem storedValue_with_mem (f : MForm) (a : Nat) (v : BitVec 32) (g : Engine) (x y : List (Nat × Nat)) :
    { storedValue f a v g with x := x, y := y } = { g with x := x, y := y } := by
  unfold storedValue
  cases f.wide <;> simp only [Bool.false_eq_true, if_false, if_true, stored_with_mem]

theorem dataWord_storedValue {g : Engine} (hwf : g.memWf) (f : MForm) (a : Nat) (v : BitVec 32) (y : Bool) (n : Nat) :
    (storedValue f a v g).dataWord y n =
      if f.wide = true ∧ y = f.spaceY ∧ n = (a + 1) % 16384 then (v.extractLsb' 16 16).toNat
      else if y = f.spaceY ∧ n = a % 16384 then (v.setWidth 16).toNat else g.dataWord y n := by
  unfold storedValue
  cases f.wide with
  | false => simp [dataWord_stored hwf]
  | true => simp [dataWord_stored (memWf_stored hwf _ _ _), dataWord_stored hwf]

end Sys2Proof.Machine

namespace Sys2Proof.Proofs

open Sys2Proof Sys2Proof.Machine

/-- Settles O44: a load is one late write beside the pointer's; a store is `storedValue`, which the pipeline does not see. -/
theorem engineMemory : Obligations.EngineMemory := by
  intro e f a q s hc g r haddr hf hin hin' ptr word
  have hpipe := calm_pipe hc
  have hptr : ptr = pointerWrites g.interrupt f.p q := by cases q <;> rfl
  refine ⟨?_, fun hx hy => ?_⟩
  · have hop : engOp r (s.ringsOf g) (.ld f) g = .ok ({ g with pipe := (1, PipeWrite.g g.interrupt f.g
        (if f.wide then word g f.spaceY ((a + 1) % 16384) ++ word g f.spaceY (a % 16384)
          else (word g f.spaceY (a % 16384)).signExtend 32)) :: ptr.map fun w => (0, w) }, .none) := by
      rw [engOp_ld r _ hf, haddr]
      simp only [bind, Except.bind, loadValue_ok hin hin', pushP_eq, pipe_push, show g.pipe = [] from hpipe, List.nil_append, hptr]
      rfl
    obtain ⟨t, ht, heng⟩ := exec_calm_pipe (I := .ld e f) rfl hc hop rfl
    exact ⟨t, ht, by simpa using heng⟩
  · have hop : engOp r (s.ringsOf g) (.st f) g = .ok ({ storedValue f a (g.readG f.g) g with
        pipe := bexpWrites f.bx ((g.readG f.g).setWidth 16) ++ ptr.map fun w => (0, w) }, .none) := by
      rw [engOp_st r _ hf, haddr]
      simp only [bind, Except.bind, storeValue_ok _ hf hin hin', pushP_eq, show g.pipe = [] from hpipe, List.nil_append, hptr,
        interrupt_storedValue]
    obtain ⟨t, ht, heng⟩ := exec_calm_pipe (I := .st e f) rfl hc hop rfl
    have hdue : dueWrites (bexpWrites f.bx ((g.readG f.g).setWidth 16) ++ ptr.map fun w => (0, w)) = ptr := by
      cases f.bx <;> simp [bexpWrites]
    have hlater : laterWrites (bexpWrites f.bx ((g.readG f.g).setWidth 16) ++ ptr.map fun w => (0, w)) =
        if f.bx then [(0, .bexpMin (headroom 16 ((g.readG f.g).setWidth 16)))] else [] := by
      cases f.bx <;> simp [bexpWrites]
    rw [hdue, hlater, engAfter_storedValue] at heng
    have hwf : (engAfter g ptr).memWf := memWf_engAfter ⟨hx, hy⟩ ptr
    refine ⟨t, ht, ?_, fun y n => ?_⟩
    · rw [heng]
      have hmem := storedValue_with_mem f a (g.readG f.g) (engAfter g ptr) g.x g.y
      rw [engAfter_own_mem] at hmem
      exact congrArg (fun h : Engine => { h with pipe := if f.bx then [(0, .bexpMin (headroom 16 ((g.readG f.g).setWidth 16)))]
        else [] }) hmem
    · have hword := dataWord_storedValue hwf f a (g.readG f.g) y n
      rw [dataWord_engAfter] at hword
      rw [heng]
      refine (congrArg (BitVec.ofNat 16) hword).trans ?_
      split_ifs
      · exact BitVec.ofNat_toNat ..
      · exact BitVec.ofNat_toNat ..
      · rfl

end Sys2Proof.Proofs

/-! PROOFS. O46: the accumulators of an engine. -/

namespace Sys2Proof.Machine

open Sys2Proof

/-! ### Figures of the accumulators -/

theorem fit40_eq (sat : Bool) (n : Int) :
    fit40 sat n = (acc40 sat n, decide (n < -549755813888) || decide (549755813887 < n)) := by
  cases sat with
  | false => simp [fit40, acc40]
  | true =>
    simp only [fit40, acc40, if_true, true_and]
    split_ifs with hhi hlo
    · rw [clampInt_above (by decide) hhi]
      rfl
    · rw [clampInt_below hlo]
      rfl
    · rw [clampInt_inside (by omega) (by omega)]

/-- The accumulator shifted right, rounded under RND (R392). -/
def sacFigure (st : BitVec 16) (a : BitVec 40) (n : Nat) : Int :=
  (a.toInt + if st.getLsbD 7 = true ∧ 0 < n then 2 ^ (n - 1) else 0) / 2 ^ n

/-- A figure that 16 signed bits do not hold. -/
def sacLost (q : Int) : Bool := decide (q < -32768) || decide (32767 < q)

theorem sacWord_eq (st : BitVec 16) (a : BitVec 40) (n : Nat) :
    sacWord st a n = (if sacLost (sacFigure st a n) && st.getLsbD 5 then
        (if sacFigure st a n < 0 then 0x8000#16 else 0x7FFF#16) else BitVec.ofInt 16 (sacFigure st a n), sacLost (sacFigure st a n)) := by
  have hround : (if (stRnd st && decide (0 < n)) = true then a.toInt + 2 ^ (n - 1) else a.toInt) / 2 ^ n = sacFigure st a n := by
    simp only [sacFigure, stRnd, Bool.and_eq_true, decide_eq_true_eq]
    split_ifs <;> simp
  simp only [sacWord, hround, stSat, sacLost]
  generalize sacFigure st a n = q
  by_cases hboth : ((decide (q < -32768) || decide (32767 < q)) && st.getLsbD 5) = true
  · obtain ⟨hlost, hsat⟩ := (Bool.and_eq_true _ _).mp hboth
    simp only [hlost, hsat, Bool.and_self, if_true]
    simp only [Bool.or_eq_true, decide_eq_true_eq] at hlost
    by_cases hneg : q < 0
    · rw [clampInt_below (by omega), if_pos hneg]
      rfl
    · rw [clampInt_above (by decide) (by omega), if_neg hneg]
      rfl
  · simp only [hboth, if_false, Bool.false_eq_true]

@[simp] theorem dueWrites_if (b : Bool) (w : PipeWrite) :
    dueWrites (if b = true then [(0, w)] else []) = if b = true then [w] else [] := by
  cases b <;> rfl
@[simp] theorem laterWrites_if (b : Bool) (w : PipeWrite) : laterWrites (if b = true then [(0, w)] else []) = [] := by
  cases b <;> rfl

theorem pushAcc_eq (g : Engine) (a : Fin 2) (v : BitVec 40) (ov : Bool) :
    g.pushAcc a v ov = { g.setBank g.interrupt { g.bank with fwd := g.bank.fwd.set a.val v } with
      pipe := g.pipe ++ (2, .acc g.interrupt a v) :: if ov then [(0, .setOv g.interrupt)] else [] } := by
  have hi := (regsOnly_setBank g g.interrupt { g.bank with fwd := g.bank.fwd.set a.val v }).interrupt
  have hp := (regsOnly_setBank g g.interrupt { g.bank with fwd := g.bank.fwd.set a.val v }).pipe
  cases ov with
  | false => simp only [Engine.pushAcc, Engine.push, hp]; rfl
  | true => simp only [Engine.pushAcc, Engine.push, hp, hi, List.append_assoc]; rfl

/-- LDA, ADDA, SUBA: an accumulate of a calm engine from a shifted register (R386, R391). -/
theorem exec_aAcc {I : Instr} {i : EInstr} {s : State} {e : EngId} {f : AForm} {comb : Int → Int → Int}
    (hexec : exec I s = .next (s.within engineParts (s.issue e i))) (hc : EngCalm s e)
    (hop : engOp (s.regions (s.eng e)) (s.ringsOf (s.eng e)) i (s.eng e) = .ok (aAcc f (s.eng e) comb, .none))
    (hone : engCycles i 0 = 1) :
    let g := s.eng e
    let n := comb (g.bank.fwd[f.a.val]).toInt ((g.readG f.g).toInt * 2 ^ f.shift.val)
    let v := acc40 (g.bank.st.getLsbD 5) n
    ∃ t, exec I s = .next t ∧ t.eng e = { engAfter (g.setBank g.interrupt { g.bank with fwd := g.bank.fwd.set f.a.val v })
      (if (decide (n < -549755813888) || decide (549755813887 < n)) = true then [.setOv g.interrupt] else [])
        with pipe := [(1, .acc g.interrupt f.a v)] } := by
  intro g n v
  have hop' := hop
  simp only [aAcc, fit40_eq, pushAcc_eq, calm_pipe hc, List.nil_append] at hop'
  obtain ⟨t, ht, heng⟩ := exec_calm_pipe hexec hc hop' hone
  simp only [dueWrites_cons_two, laterWrites_cons_two, dueWrites_if, laterWrites_if] at heng
  exact ⟨t, ht, heng⟩

theorem pushIf_eq (b : Bool) (g : Engine) (w : PipeWrite) :
    (if b = true then g.push 0 w else g) = { g with pipe := g.pipe ++ if b = true then [(0, w)] else [] } := by
  cases b with
  | false => simp only [Bool.false_eq_true, if_false, List.append_nil]
  | true => rfl

/-- SACG: the word to a register, and OV where 16 bits lose it. -/
theorem exec_sacg {s : State} {e : EngId} (f : AForm) (hc : EngCalm s e) :
    let g := s.eng e
    let w := sacWord g.bank.st g.bank.a[f.a.val] f.shift.val
    ∃ t, exec (.sacg e f) s = .next t ∧ t.eng e = engAfter g (.g g.interrupt f.g (w.1.signExtend 32) ::
      if w.2 = true then [.setOv g.interrupt] else []) := by
  intro g w
  have hop : engOp (s.regions g) (s.ringsOf g) (.sacg f) g = .ok ({ g with pipe := (0, PipeWrite.g g.interrupt f.g (w.1.signExtend 32)) ::
      if w.2 = true then [(0, .setOv g.interrupt)] else [] }, .none) := by
    simp only [engOp, pushIf_eq, pipe_push, show g.pipe = [] from calm_pipe hc, List.nil_append, List.cons_append]
    rfl
  obtain ⟨t, ht, heng⟩ := exec_calm_pipe (I := .sacg e f) rfl hc hop rfl
  simp only [dueWrites_cons_zero, laterWrites_cons_zero, dueWrites_if, laterWrites_if] at heng
  exact ⟨t, ht, heng.trans (engAfter_with_pipe (calm_pipe hc) _)⟩

/-- SAC: the word to the addressed place, the pointer, and OV where 16 bits lose it. -/
theorem exec_sac {s : State} {e : EngId} {f : AForm} {a : Nat} {p : Option (BitVec 14)} (hc : EngCalm s e)
    (haddr : effAddr (s.eng e) f.mode f.p f.addr.toNat f.addr.toInt = .ok (a, p))
    (hin : inRegion (s.regions (s.eng e)) f.spaceY (a % 16384) = true) :
    let g := s.eng e
    let w := sacWord g.bank.st g.bank.a[f.a.val] f.shift.val
    ∃ t, exec (.sac e f) s = .next t ∧ t.eng e = { (engAfter g (pointerWrites g.interrupt f.p p ++
        if w.2 = true then [.setOv g.interrupt] else [])).stored f.spaceY (a % 16384) w.1 with
      pipe := if f.bx then [(0, .bexpMin (headroom 16 w.1))] else [] } := by
  intro g w
  have haddr : effAddr g f.mode f.p f.addr.toNat f.addr.toInt = .ok (a, p) := haddr
  have hin : inRegion (s.regions g) f.spaceY (a % 16384) = true := hin
  have hop : engOp (s.regions g) (s.ringsOf g) (.sac f) g = .ok ({ g.stored f.spaceY (a % 16384) w.1 with
      pipe := bexpWrites f.bx w.1 ++ ((pointerWrites g.interrupt f.p p).map fun w => (0, w)) ++
        if w.2 = true then [(0, .setOv g.interrupt)] else [] }, .none) := by
    simp only [engOp, haddr, bind, Except.bind, storeWord_ok f.bx _ hin, pushIf_eq, pushP_eq,
      show g.pipe = [] from calm_pipe hc, List.nil_append, interrupt_stored]
    rfl
  obtain ⟨t, ht, heng⟩ := exec_calm_pipe (I := .sac e f) rfl hc hop rfl
  have hlater : laterWrites (bexpWrites f.bx w.1) = if f.bx then [(0, .bexpMin (headroom 16 w.1))] else [] := by
    cases f.bx <;> rfl
  have hdue : dueWrites (bexpWrites f.bx w.1) = [] := by cases f.bx <;> rfl
  simp only [dueWrites_append, laterWrites_append, dueWrites_now, laterWrites_now, dueWrites_if, laterWrites_if, hdue, hlater,
    List.nil_append, List.append_nil, engAfter_stored] at heng
  exact ⟨t, ht, heng⟩

end Sys2Proof.Machine

namespace Sys2Proof.Proofs

open Sys2Proof Sys2Proof.Machine

/-- Settles O46: an accumulate puts the forwarded value at once and the readers' one two issues later; SAC's word is one store. -/
theorem engineAccumulators : Obligations.EngineAccumulators := by
  intro e f s hc g r st old n out q lost w ov
  have hword : sacWord g.bank.st g.bank.a[f.a.val] f.shift.val = (w, lost) := sacWord_eq _ _ _
  refine ⟨?_, ?_, ?_⟩
  · intro i hi
    simp only [List.mem_cons, List.not_mem_nil, or_false] at hi
    rcases hi with rfl | rfl | rfl
    · exact exec_aAcc (i := .lda f) (comb := fun _ n => n) rfl hc rfl rfl
    · exact exec_aAcc (i := .adda f) (comb := fun a n => a + n) rfl hc rfl rfl
    · exact exec_aAcc (i := .suba f) (comb := fun a n => a - n) rfl hc rfl rfl
  · have hsacg := exec_sacg f hc
    simp only [show sacWord (s.eng e).bank.st (s.eng e).bank.a[f.a.val] f.shift.val = (w, lost) from hword] at hsacg
    exact hsacg
  · intro a p haddr hin hx hy
    have hsac := exec_sac hc haddr hin
    simp only [show sacWord (s.eng e).bank.st (s.eng e).bank.a[f.a.val] f.shift.val = (w, lost) from hword] at hsac
    obtain ⟨t, ht, heng⟩ := hsac
    refine ⟨t, ht, ?_, fun y m => ?_⟩
    · have hmem := stored_with_mem (engAfter g (pointerWrites g.interrupt f.p p ++ ov)) f.spaceY (a % 16384) w g.x g.y
      rw [engAfter_own_mem] at hmem
      rw [heng]
      exact congrArg (fun h : Engine => { h with pipe := if f.bx then [(0, .bexpMin (headroom 16 w))] else [] }) hmem
    · rw [heng]
      refine (dataWord_stored (memWf_engAfter ⟨hx, hy⟩ _) f.spaceY (a % 16384) w y m).trans ?_
      rw [dataWord_engAfter]
      rfl

end Sys2Proof.Proofs

/-! PROOFS. O45: the products and the parallel loads of an engine. -/

namespace Sys2Proof.Machine

open Sys2Proof

theorem product_eq (frac : Bool) (m n : BitVec 32) :
    product frac m n = (mul16 frac m n, frac && decide ((m.setWidth 16).toInt * (n.setWidth 16).toInt = 1073741824)) := by
  unfold product mul16
  cases frac with
  | false => rfl
  | true =>
    by_cases hp : (m.setWidth 16).toInt * (n.setWidth 16).toInt = 1073741824 <;>
      simp only [hp, if_true, if_false, Bool.true_and, decide_true, decide_false] <;> rfl

/-! ### Parallel loads -/

/-- The pointer that a parallel load writes, `q` being the one that post-modify gives (R381, R388). -/
def movedPointer (v q : BitVec 14) (mode : Fin 4) : Option (BitVec 14) :=
  if mode.val = 2 then some (v + 1) else if mode.val = 3 then some q else none

/-- What a parallel load puts on its way. -/
def loadPipe (g : Engine) (sp : Bool) (p mode : Fin 4) (dst : GReg) (q : BitVec 14) : List (Nat × PipeWrite) :=
  if mode.val = 0 then []
  else (1, .g g.interrupt dst ((BitVec.ofNat 16 (g.dataWord sp ((g.readP p).toNat % 16384))).signExtend 32))
    :: (pointerWrites g.interrupt p (movedPointer (g.readP p) q mode)).map fun w => (0, w)

theorem dPointer_ok {g : Engine} {p mode : Fin 4} {q : BitVec 14} (hm : mode.val ≠ 0)
    (hq : mode.val = 3 → postModify (g.readP p) g.m[p.val] = .ok q) : dPointer g p mode = .ok (movedPointer (g.readP p) q mode) := by
  unfold dPointer movedPointer
  by_cases h1 : mode.val = 1
  · simp [h1]
  · by_cases h2 : mode.val = 2
    · simp [h2]
    · have h3 : mode.val = 3 := by omega
      simp [h3, hq h3, Except.map]

theorem dLoad_ok {g : Engine} {r : Regions} {sp : Bool} {p mode : Fin 4} (dst : GReg) {q : BitVec 14}
    (hin : mode.val ≠ 0 → inRegion r sp ((g.readP p).toNat % 16384) = true)
    (hq : mode.val = 3 → postModify (g.readP p) g.m[p.val] = .ok q) :
    dLoad r sp p mode dst g = .ok { g with pipe := g.pipe ++ loadPipe g sp p mode dst q } := by
  by_cases hm : mode.val = 0
  · rw [dLoad_none r sp p dst hm, with_own_pipe (by simp [loadPipe, hm])]
  · rw [dLoad_some r sp p dst hm, dPointer_ok hm hq]
    simp only [bind, Except.bind, readWord_ok (hin hm), pushP_eq, pipe_push, interrupt_push, List.append_assoc, loadPipe, hm,
      if_false]
    rfl

theorem dLoads_ok {g : Engine} {r : Regions} {f : DForm} {qx qy : BitVec 14}
    (hinx : f.xmode.val ≠ 0 → inRegion r false ((g.readP ⟨f.xp.val, by omega⟩).toNat % 16384) = true)
    (hiny : f.ymode.val ≠ 0 → inRegion r true ((g.readP ⟨f.yp.val + 2, by omega⟩).toNat % 16384) = true)
    (hqx : f.xmode.val = 3 → postModify (g.readP ⟨f.xp.val, by omega⟩) g.m[f.xp.val] = .ok qx)
    (hqy : f.ymode.val = 3 → postModify (g.readP ⟨f.yp.val + 2, by omega⟩) g.m[f.yp.val + 2] = .ok qy) :
    dLoads r f g = .ok { g with pipe := g.pipe ++ (loadPipe g false ⟨f.xp.val, by omega⟩ f.xmode ⟨f.xdst.val, by omega⟩ qx
      ++ loadPipe g true ⟨f.yp.val + 2, by omega⟩ f.ymode ⟨f.ydst.val + 4, by omega⟩ qy) } := by
  unfold dLoads
  rw [dLoad_ok _ hinx hqx]
  refine (dLoad_ok _ (g := { g with pipe := g.pipe ++ loadPipe g false ⟨f.xp.val, by omega⟩ f.xmode ⟨f.xdst.val, by omega⟩ qx })
    hiny hqy).trans ?_
  simp only [List.append_assoc]
  rfl

/-- The load's own write, one issue nearer, and its pointer's, visible. -/
theorem laterWrites_loadPipe (g : Engine) (sp : Bool) (p mode : Fin 4) (dst : GReg) (q : BitVec 14) :
    laterWrites (loadPipe g sp p mode dst q) = if mode.val = 0 then [] else
      [(0, .g g.interrupt dst ((BitVec.ofNat 16 (g.dataWord sp ((g.readP p).toNat % 16384))).signExtend 32))] := by
  unfold loadPipe
  split <;> simp

theorem dueWrites_loadPipe (g : Engine) (sp : Bool) (p mode : Fin 4) (dst : GReg) (q : BitVec 14) :
    dueWrites (loadPipe g sp p mode dst q) = pointerWrites g.interrupt p (movedPointer (g.readP p) q mode) := by
  unfold loadPipe
  split
  next h => simp [movedPointer, h, pointerWrites]
  next h => simp

/-! ### Registers under a pointer write, OV and a forwarded accumulator -/

/-- The registers of two engines agree but for the pointers. -/
structure PointersOnly (g h : Engine) : Prop where
  fwd : h.bank.fwd = g.bank.fwd
  a : h.bank.a = g.bank.a
  st : h.bank.st = g.bank.st
  readG : ∀ n : GReg, h.readG n = g.readG n
  m : h.m = g.m
  bexp : h.bexp = g.bexp

theorem bank_setBank (g : Engine) (b : RegBank) : (g.setBank g.interrupt b).bank = b := by
  cases hi : g.interrupt <;> simp [Engine.setBank, Engine.bank, hi]

theorem readG_setBank_g (g : Engine) (b : RegBank) (hb : b.g = g.bank.g) (r : GReg) :
    (g.setBank g.interrupt b).readG r = g.readG r := by
  rw [readG_setBank, hb]
  rfl

theorem m_setBank (g : Engine) (sh : Bool) (b : RegBank) : (g.setBank sh b).m = g.m := by cases sh <;> rfl
theorem bexp_setBank (g : Engine) (sh : Bool) (b : RegBank) : (g.setBank sh b).bexp = g.bexp := by cases sh <;> rfl

theorem pointersOnly_apply_p (g : Engine) (p : Fin 4) (v : BitVec 14) : PointersOnly g ((PipeWrite.p g.interrupt p v).apply g) := by
  simp only [PipeWrite.apply]
  split
  · constructor <;> simp only [bank_setBank, m_setBank, bexp_setBank, bankOf_interrupt, readG_setBank_g, implies_true]
  · constructor <;> intros <;> rfl

/-- A pointer's writes reach that pointer alone. -/
theorem pointerWrites_spec (g : Engine) (p mode : Fin 4) (q : BitVec 14) :
    let h := (pointerWrites g.interrupt p (movedPointer (g.readP p) q mode)).foldl (fun h w => w.apply h) g
    PointersOnly g h ∧ ∀ n : Fin 4, h.readP n =
      if n = p then (if mode.val = 2 then g.readP p + 1 else if mode.val = 3 then q else g.readP p) else g.readP n := by
  unfold movedPointer
  split
  · exact ⟨pointersOnly_apply_p g p _, fun n => readP_apply_p g p n _⟩
  · split
    · exact ⟨pointersOnly_apply_p g p _, fun n => readP_apply_p g p n _⟩
    · refine ⟨⟨rfl, rfl, rfl, fun _ => rfl, rfl, rfl⟩, fun n => ?_⟩
      split
      next h => rw [h]; rfl
      next => rfl

theorem PointersOnly.trans {g h k : Engine} (a : PointersOnly g h) (b : PointersOnly h k) : PointersOnly g k :=
  ⟨b.fwd.trans a.fwd, b.a.trans a.a, b.st.trans a.st, fun n => (b.readG n).trans (a.readG n), b.m.trans a.m, b.bexp.trans a.bexp⟩

/-- The engine `g` with an accumulator forwarded, and OV set where its value was lost. -/
def Engine.forwarded (g : Engine) (a : Fin 2) (v : BitVec 40) (ov : Bool) : Engine :=
  g.setBank g.interrupt { g.bank with fwd := g.bank.fwd.set a.val v, st := if ov then g.bank.st ||| 16#16 else g.bank.st }

theorem bank_forwarded (g : Engine) (a : Fin 2) (v : BitVec 40) (ov : Bool) : (g.forwarded a v ov).bank =
    { g.bank with fwd := g.bank.fwd.set a.val v, st := if ov then g.bank.st ||| 16#16 else g.bank.st } := bank_setBank g _

theorem readG_forwarded (g : Engine) (a : Fin 2) (v : BitVec 40) (ov : Bool) (n : GReg) : (g.forwarded a v ov).readG n = g.readG n :=
  readG_setBank_g g _ (by rfl) n

theorem setOv_forwarded (g : Engine) (a : Fin 2) (v : BitVec 40) (ov : Bool) :
    (if ov = true then [PipeWrite.setOv g.interrupt] else []).foldl (fun h w => w.apply h)
      (g.setBank g.interrupt { g.bank with fwd := g.bank.fwd.set a.val v }) = g.forwarded a v ov := by
  cases ov with
  | false => rfl
  | true => cases hi : g.interrupt <;> simp [PipeWrite.apply, Engine.forwarded, Engine.setBank, Engine.bankOf, Engine.bank, hi, stPut]

theorem readP_pushAcc (g : Engine) (a : Fin 2) (v : BitVec 40) (ov : Bool) (p : Fin 4) : (g.pushAcc a v ov).readP p = g.readP p := by
  rw [pushAcc_eq]
  exact readP_setBank_g g _ p rfl

theorem m_pushAcc (g : Engine) (a : Fin 2) (v : BitVec 40) (ov : Bool) : (g.pushAcc a v ov).m = g.m := by
  rw [pushAcc_eq]
  exact m_setBank g _ _

theorem loadPipe_pushAcc (g : Engine) (a : Fin 2) (v : BitVec 40) (ov : Bool) (sp : Bool) (p mode : Fin 4) (dst : GReg)
    (q : BitVec 14) : loadPipe (g.pushAcc a v ov) sp p mode dst q = loadPipe g sp p mode dst q := by
  have hregs := regsOnly_setBank g g.interrupt { g.bank with fwd := g.bank.fwd.set a.val v }
  have hi : (g.pushAcc a v ov).interrupt = g.interrupt := by rw [pushAcc_eq]; exact hregs.interrupt
  have hw : ∀ n, (g.pushAcc a v ov).dataWord sp n = g.dataWord sp n := by
    intro n
    rw [pushAcc_eq]
    simp only [Engine.dataWord, hregs.x, hregs.y]
  simp only [loadPipe, readP_pushAcc, hi, hw]

/-- A calm engine accumulates and loads: the accumulator is forwarded, its readers' write is two issues away, the loads' one, and
the pointers have moved. -/
theorem exec_dForm {I : Instr} {i : EInstr} {s : State} {e : EngId} {f : DForm} {v : BitVec 40} {ov : Bool} {qx qy : BitVec 14}
    (hexec : exec I s = .next (s.within engineParts (s.issue e i))) (hc : EngCalm s e)
    (hop : engOp (s.regions (s.eng e)) (s.ringsOf (s.eng e)) i (s.eng e) =
      (dLoads (s.regions (s.eng e)) f ((s.eng e).pushAcc f.a v ov)).map (·, .none)) (hone : engCycles i 0 = 1) :
    let g := s.eng e
    let r := s.regions g
    let xp : Fin 4 := ⟨f.xp.val, by omega⟩
    let yp : Fin 4 := ⟨f.yp.val + 2, by omega⟩
    (f.xmode.val ≠ 0 → inRegion r false ((g.readP xp).toNat % 16384) = true) →
    (f.ymode.val ≠ 0 → inRegion r true ((g.readP yp).toNat % 16384) = true) →
    (f.xmode.val = 3 → postModify (g.readP xp) g.m[xp.val] = .ok qx) →
    (f.ymode.val = 3 → postModify (g.readP yp) g.m[yp.val] = .ok qy) →
    ∃ t, exec I s = .next t ∧ t.eng e = { engAfter (g.setBank g.interrupt { g.bank with fwd := g.bank.fwd.set f.a.val v })
        ((if ov = true then [.setOv g.interrupt] else []) ++ pointerWrites g.interrupt xp (movedPointer (g.readP xp) qx f.xmode)
          ++ pointerWrites g.interrupt yp (movedPointer (g.readP yp) qy f.ymode)) with
      pipe := (1, .acc g.interrupt f.a v) :: (laterWrites (loadPipe g false xp f.xmode ⟨f.xdst.val, by omega⟩ qx)
        ++ laterWrites (loadPipe g true yp f.ymode ⟨f.ydst.val + 4, by omega⟩ qy)) } := by
  intro g r xp yp hinx hiny hqx hqy
  have hloads := dLoads_ok (g := g.pushAcc f.a v ov) (r := r) (f := f) (qx := qx) (qy := qy)
    (by rw [readP_pushAcc]; exact hinx) (by rw [readP_pushAcc]; exact hiny)
    (by simp only [readP_pushAcc, m_pushAcc]; exact hqx) (by simp only [readP_pushAcc, m_pushAcc]; exact hqy)
  simp only [loadPipe_pushAcc] at hloads
  rw [pushAcc_eq g f.a v ov] at hloads
  rw [show s.eng e = g from rfl, pushAcc_eq, show s.regions g = r from rfl, hloads] at hop
  obtain ⟨t, ht, heng⟩ := exec_calm_pipe (h := g.setBank g.interrupt { g.bank with fwd := g.bank.fwd.set f.a.val v }) hexec hc hop
    hone
  simp only [show g.pipe = [] from calm_pipe hc, List.nil_append, List.cons_append, dueWrites_cons_two, laterWrites_cons_two,
    dueWrites_append, laterWrites_append, dueWrites_if, laterWrites_if, dueWrites_loadPipe] at heng
  exact ⟨t, ht, by simpa only [List.append_assoc] using heng⟩

/-- What the readers of a calm engine find after such an accumulate. -/
theorem regs_dForm (g : Engine) (a : Fin 2) (v : BitVec 40) (ov : Bool) {xp yp : Fin 4} (hne : yp ≠ xp) (xmode ymode : Fin 4)
    (qx qy : BitVec 14) :
    let moved (v q : BitVec 14) (m : Fin 4) : BitVec 14 := if m.val = 2 then v + 1 else if m.val = 3 then q else v
    let h := engAfter (g.setBank g.interrupt { g.bank with fwd := g.bank.fwd.set a.val v })
        ((if ov = true then [.setOv g.interrupt] else []) ++ pointerWrites g.interrupt xp (movedPointer (g.readP xp) qx xmode)
          ++ pointerWrites g.interrupt yp (movedPointer (g.readP yp) qy ymode))
    PointersOnly (g.forwarded a v ov) h ∧ ∀ n : Fin 4, h.readP n = if n = xp then moved (g.readP xp) qx xmode
      else if n = yp then moved (g.readP yp) qy ymode else g.readP n := by
  intro moved h
  have hreadP : ∀ n, (g.forwarded a v ov).readP n = g.readP n := fun n => readP_setBank_g g _ n rfl
  have hint : (g.forwarded a v ov).interrupt = g.interrupt := (regsOnly_setBank g _ _).interrupt
  obtain ⟨hx, hpx⟩ := pointerWrites_spec (g.forwarded a v ov) xp xmode qx
  rw [hreadP, hint] at hx hpx
  generalize hk : (pointerWrites g.interrupt xp (movedPointer (g.readP xp) qx xmode)).foldl (fun h w => w.apply h)
    (g.forwarded a v ov) = k at hx hpx
  have hkp : k.readP yp = g.readP yp := by rw [hpx, if_neg hne, hreadP]
  have hki : k.interrupt = g.interrupt := by rw [← hk, (regsOnly_foldl_apply _ _).interrupt, hint]
  obtain ⟨hy, hpy⟩ := pointerWrites_spec k yp ymode qy
  rw [hkp, hki] at hy hpy
  have hregs := hx.trans hy
  have hh : h = engAfter (g.setBank g.interrupt { g.bank with fwd := g.bank.fwd.set a.val v }) _ := rfl
  rw [hh, engAfter_eq]
  simp only [List.foldl_append, setOv_forwarded, hk]
  refine ⟨⟨hregs.fwd, hregs.a, hregs.st, hregs.readG, hregs.m, hregs.bexp⟩, fun n => ?_⟩
  refine (hpy n).trans ?_
  rw [hpx n, hreadP]
  by_cases hnx : n = xp
  · subst hnx
    simp [hne.symm, moved]
  · simp [hnx, moved]

theorem engAfter_place (g : Engine) (ws : List PipeWrite) :
    (engAfter g ws).x = g.x ∧ (engAfter g ws).y = g.y ∧ (engAfter g ws).stack = g.stack ∧ (engAfter g ws).pc = (g.pc + 1) % 16384
      ∧ (engAfter g ws).cycles = g.cycles + 1 := by
  have hregs := regsOnly_foldl_apply ws g
  rw [engAfter_eq]
  exact ⟨hregs.x, hregs.y, hregs.stack, rfl, rfl⟩

/-- The accumulate of format D, its product and its lost value named (R390, R391). -/
theorem dAcc_eq (r : Regions) (f : DForm) (g : Engine) (comb : Int → Int → Int) :
    let st := g.bank.st
    let n := comb g.bank.fwd[f.a.val].toInt (mul16 (st.getLsbD 6) (g.readG f.gm) (g.readG f.gn))
    let twice := st.getLsbD 6 && decide (((g.readG f.gm).setWidth 16).toInt * ((g.readG f.gn).setWidth 16).toInt = 1073741824)
    dAcc r f g comb = dLoads r f (g.pushAcc f.a (acc40 (st.getLsbD 5) n)
      (twice || (decide (n < -549755813888) || decide (549755813887 < n)))) := by
  simp only [dAcc, product_eq, fit40_eq]
  rfl

end Sys2Proof.Machine

namespace Sys2Proof.Proofs

open Sys2Proof Sys2Proof.Machine

/-- Settles O45: `exec_dForm` gives the engine of each row, `regs_dForm` what its readers find. -/
theorem engineProducts : Obligations.EngineProducts := by
  intro e f s hc g r xp yp px py hinx hiny qx qy hqx hqy st old p twice out moved loads i hi
  have hne : yp ≠ xp := by
    intro h
    have := congrArg Fin.val h
    simp only [yp, xp] at this
    omega
  have hrow : ∃ j : EInstr, exec i.1 s = .next (s.within engineParts (s.issue e j))
      ∧ engOp r (s.ringsOf g) j g = (dLoads r f (g.pushAcc f.a i.2.1 i.2.2)).map (·, .none) ∧ engCycles j 0 = 1 := by
    simp only [List.mem_cons, List.not_mem_nil, or_false] at hi
    rcases hi with rfl | rfl | rfl | rfl
    · exact ⟨.mpy f, rfl, congrArg (Except.map (·, EngEvent.none)) (dAcc_eq r f g fun _ p => p), rfl⟩
    · exact ⟨.mac f, rfl, congrArg (Except.map (·, EngEvent.none)) (dAcc_eq r f g fun a p => a + p), rfl⟩
    · exact ⟨.msu f, rfl, congrArg (Except.map (·, EngEvent.none)) (dAcc_eq r f g fun a p => a - p), rfl⟩
    · exact ⟨.clra f, rfl, rfl, rfl⟩
  obtain ⟨j, hexec, hop, hone⟩ := hrow
  obtain ⟨t, ht, heng⟩ := exec_dForm hexec hc hop hone hinx hiny hqx hqy
  obtain ⟨hregs, hptrs⟩ := regs_dForm g f.a i.2.1 i.2.2 hne f.xmode f.ymode qx qy
  have hmem := regsOnly_setBank g g.interrupt { g.bank with fwd := g.bank.fwd.set f.a.val i.2.1 }
  have hplace := engAfter_place (g.setBank g.interrupt { g.bank with fwd := g.bank.fwd.set f.a.val i.2.1 })
    ((if i.2.2 = true then [.setOv g.interrupt] else []) ++ pointerWrites g.interrupt xp (movedPointer (g.readP xp) qx f.xmode)
      ++ pointerWrites g.interrupt yp (movedPointer (g.readP yp) qy f.ymode))
  obtain ⟨hx, hy, hstack, hpc, hcycles⟩ := hplace
  refine ⟨t, ht, ?_⟩
  rw [heng]
  refine ⟨hregs.fwd.trans ?_, hregs.a.trans ?_, ?_, hregs.st.trans ?_, hptrs, fun n => (hregs.readG n).trans ?_, hregs.m.trans ?_,
    hx.trans hmem.x, hy.trans hmem.y, hregs.bexp.trans ?_, hstack.trans hmem.stack, ?_, ?_⟩
  · rw [bank_forwarded]
  · rw [bank_forwarded]
  · simp only [laterWrites_loadPipe]
    rfl
  · rw [bank_forwarded]
  · exact readG_forwarded g f.a i.2.1 i.2.2 n
  · exact m_setBank g _ _
  · exact bexp_setBank g _ _
  · exact hpc.trans (by rw [hmem.pc])
  · exact hcycles.trans (by rw [hmem.cycles])

end Sys2Proof.Proofs

/-! PROOFS. O47: branches, calls, repeats and delay slots of an engine. -/

namespace Sys2Proof.Machine

open Sys2Proof

/-- A calm engine after an operation with no write under way. -/
theorem exec_flow {I : Instr} {i : EInstr} {s : State} {e : EngId} {h : Engine}
    (hexec : exec I s = .next (s.within engineParts (s.issue e i))) (hc : EngCalm s e)
    (hop : engOp (s.regions (s.eng e)) (s.ringsOf (s.eng e)) i (s.eng e) = .ok (h, .none)) (hone : engCycles i 0 = 1)
    (hpipe : h.pipe = []) : ∃ t, exec I s = .next t ∧ t.eng e = engAfter h [] := by
  obtain ⟨t, ht, heng, -⟩ := exec_calm_eng (g' := engAfter h []) hexec hc hop hone
    (by rw [hpipe]; exact engAfter_with_pipe hpipe [])
  exact ⟨t, ht, heng⟩

/-! ### Branches -/

theorem relTarget_lt (g : Engine) (imm : BitVec 16) : relTarget g imm < 16384 := by
  have hlt := Int.emod_lt_of_pos ((g.pc : Int) + imm.toInt) (b := 16384) (by decide)
  have hnn := Int.emod_nonneg ((g.pc : Int) + imm.toInt) (b := 16384) (by decide)
  show (((g.pc : Int) + imm.toInt) % 16384).toNat < 16384
  omega

theorem branch_taken {g : Engine} {r : Regions} {a : Nat} (hin : inProg r (a % 16384) = true) :
    branch r true a g = .ok { g with delayed := some (.jump (a % 16384)) } := by
  simp only [branch, if_true, hin]

theorem engOp_b_taken {g : Engine} {r : Regions} (rings : EngRings) {c : Fin 16} {imm : BitVec 16}
    (hcond : condHolds g.bank.st c = some true) (hin : inProg r (relTarget g imm) = true) :
    engOp r rings (.b c imm) g = .ok ({ g with delayed := some (.jump (relTarget g imm)) }, .none) := by
  have hmod : relTarget g imm % 16384 = relTarget g imm := Nat.mod_eq_of_lt (relTarget_lt g imm)
  simp only [engOp, hcond, branch_taken (show inProg r (relTarget g imm % 16384) = true by rw [hmod]; exact hin), hmod]
  rfl

theorem engOp_call_taken {g : Engine} {r : Regions} (rings : EngRings) {c : Fin 16} {imm : BitVec 16}
    (hcond : condHolds g.bank.st c = some true) (hin : inProg r (relTarget g imm) = true) (hroom : g.stack.length < 8) :
    engOp r rings (.call c imm) g = .ok ({ g with
      stack := BitVec.ofNat 14 (g.pc + 2) :: g.stack, delayed := some (.jump (relTarget g imm)) }, .none) := by
  have hmod : relTarget g imm % 16384 = relTarget g imm := Nat.mod_eq_of_lt (relTarget_lt g imm)
  simp only [engOp, hcond, hroom, if_true,
    branch_taken (show inProg r (relTarget g imm % 16384) = true by rw [hmod]; exact hin), hmod]
  rfl

theorem engOp_ret_taken {g : Engine} {r : Regions} (rings : EngRings) {v : BitVec 14} {rest : List (BitVec 14)}
    (hstack : g.stack = v :: rest) (hin : inProg r (v.toNat % 16384) = true) :
    engOp r rings .ret g = .ok ({ g with stack := rest, delayed := some (.jump (v.toNat % 16384)) }, .none) := by
  simp only [engOp, hstack, branch_taken hin]
  rfl

theorem engOp_setRep {g : Engine} {n : Nat} (hlo : 1 ≤ n) (hhi : n ≤ 4096) :
    (setRep n g).map (·, EngEvent.none) = .ok ({ g with rep := some n }, .none) := by
  simp only [setRep, hlo, hhi, and_self, if_true]
  rfl

/-! ### Delay slots and repetitions -/

/-- An engine with no handler to take issues an instruction that asks for nothing around it, in whatever slot it stands but the
one of RETI. -/
theorem exec_issued {I : Instr} {i : EInstr} {s : State} {e : EngId} {h : Engine}
    (hexec : exec I s = .next (s.within engineParts (s.issue e i))) (hrun : s.running = true) (hcyc : s.cyclesOut e = false)
    (hflow : i.isFlow = true → (s.eng e).delayed = none ∧ (s.eng e).rep = none) (hslot : (s.eng e).delayed ≠ some .reti)
    (hqueue : (s.eng e).queue = [])
    (hop : engOp (s.regions (s.eng e)) (s.ringsOf (s.eng e)) i (s.eng e) = .ok (h, .none)) (hone : engCycles i 0 = 1) :
    ∃ t, exec I s = .next t ∧ t.eng e = h.issued (s.eng e).delayed (s.eng e).rep 1 := by
  have hkept := (engKept_engOp hop).trans (engKept_issued h (s.eng e).delayed (s.eng e).rep 1)
  have hissue : s.issue e i = s.modEngine e fun _ => h.issued (s.eng e).delayed (s.eng e).rep 1 := by
    rw [issue_eq hrun hcyc hflow hop, slotEvent_of_ne hslot]
    simp only [movedBytes, hone, State.engEvent]
    exact pollHandlers_of_none (Or.inl (by simpa using hkept.queue.trans hqueue))
  exact ⟨_, hexec, by rw [eng_within_engineParts, hissue, eng_modEngine]⟩

theorem tick_push_now {g : Engine} (w : PipeWrite) (hp : g.pipe = []) : (g.push 0 w).tick = w.apply g := by
  have hplace := apply_placed w g (g.push 0 w)
  have hpush : g.push 0 w = g.placed (g.push 0 w) := rfl
  have hregs := regsOnly_apply w g
  rw [tick_eq, pipe_push, hp]
  simp only [List.nil_append, dueWrites_cons_zero, dueWrites_nil, laterWrites_cons_zero, laterWrites_nil, List.foldl_cons,
    List.foldl_nil]
  rw [hpush, hplace]
  simp only [Engine.placed, Engine.push, ← hregs.x, ← hregs.y, ← hregs.pc, ← hregs.cycles, ← hregs.delayed, ← hregs.rep,
    ← hregs.stack, ← hregs.pipe.trans hp]

theorem apply_with_cycles (w : PipeWrite) (g : Engine) (n : Nat) : w.apply { g with cycles := n } = { w.apply g with cycles := n } := by
  have hplace := apply_placed w g { g with cycles := n }
  have hcyc : ({ g with cycles := n } : Engine) = g.placed { g with cycles := n } := rfl
  have hregs := regsOnly_apply w g
  rw [hcyc, hplace]
  simp only [Engine.placed, ← hregs.x, ← hregs.y, ← hregs.pc, ← hregs.delayed, ← hregs.rep, ← hregs.stack, ← hregs.pipe]

end Sys2Proof.Machine

namespace Sys2Proof.Proofs

open Sys2Proof Sys2Proof.Machine

/-- Settles O47: a flow instruction leaves its mark, `advance` acts on it after the next issue. -/
theorem engineFlow : Obligations.EngineFlow := by
  refine ⟨?_, ?_, ?_, ?_⟩
  · intro e c imm s hc g target
    have hpipe : g.pipe = [] := calm_pipe hc
    refine ⟨fun hcond hin => ⟨?_, fun hroom => ?_⟩, fun hcond i hi => ?_⟩
    · exact exec_flow (i := .b c imm) rfl hc (engOp_b_taken _ hcond hin) rfl hpipe
    · exact exec_flow (i := .call c imm) rfl hc (engOp_call_taken _ hcond hin hroom) rfl hpipe
    · have hnot : ∀ j ∈ [EInstr.b c imm, .call c imm],
          engOp (s.regions g) (s.ringsOf g) j g = .ok ({ g with delayed := some .notTaken }, .none) := by
        simp only [List.forall_mem_cons, engOp, hcond]
        exact ⟨rfl, rfl, List.forall_mem_nil _⟩
      simp only [List.mem_cons, List.not_mem_nil, or_false] at hi
      rcases hi with rfl | rfl
      · exact exec_flow rfl hc (hnot (.b c imm) (by simp)) rfl hpipe
      · exact exec_flow rfl hc (hnot (.call c imm) (by simp)) rfl hpipe
  · intro e s hc g
    have hpipe : g.pipe = [] := calm_pipe hc
    refine ⟨fun v rest hstack hin => ?_, ?_, ?_, fun imm => ?_, fun r hlo hhi => ?_⟩
    · exact exec_flow (i := .ret) rfl hc (engOp_ret_taken _ hstack hin) rfl hpipe
    · exact exec_flow (i := .reti) rfl hc rfl rfl hpipe
    · exact exec_flow (i := .nop) rfl hc rfl rfl hpipe
    · have hn : (imm.setWidth 12).toNat = imm.toNat % 4096 := BitVec.toNat_setWidth 12 imm
      rw [← hn]
      exact exec_flow (i := .repImm imm) rfl hc (engOp_setRep (Nat.le_add_left ..) (by omega)) rfl hpipe
    · exact exec_flow (i := .repG r) rfl hc (engOp_setRep hlo hhi) rfl hpipe
  · intro e gd ga s hrun hcyc hpipe hqueue g done
    have hregs := regsOnly_apply (.g g.interrupt gd (g.readG ga)) g
    have hdone : done = { (PipeWrite.g g.interrupt gd (g.readG ga)).apply g with cycles := g.cycles + 1 } := apply_with_cycles _ g _
    have hmov : g.delayed ≠ some .reti → ∃ t, exec (.mov e gd ga) s = .next t
        ∧ t.eng e = { advance g.delayed g.rep ((PipeWrite.g g.interrupt gd (g.readG ga)).apply g) with cycles := g.cycles + 1 } := by
      intro hslot
      obtain ⟨t, ht, heng⟩ := exec_issued (i := .mov gd ga) (I := .mov e gd ga) rfl hrun hcyc (fun h => by cases h) hslot hqueue rfl rfl
      refine ⟨t, ht, ?_⟩
      rw [heng]
      simp only [Engine.issued, tick_push_now _ hpipe]
      rfl
    refine ⟨fun a hd hr => ?_, fun n hd hr => ?_, fun hd hr => ?_⟩
    all_goals
      obtain ⟨t, ht, heng⟩ := hmov (by rw [hd]; simp)
      refine ⟨t, ht, ?_⟩
      rw [heng, hdone, hd, hr]
    · rfl
    · rfl
    · simp only [advance, hregs.pc]
      rfl
  · intro e s hrun hcyc hd hr hqueue
    obtain ⟨t, ht, heng⟩ := exec_issued (i := .nop) (I := .nop e) rfl hrun hcyc (fun _ => ⟨hd, hr⟩) (by rw [hd]; simp) hqueue rfl rfl
    have hpc : (s.eng e).tick.pc = (s.eng e).pc := by
      rw [tick_eq]
      exact (regsOnly_foldl_apply _ _).pc
    refine ⟨t, ht, ?_⟩
    rw [heng, hd, hr]
    show _ = { (s.eng e).tick with pc := ((s.eng e).pc + 1) % 16384, cycles := (s.eng e).cycles + 1 }
    simp only [Engine.issued, advance, hpc, Option.isSome_none, Bool.false_eq_true, if_false]

end Sys2Proof.Proofs

/-! PROOFS. O48: what ends a context of an engine. `CtxMove` is what the passage to another context keeps; every function that moves
an engine between contexts is one. -/

namespace Sys2Proof.Machine

open Sys2Proof

/-! ### The passage to another context -/

/-- Between the two states engines have changed their contexts: no data memory, no output and no kernel's figure has changed, only a
handler for `sig.param` data may have taken them. -/
structure CtxMove (s t : State) : Prop where
  deferred : t.grp.deferred = s.grp.deferred
  alm : t.grp.alm = s.grp.alm
  nv : t.nv = s.nv
  kernel : ∀ k, ∃ b, t.kernel k = { s.kernel k with mbx := b }
  mem : ∀ e, (t.eng e).x = (s.eng e).x ∧ (t.eng e).y = (s.eng e).y

theorem CtxMove.refl (s : State) : CtxMove s s := ⟨rfl, rfl, rfl, fun _ => ⟨_, rfl⟩, fun _ => ⟨rfl, rfl⟩⟩

theorem CtxMove.trans {s t u : State} (a : CtxMove s t) (b : CtxMove t u) : CtxMove s u := by
  refine ⟨b.deferred.trans a.deferred, b.alm.trans a.alm, b.nv.trans a.nv, fun k => ?_, fun e => ?_⟩
  · obtain ⟨x, hx⟩ := a.kernel k
    obtain ⟨y, hy⟩ := b.kernel k
    exact ⟨y, by rw [hy, hx]⟩
  · exact ⟨(b.mem e).1.trans (a.mem e).1, (b.mem e).2.trans (a.mem e).2⟩

theorem ctxMove_modEngine (s : State) (e : EngId) {f : Engine → Engine} (hf : (f (s.eng e)).x = (s.eng e).x ∧ (f (s.eng e)).y = (s.eng e).y) :
    CtxMove s (s.modEngine e f) := by
  refine ⟨rfl, rfl, rfl, fun k => ⟨_, rfl⟩, fun e' => ?_⟩
  by_cases he : e' = e
  · subst he
    rw [eng_modEngine]
    exact hf
  · rw [eng_modEngine_ne s he]
    exact ⟨rfl, rfl⟩

theorem mem_tick (g : Engine) : g.tick.x = g.x ∧ g.tick.y = g.y := by
  have hregs := regsOnly_foldl_apply (dueWrites g.pipe) g
  rw [tick_eq]
  exact ⟨hregs.x, hregs.y⟩

theorem mem_flush (g : Engine) : g.flush.x = g.x ∧ g.flush.y = g.y := by
  obtain ⟨hx, hy⟩ := mem_tick g
  obtain ⟨hx2, hy2⟩ := mem_tick g.tick
  obtain ⟨hx3, hy3⟩ := mem_tick g.tick.tick
  exact ⟨hx3.trans (hx2.trans hx), hy3.trans (hy2.trans hy)⟩

theorem mem_enter (g : Engine) (c : EngCtx) (entry : Nat) (interrupt : Bool) :
    (g.enter c entry interrupt).x = g.x ∧ (g.enter c entry interrupt).y = g.y := by
  have hregs := regsOnly_setBank g.flush interrupt
    { (if interrupt then g.flush.shadow else g.flush.main) with st := if interrupt then 0x0600#16 else 0x0400#16 }
  obtain ⟨hx, hy⟩ := mem_flush g
  exact ⟨hregs.x.trans hx, hregs.y.trans hy⟩

theorem mem_purge (g : Engine) (k : SlotId) : (g.purge k).x = g.x ∧ (g.purge k).y = g.y := by
  unfold Engine.purge
  split
  · exact mem_flush g
  · exact ⟨rfl, rfl⟩

theorem ctxMove_enterCtx (s : State) (e : EngId) (c : EngCtx) : CtxMove s (s.enterCtx e c) := by
  have henter : ∀ b, CtxMove s (s.modEngine e fun g => g.enter c (s.entryOf c) b) := fun b =>
    ctxMove_modEngine s e (mem_enter _ _ _ _)
  cases c with
  | mbx k =>
    refine (henter true).trans ⟨rfl, rfl, rfl, fun k' => ?_, fun e' => ⟨rfl, rfl⟩⟩
    by_cases hk : k' = k
    · subst hk
      exact ⟨false, kernel_modKernel _ _ _⟩
    · exact ⟨_, kernel_modKernel_ne _ _ hk⟩
  | idle => exact henter false
  | frame k => exact henter true
  | ring k => exact henter true
  | bg k => exact henter false

theorem ctxMove_toBackground (s : State) (e : EngId) : CtxMove s (s.toBackground e) := by
  unfold State.toBackground
  simp only
  split
  · exact ctxMove_modEngine s e (mem_flush _)
  · split
    · exact (ctxMove_modEngine s e ⟨rfl, rfl⟩).trans (ctxMove_enterCtx _ e _)
    · exact ctxMove_modEngine s e (mem_flush _)

theorem ctxMove_resume (s : State) (e : EngId) : CtxMove s (s.resume e) := by
  unfold State.resume
  split
  · split
    · exact (ctxMove_modEngine s e ⟨rfl, rfl⟩).trans (ctxMove_enterCtx _ e _)
    · exact ctxMove_toBackground s e
  · exact ctxMove_toBackground s e

theorem ctxMove_vendorBackground (s : State) (e : EngId) : CtxMove s (s.vendorBackground e) := by
  have hdraw : ∀ (s : State) (n : Nat), CtxMove s (s.drawBytes n).2 := fun s n =>
    ⟨rfl, rfl, rfl, fun k => ⟨_, rfl⟩, fun e => ⟨rfl, rfl⟩⟩
  have hbank : CtxMove s (s.vendorBank e false) := by
    unfold State.vendorBank
    refine (hdraw s 47).trans (ctxMove_modEngine _ e ?_)
    have hregs := regsOnly_setBank ((s.drawBytes 47).2.eng e) false
    exact ⟨(hregs _).x, (hregs _).y⟩
  unfold State.vendorBackground
  exact (hbank.trans (hdraw _ 53)).trans (ctxMove_modEngine _ e ⟨rfl, rfl⟩)

theorem ctxMove_nextCtx (s : State) (e : EngId) : CtxMove s (s.nextCtx e) := by
  unfold State.nextCtx
  split
  · refine CtxMove.trans ?_ (ctxMove_resume _ e)
    have hqueue : CtxMove s (s.modEngine e fun g => { g with queue := s.handlers e }) := ctxMove_modEngine s e ⟨rfl, rfl⟩
    simp only
    split
    · refine (hqueue.trans ?_).trans (ctxMove_modEngine _ e ⟨rfl, rfl⟩)
      split
      · exact ctxMove_vendorBackground _ e
      · exact .refl _
    · exact hqueue
  · exact (ctxMove_modEngine s e ⟨rfl, rfl⟩).trans (ctxMove_enterCtx _ e _)
  · exact ctxMove_resume s e

theorem ctxMove_pollHandlers (s : State) (e : EngId) : CtxMove s (s.pollHandlers e) := by
  unfold State.pollHandlers
  simp only
  split
  · split
    · exact (ctxMove_modEngine s e ⟨rfl, rfl⟩).trans (ctxMove_enterCtx _ e _)
    · exact .refl s
  · split
    · exact (ctxMove_modEngine s e ⟨rfl, rfl⟩).trans (ctxMove_enterCtx _ e _)
    · exact .refl s
  · exact .refl s

/-- What a passage keeps of a kernel's figures, for each of them. -/
theorem CtxMove.kernel_eq {s t : State} (h : CtxMove s t) (k : SlotId) :
    (t.kernel k).state = (s.kernel k).state ∧ (t.kernel k).lastFault = (s.kernel k).lastFault
      ∧ (t.kernel k).frameLast = (s.kernel k).frameLast ∧ (t.kernel k).bgLast = (s.kernel k).bgLast
      ∧ (t.kernel k).consecStops = (s.kernel k).consecStops ∧ (t.kernel k).stops = (s.kernel k).stops := by
  obtain ⟨b, hb⟩ := h.kernel k
  rw [hb]
  exact ⟨rfl, rfl, rfl, rfl, rfl, rfl⟩

/-! ### The end of a context -/

/-- Changes handed over for the coming Calends, after those that wait. -/
def State.handOver (s : State) (ds : List Deferred) : State := { s with grp := { s.grp with deferred := s.grp.deferred ++ ds } }

theorem foldl_stage_results (qs : List (Nat × Nat)) (s : State) :
    qs.foldl (fun s q => s.stage (.result q.1 q.2 s.grp.frame)) s = s.handOver (qs.map fun q => .result q.1 q.2 s.grp.frame) := by
  induction qs generalizing s with
  | nil => simp [State.handOver]
  | cons q qs ih =>
    rw [List.foldl_cons, ih]
    simp [State.stage, State.handOver]

/-- END hands over the output words and ends the run of stops (R399). -/
theorem commitKernel_eq (s : State) (k : SlotId) :
    s.commitKernel k = (s.handOver ((s.outputWords k).map fun q => .result q.1 q.2 s.grp.frame)).modKernel k
      fun x => { x with consecStops := 0 } := by
  rw [State.commitKernel, foldl_stage_results]

@[simp] theorem kernel_handOver (s : State) (ds : List Deferred) (k : SlotId) : (s.handOver ds).kernel k = s.kernel k := rfl

/-- The words of a kernel's outputs depend on its header and the Y memory of its engine. -/
theorem outputWords_congr {s t : State} (k : SlotId) (hhdr : (t.kernel k).hdr = (s.kernel k).hdr)
    (hy : (t.eng (engOf k)).y = (s.eng (engOf k)).y) : t.outputWords k = s.outputWords k := by
  simp only [State.outputWords, hhdr, hy]

theorem ctxOver_frame {s : State} {e : EngId} {k : SlotId} (hctx : (s.eng e).ctx = .frame k) :
    s.ctxOver e = s.modKernel k fun x =>
      { x with frameLast := (s.eng e).cycles, framePeak := max x.framePeak (min (s.eng e).cycles (2 ^ 32 - 1)) } := by
  simp only [State.ctxOver]
  rw [hctx]

theorem ctxOver_bg {s : State} {e : EngId} {k : SlotId} (hctx : (s.eng e).ctx = .bg k) :
    s.ctxOver e = s.modKernel k fun x => { x with bgLast := (s.eng e).cycles } := by
  simp only [State.ctxOver]
  rw [hctx]

/-- A calm engine issues END, YIELD: the engine has advanced, then the context's end is looked at. -/
theorem issue_calm_event {s : State} {e : EngId} {i : EInstr} {ev : EngEvent} (hc : EngCalm s e)
    (hop : engOp (s.regions (s.eng e)) (s.ringsOf (s.eng e)) i (s.eng e) = .ok (s.eng e, ev))
    (hone : ∀ n, engCycles i n = 1) :
    s.issue e i = (s.modEngine e fun _ => engAfter (s.eng e) []).engEvent e (s.eng e).ctx ev := by
  obtain ⟨hrun, hcyc, hd, hr, hp, -⟩ := hc
  have hafter : (s.eng e).issued none none 1 = engAfter (s.eng e) [] := by
    rw [issued_calm, hp]
    exact engAfter_with_pipe hp []
  rw [issue_eq hrun hcyc (fun _ => ⟨hd, hr⟩) hop, hd, hr, hone, hafter]
  rfl

theorem pollHandlers_calm {s : State} {e : EngId} (hc : EngCalm s e) :
    (s.modEngine e fun _ => engAfter (s.eng e) []).pollHandlers e = s.modEngine e fun _ => engAfter (s.eng e) [] :=
  pollHandlers_of_none (calm_kept hc (by rw [eng_modEngine]; rfl) (by rw [eng_modEngine]; rfl))

@[simp] theorem within_engineParts_deferred (s t : State) : (s.within engineParts t).grp.deferred = t.grp.deferred := by
  simp [engineParts]
@[simp] theorem within_engineParts_alm (s t : State) : (s.within engineParts t).grp.alm = t.grp.alm := by simp [engineParts]
@[simp] theorem within_engineParts_kernels (s t : State) : (s.within engineParts t).grp.kernels = t.grp.kernels := by
  simp [engineParts]
@[simp] theorem within_engineParts_recorder (s t : State) : (s.within engineParts t).nv.recorder = t.nv.recorder := by
  simp [engineParts]

end Sys2Proof.Machine

namespace Sys2Proof.Proofs

open Sys2Proof Sys2Proof.Machine

/-- Settles O48: at the end of its context an engine hands over and moves on, which `CtxMove` bounds; elsewhere it only advances
(log 180). -/
theorem engineEnds : Obligations.EngineEnds := by
  refine ⟨?_, ?_, ?_, ?_⟩
  · intro e k s hc hctx
    let s1 := s.modEngine e fun _ => engAfter (s.eng e) []
    have hctx1 : (s1.eng e).ctx = .frame k := by rw [eng_modEngine]; exact hctx
    have hmem := (ctxMove_modEngine s e (f := fun _ => engAfter (s.eng e) []) ⟨rfl, rfl⟩).mem
    have hwords : (s1.ctxOver e).outputWords k = s.outputWords k := by
      rw [ctxOver_frame hctx1]
      refine outputWords_congr k ?_ ?_
      · rw [kernel_modKernel]
        rfl
      · rw [eng_modKernel]
        exact (hmem _).2
    have hissue : s.issue e .kend = ((s1.ctxOver e).commitKernel k).nextCtx e := by
      rw [issue_calm_event hc rfl fun _ => rfl, hctx]
      rfl
    have hmove := ctxMove_nextCtx ((s1.ctxOver e).commitKernel k) e
    obtain ⟨hstate, -, hlast, -, hstops, -⟩ := hmove.kernel_eq k
    refine ⟨_, rfl, ?_, ?_, ?_, ?_, ?_⟩
    all_goals simp only [within_engineParts_deferred, within_engineParts_alm, kernel_within_engineParts, hissue]
    · rw [hmove.deferred, commitKernel_eq, hwords, ctxOver_frame hctx1]
      rfl
    · rw [hlast, commitKernel_eq, kernel_modKernel, ctxOver_frame hctx1, kernel_handOver, kernel_modKernel, eng_modEngine]
      rfl
    · rw [hstops, commitKernel_eq, kernel_modKernel]
    · rw [hstate, commitKernel_eq, kernel_modKernel, ctxOver_frame hctx1, kernel_handOver, kernel_modKernel]
      rfl
    · rw [hmove.alm, commitKernel_eq, ctxOver_frame hctx1]
      rfl
  · intro e k s hc hctx
    let s1 := s.modEngine e fun _ => engAfter (s.eng e) []
    have hctx1 : (s1.eng e).ctx = .bg k := by rw [eng_modEngine]; exact hctx
    have hissue : s.issue e .yield = (s1.ctxOver e).nextCtx e := by
      rw [issue_calm_event hc rfl fun _ => rfl, hctx]
      rfl
    have hmove := ctxMove_nextCtx (s1.ctxOver e) e
    obtain ⟨-, -, -, hlast, -, -⟩ := hmove.kernel_eq k
    refine ⟨_, rfl, ?_, ?_⟩
    all_goals simp only [within_engineParts_deferred, kernel_within_engineParts, hissue]
    · rw [hlast, ctxOver_bg hctx1, kernel_modKernel, eng_modEngine]
      rfl
    · rw [hmove.deferred, ctxOver_bg hctx1]
      rfl
  · intro e s hc hctx
    have hissue : s.issue e .kend = s.modEngine e fun _ => engAfter (s.eng e) [] := by
      rw [issue_calm_event hc rfl fun _ => rfl, State.engEvent]
      · exact pollHandlers_calm hc
      · exact hctx
    refine ⟨_, rfl, ?_, ?_⟩
    · rw [eng_within_engineParts, hissue, eng_modEngine]
    · rw [within_engineParts_deferred, hissue]
      rfl
  · intro e s hc hctx
    have hissue : s.issue e .yield = s.modEngine e fun _ => engAfter (s.eng e) [] := by
      rw [issue_calm_event hc rfl fun _ => rfl, State.engEvent]
      · exact pollHandlers_calm hc
      · exact hctx
    refine ⟨_, rfl, ?_, ?_⟩
    · rw [eng_within_engineParts, hissue, eng_modEngine]
    · rw [within_engineParts_kernels, hissue]
      rfl

end Sys2Proof.Proofs

/-! PROOFS. O50: kernel faults and cycle stops. -/

namespace Sys2Proof.Machine

open Sys2Proof

/-! ### What a fault leaves -/

theorem confined_faultOutputs (s : State) (k : SlotId) (bad : Bool) : Confined [.alm] s (s.faultOutputs k bad) := by
  refine confined_foldl (fun s c => ?_) _ s
  split
  · exact confined_refl _ s
  · exact confined_of_within_eq rfl

/-- Whether a fault suspends its kernel: every one but a CYCLES stop short of STOP_LIMIT (R400). -/
def faultEnds (x : Kernel) (code : Nat) : Bool :=
  code != 1 || decide (x.hdr.stopLimit ≤ if code = 1 then x.consecStops + 1 else x.consecStops)

/-- A kernel's slot after a fault (R400). -/
def Kernel.faulted (x : Kernel) (code : Nat) : Kernel :=
  { x with lastFault := code, consecStops := if code = 1 then x.consecStops + 1 else x.consecStops,
           stops := if code = 1 then satInc 32 x.stops else x.stops, state := if faultEnds x code then .suspended else x.state }

/-- The event and the slot's change of a fault, before the outputs carry FAULT. -/
def State.faultNoted (s : State) (k : SlotId) (code addr : Nat) : State :=
  (s.record 0x0B01 0xFF ([byte k.val, byte code] ++ leBytes 2 addr)).modKernel k fun x => { x with
    lastFault := code, consecStops := if code = 1 then (s.kernel k).consecStops + 1 else (s.kernel k).consecStops,
    stops := if code = 1 then satInc 32 x.stops else x.stops,
    state := if faultEnds (s.kernel k) code then .suspended else x.state }

theorem kernel_faultNoted (s : State) (k : SlotId) (code addr : Nat) :
    (s.faultNoted k code addr).kernel k = (s.kernel k).faulted code := by
  rw [State.faultNoted, kernel_modKernel]
  rfl

theorem kernelFault_eq (s : State) (k : SlotId) (code addr : Nat) :
    s.kernelFault k code addr = if faultEnds (s.kernel k) code
      then ((s.faultNoted k code addr).faultOutputs k true).modEngine (engOf k) fun g => g.purge k
      else (s.faultNoted k code addr).faultOutputs k true := rfl

/-- A kernel's fault: its event, its slot, and its contexts out of its engine where it is suspended. -/
theorem kernelFault_spec (s : State) (k : SlotId) (code addr : Nat) :
    let t := s.kernelFault k code addr
    t.nv.recorder = s.nv.recorder.add (s.mkRec 0x0B01 0xFF ([byte k.val, byte code] ++ leBytes 2 addr))
      ∧ t.grp.deferred = s.grp.deferred ∧ t.kernel k = (s.kernel k).faulted code
      ∧ (∀ e : EngId, t.eng e = if faultEnds (s.kernel k) code = true ∧ e = engOf k then (s.eng e).purge k else s.eng e) := by
  have hout := confined_faultOutputs (s.faultNoted k code addr) k true
  have hrec : ((s.faultNoted k code addr).faultOutputs k true).nv.recorder = (s.faultNoted k code addr).nv.recorder :=
    (hout.2 .recorder (by decide)).symm
  have hdef : ((s.faultNoted k code addr).faultOutputs k true).grp.deferred = (s.faultNoted k code addr).grp.deferred :=
    (hout.2 .deferred (by decide)).symm
  have hker : ((s.faultNoted k code addr).faultOutputs k true).grp.kernels = (s.faultNoted k code addr).grp.kernels :=
    (hout.2 .kernels (by decide)).symm
  have heng : ∀ e, ((s.faultNoted k code addr).faultOutputs k true).eng e = s.eng e := fun e =>
    congrArg (fun v : Vector Engine 4 => v[e.val]) (hout.2 .engines (by decide)).symm
  have hslot : ((s.faultNoted k code addr).faultOutputs k true).kernel k = (s.kernel k).faulted code :=
    (congrArg (fun v : Vector Kernel 32 => v[k.val]) hker).trans (kernel_faultNoted s k code addr)
  simp only [kernelFault_eq]
  split
  next hends =>
    refine ⟨hrec, hdef, hslot, fun e => ?_⟩
    by_cases he : e = engOf k
    · subst he
      simp [heng, hends]
    · simp [eng_modEngine_ne _ he, heng, he]
  next hends => exact ⟨hrec, hdef, hslot, fun e => by simp [heng, hends]⟩

/-- The figures of a context that is over are its kernel's alone. -/
theorem ctxOver_spec (s : State) (e : EngId) :
    (s.ctxOver e).nv = s.nv ∧ (s.ctxOver e).grp.deferred = s.grp.deferred ∧ (∀ e', (s.ctxOver e).eng e' = s.eng e')
      ∧ (∀ code car data, (s.ctxOver e).mkRec code car data = s.mkRec code car data)
      ∧ ∀ k, ∃ a b c, (s.ctxOver e).kernel k = { s.kernel k with frameLast := a, framePeak := b, bgLast := c } := by
  have hmod : ∀ (k : SlotId) (f : Kernel → Kernel), (∀ x, ∃ a b c, f x = { x with frameLast := a, framePeak := b, bgLast := c }) →
      ∀ k', ∃ a b c, (s.modKernel k f).kernel k' = { s.kernel k' with frameLast := a, framePeak := b, bgLast := c } := by
    intro k f hf k'
    by_cases hk : k' = k
    · subst hk
      rw [kernel_modKernel]
      exact hf _
    · rw [kernel_modKernel_ne _ _ hk]
      exact ⟨_, _, _, rfl⟩
  simp only [State.ctxOver]
  split
  · exact ⟨rfl, rfl, fun _ => rfl, fun _ _ _ => rfl, hmod _ _ fun x => ⟨_, _, _, rfl⟩⟩
  · exact ⟨rfl, rfl, fun _ => rfl, fun _ _ _ => rfl, hmod _ _ fun x => ⟨_, _, _, rfl⟩⟩
  · exact ⟨rfl, rfl, fun _ => rfl, fun _ _ _ => rfl, fun k => ⟨_, _, _, rfl⟩⟩

theorem faultCtx_eq {s : State} {e : EngId} {k : SlotId} (code : Nat) (hslot : (s.eng e).ctx.slot = some k) :
    s.faultCtx e code = ((s.ctxOver e).kernelFault k code (s.eng e).pc).nextCtx e := by
  simp only [State.faultCtx]
  rw [hslot]

/-- The running context of slot `k` faults: the event, what handed-over changes and the slot are after it. -/
theorem faultCtx_spec {s : State} {e : EngId} {k : SlotId} (code : Nat) (hslot : (s.eng e).ctx.slot = some k) :
    let t := s.faultCtx e code
    t.nv.recorder = s.nv.recorder.add (s.mkRec 0x0B01 0xFF ([byte k.val, byte code] ++ leBytes 2 (s.eng e).pc))
      ∧ t.grp.deferred = s.grp.deferred ∧ (t.kernel k).lastFault = code
      ∧ (t.kernel k).consecStops = (if code = 1 then (s.kernel k).consecStops + 1 else (s.kernel k).consecStops)
      ∧ (t.kernel k).stops = (if code = 1 then satInc 32 (s.kernel k).stops else (s.kernel k).stops)
      ∧ (t.kernel k).state = (if faultEnds (s.kernel k) code then .suspended else (s.kernel k).state) := by
  have hfault := faultCtx_eq code hslot
  obtain ⟨hnv, hdef, -, hrec, hker⟩ := ctxOver_spec s e
  obtain ⟨hfrec, hfdef, hfker, -⟩ := kernelFault_spec (s.ctxOver e) k code (s.eng e).pc
  have hmove := ctxMove_nextCtx ((s.ctxOver e).kernelFault k code (s.eng e).pc) e
  obtain ⟨hstate, hlast, -, -, hconsec, hstops⟩ := hmove.kernel_eq k
  obtain ⟨a, b, c, hk⟩ := hker k
  rw [hk] at hfker
  simp only [hfault]
  rw [hmove.nv, hmove.deferred, hlast, hconsec, hstops, hstate, hfrec, hfdef, hfker, hnv, hdef, hrec]
  exact ⟨rfl, rfl, rfl, rfl, rfl, rfl⟩

/-- A command that ends in a fault of every code but a CYCLES stop's leaves the kernel suspended under it (R400). -/
theorem faulted_of_exec {I : Instr} {s : State} {e : EngId} {k : SlotId} {code : Nat}
    (hexec : exec I s = .next (s.within engineParts (s.faultCtx e code))) (hslot : (s.eng e).ctx.slot = some k) (hcode : code ≠ 1) :
    ∃ t, exec I s = .next t ∧ (t.kernel k).state = .suspended ∧ (t.kernel k).lastFault = code
      ∧ t.nv.recorder = s.nv.recorder.add (s.mkRec 0x0B01 0xFF ([byte k.val, byte code] ++ leBytes 2 (s.eng e).pc)) := by
  obtain ⟨hrec, -, hlast, -, -, hstate⟩ := faultCtx_spec code hslot
  refine ⟨_, hexec, ?_⟩
  simp only [kernel_within_engineParts, within_engineParts_recorder]
  refine ⟨hstate.trans ?_, hlast, hrec⟩
  simp [faultEnds, hcode]

/-- An instruction that faults suspends the kernel that runs it, and hands nothing over. -/
theorem exec_fault {I : Instr} {i : EInstr} {s : State} {e : EngId} {k : SlotId} {code : Nat}
    (hexec : exec I s = .next (s.within engineParts (s.issue e i))) (hc : EngCalm s e) (hslot : (s.eng e).ctx.slot = some k)
    (hop : engOp (s.regions (s.eng e)) (s.ringsOf (s.eng e)) i (s.eng e) = .error code) (hcode : code ≠ 1) :
    ∃ t, exec I s = .next t ∧ (t.kernel k).state = .suspended ∧ (t.kernel k).lastFault = code
      ∧ t.nv.recorder = s.nv.recorder.add (s.mkRec 0x0B01 0xFF ([byte k.val, byte code] ++ leBytes 2 (s.eng e).pc))
      ∧ t.grp.deferred = s.grp.deferred := by
  obtain ⟨hrun, hcyc, hd, hr, -, -⟩ := hc
  have hissue : s.issue e i = s.faultCtx e code := by
    simp only [State.issue, hrun, hcyc, engIssue_error hd hr hop]
    rfl
  rw [hissue] at hexec
  obtain ⟨t, ht, hstate, hlast, hrec⟩ := faulted_of_exec hexec hslot hcode
  refine ⟨t, ht, hstate, hlast, hrec, ?_⟩
  obtain ⟨-, hdef, -⟩ := faultCtx_spec code hslot
  obtain rfl := Host.Outcome.next.inj (hexec.symm.trans ht)
  rw [within_engineParts_deferred, hdef]

/-! ### What faults -/

theorem effAddr_illegal (g : Engine) {mode : Fin 8} (p : Fin 4) (addr : Nat) (off : Int) (hm : 6 ≤ mode.val) :
    effAddr g mode p addr off = .error faultIllegal := by
  match mode, hm with
  | 6, _ => rfl
  | 7, _ => rfl

theorem engOp_ld_mode (r : Regions) (rings : EngRings) {f : MForm} (hm : 6 ≤ f.mode.val) (g : Engine) :
    engOp r rings (.ld f) g = .error faultIllegal := by
  cases hf : f.wide && f.bx with
  | true => exact (engOp_wide_bx r rings hf g).1
  | false =>
    rw [engOp_ld r rings hf, effAddr_illegal g _ _ _ hm]
    rfl

theorem engOp_ld_outside {r : Regions} {rings : EngRings} {f : MForm} {g : Engine} (hm : f.mode = 0) (hf : (f.wide && f.bx) = false)
    (hin : inRegion r f.spaceY (f.addr.toNat % 16384) = false) : engOp r rings (.ld f) g = .error faultMemory := by
  have haddr : effAddr g f.mode f.p (f.addr.setWidth 14).toNat (f.addr.setWidth 8).toInt = .ok ((f.addr.setWidth 14).toNat, none) := by
    rw [hm]
    rfl
  have hmod : (f.addr.setWidth 14).toNat % 16384 = f.addr.toNat % 16384 := by
    rw [BitVec.toNat_setWidth]
    exact Nat.mod_mod _ _
  rw [engOp_ld r rings hf, haddr]
  simp only [bind, Except.bind, loadValue, Engine.readWord, hmod, hin]
  rfl

theorem engOp_b_reserved (r : Regions) (rings : EngRings) {c : Fin 16} {imm : BitVec 16} (hc : 11 ≤ c.val) (g : Engine) :
    engOp r rings (.b c imm) g = .error faultIllegal := by
  have hnone : condHolds g.bank.st c = none := by
    match c, hc with
    | 11, _ | 12, _ | 13, _ | 14, _ | 15, _ => rfl
    | ⟨n + 16, h⟩, _ => exact absurd h (by omega)
  simp only [engOp, hnone]

theorem engOp_call_full (r : Regions) (rings : EngRings) (imm : BitVec 16) {g : Engine} (hfull : 8 ≤ g.stack.length) :
    engOp r rings (.call 0 imm) g = .error faultStack := by
  have hcond : condHolds g.bank.st 0 = some true := rfl
  simp only [engOp, hcond, Nat.not_lt.mpr hfull, if_false]

/-! ### The context after a passage -/

theorem ctx_enterCtx (s : State) (e : EngId) (c : EngCtx) : ((s.enterCtx e c).eng e).ctx = c := by
  cases c <;> simp [State.enterCtx] <;> rfl

theorem ctx_toBackground (s : State) (e : EngId) : ((s.toBackground e).eng e).ctx = .idle
    ∨ (∃ k, (s.eng e).bgCtx = .bg k ∧ ((s.toBackground e).eng e).ctx = .bg k) ∨ ((s.toBackground e).eng e).ctx ∈ (s.eng e).bgQueue := by
  unfold State.toBackground
  simp only
  split
  next k hk => exact Or.inr (Or.inl ⟨k, hk, by rw [eng_modEngine]⟩)
  next =>
    split
    next c rest hq => exact Or.inr (Or.inr (by rw [ctx_enterCtx, hq]; exact List.mem_cons_self))
    next => exact Or.inl (by rw [eng_modEngine])

theorem ctx_resume (s : State) (e : EngId) : ((s.resume e).eng e).ctx = .idle
    ∨ (∃ k, (s.eng e).bgCtx = .bg k ∧ ((s.resume e).eng e).ctx = .bg k)
    ∨ ((s.resume e).eng e).ctx ∈ (s.eng e).queue ++ (s.eng e).bgQueue := by
  have hback := ctx_toBackground s e
  have hback' : ((s.toBackground e).eng e).ctx = .idle
      ∨ (∃ k, (s.eng e).bgCtx = .bg k ∧ ((s.toBackground e).eng e).ctx = .bg k)
      ∨ ((s.toBackground e).eng e).ctx ∈ (s.eng e).queue ++ (s.eng e).bgQueue :=
    hback.imp id (Or.imp id fun h => List.mem_append_right _ h)
  unfold State.resume
  split
  next c rest hq =>
    split
    · exact Or.inr (Or.inr (by rw [ctx_enterCtx, hq]; exact List.mem_append_left _ List.mem_cons_self))
    · exact hback'
  next => exact hback'

/-- A vendor pass leaves what waits on its engine, and every kernel's slot. -/
theorem work_vendorBackground (s : State) (e : EngId) :
    ((s.vendorBackground e).eng e).queue = (s.eng e).queue ∧ ((s.vendorBackground e).eng e).bgCtx = (s.eng e).bgCtx
      ∧ ((s.vendorBackground e).eng e).bgQueue = (s.eng e).bgQueue ∧ ∀ k, (s.vendorBackground e).kernel k = s.kernel k := by
  have hdraw : ∀ (s : State) (n : Nat), (s.drawBytes n).2.eng e = s.eng e := fun _ _ => rfl
  simp only [State.vendorBackground, State.vendorBank, eng_modEngine, hdraw, Engine.setBank, Bool.false_eq_true, if_false]
  exact ⟨trivial, trivial, trivial, fun _ => rfl⟩

theorem octaveTasks_congr {s t : State} (e : EngId) (hk : ∀ k, t.kernel k = s.kernel k) : t.octaveTasks e = s.octaveTasks e := by
  simp only [State.octaveTasks, hk]

/-- The state in which the end of the frame level looks for the next context (R383, R385). -/
def State.levelEnd (s : State) (e : EngId) : State :=
  let s := s.modEngine e fun g => { g with queue := s.handlers e }
  if octaveStart s.grp.frame then
    let s := if s.hostsCar e then s.vendorBackground e else s
    s.modEngine e fun g => { g with bgQueue := s.octaveTasks e }
  else s

theorem nextCtx_idle {s : State} {e : EngId} {rest : List EngCtx} (hq : (s.eng e).queue = .idle :: rest) :
    s.nextCtx e = (s.levelEnd e).resume e := by
  unfold State.nextCtx
  rw [hq]
  rfl

theorem work_levelEnd (s : State) (e : EngId) : ((s.levelEnd e).eng e).queue = s.handlers e
    ∧ ((s.levelEnd e).eng e).bgCtx = (s.eng e).bgCtx
    ∧ (((s.levelEnd e).eng e).bgQueue = (s.eng e).bgQueue ∨ ((s.levelEnd e).eng e).bgQueue = s.octaveTasks e) := by
  obtain ⟨hq, hb, -, hk⟩ := work_vendorBackground (s.modEngine e fun g => { g with queue := s.handlers e }) e
  simp only [State.levelEnd]
  split
  · simp only [eng_modEngine]
    split
    · exact ⟨hq.trans (by rw [eng_modEngine]), hb.trans (by rw [eng_modEngine]), Or.inr (octaveTasks_congr e hk)⟩
    · simp only [eng_modEngine]
      exact ⟨trivial, trivial, Or.inr (octaveTasks_congr e fun _ => rfl)⟩
  · simp only [eng_modEngine]
    exact ⟨trivial, trivial, Or.inl trivial⟩

/-- The context that follows: the idle one, the interrupted task, one that waited, or one that the frame level's end raises. -/
theorem ctx_nextCtx (s : State) (e : EngId) : ((s.nextCtx e).eng e).ctx = .idle
    ∨ (∃ k, (s.eng e).bgCtx = .bg k ∧ ((s.nextCtx e).eng e).ctx = .bg k)
    ∨ ((s.nextCtx e).eng e).ctx ∈ (s.eng e).queue ++ (s.eng e).bgQueue
    ∨ ((s.nextCtx e).eng e).ctx ∈ s.handlers e ++ s.octaveTasks e := by
  have hresume := ctx_resume s e
  have hwaited := hresume.imp id (Or.imp id (Or.inl (b := ((s.resume e).eng e).ctx ∈ s.handlers e ++ s.octaveTasks e)))
  cases hq : (s.eng e).queue with
  | nil =>
    have hnext : s.nextCtx e = s.resume e := by unfold State.nextCtx; rw [hq]
    rw [hnext, ← hq]
    exact hwaited
  | cons c rest =>
    cases c with
    | idle =>
      rw [nextCtx_idle hq]
      obtain ⟨hlq, hlb, hlbq⟩ := work_levelEnd s e
      obtain h | ⟨k, hk, h⟩ | h := ctx_resume (s.levelEnd e) e
      · exact Or.inl h
      · exact Or.inr (Or.inl ⟨k, hlb ▸ hk, h⟩)
      · rw [hlq, List.mem_append] at h
        refine Or.inr (Or.inr ?_)
        rcases h with h | h
        · exact Or.inr (List.mem_append_left _ h)
        · rcases hlbq with hb | hb <;> rw [hb] at h
          · exact Or.inl (List.mem_append_right _ h)
          · exact Or.inr (List.mem_append_right _ h)
    | frame k =>
      have hnext : s.nextCtx e = (s.modEngine e fun g => { g with queue := rest }).enterCtx e (.frame k) := by
        unfold State.nextCtx; rw [hq]
      rw [hnext, ctx_enterCtx]
      exact Or.inr (Or.inr (Or.inl (List.mem_append_left _ List.mem_cons_self)))
    | ring k | mbx k | bg k =>
      have hnext : s.nextCtx e = s.resume e := by unfold State.nextCtx; rw [hq]
      rw [hnext, ← hq]
      exact hwaited

theorem mem_handlers {s : State} {e : EngId} {c : EngCtx} (h : c ∈ s.handlers e) :
    ∃ k, (c = .ring k ∨ c = .mbx k) ∧ (s.kernel k).state = .running := by
  unfold State.handlers at h
  split at h
  · cases h
  · simp only [List.mem_append, List.mem_map, List.mem_filter, Bool.and_eq_true, beq_iff_eq] at h
    rcases h with ⟨k, ⟨-, ⟨⟨hrun, -⟩, -⟩, -⟩, rfl⟩ | ⟨k, ⟨-, ⟨⟨hrun, -⟩, -⟩, -⟩, rfl⟩
    · exact ⟨k, Or.inl rfl, hrun⟩
    · exact ⟨k, Or.inr rfl, hrun⟩

theorem mem_octaveTasks {s : State} {e : EngId} {c : EngCtx} (h : c ∈ s.octaveTasks e) :
    ∃ k, c = .bg k ∧ (s.kernel k).state = .running := by
  simp only [State.octaveTasks, List.mem_map, List.mem_filter, Bool.and_eq_true, beq_iff_eq] at h
  obtain ⟨k, ⟨-, ⟨hrun, -⟩, -⟩, rfl⟩ := h
  exact ⟨k, rfl, hrun⟩

theorem work_flush (g : Engine) : g.flush.queue = g.queue ∧ g.flush.bgQueue = g.bgQueue ∧ g.flush.bgCtx = g.bgCtx := by
  have htick : ∀ g : Engine, g.tick.queue = g.queue ∧ g.tick.bgQueue = g.bgQueue ∧ g.tick.bgCtx = g.bgCtx := by
    intro g
    have hregs := regsOnly_foldl_apply (dueWrites g.pipe) g
    rw [tick_eq]
    exact ⟨hregs.queue, hregs.bgQueue, hregs.bgCtx⟩
  simp only [Engine.flush, htick, and_self]

theorem work_purge (g : Engine) (k : SlotId) : (g.purge k).queue = g.queue.filter (fun c => c.slot != some k)
    ∧ (g.purge k).bgQueue = g.bgQueue.filter (fun c => c.slot != some k)
    ∧ (g.purge k).bgCtx.slot ≠ some k := by
  have hbg : (if g.bgCtx.slot = some k then EngCtx.idle else g.bgCtx).slot ≠ some k := by
    split
    next => exact fun h => by cases h
    next h => exact h
  unfold Engine.purge
  split
  · obtain ⟨hq, hb, hc⟩ := work_flush g
    simp only [hq, hb, hc]
    exact ⟨trivial, trivial, hbg⟩
  · exact ⟨rfl, rfl, hbg⟩

theorem kernelFault_queues (s : State) (k : SlotId) (code addr : Nat) (e : EngId) :
    ∀ x, x ∈ ((s.kernelFault k code addr).eng e).queue ++ ((s.kernelFault k code addr).eng e).bgQueue →
      x ∈ (s.eng e).queue ++ (s.eng e).bgQueue := by
  obtain ⟨-, -, -, heng⟩ := kernelFault_spec s k code addr
  intro x hx
  rw [heng e] at hx
  split at hx
  · obtain ⟨hq, hb, -⟩ := work_purge (s.eng e) k
    rw [hq, hb, List.mem_append] at hx
    exact List.mem_append.mpr (hx.imp List.mem_of_mem_filter List.mem_of_mem_filter)
  · exact hx

/-- The context after a fault is not the one that a kernel's frame level is in, where none of it waits. -/
theorem ctx_faultCtx_ne_frame {s : State} {e : EngId} {k : SlotId} (code : Nat) (hctx : (s.eng e).ctx = .frame k)
    (hwait : ∀ x ∈ (s.eng e).queue ++ (s.eng e).bgQueue, x ≠ .frame k) : ((s.faultCtx e code).eng e).ctx ≠ .frame k := by
  obtain ⟨-, -, hover, -, -⟩ := ctxOver_spec s e
  rw [faultCtx_eq code (show (s.eng e).ctx.slot = some k by rw [hctx]; rfl)]
  obtain h | ⟨k', -, h⟩ | h | h := ctx_nextCtx ((s.ctxOver e).kernelFault k code (s.eng e).pc) e
  · rw [h]; exact fun h => by cases h
  · rw [h]; exact fun h => by cases h
  · have hin := kernelFault_queues _ _ _ _ _ _ h
    rw [hover] at hin
    exact hwait _ hin
  · rcases List.mem_append.mp h with h | h
    · obtain ⟨k', hk | hk, -⟩ := mem_handlers h <;> rw [hk] <;> exact fun h => by cases h
    · obtain ⟨k', hk, -⟩ := mem_octaveTasks h
      rw [hk]; exact fun h => by cases h

/-- The contexts of a kernel that a fault suspends have left its engine. -/
theorem slot_faultCtx_ne {s : State} {e : EngId} {k : SlotId} {code : Nat} (hslot : (s.eng e).ctx.slot = some k) (he : engOf k = e)
    (hcode : code ≠ 1) : ((s.faultCtx e code).eng e).ctx.slot ≠ some k := by
  have hends : ∀ x : Kernel, faultEnds x code = true := fun x => by simp [faultEnds, hcode]
  obtain ⟨-, -, hker, heng⟩ := kernelFault_spec (s.ctxOver e) k code (s.eng e).pc
  have hpurge := heng e
  rw [hends, if_pos ⟨rfl, he.symm⟩] at hpurge
  obtain ⟨hq, hb, hbg⟩ := work_purge ((s.ctxOver e).eng e) k
  have hsusp : ∀ k', (((s.ctxOver e).kernelFault k code (s.eng e).pc).kernel k').state = .running → k' ≠ k := by
    rintro k' hrun rfl
    rw [hker] at hrun
    simp [Kernel.faulted, hends] at hrun
  rw [faultCtx_eq code hslot]
  obtain h | ⟨k', hk, h⟩ | h | h := ctx_nextCtx ((s.ctxOver e).kernelFault k code (s.eng e).pc) e
  · rw [h]; exact fun h => by cases h
  · rw [h]
    rw [hpurge] at hk
    rw [hk] at hbg
    exact hbg
  · rw [hpurge, hq, hb, ← List.filter_append] at h
    simpa using (List.mem_filter.mp h).2
  · rcases List.mem_append.mp h with h | h
    · obtain ⟨k', hk | hk, hrun⟩ := mem_handlers h <;> rw [hk] <;> exact fun h => hsusp k' hrun (Option.some.inj h)
    · obtain ⟨k', hk, hrun⟩ := mem_octaveTasks h
      rw [hk]; exact fun h => hsusp k' hrun (Option.some.inj h)

/-! ### Cycle stops -/

theorem runEngine_of_stop {s : State} {e : EngId} {stop : State → Bool} (n : Nat) (hend : stop s = true) : State.runEngine n e stop s = s := by
  cases n with
  | zero => rfl
  | succ n => simp [State.runEngine, hend]

/-- A run of an engine whose context has used its cycles: that context is stopped, and the run with it. -/
theorem runEngine_stopCtx {s : State} {e : EngId} {stop : State → Bool} {n : Nat} (hn : 0 < n) (hrun : s.running = true)
    (hcyc : s.cyclesOut e = true) (hstart : stop s = false) (hend : stop (s.stopCtx e) = true) :
    State.runEngine n e stop s = s.stopCtx e := by
  obtain ⟨n, rfl⟩ := Nat.exists_eq_succ_of_ne_zero (Nat.pos_iff_ne_zero.mp hn)
  have hissue : ∀ i, s.issue e i = s.stopCtx e := fun i => by simp [State.issue, hrun, hcyc]
  simp only [State.runEngine, hstart, hcyc, hissue, if_true, Bool.false_eq_true, if_false]
  split <;> exact runEngine_of_stop n hend

theorem frameFuel_pos (s : State) (e : EngId) : 0 < s.frameFuel e := by
  unfold State.frameFuel
  omega

theorem octaveFuel_pos (s : State) (e : EngId) : 0 < s.octaveFuel e := by
  have := frameFuel_pos s e
  unfold State.octaveFuel
  omega

end Sys2Proof.Machine

namespace Sys2Proof.Proofs

open Sys2Proof Sys2Proof.Machine

/-- Settles O50: `exec_fault` for what an instruction does, `runEngine_stopCtx` for the cycles that are used up. -/
theorem engineFaults : Obligations.EngineFaults := by
  refine ⟨?_, ?_, ?_⟩
  · intro e k f c imm r s hc hctx g hdr q hq hbad
    have hslot : (s.eng e).ctx.slot = some k := by rw [hctx]; rfl
    have hregion : s.regions g = some hdr := by simp only [State.regions, show g.ctx.slot = some k from hslot]; rfl
    simp only [List.mem_cons, List.not_mem_nil, or_false] at hq
    rcases hq with rfl | rfl | rfl | rfl | rfl | rfl | rfl | rfl
    · exact exec_fault (i := .ld f) rfl hc hslot (engOp_ld_mode _ _ (by simpa using hbad) _) (by simp)
    · exact exec_fault (i := .st f) rfl hc hslot (engOp_wide_bx _ _ hbad _).2 (by simp)
    · exact exec_fault (i := .b c imm) rfl hc hslot (engOp_b_reserved _ _ (by simpa using hbad) _) (by simp)
    · simp only [Bool.and_eq_true, decide_eq_true_eq, Bool.not_eq_true'] at hbad
      obtain ⟨⟨hmode, hf⟩, hin⟩ := hbad
      exact exec_fault (i := .ld f) rfl hc hslot (engOp_ld_outside hmode hf (by rw [hregion]; exact hin)) (by simp)
    · have hempty : g.stack = [] := by simpa using hbad
      exact exec_fault (i := .ret) rfl hc hslot (by simp only [engOp, show (s.eng e).stack = [] from hempty]; rfl) (by simp)
    · exact exec_fault (i := .call 0 imm) rfl hc hslot (engOp_call_full _ _ _ (by simpa using hbad)) (by simp)
    · have hzero : g.readG r = 0 := by simpa using hbad
      exact exec_fault (i := .repG r) rfl hc hslot (by simp only [engOp, show (s.eng e).readG r = 0 from hzero]; rfl) (by simp)
    · exact exec_fault (i := .rget r) rfl hc hslot (by simp only [engOp, hctx]; rfl) (by simp)
  · intro e k s hrun hctx hwait hcyc hhalt
    have hlimit : s.ctxLimit (s.eng e) = some ((s.kernel k).hdr.frameCycles, 1) := by simp [State.ctxLimit, hctx, hhalt]
    have hstop : s.stopCtx e = s.faultCtx e 1 := by simp only [State.stopCtx]; rw [hlimit]
    have hnot := ctx_faultCtx_ne_frame 1 hctx hwait
    have hexec : exec (.kernelCyclesStop e) s = .next (s.within engineParts (s.faultCtx e 1)) := by
      show execKernelCyclesStop e s = _
      simp only [execKernelCyclesStop]
      rw [hctx]
      simp only [hrun, if_true]
      rw [runEngine_stopCtx (frameFuel_pos s e) hrun hcyc (by simp [hctx]) (by rw [hstop]; simpa using hnot), hstop]
    obtain ⟨hrec, -, hlast, hconsec, hstops, hstate⟩ := faultCtx_spec 1 (show (s.eng e).ctx.slot = some k by rw [hctx]; rfl)
    refine ⟨_, hexec, ?_⟩
    simp only [kernel_within_engineParts, within_engineParts_recorder]
    refine ⟨hlast, hconsec, hstops, hstate.trans ?_, hrec⟩
    simp [faultEnds]
  · intro e k s hrun he hcyc q hq hctx
    have hgone : ∀ code, code ≠ 1 → (s.eng e).ctx.slot = some k → ∀ c : EngCtx, c.slot = some k →
        (((s.faultCtx e code).eng e).ctx != c) = true := by
      intro code hcode hslot c hc
      have hne := slot_faultCtx_ne hslot he hcode
      rw [bne_iff_ne]
      exact fun h => hne (by rw [h]; exact hc)
    have hstop : ∀ n code, s.ctxLimit (s.eng e) = some (n, code) → s.stopCtx e = s.faultCtx e code := by
      intro n code hlimit
      simp only [State.stopCtx]
      rw [hlimit]
    simp only [List.mem_cons, List.not_mem_nil, or_false] at hq
    rcases hq with rfl | rfl | rfl <;> simp only at hctx
    · have hs := hstop (s.kernel k).hdr.bgCycles 2 (by simp [State.ctxLimit, hctx])
      refine faulted_of_exec (e := e) ?_ (by rw [hctx]; rfl) (by simp)
      show execBgCycles e s = _
      simp only [execBgCycles]
      rw [hctx]
      simp only [hrun, if_true]
      rw [runEngine_stopCtx (octaveFuel_pos s e) hrun hcyc (by simp [hctx])
        (by rw [hs]; exact hgone 2 (by decide) (by rw [hctx]; rfl) _ rfl), hs]
    · have hs := hstop (s.kernel k).hdr.handlerCycles 3 (by simp [State.ctxLimit, hctx])
      refine faulted_of_exec (e := e) ?_ (by rw [hctx]; rfl) (by simp)
      show execHandlerCycles e s = _
      simp only [execHandlerCycles]
      rw [hctx]
      simp only [hrun, if_true]
      rw [runEngine_stopCtx (frameFuel_pos s e) hrun hcyc (by simp [hctx])
        (by rw [hs]; exact hgone 3 (by decide) (by rw [hctx]; rfl) _ rfl), hs]
    · have hs := hstop (s.kernel k).hdr.handlerCycles 3 (by simp [State.ctxLimit, hctx])
      refine faulted_of_exec (e := e) ?_ (by rw [hctx]; rfl) (by simp)
      show execHandlerCycles e s = _
      simp only [execHandlerCycles]
      rw [hctx]
      simp only [hrun, if_true]
      rw [runEngine_stopCtx (frameFuel_pos s e) hrun hcyc (by simp [hctx])
        (by rw [hs]; exact hgone 3 (by decide) (by rw [hctx]; rfl) _ rfl), hs]

end Sys2Proof.Proofs

/-! PROOFS. O51: the data memories of the engines keep their canonical form. -/

namespace Sys2Proof.Machine

open Sys2Proof

/-! ### The commands of an engine -/

/-- The engine and the instruction word of a row of R389. -/
def engineRow : Instr → Option (EngId × EInstr)
  | .add e gd ga gb => some (e, .alu .add gd ga gb)
  | .sub e gd ga gb => some (e, .alu .sub gd ga gb)
  | .and e gd ga gb => some (e, .alu .and gd ga gb)
  | .or e gd ga gb => some (e, .alu .or gd ga gb)
  | .xor e gd ga gb => some (e, .alu .xor gd ga gb)
  | .asr e gd ga n => some (e, .shift .asr gd ga n)
  | .lsr e gd ga n => some (e, .shift .lsr gd ga n)
  | .shl e gd ga n => some (e, .shift .shl gd ga n)
  | .cmp e ga gb => some (e, .cmp ga gb)
  | .abs e gd ga => some (e, .abs gd ga)
  | .neg e gd ga => some (e, .neg gd ga)
  | .mov e gd ga => some (e, .mov gd ga)
  | .movsRead e gd r => some (e, .movsR gd r)
  | .movsWrite e r ga => some (e, .movsW r ga)
  | .clsa e gd ga => some (e, .clsa gd ga)
  | .addi e gd imm => some (e, .addi gd imm)
  | .movi e gd imm => some (e, .movi gd imm)
  | .movhi e gd imm => some (e, .movhi gd imm)
  | .andi e gd imm => some (e, .andi gd imm)
  | .cmpi e gd imm => some (e, .cmpi gd imm)
  | .ld e f => some (e, .ld f)
  | .st e f => some (e, .st f)
  | .mpy e f => some (e, .mpy f)
  | .mac e f => some (e, .mac f)
  | .msu e f => some (e, .msu f)
  | .clra e f => some (e, .clra f)
  | .sac e f => some (e, .sac f)
  | .sacg e f => some (e, .sacg f)
  | .lda e f => some (e, .lda f)
  | .adda e f => some (e, .adda f)
  | .suba e f => some (e, .suba f)
  | .bexpclr e => some (e, .bexpclr)
  | .b e c imm => some (e, .b c imm)
  | .call e c imm => some (e, .call c imm)
  | .ret e => some (e, .ret)
  | .reti e => some (e, .reti)
  | .repImm e imm => some (e, .repImm imm)
  | .repG e r => some (e, .repG r)
  | .kend e => some (e, .kend)
  | .yield e => some (e, .yield)
  | .nop e => some (e, .nop)
  | .rget e r => some (e, .rget r)
  | .rput e r => some (e, .rput r)
  | _ => none

theorem exec_engineRow {i : Instr} {e : EngId} {j : EInstr} (h : engineRow i = some (e, j)) (s : State) :
    exec i s = .next (s.within engineParts (s.issue e j)) := by
  unfold engineRow at h
  split at h <;> cases h <;> rfl

/-- The engine that runs to the end of its context, or to its cycle stop (R396, R400). -/
def engineRun : Instr → Option EngId
  | .kernelCyclesStop e | .bgCycles e | .handlerCycles e => some e
  | _ => none

theorem engineParts_rows (i : Instr) :
    (decide (i.parts = engineParts) == ((engineRow i).isSome || (engineRun i).isSome)) = true := by
  cases i <;> rfl

/-! ### What keeps the data memories -/

/-- From one state to the other every engine's data memories keep their canonical form. -/
def KeepsMem (s t : State) : Prop := ∀ e : EngId, (s.eng e).memWf → (t.eng e).memWf

theorem KeepsMem.refl (s : State) : KeepsMem s s := fun _ h => h

theorem KeepsMem.trans {s t u : State} (a : KeepsMem s t) (b : KeepsMem t u) : KeepsMem s u := fun e h => b e (a e h)

theorem CtxMove.keepsMem {s t : State} (h : CtxMove s t) : KeepsMem s t := by
  intro e hwf
  obtain ⟨hx, hy⟩ := h.mem e
  simp only [Engine.memWf, hx, hy]
  exact hwf

theorem keepsMem_of_confined {ps : List Part} {s t : State} (h : Confined ps s t) (hps : Part.engines ∉ ps) : KeepsMem s t := by
  intro e hwf
  have heng : t.eng e = s.eng e := congrArg (fun v : Vector Engine 4 => v[e.val]) (h.2 .engines hps).symm
  rw [heng]
  exact hwf

theorem keepsMem_faultCtx (s : State) (e : EngId) (code : Nat) : KeepsMem s (s.faultCtx e code) := by
  cases hslot : (s.eng e).ctx.slot with
  | none =>
    have hsame : s.faultCtx e code = s := by simp only [State.faultCtx]; rw [hslot]
    rw [hsame]
    exact .refl s
  | some k =>
    rw [faultCtx_eq code hslot]
    obtain ⟨-, -, hover, -, -⟩ := ctxOver_spec s e
    obtain ⟨-, -, -, hfault⟩ := kernelFault_spec (s.ctxOver e) k code (s.eng e).pc
    refine KeepsMem.trans (fun e' hwf => ?_) (ctxMove_nextCtx _ e).keepsMem
    rw [hfault e', hover e']
    split
    · obtain ⟨hx, hy⟩ := mem_purge (s.eng e') k
      simp only [Engine.memWf, hx, hy]
      exact hwf
    · exact hwf

theorem keepsMem_stopCtx (s : State) (e : EngId) : KeepsMem s (s.stopCtx e) := by
  unfold State.stopCtx
  split
  · exact keepsMem_faultCtx s e _
  · exact .refl s

theorem keepsMem_ctxOver (s : State) (e : EngId) : KeepsMem s (s.ctxOver e) := by
  obtain ⟨-, -, hover, -, -⟩ := ctxOver_spec s e
  exact fun e' hwf => by rw [hover e']; exact hwf

theorem keepsMem_commitKernel (s : State) (k : SlotId) : KeepsMem s (s.commitKernel k) := by
  rw [commitKernel_eq]
  exact fun _ hwf => hwf

theorem keepsMem_freeSlot (s : State) (r : RingId) : KeepsMem s (s.freeSlot r) := by
  unfold State.freeSlot
  simp only
  split <;> exact fun _ hwf => hwf

theorem keepsMem_engEvent (s : State) (e : EngId) (ctx : EngCtx) (ev : EngEvent) : KeepsMem s (s.engEvent e ctx ev) := by
  have hpoll : ∀ u : State, KeepsMem u (u.pollHandlers e) := fun u => (ctxMove_pollHandlers u e).keepsMem
  have hnext : ∀ u : State, KeepsMem u (u.nextCtx e) := fun u => (ctxMove_nextCtx u e).keepsMem
  cases ev with
  | none => exact hpoll s
  | kend =>
    simp only [State.engEvent]
    split
    · exact ((keepsMem_ctxOver s e).trans (keepsMem_commitKernel _ _)).trans (hnext _)
    · exact hpoll s
  | yield =>
    simp only [State.engEvent]
    split
    · exact (keepsMem_ctxOver s e).trans (hnext _)
    · exact hpoll s
  | reti =>
    simp only [State.engEvent]
    split
    · exact hnext s
    · exact hnext s
    · exact hpoll s
  | rget =>
    simp only [State.engEvent]
    split
    next r _ => exact (keepsMem_freeSlot s r).trans (hpoll _)
    next => exact .refl s
  | rput bytes =>
    simp only [State.engEvent]
    split
    next r _ =>
      refine KeepsMem.trans (keepsMem_of_confined (confined_foldl (fun s b => confined_publish s r b) _ s) (by decide)) (hpoll _)
    next => exact .refl s
  | rputFull =>
    simp only [State.engEvent]
    refine KeepsMem.trans ?_ (hpoll _)
    split
    · exact fun _ hwf => hwf
    · exact .refl s

theorem engKept_engIssue {r : Regions} {rings : EngRings} {i : EInstr} {g h : Engine} {ev : EngEvent}
    (hissue : engIssue r rings i g = .ok (h, ev)) : EngKept g h := by
  have hflow : i.isFlow = true → g.delayed = none ∧ g.rep = none := by
    intro hi
    by_contra hopen
    have hguard : (i.isFlow && (g.delayed.isSome || g.rep.isSome)) = true := by
      simp only [hi, Bool.true_and, Bool.or_eq_true]
      by_contra hno
      rw [not_or, Bool.not_eq_true, Bool.not_eq_true, Option.isSome_eq_false_iff, Option.isSome_eq_false_iff, Option.isNone_iff_eq_none,
        Option.isNone_iff_eq_none] at hno
      exact hopen hno
    simp only [engIssue, hguard, if_true] at hissue
    cases hissue
  cases hop : engOp r rings i g with
  | error c =>
    have hguard : (i.isFlow && (g.delayed.isSome || g.rep.isSome)) = false := by
      cases hi : i.isFlow with
      | false => rfl
      | true => simp [hflow hi]
    simp only [engIssue, hguard, hop] at hissue
    cases hissue
  | ok q =>
    rw [engIssue_eq hflow hop] at hissue
    cases hissue
    exact (engKept_engOp hop).trans (engKept_issued _ _ _ _)

theorem keepsMem_issue (s : State) (e : EngId) (i : EInstr) : KeepsMem s (s.issue e i) := by
  simp only [State.issue]
  split
  · exact .refl s
  · split
    · exact keepsMem_stopCtx s e
    · split
      next => exact keepsMem_faultCtx s e _
      next h ev hok =>
        refine KeepsMem.trans (fun e' hwf => ?_) (keepsMem_engEvent _ e _ ev)
        have hkept := engKept_engIssue hok
        by_cases he : e' = e
        · subst he
          rw [eng_modEngine]
          exact ⟨hkept.x hwf.1, hkept.y hwf.2⟩
        · rw [eng_modEngine_ne s he]
          exact hwf

theorem keepsMem_runEngine (n : Nat) (e : EngId) (stop : State → Bool) (s : State) : KeepsMem s (State.runEngine n e stop s) := by
  induction n generalizing s with
  | zero => exact .refl s
  | succ n ih =>
    simp only [State.runEngine]
    split
    · exact .refl s
    · refine KeepsMem.trans ?_ (ih _)
      split
      · exact keepsMem_issue s e _
      · split
        · exact keepsMem_stopCtx s e
        · exact keepsMem_faultCtx s e _

/-- A command that runs an engine to the end of its context is such a run, or nothing. -/
theorem keepsMem_engineRun {i : Instr} {e : EngId} (h : engineRun i = some e) (s : State) :
    ∃ u, exec i s = .next (s.within engineParts u) ∧ KeepsMem s u := by
  have hif : ∀ (n : Nat) (stop : State → Bool), KeepsMem s (if s.running then State.runEngine n e stop s else s) := by
    intro n stop
    split
    · exact keepsMem_runEngine n e stop s
    · exact .refl s
  unfold engineRun at h
  split at h <;> cases h
  · refine ⟨_, rfl, ?_⟩
    split
    · exact hif _ _
    · exact .refl s
  · refine ⟨_, rfl, ?_⟩
    split
    · exact hif _ _
    · exact .refl s
  · refine ⟨_, rfl, ?_⟩
    split
    · exact hif _ _
    · exact hif _ _
    · exact .refl s

end Sys2Proof.Machine

namespace Sys2Proof.Proofs

open Sys2Proof Sys2Proof.Machine

/-- Settles O51: `Mem.set` keeps a memory's form, and no other function of the engines writes one. -/
theorem engineMemoriesCanonical : Obligations.EngineMemoriesCanonical := by
  intro i s t hparts hwf hexec
  have hkeeps : KeepsMem s t := by
    rcases hparts with hparts | hparts
    · have hrow := engineParts_rows i
      rw [decide_eq_true hparts] at hrow
      cases hr : engineRow i with
      | some q =>
        rw [exec_engineRow (show engineRow i = some (q.1, q.2) from hr)] at hexec
        obtain rfl := Host.Outcome.next.inj hexec
        exact fun e h => by rw [eng_within_engineParts]; exact keepsMem_issue s q.1 q.2 e h
      | none =>
        cases hn : engineRun i with
        | none => simp [hr, hn] at hrow
        | some e =>
          obtain ⟨u, hu, hkeep⟩ := keepsMem_engineRun hn s
          obtain rfl := Host.Outcome.next.inj (hu.symm.trans hexec)
          exact fun e h => by rw [eng_within_engineParts]; exact hkeep e h
    · refine keepsMem_of_confined (exec_confined hexec) ?_
      rw [List.mem_append]
      exact fun h => h.elim hparts (by decide)
  exact fun e => hkeeps e (hwf e)

end Sys2Proof.Proofs

/-! PROOFS. O27: HOLD is taken and released. -/

namespace Sys2Proof.Machine

open Sys2Proof

/-! ## Steps of a pair's member -/

/-- Parts that two states have in common. -/
theorem Confined.mem_eq {ps : List Part} {s t : State} (h : Confined ps s t) (hp : Part.member ∉ ps) : t.mem = s.mem :=
  (h.2 .member hp).symm

theorem Confined.banks_eq {ps : List Part} {s t : State} (h : Confined ps s t) (hp : Part.banks ∉ ps) : t.io.banks = s.io.banks :=
  (h.2 .banks hp).symm

theorem Confined.recorder_eq {ps : List Part} {s t : State} (h : Confined ps s t) (hp : Part.recorder ∉ ps) :
    t.nv.recorder = s.nv.recorder :=
  (h.2 .recorder hp).symm

theorem confined_modMem (s : State) (f : Member → Member) : Confined [.member] s (s.modMem f) := confined_of_within_eq rfl

theorem confined_ringRecord (b : BusId) (s : State) (f : CanFrame × Bool) : Confined (.buses :: mailParts) s (s.ringRecord b f) := by
  unfold State.ringRecord
  simp only
  split
  · exact confined_refl _ s
  · split
    · exact ((confined_publish s _ _).mono (by decide)).trans ((confined_modBus _ b _).mono (by decide))
    · exact (confined_modBus s b _).mono (by decide)

theorem confined_ringFrames (s : State) (b : BusId) : Confined (.buses :: mailParts) s (s.ringFrames b) :=
  confined_foldl (confined_ringRecord b) _ s

theorem confined_eachPort {ps : List Part} {f : State → Fin 16 → State} (hf : ∀ s b, Confined ps s (f s b)) (s : State) :
    Confined ps s (eachPort f s) :=
  confined_foldl hf _ s

theorem confined_eachCar {ps : List Part} {f : State → CarId → State} (hf : ∀ s c, Confined ps s (f s c)) (s : State) :
    Confined ps s (eachCar f s) :=
  confined_foldl hf _ s

/-! ## A frame on the standby's own image -/

theorem mem_shadow (f : State → State) (s : State) : (State.shadow f s).mem = s.mem := rfl

theorem mem_followCommit (s : State) : ∃ a, s.followCommit.mem = { s.mem with committed := a } := by
  unfold State.followCommit
  split
  · exact ⟨_, rfl⟩
  · exact ⟨true, by rw [modMem_mem, mem_shadow]⟩

/-- The standby's own run marks what it has done, and changes nothing else of the member. -/
theorem mem_followRun (s : State) : ∃ a b, s.followRun.mem = { s.mem with committed := a, ran := b } := by
  obtain ⟨a, ha⟩ := mem_followCommit s
  have hrings := (confined_eachPort confined_ringFrames s.followCommit).mem_eq (by decide)
  unfold State.followRun
  simp only
  split
  · exact ⟨a, s.mem.ran, by rw [ha]⟩
  · exact ⟨a, true, by rw [modMem_mem, mem_shadow, hrings, ha]⟩

/-! ## The gates -/

theorem gateOpen_setGates (s : State) (isOpen : Bool) (b : BankId) : (s.setGates isOpen).io.banks[b.val].gateOpen = isOpen := by
  simp [State.setGates]

theorem driven_setGates_false (s : State) (b : BankId) (l : LaneId) :
    ((s.setGates false).io.banks[b.val].lanes[l.val]).driven = false := by
  simp [State.setGates]

theorem confined_setGates (s : State) (isOpen : Bool) : Confined [.banks] s (s.setGates isOpen) := confined_of_within_eq rfl

/-! ## HOLD is taken -/

theorem confined_raise (s : State) (c : CarId) (code chan : Nat) : Confined (.sg :: latchParts) s (s.raise c code chan) := by
  rw [raise_eq]
  have hcounter : Confined [.sg] s (s.withCounter (s.causeCounter c)) := confined_of_within_eq rfl
  exact (hcounter.mono (by decide)).trans ((confined_latchCause _ c code chan _).mono (by decide))

/-- The causes of a release record enter the cars (R443). -/
def State.takeCauses (r : ReleaseRec) (s : State) : State :=
  eachCar (fun s c => (List.range 16).foldl (fun s n =>
    if bit r.causes[c.val] n && (s.car c).configured && !bit (s.car c).safe.causes n then s.raise c n noRef else s) s) s

theorem applyRelease_eq (r : ReleaseRec) (s : State) :
    s.applyRelease r = (s.takeCauses r).modMem fun m => { m with received := some r, lastLeapCause := r.cause } := rfl

theorem confined_takeCauses (r : ReleaseRec) (s : State) : Confined (.sg :: latchParts) s (s.takeCauses r) := by
  refine confined_eachCar (fun s c => confined_foldl (fun s n => ?_) _ s) s
  split
  · exact confined_raise s c n noRef
  · exact confined_refl _ s

theorem confined_endLostSends (s : State) : Confined (.jobs :: mailParts) s s.endLostSends := by
  refine confined_foldl (fun s j => ?_) _ s
  exact (confined_endSend s j.id 1).mono (by decide)

theorem acquire_spec (s : State) : s.acquire.mem.state = .holder ∧ s.acquire.mem.vigilReady = false
    ∧ s.acquire.mem.holdiActive = false ∧ s.acquire.mem.leaps = s.mem.leaps ∧ s.acquire.mem.received = s.mem.received
    ∧ ∀ b : BankId, s.acquire.io.banks[b.val].gateOpen = true :=
  ⟨rfl, rfl, rfl, rfl, rfl, gateOpen_setGates _ true⟩

/-- A member that has taken HOLD: the leap is counted from frame 0. -/
structure TookHold (leaps : Nat) (t : State) : Prop where
  state : t.mem.state = .holder
  ready : t.mem.vigilReady = false
  quiet : t.mem.holdiActive = false
  since : t.mem.sinceLeap = some 0
  leaps : t.mem.leaps = leaps
  gates : ∀ b : BankId, t.io.banks[b.val].gateOpen = true

theorem TookHold.of_confined {n : Nat} {ps : List Part} {s t : State} (h : TookHold n s) (hc : Confined ps s t)
    (hm : Part.member ∉ ps) (hb : Part.banks ∉ ps) : TookHold n t := by
  have hmem := hc.mem_eq hm
  have hbanks := hc.banks_eq hb
  exact ⟨hmem ▸ h.state, hmem ▸ h.ready, hmem ▸ h.quiet, hmem ▸ h.since, hmem ▸ h.leaps, fun b => hbanks ▸ h.gates b⟩

/-- A standby that takes HOLD; the leap's cause is the release's, or code 34 (R420, R443). -/
theorem takeOver_spec (s : State) : TookHold (satInc 32 s.mem.leaps) s.takeOver
    ∧ s.takeOver.mem.lastLeapCause = ((s.mem.received.map fun r => r.cause).getD 34) := by
  obtain ⟨a, b, hrun⟩ := mem_followRun (if s.mem.gotImage then s else s.repeatImage)
  have hmem : (if s.mem.gotImage then s else s.repeatImage).mem = s.mem := by split <;> rfl
  rw [hmem] at hrun
  unfold State.takeOver
  extract_lets u v sg w x y z p q
  have huleaps : u.mem.leaps = s.mem.leaps := by rw [hrun]
  have hureceived : u.mem.received = s.mem.received := by rw [hrun]
  clear_value u
  obtain ⟨hstate, hready, hquiet, hleaps, hreceived, hgates⟩ := acquire_spec u
  rw [huleaps] at hleaps
  rw [hureceived] at hreceived
  change v.mem.leaps = _ at hleaps
  change v.mem.received = _ at hreceived
  have hz : TookHold (satInc 32 s.mem.leaps) z :=
    ⟨hstate, hready, hquiet, rfl, congrArg (satInc 32) hleaps, hgates⟩
  have hzreceived : z.mem.received = s.mem.received := hreceived
  have hzcause : z.mem.lastLeapCause = 34 := rfl
  clear_value z
  have hq : Confined testParts z q :=
    (confined_eachCar confined_abortTest z).trans ((confined_endLostSends p).mono (by decide))
  clear_value q
  have hqhold := hz.of_confined hq (by decide) (by decide)
  rw [← hq.mem_eq (by decide)] at hzreceived hzcause
  rw [hzreceived]
  cases s.mem.received with
  | none => exact ⟨hqhold, hzcause⟩
  | some r =>
    have hcauses := hqhold.of_confined (confined_takeCauses r q) (by decide) (by decide)
    simp only [applyRelease_eq]
    exact ⟨⟨hcauses.state, hcauses.ready, hcauses.quiet, hcauses.since, hcauses.leaps, hcauses.gates⟩, rfl⟩

/-- HOLDI has fallen silent. -/
def State.unheard (s : State) : State := s.modMem fun m => { m with holdiActive := false }

theorem exec_holdSilence {s : State} (hrun : s.running = true) : exec .holdSilence s = .next (s.within standbyParts
    (if s.unheard.mem.state == .vigil && s.unheard.mem.vigilReady then s.unheard.takeOver else s.unheard)) := by
  have hexec : exec .holdSilence s = execHoldSilence s := rfl
  rw [hexec, execHoldSilence, whenRunning_of s _ hrun]
  rfl

/-! ## HOLD is released -/

theorem confined_streamBreaks (s : State) : Confined [.recorder] s s.streamBreaks := by
  refine confined_eachPort (fun s b => confined_foldl (fun s t => ?_) _ s) s
  split
  · split
    · exact confined_refl _ s
    · exact confined_record s _ _ _
  · exact confined_refl _ s

theorem foldl_eq_self {α β : Type} {f : α → β → α} {a : α} (l : List β) (h : ∀ b ∈ l, f a b = a) : l.foldl f a = a := by
  induction l with
  | nil => rfl
  | cons b l ih => rw [List.foldl_cons, h b List.mem_cons_self, ih fun c hc => h c (List.mem_cons_of_mem b hc)]

/-- No stream instance is lost where the partner duplicates every one that waits. -/
theorem streamBreaks_eq_self {s : State}
    (h : ∀ b : BusId, ∀ t ∈ s.io.buses[b.val].queue, ∀ ch : Nat, t.kind = .stream ch → (s.entry ch).pairDup = true) :
    s.streamBreaks = s := by
  refine foldl_eq_self _ fun b _ => foldl_eq_self _ fun t ht => ?_
  split
  next c hc => rw [if_pos (h b t ht c hc)]
  next => rfl

/-- Every bus forgets what it had to send. -/
def State.dropQueues (s : State) : State := eachPort (fun s b => s.modBus b fun y => { y with queue := [], waiting := [] }) s

theorem confined_dropQueues (s : State) : Confined [.buses] s s.dropQueues := confined_eachPort (fun s b => confined_modBus s b _) s

theorem queue_dropQueues (s : State) (b : BusId) : s.dropQueues.io.buses[b.val].queue = [] := by
  have hfold : ∀ (l : List (Fin 16)) (s : State), (b ∈ l ∨ s.io.buses[b.val].queue = []) →
      (l.foldl (fun s b => s.modBus b fun y => { y with queue := [], waiting := [] }) s).io.buses[b.val].queue = [] := by
    intro l
    induction l with
    | nil => exact fun s h => h.resolve_left List.not_mem_nil
    | cons c l ih =>
      intro s h
      refine ih _ ?_
      by_cases hc : b = c
      · subst hc
        exact Or.inr (by simp only [bus_modBus])
      · refine h.imp (fun h => (List.mem_cons.mp h).resolve_left hc) fun h => ?_
        have hne : c.val ≠ b.val := fun h => hc (Fin.ext h.symm)
        simpa [hne] using h
  exact hfold _ s (Or.inl (List.mem_finRange b))

/-- The state of a release, but for the member: the event, the gates, the stream breaks and the queues. -/
def State.released (cause : Nat) (s : State) : State :=
  (((s.record 0x0104 0xFF ([byte cause] ++ leBytes 8 s.grp.frame)).setGates false).streamBreaks).dropQueues

theorem confined_released (cause : Nat) (s : State) : Confined [.banks, .buses, .recorder] s (s.released cause) :=
  ((((confined_record s _ _ _).mono (by decide)).trans ((confined_setGates _ false).mono (by decide))).trans
    ((confined_streamBreaks _).mono (by decide))).trans ((confined_dropQueues _).mono (by decide))

theorem foldl_field {α β : Type} {f : State → α → State} (p : State → β) (hf : ∀ s a, p (f s a) = p s) (l : List α) (s : State) :
    p (l.foldl f s) = p s := by
  induction l generalizing s with
  | nil => rfl
  | cons a l ih => rw [List.foldl_cons, ih, hf]

theorem grp_released (cause : Nat) (s : State) : (s.released cause).grp = s.grp := by
  have hdrop : ∀ s : State, s.dropQueues.grp = s.grp := foldl_field State.grp (fun s b => modBus_grp s b _) _
  have hbreaks : ∀ s : State, s.streamBreaks.grp = s.grp := by
    refine foldl_field State.grp (fun s b => foldl_field State.grp (fun s t => ?_) _ s) _
    split
    · split <;> rfl
    · rfl
  unfold State.released
  rw [hdrop, hbreaks]
  rfl

/-- The state of a release: the queues are dropped, the gates closed, and the release record waits (R423, R424). -/
theorem release_spec (cause : Nat) (s : State) :
    (s.release cause).mem.state = (if cause = 1 ∨ (cause = 2 ∧ s.boot.pairSel = true) then .syncing else .released)
      ∧ (s.release cause).mem.leaps = satInc 32 s.mem.leaps ∧ (s.release cause).mem.lastLeapFrame = s.grp.frame
      ∧ (s.release cause).mem.lastLeapCause = cause
      ∧ (s.release cause).mem.queued = some { cause := cause, causes := s.grp.cars.map fun c => c.safe.causes }
      ∧ (s.release cause).io = (s.released cause).io ∧ (s.release cause).nv = (s.released cause).nv
      ∧ (s.release cause).grp = s.grp ∧ Confined [.member, .banks, .buses, .recorder] s (s.release cause) := by
  have hconf := confined_released cause s
  have hmem : (s.released cause).mem = s.mem := (confined_released cause s).mem_eq (by decide)
  have hboot : (s.released cause).boot.pairSel = s.boot.pairSel := by
    rw [(confined_released cause s).boot_eq (by decide)]
  have hgrp := grp_released cause s
  unfold State.release
  extract_lets causes u v w back
  have hw : w = s.released cause := rfl
  have hback : (back = true) = (cause = 1 ∨ (cause = 2 ∧ s.boot.pairSel = true)) := by
    simp only [back, hw, hboot, Bool.or_eq_true, Bool.and_eq_true, beq_iff_eq]
  rw [← hw] at hmem hgrp hconf ⊢
  clear_value w back
  refine ⟨?_, ?_, ?_, rfl, rfl, rfl, rfl, hgrp, (hconf.mono (by decide)).trans ((confined_modMem w _).mono (by decide))⟩
  · rw [modMem_mem]
    simp only [hback]
  · rw [modMem_mem, hmem]
  · rw [modMem_mem, hgrp]

end Sys2Proof.Machine

namespace Sys2Proof.Proofs

open Sys2Proof Sys2Proof.Machine

/-- Settles O27: `takeOver_spec` for silence, `acquire_spec` for the cold wait, `release_spec` for a decided release. -/
theorem holdChangesHands : Obligations.HoldChangesHands := by
  refine ⟨fun s hrun hvigil hready => ?_, fun s hrun hnot => ?_, fun s hrun hpair hsel hsync hquiet hwait => ?_,
    fun s hrun hquiet => ?_, fun cause s hrun hpair hholds hdue => ?_⟩
  · obtain ⟨hhold, hcause⟩ := takeOver_spec s.unheard
    have hexec : exec .holdSilence s = .next (s.within standbyParts s.unheard.takeOver) := by
      rw [exec_holdSilence hrun, if_pos (by simp [State.unheard, hvigil, hready])]
    have hmem : (s.within standbyParts s.unheard.takeOver).mem = s.unheard.takeOver.mem := (within_mem ..).trans (if_pos (by decide))
    have hbanks : (s.within standbyParts s.unheard.takeOver).io.banks = s.unheard.takeOver.io.banks :=
      (within_io_banks ..).trans (if_pos (by decide))
    refine ⟨_, hexec, ?_⟩
    rw [hmem, hbanks]
    exact ⟨hhold.state, hhold.ready, hhold.quiet, hhold.since, hhold.leaps, hcause, hhold.gates⟩
  · rw [exec_holdSilence hrun, if_neg (by simpa [State.unheard] using hnot), State.unheard, ((confined_modMem s _).mono (by decide)).within_eq]
    rfl
  · obtain ⟨hstate, -, -, -, -, hgates⟩ := acquire_spec s
    have hconf : Confined [.member, .banks] s s.acquire :=
      ((confined_modMem s _).mono (by decide)).trans ((confined_setGates _ true).mono (by decide))
    exact ⟨_, exec_of_confined rfl hrun (if_pos (by simp [hpair, hsel, hsync, hquiet, hwait])) hconf, hstate, hgates⟩
  · exact exec_of_confined rfl hrun (if_neg (by simp [hquiet])) (confined_refl _ s)
  · obtain ⟨hstate, hleaps, hframe, hcause, hqueued, hio, hnv, hgrp, hconf⟩ := release_spec cause s
    refine ⟨_, exec_of_confined rfl hrun (if_pos (by simp [hpair, hholds, hdue])) hconf, hstate, hleaps, hframe,
      hcause, hqueued, ?_, ?_, ?_, hgrp⟩
    · intro b
      have hbanks : (s.released cause).io.banks = ((s.record 0x0104 0xFF ([byte cause] ++ leBytes 8 s.grp.frame)).setGates false).io.banks :=
        ((confined_dropQueues _).banks_eq (by decide)).trans ((confined_streamBreaks _).banks_eq (by decide))
      rw [hio, hbanks]
      exact ⟨gateOpen_setGates _ false b, driven_setGates_false _ b⟩
    · intro b
      rw [hio]
      exact queue_dropQueues _ b
    · intro hdup
      rw [hnv, State.released, (confined_dropQueues _).recorder_eq (by decide), streamBreaks_eq_self (s := (s.record _ _ _).setGates false) hdup]
      rfl

end Sys2Proof.Proofs

/-! PROOFS. O28: contention, release records, self-detected causes and PAIR_SEL. -/

namespace Sys2Proof.Machine

open Sys2Proof

/-! ## What the events of a pair do -/

theorem exec_contention {s : State} (hrun : s.running = true) (hpair : s.boot.pair.paired = true) (hholds : s.holds = true) :
    exec .contention s = .next (let t := (s.record 0x0107 0xFF [0]).modMem fun m =>
        { m with contention := true, contentionAt := if m.contention then m.contentionAt else s.grp.frame, holdiActive := true,
                 holdiQuiet := false }
      if s.boot.pairSel then t.modMem fun m => { m with releaseDue := some (m.releaseDue.getD 2) } else t) := by
  refine exec_of_confined rfl hrun (if_pos (by simp [hpair, hholds])) ?_
  have hrec : ∀ f, Confined [.member, .recorder] s ((s.record 0x0107 0xFF [0]).modMem f) := fun f =>
    ((confined_record s _ _ _).mono (by decide)).trans ((confined_modMem _ f).mono (by decide))
  split
  · exact (hrec _).trans ((confined_modMem _ _).mono (by decide))
  · exact hrec _

theorem exec_contentionTimeout {s : State} (hrun : s.running = true) (hcontends : s.contends = true)
    (hover : s.msFrames 2 ≤ s.grp.frame + 1 - s.mem.contentionAt) : exec .contentionTimeout s = .next s.contentionOver := by
  refine exec_of_confined rfl hrun (if_pos (by simp [hcontends, hover])) ?_
  unfold State.contentionOver
  split <;> exact confined_modMem s _

theorem exec_releaseRecord_leap {r : ReleaseRec} {s : State} (hrun : s.running = true) (hpair : s.boot.pair.paired = true)
    (hholds : s.holds = true) (hleap : s.mem.sinceLeap = some 0) (hlate : r.late = false) (hnone : s.mem.received = none) :
    exec (.releaseRecord r) s = .next (s.within ([.member] ++ lockoutParts) (s.applyRelease r)) := by
  have hexec : exec (.releaseRecord r) s = execReleaseRecord r s := rfl
  rw [hexec, execReleaseRecord, whenRunning_of s _ hrun, if_neg (by simp [hpair]), if_pos hholds,
    if_pos (by simp [hleap, hlate, hnone])]

theorem exec_releaseRecord_late {r : ReleaseRec} {s : State} (hrun : s.running = true) (hpair : s.boot.pair.paired = true)
    (hlate : r.late = true) : exec (.releaseRecord r) s = .next (s.record 0x0107 0xFF [1]) := by
  have hexec : exec (.releaseRecord r) s = execReleaseRecord r s := rfl
  rw [hexec, execReleaseRecord, whenRunning_of s _ hrun, if_neg (by simp [hpair])]
  have hrow : (if s.holds then
      if s.mem.sinceLeap == some 0 && !r.late && s.mem.received.isNone then s.applyRelease r else s.record 0x0107 0xFF [1]
    else if r.late then s.record 0x0107 0xFF [1]
    else if s.mem.state = .vigil then s.modMem fun m => { m with received := some r }
    else s) = s.record 0x0107 0xFF [1] := by simp [hlate]
  rw [hrow, ((confined_record s _ _ _).mono (by decide)).within_eq]

theorem follows_iff (s : State) : s.follows = true ↔ s.running = true ∧ s.boot.pair.paired = true
    ∧ (s.mem.state = .syncing ∨ s.mem.state = .vigil) := by
  simp [State.follows, and_assoc]

theorem exec_selfCause {cause : Nat} {s : State} (hf : s.follows = true) :
    exec (.selfCause cause) s = .next (s.causeRelease cause) := by
  obtain ⟨hrun, -, -⟩ := (follows_iff s).mp hf
  exact exec_of_confined rfl hrun (if_pos hf) (confined_causeRelease s cause)

/-! ## The causes of a release record -/

theorem bit_or (x y n : Nat) : bit (x ||| y) n = (bit x n || bit y n) := by
  simp [bit, Nat.testBit_or]

theorem raise_configured (s : State) (c : CarId) (code chan : Nat) :
    ((s.raise c code chan).car c).configured = (s.car c).configured := by
  rw [raise_eq]
  unfold State.latchCause
  extract_lets t u v nv w
  have hlock : ((w.irqEvent 3).lockService c (code == 16)).car c =
      _ := car_modCar ..
  rw [hlock]
  have hw : (w.irqEvent 3).car c = u.car c := rfl
  have hu : (u.car c).configured = (t.car c).configured := by simp only [u]; rw [car_modSafe]
  have ht : (t.car c).configured = (s.car c).configured := by simp only [t]; rw [abortTest_car]; rfl
  show ((w.irqEvent 3).car c).configured = _
  rw [hw, hu, ht]

/-- A car has the causes of its word in the record. -/
def HasCauses (r : ReleaseRec) (c : CarId) (s : State) : Prop :=
  ∀ n : Fin 16, bit r.causes[c.val] n.val = true → bit (s.car c).safe.causes n.val = true

/-- What a step of the record's causes keeps: the car is configured, and no cause leaves it. -/
structure CausesGrow (c : CarId) (s t : State) : Prop where
  configured : (t.car c).configured = (s.car c).configured
  grow : ∀ n, bit (s.car c).safe.causes n = true → bit (t.car c).safe.causes n = true

theorem CausesGrow.refl (c : CarId) (s : State) : CausesGrow c s s := ⟨rfl, fun _ h => h⟩

theorem CausesGrow.trans {c : CarId} {s t u : State} (a : CausesGrow c s t) (b : CausesGrow c t u) : CausesGrow c s u :=
  ⟨b.configured.trans a.configured, fun n h => b.grow n (a.grow n h)⟩

theorem causesGrow_foldl {α : Type} {c : CarId} {f : State → α → State} (hf : ∀ s a, CausesGrow c s (f s a)) (l : List α) (s : State) :
    CausesGrow c s (l.foldl f s) := by
  induction l generalizing s with
  | nil => exact .refl c s
  | cons a l ih => exact (hf s a).trans (ih _)

theorem raise_causes (s : State) (c : CarId) (code chan : Nat) :
    ((s.raise c code chan).car c).safe.causes = (s.car c).safe.causes ||| 2 ^ code := by
  obtain ⟨hsafe, -, -⟩ := raise_car s c code chan
  rw [hsafe]
  rfl

theorem causesGrow_raise (s : State) (c d : CarId) (code chan : Nat) : CausesGrow c s (s.raise d code chan) := by
  by_cases hc : c = d
  · subst hc
    refine ⟨raise_configured s c code chan, fun n h => ?_⟩
    rw [raise_causes, bit_or, h]
    rfl
  · have hcar : (s.raise d code chan).car c = s.car c := raise_car_ne s d code chan hc
    exact ⟨by rw [hcar], fun n h => by rw [hcar]; exact h⟩

/-- One cause of the record for one car (R443). -/
def State.takeCause (r : ReleaseRec) (c : CarId) (s : State) (n : Nat) : State :=
  if bit r.causes[c.val] n && (s.car c).configured && !bit (s.car c).safe.causes n then s.raise c n noRef else s

theorem causesGrow_takeCause (r : ReleaseRec) (c d : CarId) (s : State) (n : Nat) : CausesGrow c s (s.takeCause r d n) := by
  unfold State.takeCause
  split
  · exact causesGrow_raise s c d n noRef
  · exact .refl c s

theorem takeCause_has (r : ReleaseRec) (c : CarId) {s : State} {n : Nat} (hconf : (s.car c).configured = true)
    (hbit : bit r.causes[c.val] n = true) : bit ((s.takeCause r c n).car c).safe.causes n = true := by
  unfold State.takeCause
  split
  · rw [raise_causes, bit_or]
    simp [bit]
  next h => simpa [hbit, hconf] using h

/-- After a fold of growing steps, what one step brings is there. -/
theorem foldl_has {α : Type} {c : CarId} {P : State → Prop} {f : State → α → State} (hf : ∀ s a, CausesGrow c s (f s a))
    (hP : ∀ s t, CausesGrow c s t → P s → P t) {a : α} (ha : ∀ s, (s.car c).configured = true → P (f s a)) (l : List α) (hl : a ∈ l)
    {s : State} (hconf : (s.car c).configured = true) : P (l.foldl f s) := by
  induction l generalizing s with
  | nil => cases hl
  | cons b l ih =>
    rcases List.mem_cons.mp hl with rfl | hl
    · exact hP _ _ (causesGrow_foldl hf l _) (ha s hconf)
    · exact ih hl ((hf s b).configured.trans hconf)

theorem takeCauses_spec (r : ReleaseRec) (s : State) (c : CarId) (hconf : (s.car c).configured = true) :
    HasCauses r c (s.takeCauses r) := by
  intro n hbit
  have hinner : ∀ s d, CausesGrow c s ((List.range 16).foldl (State.takeCause r d) s) := fun s d =>
    causesGrow_foldl (causesGrow_takeCause r c d) _ s
  refine foldl_has (c := c) (P := fun t => bit (t.car c).safe.causes n.val = true) hinner (fun s t h => h.grow n.val) (a := c)
    (fun s hconf => ?_) _ (List.mem_finRange c) hconf
  exact foldl_has (c := c) (P := fun t => bit (t.car c).safe.causes n.val = true) (causesGrow_takeCause r c c)
    (fun s t h => h.grow n.val) (fun s hconf => takeCause_has r c hconf hbit) _ (List.mem_range.mpr n.isLt) hconf

/-! ## PAIR_SEL -/

/-- What a member takes from a report of PAIR_SEL, before a conflict ends its vigil (R422, R449). -/
def State.takeReport (b : Bool) (x : SelReport) (s : State) : State :=
  (if b == s.boot.pairSel && !s.mem.selConflict then s.record 0x0107 0xFF [2] else s).modMem fun m =>
    { m with partnerKnown := true, partnerB := b, partnerState := min x.state 255,
             progress := if m.state = .holder then min x.progress 256 else m.progress, selConflict := b == s.boot.pairSel,
             vigilFrames := if x.state = 3 then m.vigilFrames else 0 }

theorem takeReport_spec (b : Bool) (x : SelReport) (s : State) :
    (s.takeReport b x).mem = { s.mem with
        partnerKnown := true, partnerB := b, partnerState := min x.state 255,
        progress := if s.mem.state = .holder then min x.progress 256 else s.mem.progress, selConflict := b == s.boot.pairSel,
        vigilFrames := if x.state = 3 then s.mem.vigilFrames else 0 }
      ∧ (s.takeReport b x).nv.recorder = if (b == s.boot.pairSel && !s.mem.selConflict) = true
          then s.nv.recorder.add (s.mkRec 0x0107 0xFF [2]) else s.nv.recorder := by
  unfold State.takeReport
  rw [modMem_mem]
  split <;> exact ⟨rfl, rfl⟩

/-- A member in VIGIL that loses it (R433). -/
theorem loseVigil_of_vigil {part reason : Nat} {s : State} (h : s.mem.state = .vigil) :
    s.loseVigil part reason = (s.record 0x0105 0xFF [byte part, byte reason]).modMem fun m =>
      { m with state := .syncing, vigilReady := false, completeRun := 0, resynced := false, progress := 0,
               vigilLosses := satInc 32 m.vigilLosses } := by
  rw [State.loseVigil, if_pos h]

theorem confined_loseVigil (part reason : Nat) (s : State) : Confined [.member, .recorder] s (s.loseVigil part reason) := by
  unfold State.loseVigil
  split
  · exact ((confined_record s _ _ _).mono (by decide)).trans ((confined_modMem _ _).mono (by decide))
  · exact (confined_modMem s _).mono (by decide)

theorem exec_pairSelReport {b : Bool} {x : SelReport} {s : State} (hrun : s.running = true) (hpair : s.boot.pair.paired = true) :
    exec (.pairSelReport b x) s = .next (if b == s.boot.pairSel && s.mem.state == .vigil then (s.takeReport b x).loseVigil 0 0
      else s.takeReport b x) := by
  have htake : Confined [.member, .recorder] s (s.takeReport b x) := by
    refine Confined.trans ?_ ((confined_modMem _ _).mono (by decide))
    split
    · exact (confined_record s _ _ _).mono (by decide)
    · exact confined_refl _ s
  have hstate : (s.takeReport b x).mem.state = s.mem.state := by
    unfold State.takeReport
    rw [modMem_mem]
    split <;> rfl
  refine exec_of_confined rfl hrun ?_ (t := _) ?_
  · rw [if_neg (by simp [hpair])]
    rw [← hstate]
    rfl
  · split
    · exact htake.trans (confined_loseVigil 0 0 _)
    · exact htake

end Sys2Proof.Machine

namespace Sys2Proof.Proofs

open Sys2Proof Sys2Proof.Machine

/-- Settles O28: each event's own lemma says what it does; the record's causes are `takeCauses_spec`'s. -/
theorem pairConflicts : Obligations.PairConflicts := by
  refine ⟨fun s hrun hpair hholds => ?contention, fun s hrun hholds hcont hsel hover => ?timeout,
    fun r s hrun hpair hholds hleap hlate hnone => ?record, fun r s hrun hpair hlate => ?late,
    fun cause s hfollows hlo hhi => ?self, fun b n copied s hrun hpair => ?report⟩
  case contention =>
    refine ⟨_, exec_contention hrun hpair hholds, ?_⟩
    split
    next hsel => exact ⟨rfl, rfl, rfl⟩
    next hsel => exact ⟨rfl, rfl, rfl⟩
  case timeout =>
    refine ⟨_, exec_contentionTimeout hrun (by simp [State.contends, hholds, hcont, hsel]) hover, fun hB => ?_, fun hB => ?_⟩
    · rw [State.contentionOver, if_pos (by simp [hB])]
      rfl
    · rw [State.contentionOver, if_neg (by simpa using hB)]
      rfl
  case record =>
    refine ⟨_, exec_releaseRecord_leap hrun hpair hholds hleap hlate hnone, ?_, ?_, fun c n hconf hbit => ?_⟩
    · rw [within_mem, if_pos (by decide)]
      rfl
    · rw [within_mem, if_pos (by decide)]
      rfl
    · rw [within_car (by decide)]
      exact takeCauses_spec r s c hconf n hbit
  case late => exact ⟨_, exec_releaseRecord_late hrun hpair hlate, rfl, rfl, rfl⟩
  case self =>
    obtain ⟨-, hpair, hstate⟩ := (follows_iff s).mp hfollows
    exact ⟨_, exec_selfCause hfollows, by rw [causeRelease_of_standby hpair hstate.symm ⟨hlo, hhi⟩]⟩
  case report =>
    refine ⟨_, exec_pairSelReport hrun hpair, ?_⟩
    obtain ⟨hmem, hrec⟩ := takeReport_spec b ⟨n, copied⟩ s
    by_cases hvigil : b = s.boot.pairSel ∧ s.mem.state = .vigil
    · obtain ⟨hb, hvigil⟩ := hvigil
      rw [if_pos (by simp [hb, hvigil]), loseVigil_of_vigil (by rw [hmem]; exact hvigil), modMem_mem]
      simp only [record_mem, hmem]
      exact ⟨fun h => by simp [hvigil] at h, trivial, trivial, trivial, rfl, fun _ h => absurd hvigil h, fun _ _ => trivial,
        fun h => absurd hb h⟩
    · have hstay : (b == s.boot.pairSel && s.mem.state == .vigil) = false := by simpa using hvigil
      rw [hstay, if_neg (by decide), hmem, hrec]
      refine ⟨fun h => if_pos h, rfl, rfl, rfl, rfl, fun hb _ => ?_, fun hb h => absurd ⟨hb, h⟩ hvigil, fun hb => ⟨rfl, ?_⟩⟩
      · cases hc : s.mem.selConflict <;> simp [hb]
      · rw [if_neg (by simp [hb])]

end Sys2Proof.Proofs

/-! PROOFS. O29: how a member follows the holder. -/

namespace Sys2Proof.Machine

open Sys2Proof

/-! ## A divergence -/

/-- A divergence is the member's and the recorder's alone. -/
theorem confined_diverge (car : Nat) (s : State) : Confined [.free, .member, .recorder] s (s.diverge car) := by
  unfold State.diverge
  split
  · exact confined_refl _ s
  · dsimp only
    split
    · exact (confined_modMem s _).mono (by decide)
    · exact ((((confined_modMem s _).mono (by decide)).trans ((confined_drawNat _).mono (by decide))).trans
        ((confined_modMem _ _).mono (by decide))).trans ((confined_record _ _ _ _).mono (by decide))

/-- What a divergence leaves of the member: all but its own marks. -/
theorem diverge_spec (car : Nat) (s : State) : (s.diverge car).grp = s.grp ∧ (s.diverge car).io = s.io
    ∧ ∃ a b c, (s.diverge car).mem = { s.mem with diverged := a, divergences := b, divergedOctave := c } := by
  unfold State.diverge
  split
  · exact ⟨rfl, rfl, _, _, _, rfl⟩
  · dsimp only
    split
    · exact ⟨rfl, rfl, _, _, _, rfl⟩
    · exact ⟨rfl, rfl, _, _, _, rfl⟩

/-! ## The IMAGE and DECISION parts -/

theorem exec_pairImagePart_late {p : ImagePart} {s : State} (h : s.mem.gotImage = true) : exec (.pairImagePart p) s = .next s := by
  refine exec_of_effect_eq rfl ?_
  exact if_pos (by simp [h])

theorem exec_pairDecisionPart_late {p : DecisionPart} {s : State} (h : s.mem.gotDecision = true) :
    exec (.pairDecisionPart p) s = .next s := by
  refine exec_of_effect_eq rfl ?_
  exact if_pos (by simp [h])

/-- The image of the IMAGE part, the holder heard. -/
def State.withImage (p : ImagePart) (s : State) : State :=
  (s.modMem fun m => { m with gotImage := true, holdiActive := true, holdiQuiet := false }).formImage p

theorem confined_withImage (p : ImagePart) (s : State) : Confined [.member, .banks, .image] s (s.withImage p) := by
  have hform : ∀ u : State, Confined [.banks, .image] u (u.formImage p) := fun u => confined_of_within_eq rfl
  exact ((confined_modMem s _).mono (by decide)).trans ((hform _).mono (by decide))

/-- The divergence that an image's receive frames show, if they do (R432). -/
def State.imageDiverge (bad : Option BusId) (s : State) : State :=
  match bad with
  | some b => s.diverge (b.val / 2)
  | none => s

theorem imageDiverge_spec (bad : Option BusId) (s : State) : Confined [.free, .member, .recorder] s (s.imageDiverge bad)
    ∧ (s.imageDiverge bad).grp = s.grp ∧ (s.imageDiverge bad).io = s.io
    ∧ ∃ a b c, (s.imageDiverge bad).mem = { s.mem with diverged := a, divergences := b, divergedOctave := c } := by
  cases bad with
  | none => exact ⟨confined_refl _ s, rfl, rfl, _, _, _, rfl⟩
  | some b => exact ⟨confined_diverge _ s, diverge_spec _ s⟩

/-- The first IMAGE part of a frame, its state not yet at hand: the image, and perhaps a divergence (R431, R432). -/
theorem exec_pairImagePart {p : ImagePart} {s : State} (hf : s.follows = true) (hfirst : s.mem.gotImage = false)
    (hdue : s.mem.stateDue = true) :
    ∃ bad, exec (.pairImagePart p) s = .next ((s.withImage p).imageDiverge bad) := by
  have hexec : exec (.pairImagePart p) s = execPairImagePart p s := rfl
  rw [hexec, execPairImagePart, if_neg (by simp [hf, hfirst])]
  extract_lets marked formed bad diverged
  refine ⟨bad, ?_⟩
  have heq : diverged = (s.withImage p).imageDiverge bad := by
    simp only [diverged, State.imageDiverge]
    cases bad <;> rfl
  obtain ⟨hconf, -, -, a, b, c, hmem⟩ := imageDiverge_spec bad (s.withImage p)
  have hstay : diverged.mem.stateDue = true := by rw [heq, hmem]; exact hdue
  rw [if_pos hstay, heq, (((confined_withImage p s).mono (by decide)).trans (hconf.mono (by decide))).within_eq]

theorem exec_pairDecisionPart {p : DecisionPart} {s : State} (hf : s.follows = true) (hfirst : s.mem.gotDecision = false)
    (hearly : s.mem.stateDue = true ∨ s.mem.gotImage = false) :
    exec (.pairDecisionPart p) s = .next { s with mem := { s.mem with gotDecision := true, decision := some p } } := by
  have hexec : exec (.pairDecisionPart p) s = execPairDecisionPart p s := rfl
  have hcond : (s.mem.stateDue || !s.mem.gotImage) = true := by simpa using hearly
  rw [hexec, execPairDecisionPart, if_neg (by simp [hf, hfirst])]
  simp only [modMem_mem, hcond, if_true]
  rw [((confined_modMem s _).mono (by decide)).within_eq]
  rfl

/-! ## The STATE part -/

theorem confined_divergeLate (car : Nat) (s : State) : Confined [.free, .member, .recorder] s (s.divergeLate car) :=
  (((confined_modMem s _).mono (by decide)).trans (confined_diverge car _)).trans ((confined_modMem _ _).mono (by decide))

theorem confined_takePorts (p : PortCfg) (s : State) : Confined [.banks, .buses, .map, .links] s (s.takePorts p) := by
  unfold State.takePorts
  extract_lets buses links banks
  clear_value buses links banks
  exact confined_of_within_eq rfl

theorem confined_withGrp (g : Group) (s : State) : Confined groupParts s { s with grp := g } := by
  refine ⟨rfl, fun part hpart => ?_⟩
  cases part <;> simp [groupParts, bodyParts, Part.same] at hpart ⊢

/-- What the STATE part of the frame brings to the group's state and what is stored with it (R431, R434). -/
structure TookState (p : StatePart) (t : State) : Prop where
  grp : t.grp = p.group
  config : t.nv.config = p.stored.config
  saved : t.nv.saved = p.stored.saved
  kernels : t.nv.kernels = p.stored.kernels
  frameLen : t.nv.frameLen = p.stored.frameLen
  pair : t.nv.pair = p.stored.pair
  net : t.nv.net = p.stored.net
  causes : t.nv.causes = p.group.cars.map fun c => c.safe.causes
  ports : ∀ b : BusId, t.io.buses[b.val].cfg = p.ports.can[b.val]
  ethDue : t.mem.ethDue = p.eth

theorem TookState.record {p : StatePart} {t : State} (h : TookState p t) (code car : Nat) (data : List Byte) :
    TookState p (t.record code car data) :=
  ⟨h.grp, h.config, h.saved, h.kernels, h.frameLen, h.pair, h.net, h.causes, h.ports, h.ethDue⟩

theorem TookState.modMem {p : StatePart} {t : State} (h : TookState p t) {f : Member → Member} (hf : (f t.mem).ethDue = t.mem.ethDue) :
    TookState p (t.modMem f) :=
  ⟨h.grp, h.config, h.saved, h.kernels, h.frameLen, h.pair, h.net, h.causes, h.ports, hf.trans h.ethDue⟩

theorem TookState.loseVigil {p : StatePart} {t : State} (h : TookState p t) (part reason : Nat) :
    TookState p (t.loseVigil part reason) := by
  unfold State.loseVigil
  split
  · exact (h.record _ _ _).modMem rfl
  · exact h.modMem rfl

theorem takePorts_cfg (p : PortCfg) (s : State) (b : BusId) : (s.takePorts p).io.buses[b.val].cfg = p.can[b.val] := by
  simp only [State.takePorts, Vector.getElem_ofFn]
  split
  · assumption
  · rfl

theorem takeState_spec (p : StatePart) (s : State) : Confined standbyParts s (s.takeState p) ∧ TookState p (s.takeState p) := by
  unfold State.takeState
  extract_lets wrong marked ported rings leaf io host stored keys known
  have hmarked : Confined [.free, .member, .recorder] s marked := by
    simp only [marked]
    cases wrong with
    | none => exact confined_refl _ s
    | some c =>
      dsimp only
      split
      · exact confined_diverge _ s
      · split
        · exact confined_divergeLate _ s
        · exact confined_refl _ s
  clear_value marked
  have hgroup : Confined standbyParts marked { marked with grp := p.group } := (confined_withGrp p.group marked).mono (by decide)
  have hported : Confined standbyParts marked ported := hgroup.trans ((confined_takePorts p.ports _).mono (by decide))
  have hcfg : ∀ b : BusId, ported.io.buses[b.val].cfg = p.ports.can[b.val] := takePorts_cfg p.ports _
  have hgrp : ported.grp = p.group := rfl
  clear_value keys rings
  clear_value ported
  have hstored : Confined [.rings, .net, .recorder, .stored, .banks] ported stored := by
    simp only [stored, leaf, io, host]
    generalize bindBanks p.group.alm ported.io.banks = banks
    generalize p.records.foldl Recorder.takeRec ported.nv.recorder = recorder
    exact confined_of_within_eq rfl
  have hknown : Confined standbyParts s known :=
    (((hmarked.mono (by decide)).trans hported).trans (hstored.mono (by decide))).trans ((confined_modMem _ _).mono (by decide))
  have htook : TookState p known := ⟨hgrp, rfl, rfl, rfl, rfl, rfl, rfl, rfl, hcfg, rfl⟩
  clear_value known
  split
  · exact ⟨hknown.trans ((confined_loseVigil 2 1 _).mono (by decide)), htook.loseVigil 2 1⟩
  · exact ⟨hknown, htook⟩

/-- The STATE part of the frame the member is in, once and in its time (R431). -/
theorem exec_pairStatePart {p : StatePart} {s : State} (hf : s.follows = true) (hframe : p.group.frame = s.grp.frame)
    (hdue : s.mem.stateDue = false) (hfirst : s.mem.gotState = false) :
    exec (.pairStatePart p) s = .next
      ((s.takeState p).modMem fun m => { m with gotState := true, committed := true, ran := true }) := by
  have hexec : exec (.pairStatePart p) s = execPairStatePart p s := rfl
  rw [hexec, execPairStatePart, if_neg (by simp [hf]), if_pos (by simp [hframe, hdue, hfirst]),
    ((takeState_spec p s).1.trans ((confined_modMem _ _).mono (by decide))).within_eq]

/-! ## The end of VIGIL -/

/-- What the standby's VIGIL_LOST records: the part and the reason (R433, R541). -/
def VigilCause.why (missing : Nat) : VigilCause → List Byte
  | .late => [byte missing, 0]
  | .check => [byte missing, 1]
  | .overflow _ => [2, 2]

theorem exec_vigilLost_standby {cause : VigilCause} {s : State} (hf : s.follows = true) :
    ∃ part reason, exec (.vigilLost cause) s = .next (s.loseVigil part reason)
      ∧ [byte part, byte reason] = cause.why s.mem.missingPart := by
  obtain ⟨hrun, -, -⟩ := (follows_iff s).mp hf
  cases cause with
  | late => exact ⟨s.mem.missingPart, 0, exec_of_confined rfl hrun (if_pos hf) (confined_loseVigil _ _ s), rfl⟩
  | check => exact ⟨s.mem.missingPart, 1, exec_of_confined rfl hrun (if_pos hf) (confined_loseVigil _ _ s), rfl⟩
  | overflow _ => exact ⟨2, 2, exec_of_confined rfl hrun (if_pos hf) (confined_loseVigil _ _ s), rfl⟩

/-- The holder's mark that its standby has left VIGIL (R430). -/
def State.vigilLeft (s : State) : State :=
  s.modMem fun m => { m with partnerState := 2, vigilFrames := 0, vigilLosses := satInc 32 m.vigilLosses }

theorem exec_vigilLost_holder {cause : VigilCause} {s : State} (hrun : s.running = true) (hf : s.follows = false)
    (hpair : s.boot.pair.paired = true) (hholds : s.holds = true) :
    exec (.vigilLost cause) s = .next (if cause = .overflow true then s.vigilLeft.ladderBreak 1 2 0xFF 0 else s.vigilLeft) := by
  refine exec_of_confined rfl hrun ((if_neg (by simp [hf])).trans (if_pos (by simp [hpair, hholds]))) ?_
  split
  · exact ((confined_modMem s _).mono (by decide)).trans ((confined_record _ _ _ _).mono (by decide))
  · exact (confined_modMem s _).mono (by decide)

/-- A lost link: the partner is unknown (R425, R446). -/
def State.linkDown (s : State) : State :=
  s.modMem fun m => { m with eth1 := false, partnerState := 0xFF, vigilFrames := 0 }

theorem exec_eth1LinkLoss_up {s : State} (hrun : s.running = true) :
    exec (.eth1LinkLoss true) s = .next (s.modMem fun m => { m with eth1 := true }) :=
  exec_of_confined rfl hrun (if_pos rfl) ((confined_modMem s _).mono (by decide))

theorem exec_eth1LinkLoss_down {s : State} (hrun : s.running = true) :
    exec (.eth1LinkLoss false) s = .next (if s.follows then s.linkDown.loseVigil 0 0 else s.linkDown) := by
  refine exec_of_confined rfl hrun (if_neg (by decide)) ?_
  split
  · exact ((confined_modMem s _).mono (by decide)).trans (confined_loseVigil 0 0 s.linkDown)
  · exact (confined_modMem s _).mono (by decide)

theorem loseVigil_state {part reason : Nat} {s : State} (h : s.mem.state = .syncing ∨ s.mem.state = .vigil) :
    (s.loseVigil part reason).mem.state = .syncing := by
  unfold State.loseVigil
  split
  · rfl
  next hne => exact h.resolve_right hne

/-- One measurement of the offset of the partner's Calends (R427). -/
def Member.measure (ns : Int) (m : Member) : Member :=
  let near := decide (-200 ≤ ns) && decide (ns ≤ 200)
  let lock := if near then min 64 (m.lockRun + 1) else 0
  let unlock := if near then 0 else min 4 (m.unlockRun + 1)
  { m with offsetNs := ns, lockRun := lock, unlockRun := unlock,
           locked := if decide (64 ≤ lock) then true else if decide (4 ≤ unlock) then false else m.locked }

theorem measure_near {ns : Int} (h : ns.natAbs ≤ 200) (m : Member) : m.measure ns =
    { m with offsetNs := ns, lockRun := min 64 (m.lockRun + 1), unlockRun := 0,
             locked := if 64 ≤ min 64 (m.lockRun + 1) then true else m.locked } := by
  have hnear : (decide (-200 ≤ ns) && decide (ns ≤ 200)) = true := by
    simp only [Bool.and_eq_true, decide_eq_true_eq]
    omega
  simp [Member.measure, hnear]

theorem measure_far {ns : Int} (h : 200 < ns.natAbs) (m : Member) : m.measure ns =
    { m with offsetNs := ns, lockRun := 0, unlockRun := min 4 (m.unlockRun + 1),
             locked := if 4 ≤ min 4 (m.unlockRun + 1) then false else m.locked } := by
  have hfar : (decide (-200 ≤ ns) && decide (ns ≤ 200)) = false := by
    simp only [Bool.and_eq_false_iff, decide_eq_false_iff_not]
    omega
  simp [Member.measure, hfar]

theorem exec_calendsLock {ns : Int} {s : State} (hrun : s.running = true) (hpair : s.boot.pair.paired = true) :
    exec (.calendsLock ns) s = .next (if s.follows && !(s.mem.measure ns).locked && s.mem.state == .vigil
      then (s.modMem (Member.measure ns)).loseVigil 0 0 else s.modMem (Member.measure ns)) := by
  refine exec_of_confined rfl hrun (if_neg (by simp [hpair])) ?_
  split
  · exact ((confined_modMem s _).mono (by decide)).trans (confined_loseVigil 0 0 _)
  · exact (confined_modMem s _).mono (by decide)

theorem confined_tryVigil (atCalends : Bool) (s : State) : Confined [.member] s (s.tryVigil atCalends) := by
  unfold State.tryVigil
  extract_lets m whole
  split
  · exact confined_modMem s _
  · exact confined_refl _ s

theorem exec_resyncComplete {s : State} (hf : s.follows = true) :
    exec .resyncComplete s = .next ((s.modMem fun m => { m with resynced := true, progress := 256 }).tryVigil false) := by
  have hexec : exec .resyncComplete s = execResyncComplete s := rfl
  rw [hexec, execResyncComplete, if_pos hf, ((confined_modMem s _).trans (confined_tryVigil false _)).within_eq]

end Sys2Proof.Machine

namespace Sys2Proof.Proofs

open Sys2Proof Sys2Proof.Machine

theorem pairImagePart_first (p : ImagePart) (s : State) (hf : s.follows = true) (hfirst : s.mem.gotImage = false)
    (hdue : s.mem.stateDue = true) :
    ∃ t, exec (.pairImagePart p) s = .next t ∧ t.mem.gotImage = true ∧ t.mem.holdiActive = true
      ∧ t.io.image.banks = p.image.banks ∧ t.io.image.enc = p.image.enc ∧ t.io.image.encFault = p.image.encFault
      ∧ (∀ b : BusId, t.io.image.can[b.val] = s.io.image.can[b.val].take p.counts[b.val]) ∧ t.grp = s.grp := by
  obtain ⟨bad, hexec⟩ := exec_pairImagePart (p := p) hf hfirst hdue
  obtain ⟨-, hgrp, hio, a, b, c, hmem⟩ := imageDiverge_spec bad (s.withImage p)
  refine ⟨_, hexec, by rw [hmem]; rfl, by rw [hmem]; rfl, by rw [hio]; rfl, by rw [hio]; rfl, by rw [hio]; rfl, fun b => ?_, hgrp⟩
  rw [hio]
  simp only [State.withImage, State.formImage, Vector.getElem_ofFn, modMem_io]

theorem pairStatePart_present (p : StatePart) (s : State) (hf : s.follows = true) (hframe : p.group.frame = s.grp.frame)
    (hdue : s.mem.stateDue = false) (hfirst : s.mem.gotState = false) :
    ∃ t, exec (.pairStatePart p) s = .next t ∧ t.grp = p.group ∧ t.mem.gotState = true
      ∧ t.nv.config = p.stored.config ∧ t.nv.saved = p.stored.saved ∧ t.nv.kernels = p.stored.kernels
      ∧ t.nv.frameLen = p.stored.frameLen ∧ t.nv.pair = p.stored.pair ∧ t.nv.net = p.stored.net
      ∧ (∀ c : CarId, t.nv.causes[c.val] = (t.car c).safe.causes)
      ∧ (∀ b : BusId, t.io.buses[b.val].cfg = p.ports.can[b.val]) ∧ t.mem.ethDue = p.eth := by
  have htook := (takeState_spec p s).2
  refine ⟨_, exec_pairStatePart hf hframe hdue hfirst, htook.grp, rfl, htook.config, htook.saved, htook.kernels, htook.frameLen,
    htook.pair, htook.net, fun c => ?_, htook.ports, htook.ethDue⟩
  rw [modMem_nv, htook.causes, State.car, modMem_grp, htook.grp, Vector.getElem_map]

theorem vigilLost_standby (cause : VigilCause) (s : State) (hf : s.follows = true) (hvigil : s.mem.state = .vigil) :
    ∃ t, exec (.vigilLost cause) s = .next t ∧ t.mem.state = .syncing ∧ t.mem.vigilReady = false ∧ t.mem.completeRun = 0
      ∧ t.mem.vigilLosses = satInc 32 s.mem.vigilLosses
      ∧ t.nv.recorder = s.nv.recorder.add (s.mkRec 0x0105 0xFF (cause.why s.mem.missingPart)) := by
  obtain ⟨part, reason, hexec, hwhy⟩ := exec_vigilLost_standby (cause := cause) hf
  rw [loseVigil_of_vigil hvigil, hwhy] at hexec
  exact ⟨_, hexec, rfl, rfl, rfl, rfl, rfl⟩

theorem missingPart_eq (m : Member) :
    m.missingPart = if m.gotImage = false then 0 else if m.gotDecision = false then 1 else 2 := by
  simp [Member.missingPart]

theorem vigilLost_holder (cause : VigilCause) (s : State) (hrun : s.running = true) (hf : s.follows = false)
    (hpair : s.boot.pair.paired = true) (hholds : s.holds = true) :
    ∃ t, exec (.vigilLost cause) s = .next t ∧ t.grp = s.grp
      ∧ t.mem = { s.mem with partnerState := 2, vigilFrames := 0, vigilLosses := satInc 32 s.mem.vigilLosses }
      ∧ (cause ≠ .overflow true → t.nv.recorder = s.nv.recorder) := by
  refine ⟨_, exec_vigilLost_holder hrun hf hpair hholds, ?_⟩
  split
  next hover => exact ⟨rfl, rfl, fun hne => absurd hover hne⟩
  next => exact ⟨rfl, rfl, fun _ => rfl⟩

theorem not_follows_of_holds {s : State} (h : s.holds = true) : s.follows = false := by
  rcases hf : s.follows with _ | _
  · rfl
  · obtain ⟨-, hpair, hstate⟩ := (follows_iff s).mp hf
    simp only [State.holds, beq_iff_eq] at h
    simp [h] at hstate

theorem eth1LinkLoss_spec (up : Bool) (s : State) (hrun : s.running = true) :
    ∃ t, exec (.eth1LinkLoss up) s = .next t ∧ t.mem.eth1 = up
      ∧ (up = true → t.mem.state = s.mem.state) ∧ (up = false → t.mem.partnerState = 0xFF)
      ∧ (up = false → s.follows = true → t.mem.state = .syncing) ∧ (s.holds = true → t.mem.state = s.mem.state) := by
  cases up with
  | true => exact ⟨_, exec_eth1LinkLoss_up hrun, rfl, fun _ => rfl, nofun, nofun, fun _ => rfl⟩
  | false =>
    refine ⟨_, exec_eth1LinkLoss_down hrun, ?_⟩
    by_cases hf : s.follows = true
    · obtain ⟨-, -, hstate⟩ := (follows_iff s).mp hf
      have hkept : (s.linkDown.loseVigil 0 0).mem.eth1 = false ∧ (s.linkDown.loseVigil 0 0).mem.partnerState = 0xFF := by
        unfold State.loseVigil
        split <;> exact ⟨rfl, rfl⟩
      rw [if_pos hf]
      exact ⟨hkept.1, nofun, fun _ => hkept.2, fun _ _ => loseVigil_state hstate,
        fun hholds => absurd (not_follows_of_holds hholds) (by simp [hf])⟩
    · rw [if_neg hf]
      exact ⟨rfl, nofun, fun _ => rfl, fun _ h => absurd h hf, fun _ => rfl⟩

theorem loseVigil_measured (part reason : Nat) (s : State) : (s.loseVigil part reason).mem.offsetNs = s.mem.offsetNs
    ∧ (s.loseVigil part reason).mem.lockRun = s.mem.lockRun ∧ (s.loseVigil part reason).mem.unlockRun = s.mem.unlockRun
    ∧ (s.loseVigil part reason).mem.locked = s.mem.locked := by
  unfold State.loseVigil
  split <;> exact ⟨rfl, rfl, rfl, rfl⟩

theorem calendsLock_spec (ns : Int) (s : State) (hrun : s.running = true) (hpair : s.boot.pair.paired = true) :
    ∃ t, exec (.calendsLock ns) s = .next t ∧ t.mem.offsetNs = ns
      ∧ (ns.natAbs ≤ 200 → t.mem.lockRun = min 64 (s.mem.lockRun + 1) ∧ t.mem.unlockRun = 0
          ∧ (63 ≤ s.mem.lockRun → t.mem.locked = true))
      ∧ (200 < ns.natAbs → t.mem.lockRun = 0 ∧ t.mem.unlockRun = min 4 (s.mem.unlockRun + 1)
          ∧ (3 ≤ s.mem.unlockRun → t.mem.locked = false ∧ (s.mem.state = .vigil → t.mem.state = .syncing))) := by
  refine ⟨_, exec_calendsLock hrun hpair, ?_⟩
  generalize hover : (if s.follows && !(s.mem.measure ns).locked && s.mem.state == .vigil
      then (s.modMem (Member.measure ns)).loseVigil 0 0 else s.modMem (Member.measure ns)) = t
  obtain ⟨hns, hlock, hunlock, hlocked⟩ : t.mem.offsetNs = (s.mem.measure ns).offsetNs ∧ t.mem.lockRun = (s.mem.measure ns).lockRun
      ∧ t.mem.unlockRun = (s.mem.measure ns).unlockRun ∧ t.mem.locked = (s.mem.measure ns).locked := by
    rw [← hover]
    split
    · exact loseVigil_measured 0 0 _
    · exact ⟨rfl, rfl, rfl, rfl⟩
  refine ⟨hns, fun hnear => ?_, fun hfar => ?_⟩
  · rw [hlock, hunlock, hlocked, measure_near hnear]
    exact ⟨rfl, rfl, fun h => if_pos (by omega)⟩
  · rw [hlock, hunlock, hlocked, measure_far hfar]
    refine ⟨rfl, rfl, fun h => ⟨if_pos (by omega), fun hvigil => ?_⟩⟩
    have hfree : (s.mem.measure ns).locked = false := by rw [measure_far hfar]; exact if_pos (by omega)
    have hf : s.follows = true := (follows_iff s).mpr ⟨hrun, hpair, .inr hvigil⟩
    rw [← hover, if_pos (by simp [hf, hfree, hvigil])]
    exact loseVigil_state (.inr hvigil)

theorem resyncComplete_spec (s : State) (hf : s.follows = true) :
    ∃ t, exec .resyncComplete s = .next t ∧ t.mem.resynced = true ∧ t.mem.progress = 256
      ∧ (s.mem.state = .syncing → s.mem.locked = true → s.mem.afterDrill = false → 64 ≤ s.mem.completeRun →
          s.mem.configMatch = true → s.mem.selConflict = false → t.mem.state = .vigil) := by
  refine ⟨_, exec_resyncComplete hf, ?_⟩
  unfold State.tryVigil
  extract_lets m whole
  split
  · exact ⟨rfl, rfl, fun _ _ _ _ _ _ => rfl⟩
  next hstay =>
    refine ⟨rfl, rfl, fun hstate hlocked hdrill hrun hmatch hconflict => absurd ?_ hstay⟩
    simp [whole, m, hstate, hlocked, hdrill, hrun, hmatch, hconflict]

/-- Settles O29: one lemma per event; what the STATE part brings is read off `takeState_spec`. -/
theorem pairFollows : Obligations.PairFollows := by
  unfold Obligations.PairFollows
  refine ⟨pairImagePart_first, fun p s => exec_pairImagePart_late, fun p s => exec_pairDecisionPart,
    fun p s => exec_pairDecisionPart_late, pairStatePart_present, vigilLost_holder, fun cause s hf hvigil => ?_, eth1LinkLoss_spec,
    calendsLock_spec, resyncComplete_spec⟩
  rw [← missingPart_eq]
  cases cause with
  | late => exact vigilLost_standby .late s hf hvigil
  | check => exact vigilLost_standby .check s hf hvigil
  | overflow m => exact vigilLost_standby (.overflow m) s hf hvigil

end Sys2Proof.Proofs

/-! PROOFS. O38: sessions of the network mailbox. -/

namespace Sys2Proof.Machine

open Sys2Proof

/-! ## What the mailbox's operations touch -/

theorem confined_session (s : State) (n : CarId) (f : Session → Session) : Confined [.sessions] s (s.modSession n f) :=
  confined_within [.sessions] s (s.modSession n f)

theorem confined_ethOut (s : State) (b : List Byte) : Confined [.net] s (s.ethSend b) :=
  confined_within [.net] s (s.ethSend b)

theorem confined_sessionSend (s : State) (n : CarId) (kind index : Nat) (data : List Byte) :
    Confined [.net] s (s.sessionSend n kind index data) := confined_ethOut s _

theorem confined_source (s : State) (x : Source) (f : SrcState → SrcState) : Confined [.sources] s (s.modSource x f) :=
  confined_within [.sources] s (s.modSource x f)

theorem confined_closeSession (n : CarId) (s : State) : Confined [.sources, .sessions, .rings] s (closeSession n s) :=
  (((confined_session s n _).mono (by decide)).trans ((confined_source _ _ _).mono (by decide))).trans
    ((confined_of_within_eq rfl : Confined [.rings] _ _).mono (by decide))

theorem confined_authFailure (s : State) : Confined [.net, .recorder] s (authFailure s) := by
  unfold authFailure
  extract_lets n
  split
  · exact confined_of_within_eq rfl
  · exact ((confined_record s _ _ _).mono (by decide)).trans
      ((confined_of_within_eq rfl : Confined [.net] _ _).mono (by decide))

theorem session_modSession (s : State) (n : CarId) (f : Session → Session) :
    (s.modSession n f).grp.sessions[n.val] = f s.grp.sessions[n.val] := by simp

theorem session_modSession_ne (s : State) (f : Session → Session) {m n : CarId} (h : m ≠ n) :
    (s.modSession n f).grp.sessions[m.val] = s.grp.sessions[m.val] := by
  simp only [modSession_grp_sessions]
  exact Vector.getElem_set_ne _ _ (fun hval => h (Fin.ext hval.symm))

theorem source_modSource (s : State) (x : Source) (f : SrcState → SrcState) :
    (s.modSource x f).grp.sources[x.val] = f s.grp.sources[x.val] := by simp

/-- What a closed session leaves: the number of its openings, no chain, and nothing that waits (R475). -/
theorem closeSession_spec (n : CarId) (s : State) :
    (closeSession n s).grp.sessions[n.val] = { serial := s.grp.sessions[n.val].serial }
      ∧ (closeSession n s).grp.sources[(Source.ofSession n).val] = {}
      ∧ (closeSession n s).host.held[(Source.ofSession n).val] = []
      ∧ (closeSession n s).grp.jobs = s.grp.jobs ∧ (closeSession n s).host.ethOut = s.host.ethOut := by
  refine ⟨session_modSession s n fun y => { serial := y.serial }, ?_, ?_, rfl, rfl⟩
  · exact source_modSource (s.modSession n fun y => { serial := y.serial }) _ fun _ => {}
  · exact Vector.getElem_set_self ..

/-! ## A datagram and its session -/

/-- The session notes a valid datagram (R475). -/
def State.heard (n : CarId) (s : State) : State := s.modSession n fun x => { x with lastValid := s.grp.frame }

theorem confined_heard (n : CarId) (s : State) : Confined [.sessions] s (s.heard n) := confined_session s n _

theorem withSession_of_auth {kind : Nat} {d : Datagram} {n : CarId} {s : State} (f : CarId → State → State) (hup : s.netUp = true)
    (hauth : s.authSession kind d = some n) : withSession kind d s f = f n (s.heard n) := by
  rw [withSession, if_neg (by simp [hup]), hauth]
  rfl

theorem withSession_of_none {kind : Nat} {d : Datagram} {s : State} (f : CarId → State → State) (hup : s.netUp = true)
    (hauth : s.authSession kind d = none) : withSession kind d s f = authFailure s := by
  rw [withSession, if_neg (by simp [hup]), hauth]

theorem session_heard (n : CarId) (s : State) :
    (s.heard n).grp.sessions[n.val] = { s.grp.sessions[n.val] with lastValid := s.grp.frame } :=
  session_modSession s n _

theorem exec_netSlot {d : Datagram} {n : CarId} {s : State} (hup : s.netUp = true) (hauth : s.authSession 2 d = some n) :
    exec (.netSlot d) s = .next (s.within serviceParts (acceptSlot d n (s.heard n))) := by
  have hexec : exec (.netSlot d) s = execNetSlot d s := rfl
  rw [hexec, execNetSlot, withSession_of_auth _ hup hauth]

theorem exec_netAck {d : Datagram} {n : CarId} {s : State} (hup : s.netUp = true) (hauth : s.authSession 3 d = some n)
    (hheld : s.host.held[(Source.ofSession n).val] = []) :
    exec (.netAck d) s = .next ((s.heard n).modSession n (Session.acked d.index s.grp.frame)) := by
  have hexec : exec (.netAck d) s = execNetAck d s := rfl
  have hnone : ((s.heard n).modSession n (Session.acked d.index s.grp.frame)).heldSlots (Source.ofSession n) = 0 := by
    have hsame : ((s.heard n).modSession n (Session.acked d.index s.grp.frame)).host.held[(Source.ofSession n).val] = [] := hheld
    rw [State.heldSlots, hsame]
    rfl
  rw [hexec, execNetAck, withSession_of_auth _ hup hauth]
  dsimp only
  rw [show (s.heard n).grp.frame = s.grp.frame from rfl, hnone, State.postHeld,
    (((confined_heard n s).trans (confined_session _ n _)).mono (by decide)).within_eq]

theorem exec_netClose {d : Datagram} {n : CarId} {s : State} (hup : s.netUp = true) (hauth : s.authSession 4 d = some n) :
    exec (.netClose d) s = .next (closeSession n (s.heard n)) := by
  have hexec : exec (.netClose d) s = execNetClose d s := rfl
  rw [hexec, execNetClose, withSession_of_auth _ hup hauth,
    (((confined_heard n s).mono (by decide)).trans ((confined_closeSession n _).mono (by decide))).within_eq]

/-- A slot that is not the next expected one: an older one is acknowledged again, a later one is not (R476). -/
theorem acceptSlot_of_ne {d : Datagram} {n : CarId} {s : State} (hlen : d.data.length ≤ 1024)
    (hne : d.index ≠ s.grp.sessions[n.val].rxIndex) :
    acceptSlot d n s = if d.index < s.grp.sessions[n.val].rxIndex then s.sessionSend n 3 s.grp.sessions[n.val].rxIndex [] else s := by
  rw [acceptSlot]
  dsimp only
  rw [if_neg (by omega), if_neg hne]

/-- A slot in a chain that stays open (R470). -/
theorem takeSlot_of_open {src : Source} {b : List Byte} {s : State} (hasm : s.grp.sources[src.val].asm ≠ [])
    (hfits : fieldAt (s.grp.sources[src.val].asm ++ b) 4 2 ≤ 16368)
    (hopen : (s.grp.sources[src.val].asm ++ b).length < 16 + fieldAt (s.grp.sources[src.val].asm ++ b) 4 2) :
    takeSlot src b s = s.modSource src fun x => { x with asm := s.grp.sources[src.val].asm ++ b, asmAt := s.grp.frame } := by
  rw [takeSlot]
  dsimp only
  rw [if_neg (by simp [hasm]), if_neg (by omega)]

/-- The session expects the next slot, and acknowledges this one (R476). -/
def State.expectNext (d : Datagram) (n : CarId) (s : State) : State :=
  (s.modSession n fun y => { y with rxIndex := (d.index + 1) % 2 ^ 32 }).sessionSend n 3 ((d.index + 1) % 2 ^ 32) []

/-- The next expected slot, in a chain that is open (R475, R476). -/
theorem acceptSlot_of_eq {d : Datagram} {n : CarId} {s : State} (hlen : d.data.length ≤ 1024)
    (heq : d.index = s.grp.sessions[n.val].rxIndex) (hasm : s.grp.sources[(Source.ofSession n).val].asm ≠ []) :
    acceptSlot d n s = takeSlot (Source.ofSession n) d.data (s.expectNext d n) := by
  rw [acceptSlot]
  dsimp only
  rw [if_neg (by omega), if_pos heq, if_neg (by simp [hasm]), State.expectNext, heq]

theorem exec_of_auth_none {d : Datagram} {s : State} (hup : s.netUp = true) (q : Instr × Nat)
    (hq : q ∈ [(Instr.netSlot d, 2), (.netAck d, 3), (.netClose d, 4)]) (hauth : s.authSession q.2 d = none) :
    exec q.1 s = .next (authFailure s) := by
  simp only [List.mem_cons, List.not_mem_nil, or_false] at hq
  rcases hq with rfl | rfl | rfl
  · have hexec : exec (.netSlot d) s = execNetSlot d s := rfl
    rw [hexec, execNetSlot, withSession_of_none _ hup hauth, ((confined_authFailure s).mono (by decide)).within_eq]
  · have hexec : exec (.netAck d) s = execNetAck d s := rfl
    rw [hexec, execNetAck, withSession_of_none _ hup hauth, ((confined_authFailure s).mono (by decide)).within_eq]
  · have hexec : exec (.netClose d) s = execNetClose d s := rfl
    rw [hexec, execNetClose, withSession_of_none _ hup hauth, ((confined_authFailure s).mono (by decide)).within_eq]

/-! ## Opening -/

/-- The session that a valid OPEN opens (R475). -/
def Datagram.opened (d : Datagram) (key nonce : List Byte) (frame : Nat) (x : Session) : Session :=
  { isOpen := true, serial := x.serial + 1, key := key, moduleNonce := nonce, hostNonce := d.data, lastValid := frame,
    resentAt := frame }

/-- A session opens with a fresh module nonce and answers (R474, R475). -/
def State.openSession (d : Datagram) (key : List Byte) (n : CarId) (nonce : List Byte) (s : State) : State :=
  ((s.modSession n (d.opened key nonce s.grp.frame)).modSource (Source.ofSession n) fun _ => {}).ethSend
    (datagram key (zeros 32) 1 (n.val + 1) 0 (nonce ++ d.data))

theorem exec_netOpen {d : Datagram} {key : List Byte} {n : CarId} {s : State} (hup : s.netUp = true) (hkey : s.nv.netKey = some key)
    (hfree : s.freeSession = some n) (hmagic : d.magic = 0x4758) (hsession : d.session = 0) (hlen : d.data.length = 16)
    (hmac : d.mac = hmacSha256 key (zeros 32 ++ datagramHead 0 0 d.index d.data)) :
    exec (.netOpen d) s = .next ((s.drawBytes 16).2.openSession d key n (s.drawBytes 16).1) := by
  have hexec : exec (.netOpen d) s = execNetOpen d s := rfl
  rw [hexec, execNetOpen, if_neg (by simp [hup]), hkey]
  dsimp only
  rw [if_pos ⟨hmagic, hsession, hlen, hmac⟩, hfree]
  dsimp only
  have hconf : Confined [.free, .sources, .sessions, .net, .recorder] s ((s.drawBytes 16).2.openSession d key n (s.drawBytes 16).1) :=
    ((((confined_of_within_eq rfl : Confined [.free] s (s.drawBytes 16).2).mono (by decide)).trans ((confined_session _ n _).mono (by decide))).trans
      ((confined_source _ _ _).mono (by decide))).trans ((confined_ethOut _ _).mono (by decide))
  exact congrArg _ hconf.within_eq

/-! ## Resends and silence -/

theorem exec_netResend {n : CarId} {i : Nat} {b : List Byte} {rest : List (Nat × List Byte)} {s : State} (hup : s.netUp = true)
    (hopen : s.grp.sessions[n.val].isOpen = true) (hdue : s.grp.sessions[n.val].resentAt + s.msFrames 50 ≤ s.grp.frame)
    (holdest : s.grp.sessions[n.val].unacked = (i, b) :: rest) :
    exec (.netResend n) s = .next (if s.grp.sessions[n.val].resends < 20 then
        (s.sessionSend n 2 i b).modSession n fun y =>
          { y with resends := s.grp.sessions[n.val].resends + 1, resentAt := s.grp.frame }
      else closeSession n (s.sessionSend n 4 0 [])) := by
  have hexec : exec (.netResend n) s = execNetResend n s := rfl
  have hdue : s.msFrames 50 ≤ s.grp.frame - s.grp.sessions[n.val].resentAt := by omega
  rw [hexec, execNetResend, if_pos (by simp [hup, hopen, hdue]), holdest]
  dsimp only
  refine congrArg _ (Confined.within_eq ?_)
  split
  · exact ((confined_sessionSend s n 2 i b).mono (by decide)).trans ((confined_session _ n _).mono (by decide))
  · exact ((confined_sessionSend s n 4 0 []).mono (by decide)).trans ((confined_closeSession n _).mono (by decide))

theorem exec_netSessionTimeout {n : CarId} {s : State} (hup : s.netUp = true) (hopen : s.grp.sessions[n.val].isOpen = true)
    (hdue : s.grp.sessions[n.val].lastValid + s.msFrames 60000 ≤ s.grp.frame) :
    exec (.netSessionTimeout n) s = .next (closeSession n s) := by
  have hexec : exec (.netSessionTimeout n) s = execNetSessionTimeout n s := rfl
  have hdue : s.msFrames 60000 ≤ s.grp.frame - s.grp.sessions[n.val].lastValid := by omega
  rw [hexec, execNetSessionTimeout, if_pos (by simp [hup, hopen, hdue]), (confined_closeSession n s).within_eq]

theorem exec_netArpIcmp {f : List Byte} {s : State} (hup : s.netUp = true) :
    exec (.netArpIcmp f) s = .next { s with host := { s.host with ethOut := s.host.ethOut ++
      ((arpReply s.boot.net.ip f).orElse fun _ => echoReply s.boot.net.ip f).toList } } := by
  have hexec : exec (.netArpIcmp f) s = execNetArpIcmp f s := rfl
  have hquiet : { s with host := { s.host with ethOut := s.host.ethOut ++ [] } } = s := by rw [List.append_nil]
  have hlisten : (s.holds && s.running && s.boot.net.enabled && (s.boot.life == .issued || s.boot.life == .sealed)) = true := hup
  rw [hexec, execNetArpIcmp, if_pos hlisten]
  cases arpReply s.boot.net.ip f with
  | some r => exact congrArg _ (confined_ethOut s r).within_eq
  | none =>
    cases echoReply s.boot.net.ip f with
    | some r => exact congrArg _ (confined_ethOut s r).within_eq
    | none =>
      refine congrArg Host.Outcome.next ?_
      exact (confined_refl [.net] s).within_eq.trans hquiet.symm

end Sys2Proof.Machine

namespace Sys2Proof.Proofs

open Sys2Proof Sys2Proof.Machine

theorem netOpen_opens (d : Datagram) (key : List Byte) (n : CarId) (s : State) (hup : s.netUp = true)
    (hkey : s.nv.netKey = some key) (hfree : s.freeSession = some n) (hmagic : d.magic = 0x4758) (hsession : d.session = 0)
    (hlen : d.data.length = 16) (hmac : d.mac = hmacSha256 key (zeros 32 ++ datagramHead 0 0 d.index d.data)) :
    ∃ t, exec (.netOpen d) s = .next t ∧
      let x := t.grp.sessions[n.val]
      x.isOpen = true ∧ x.key = key ∧ x.hostNonce = d.data ∧ x.rxIndex = 0 ∧ x.txIndex = 0 ∧ x.unacked = []
      ∧ x.serial = s.grp.sessions[n.val].serial + 1
      ∧ (∃ nonce : List Byte, x.moduleNonce = nonce
          ∧ t.host.ethOut = s.host.ethOut ++ [datagram key (zeros 32) 1 (n.val + 1) 0 (nonce ++ d.data)])
      ∧ ∀ m : CarId, m ≠ n → t.grp.sessions[m.val] = s.grp.sessions[m.val] := by
  refine ⟨_, exec_netOpen hup hkey hfree hmagic hsession hlen hmac, ?_⟩
  generalize (s.drawBytes 16).1 = nonce
  have hopened : ((s.drawBytes 16).2.openSession d key n nonce).grp.sessions[n.val] =
      d.opened key nonce s.grp.frame s.grp.sessions[n.val] :=
    session_modSession (s.drawBytes 16).2 n (d.opened key nonce s.grp.frame)
  intro x
  simp only [x, hopened, Datagram.opened, true_and]
  exact ⟨⟨nonce, rfl, rfl⟩, fun m hm => session_modSession_ne (s.drawBytes 16).2 (d.opened key nonce s.grp.frame) hm⟩

theorem netSlot_not_next (d : Datagram) (n : CarId) (s : State) (hup : s.netUp = true) (hauth : s.authSession 2 d = some n)
    (hlen : d.data.length ≤ 1024) (hne : d.index ≠ s.grp.sessions[n.val].rxIndex) :
    ∃ t, exec (.netSlot d) s = .next t
      ∧ t.grp.sessions[n.val] = { s.grp.sessions[n.val] with lastValid := s.grp.frame } ∧ t.grp.sources = s.grp.sources
      ∧ (s.grp.sessions[n.val].rxIndex < d.index → t.host.ethOut = s.host.ethOut)
      ∧ (d.index < s.grp.sessions[n.val].rxIndex → t.host.ethOut.length = s.host.ethOut.length + 1) := by
  have hexec := exec_netSlot hup hauth
  have hrx : (s.heard n).grp.sessions[n.val].rxIndex = s.grp.sessions[n.val].rxIndex := by rw [session_heard]
  have hheard : Confined serviceParts s (s.heard n) := (confined_heard n s).mono (by decide)
  rw [acceptSlot_of_ne hlen (by rwa [hrx]), hrx] at hexec
  by_cases hold : d.index < s.grp.sessions[n.val].rxIndex
  · rw [if_pos hold, Confined.within_eq (hheard.trans ((confined_sessionSend _ n 3 _ []).mono (by decide)))] at hexec
    exact ⟨_, hexec, session_heard n s, rfl, fun h => absurd h (by omega), fun _ => by simp [State.sessionSend, State.ethSend, State.heard]⟩
  · rw [if_neg hold, hheard.within_eq] at hexec
    exact ⟨_, hexec, session_heard n s, rfl, fun _ => rfl, fun h => absurd h hold⟩

theorem netSlot_next (d : Datagram) (n : CarId) (s : State) (hup : s.netUp = true) (hauth : s.authSession 2 d = some n)
    (hlen : d.data.length = 1024) (heq : d.index = s.grp.sessions[n.val].rxIndex)
    (hasm : s.grp.sources[(Source.ofSession n).val].asm ≠ [])
    (hfits : fieldAt (s.grp.sources[(Source.ofSession n).val].asm ++ d.data) 4 2 ≤ 16368)
    (hopen : s.grp.sources[(Source.ofSession n).val].asm.length + 1024
      < 16 + fieldAt (s.grp.sources[(Source.ofSession n).val].asm ++ d.data) 4 2) :
    ∃ t, exec (.netSlot d) s = .next t ∧ t.grp.sessions[n.val].rxIndex = (d.index + 1) % 2 ^ 32
      ∧ t.grp.sources[(Source.ofSession n).val].asm = s.grp.sources[(Source.ofSession n).val].asm ++ d.data
      ∧ t.host.ethOut.length = s.host.ethOut.length + 1 := by
  have hexec := exec_netSlot hup hauth
  have hrx : (s.heard n).grp.sessions[n.val].rxIndex = s.grp.sessions[n.val].rxIndex := by rw [session_heard]
  rw [acceptSlot_of_eq (s := s.heard n) (by omega) (by rwa [hrx]) hasm,
    takeSlot_of_open (s := (s.heard n).expectNext d n) hasm hfits
    (by rwa [List.length_append, hlen]),
    Confined.within_eq] at hexec
  · refine ⟨_, hexec, ?_, ?_, ?_⟩
    · exact congrArg Session.rxIndex (session_modSession (s.heard n) n fun y => { y with rxIndex := (d.index + 1) % 2 ^ 32 })
    · exact congrArg SrcState.asm (source_modSource _ _ _)
    · simp [State.expectNext, State.sessionSend, State.ethSend, State.heard]
  · exact ((((confined_heard n s).mono (by decide)).trans ((confined_session _ n _).mono (by decide))).trans
      ((confined_sessionSend _ _ _ _ _).mono (by decide))).trans ((confined_source _ _ _).mono (by decide))

theorem netAck_spec (d : Datagram) (n : CarId) (s : State) (hup : s.netUp = true) (hauth : s.authSession 3 d = some n)
    (hheld : s.host.held[(Source.ofSession n).val] = []) :
    ∃ t, exec (.netAck d) s = .next t
      ∧ t.grp.sessions[n.val].unacked = s.grp.sessions[n.val].unacked.filter (fun u => decide (d.index ≤ u.1))
      ∧ (t.grp.sessions[n.val].unacked.length = s.grp.sessions[n.val].unacked.length →
          t.grp.sessions[n.val] = { s.grp.sessions[n.val] with lastValid := s.grp.frame })
      ∧ (t.grp.sessions[n.val].unacked.length ≠ s.grp.sessions[n.val].unacked.length →
          t.grp.sessions[n.val].resends = 0 ∧ t.grp.sessions[n.val].resentAt = s.grp.frame) := by
  refine ⟨_, exec_netAck hup hauth hheld, ?_⟩
  rw [session_modSession, session_heard, Session.acked]
  dsimp only
  split
  next hall =>
    have hleft : s.grp.sessions[n.val].unacked.filter (fun u => decide (d.index ≤ u.1)) = s.grp.sessions[n.val].unacked :=
      List.filter_eq_self.mpr (List.length_filter_eq_length_iff.mp hall)
    exact ⟨hleft.symm, fun _ => rfl, fun h => absurd rfl h⟩
  next hsome => exact ⟨rfl, fun h => absurd h hsome, fun _ => ⟨rfl, rfl⟩⟩

theorem netResend_spec (n : CarId) (i : Nat) (b : List Byte) (rest : List (Nat × List Byte)) (s : State) (hup : s.netUp = true)
    (hopen : s.grp.sessions[n.val].isOpen = true) (hdue : s.grp.sessions[n.val].resentAt + s.msFrames 50 ≤ s.grp.frame)
    (holdest : s.grp.sessions[n.val].unacked = (i, b) :: rest) :
    ∃ t, exec (.netResend n) s = .next t ∧ t.host.ethOut.length = s.host.ethOut.length + 1
      ∧ (s.grp.sessions[n.val].resends < 20 → t.grp.sessions[n.val] =
          { s.grp.sessions[n.val] with resends := s.grp.sessions[n.val].resends + 1, resentAt := s.grp.frame })
      ∧ (20 ≤ s.grp.sessions[n.val].resends → t.grp.sessions[n.val] = { serial := s.grp.sessions[n.val].serial }) := by
  refine ⟨_, exec_netResend hup hopen hdue holdest, ?_⟩
  split
  next hfew =>
    refine ⟨by simp [State.sessionSend, State.ethSend], fun _ => ?_, fun h => absurd hfew (by omega)⟩
    rw [session_modSession]
    rfl
  next hmany =>
    obtain ⟨hsession, -, -, -, hout⟩ := closeSession_spec n (s.sessionSend n 4 0 [])
    refine ⟨?_, fun h => absurd h hmany, fun _ => hsession⟩
    rw [hout]
    simp [State.sessionSend, State.ethSend]

theorem discarded_spec (s : State) : (authFailure s).grp = s.grp ∧ (authFailure s).host.ethOut = s.host.ethOut
    ∧ (s.host.authAt = some s.time.1 → (authFailure s).host.authFailures = satInc 32 s.host.authFailures
        ∧ (authFailure s).nv.recorder = s.nv.recorder)
    ∧ (s.host.authAt ≠ some s.time.1 → (authFailure s).host.authFailures = 0 ∧ (authFailure s).nv.recorder =
        s.nv.recorder.add (s.mkRec 0x0D01 0xFF (leBytes 4 (satInc 32 s.host.authFailures)))) := by
  unfold authFailure
  extract_lets n
  split
  next h => exact ⟨rfl, rfl, fun _ => ⟨rfl, rfl⟩, fun hne => absurd h hne⟩
  next h => exact ⟨rfl, rfl, fun heq => absurd heq h, fun _ => ⟨rfl, rfl⟩⟩

/-- Settles O38: one lemma per datagram and timer. -/
theorem networkSessions : Obligations.NetworkSessions := by
  unfold Obligations.NetworkSessions
  refine ⟨netOpen_opens, netSlot_not_next, netSlot_next, netAck_spec, fun d n s hup hauth => ?_, netResend_spec,
    fun n s hup hopen hdue => ?_, fun d s hup q hq hauth => ?_, fun f s hup => exec_netArpIcmp hup⟩
  · obtain ⟨hsession, hsource, hheld, -, -⟩ := closeSession_spec n (s.heard n)
    exact ⟨_, exec_netClose hup hauth, by rw [hsession, session_heard], hsource, hheld⟩
  · obtain ⟨hsession, -, -, hjobs, -⟩ := closeSession_spec n s
    exact ⟨_, exec_netSessionTimeout hup hopen hdue, hsession, hjobs⟩
  · exact ⟨_, exec_of_auth_none hup q hq hauth, discarded_spec s⟩

end Sys2Proof.Proofs

/-! PROOFS. O39: rings at work. -/

namespace Sys2Proof.Machine

open Sys2Proof

/-! ## The opcode of a row -/

/-- A row of R484 stands under its own OPCODE. -/
theorem opcode_of_commandTable {n : Nat} {d : CmdDef} (h : commandTable n = some d) : d.opcode = n := by
  unfold commandTable at h
  split at h <;> simp only [Option.some.injEq, reduceCtorEq] at h <;> subst h <;> rfl

/-! ## What a posted reply leaves as it was -/

/-- What a posted reply changes: what waits, the ring or session it goes to, and its interrupt (R472, R476). -/
def postParts : List Part := [.sessions, .rings, .irq, .net]

/-- A posted slot leaves NAND and the ring events as they are, and each ring's CHAIN_DISCARDED. -/
structure PostKeeps (s t : State) : Prop where
  conf : Confined postParts s t
  nv : t.nv = s.nv
  event : t.host.irqEvent = s.host.irqEvent
  chain : ∀ r : RingId, t.host.rings[r.val].chainDiscarded = s.host.rings[r.val].chainDiscarded

theorem PostKeeps.refl (s : State) : PostKeeps s s := ⟨confined_refl _ s, rfl, rfl, fun _ => rfl⟩

theorem PostKeeps.trans {s t u : State} (a : PostKeeps s t) (b : PostKeeps t u) : PostKeeps s u :=
  ⟨a.conf.trans b.conf, b.nv.trans a.nv, b.event.trans a.event, fun r => (b.chain r).trans (a.chain r)⟩

theorem PostKeeps.sources_eq {s t : State} (h : PostKeeps s t) : t.grp.sources = s.grp.sources :=
  (h.conf.2 .sources (by decide)).symm

theorem PostKeeps.jobs_eq {s t : State} (h : PostKeeps s t) : t.grp.jobs = s.grp.jobs := (h.conf.2 .jobs (by decide)).1.symm

theorem postKeeps_held (s : State) (held : Vector (List Held) 72) :
    PostKeeps s { s with host := { s.host with held := held } } :=
  ⟨(confined_of_within_eq rfl : Confined [.rings] _ _).mono (by decide), rfl, rfl, fun _ => rfl⟩

theorem postKeeps_sendSlot (s : State) (n : CarId) (b : List Byte) : PostKeeps s (s.sendSlot n b) :=
  ⟨((confined_sessionSend s n 2 _ b).mono (by decide)).trans ((confined_session _ n _).mono (by decide)), rfl, rfl, fun _ => rfl⟩

theorem ring_modRing (s : State) (r : RingId) (f : Ring → Ring) : (s.modRing r f).host.rings[r.val] = f s.host.rings[r.val] :=
  Vector.getElem_set_self ..

theorem ring_modRing_ne (s : State) (f : Ring → Ring) {q r : RingId} (h : q ≠ r) :
    (s.modRing r f).host.rings[q.val] = s.host.rings[q.val] :=
  Vector.getElem_set_ne r.isLt q.isLt fun hval => h (Fin.ext hval.symm)

theorem postKeeps_publish (s : State) (r : RingId) (b : List Byte) : PostKeeps s (s.publish r b) := by
  refine ⟨confined_of_within_eq rfl, rfl, rfl, fun q => ?_⟩
  have hirq : (s.publish r b).host.rings = (s.modRing r fun x => x.publish b).host.rings := rfl
  rw [hirq]
  by_cases hq : q = r
  · rw [hq, ring_modRing]
    rfl
  · rw [ring_modRing_ne s _ hq]

theorem postKeeps_postOne (s : State) (x : Source) : PostKeeps s (s.postOne x) := by
  unfold State.postOne
  split
  case h_1 => exact .refl s
  case h_2 =>
    split
    extract_lets left held _ t
    have ht : PostKeeps s t := postKeeps_held s _
    split
    · exact .refl s
    · refine ht.trans ?_
      split
      · exact postKeeps_sendSlot _ _ _
      · split
        · exact postKeeps_publish _ _ _
        · exact .refl _

theorem postKeeps_postHeld (n : Nat) (x : Source) (s : State) : PostKeeps s (State.postHeld n x s) := by
  induction n generalizing s with
  | zero => exact .refl s
  | succ n ih => exact (postKeeps_postOne s x).trans (ih _)

theorem postKeeps_postReply (s : State) (dest : Option Source) (job : Option Nat) (b : List Byte) :
    PostKeeps s (s.postReply dest job b) := by
  cases dest with
  | none => exact .refl s
  | some x =>
    unfold State.postReply
    dsimp only
    split_ifs
    · exact .refl s
    · exact (postKeeps_held s _).trans (postKeeps_postHeld _ x _)

/-! ## A chain that is discarded -/

theorem confined_dropChain (s : State) (src : Source) : Confined mailParts s (s.dropChain src) := by
  unfold State.dropChain
  extract_lets t
  have ht : Confined mailParts s t := confined_modSource s src _
  split
  next r hr => exact ht.trans ((confined_of_within_eq rfl : Confined [.rings, .irq] t ((t.modRing r _).irqEvent 5)).mono (by decide))
  next => exact ht

/-- A dropped chain is gone and counted, and its ring says so (R471). -/
theorem dropChain_spec (s : State) (src : Source) :
    (s.dropChain src).grp.sources[src.val] =
        { s.grp.sources[src.val] with asm := [], discarded := satInc 32 s.grp.sources[src.val].discarded }
      ∧ ∀ r : RingId, src.ring = some r → (s.dropChain src).host.rings[r.val].chainDiscarded = true
        ∧ (s.dropChain src).host.irqEvent.getLsbD 5 = true := by
  unfold State.dropChain
  extract_lets t
  have ht : t.grp.sources[src.val] =
      { s.grp.sources[src.val] with asm := [], discarded := satInc 32 s.grp.sources[src.val].discarded } :=
    source_modSource s src _
  clear_value t
  cases hring : src.ring with
  | none => exact ⟨ht, nofun⟩
  | some q =>
    refine ⟨ht, fun r hr => ?_⟩
    cases hr
    have hchain : ((t.modRing q fun q => { q with chainDiscarded := true }).irqEvent 5).host.rings[q.val].chainDiscarded = true :=
      congrArg Ring.chainDiscarded (ring_modRing t q fun q => { q with chainDiscarded := true })
    refine ⟨hchain, ?_⟩
    simp [State.irqEvent, State.modRing]

/-! ## A ring and its source -/

theorem session_ofRing (r : RingId) : (Source.ofRing r).session = none := by
  have hlt : ¬ 64 ≤ r.val := by omega
  simp [Source.session, Source.ofRing, hlt]

theorem ring_ofRing (r : RingId) : (Source.ofRing r).ring = some r := by
  simp [Source.ring, Source.ofRing, finOf]

theorem replyRoom_ofRing (r : RingId) (s : State) : s.replyRoom (Source.ofRing r) =
    (decide (s.host.rings[r.val].use = .reply) && decide (0 < s.host.rings[r.val].room), s.host.rings[r.val].size) := by
  unfold State.replyRoom
  simp only [session_ofRing, ring_ofRing]

/-! ## A reply that fits the free slot (R472) -/

theorem postHeld_of_none (n : Nat) {x : Source} {s : State} (h : s.host.held[x.val] = []) : State.postHeld n x s = s := by
  induction n with
  | zero => rfl
  | succ n ih =>
    have hone : s.postOne x = s := by rw [State.postOne, h]
    rw [State.postHeld, hone, ih]

/-- The last waiting reply goes into the ring's free slot. -/
def State.postedLast (r : RingId) (b : List Byte) (s : State) : State :=
  { s with host := { s.host with held := s.host.held.set (Source.ofRing r).val [] } }.publish r b

theorem postOne_of_fits {r : RingId} {h : Held} {s : State} (hheld : s.host.held[(Source.ofRing r).val] = [h])
    (huse : s.host.rings[r.val].use = .reply) (hroom : 0 < s.host.rings[r.val].room)
    (hsize : h.bytes.length ≤ s.host.rings[r.val].size) : s.postOne (Source.ofRing r) = s.postedLast r h.bytes := by
  have hdrop : h.bytes.drop s.host.rings[r.val].size = [] := List.drop_eq_nil_of_le hsize
  rw [State.postOne, hheld]
  dsimp only
  rw [replyRoom_ofRing, session_ofRing, ring_ofRing]
  simp only [huse, hroom, hdrop, List.take_of_length_le hsize]
  rfl

theorem exec_replyPost_fits {r : RingId} {h : Held} {s : State} (hholds : s.holds = true)
    (hheld : s.host.held[(Source.ofRing r).val] = [h]) (huse : s.host.rings[r.val].use = .reply)
    (hroom : 0 < s.host.rings[r.val].room) (hsize : h.bytes.length ≤ s.host.rings[r.val].size) :
    exec (.replyPost (Source.ofRing r)) s = .next (s.postedLast r h.bytes) := by
  have hexec : exec (.replyPost (Source.ofRing r)) s = execReplyPost (Source.ofRing r) s := rfl
  have hslots : s.heldSlots (Source.ofRing r) = h.bytes.length / 64 + 1 := by
    rw [State.heldSlots, hheld]
    simp
  have hgone : (s.postedLast r h.bytes).host.held[(Source.ofRing r).val] = [] := Vector.getElem_set_self ..
  have hconf : Confined postParts s (s.postedLast r h.bytes) :=
    ((postKeeps_held s _).trans (postKeeps_publish _ r h.bytes)).conf
  rw [hexec, execReplyPost, if_pos hholds, hslots, State.postHeld, postOne_of_fits hheld huse hroom hsize, postHeld_of_none _ hgone]
  exact congrArg _ hconf.within_eq

theorem postedLast_ring (r : RingId) (b : List Byte) (s : State) :
    (s.postedLast r b).host.rings[r.val] = s.host.rings[r.val].publish b :=
  ring_modRing { s with host := { s.host with held := s.host.held.set (Source.ofRing r).val [] } } r fun x => x.publish b

/-! ## A service of a ring (R465) -/

/-- The module has examined the ring. -/
def State.examined (r : RingId) (s : State) : State := { s with host := { s.host with rung := s.host.rung.set r.val false } }

theorem confined_examined (r : RingId) (s : State) : Confined [.rings] s (s.examined r) := confined_of_within_eq rfl

theorem exec_ringService_dataIn {r : RingId} {s : State} (hrun : s.running = true) (hholds : s.holds = true)
    (huse : s.host.rings[r.val].use = .dataIn) : exec (.ringService r) s = .next (s.examined r) := by
  have hexec : exec (.ringService r) s = execRingService r s := rfl
  have hserve : serviceRing r s = s.examined r := by
    rw [serviceRing, if_neg (by simp [hrun, hholds])]
    dsimp only
    rw [huse]
    rfl
  rw [hexec, execRingService, hserve, ((confined_examined r s).mono (by decide)).within_eq]

/-- The whole command of a first slot starts (R470). -/
theorem takeSlot_of_whole {src : Source} {b : List Byte} {d : CmdDef} {s : State} (hasm : s.grp.sources[src.val].asm = [])
    (hpass : headerPasses b = true) (hwhole : 16 + fieldAt b 4 2 ≤ b.length) (hrow : commandTable (fieldAt b 0 2) = some d) :
    takeSlot src b s = serve d (cmdOf src b) (s.modSource src fun x => { x with asm := [] }) := by
  rw [takeSlot]
  dsimp only
  rw [if_neg (by simp [hpass]), hasm, List.nil_append, if_pos (.inl hwhole), hrow, serve, opcode_of_commandTable hrow]

theorem freeSlot_grp (r : RingId) (s : State) : (s.freeSlot r).grp = s.grp := by
  unfold State.freeSlot
  extract_lets t
  split <;> rfl

/-- A freed slot of the ring, and nothing else of it (R461). -/
theorem freeSlot_ring (r : RingId) (s : State) : (s.freeSlot r).host.rings[r.val] = s.host.rings[r.val].consume := by
  unfold State.freeSlot
  extract_lets t
  have ht : t.host.rings[r.val] = s.host.rings[r.val].consume := ring_modRing s r Ring.consume
  split <;> exact ht

theorem freeSlot_rung (r : RingId) (s : State) : (s.freeSlot r).host.rung = s.host.rung := by
  unfold State.freeSlot
  extract_lets t
  split <;> rfl

theorem serviceRing_command {r : RingId} {d : CmdDef} {s : State} (hrun : s.running = true) (hholds : s.holds = true)
    (huse : s.host.rings[r.val].use = .command) (hused : s.host.rings[r.val].used = 1)
    (hasm : s.grp.sources[(Source.ofRing r).val].asm = [])
    (hpass : headerPasses (s.host.rings[r.val].slotBytes s.host.rings[r.val].cons) = true)
    (hwhole : 16 + fieldAt (s.host.rings[r.val].slotBytes s.host.rings[r.val].cons) 4 2
      ≤ (s.host.rings[r.val].slotBytes s.host.rings[r.val].cons).length)
    (hroom : s.startRoom (Source.ofRing r) (s.host.rings[r.val].slotBytes s.host.rings[r.val].cons) = true)
    (hrow : commandTable (fieldAt (s.host.rings[r.val].slotBytes s.host.rings[r.val].cons) 0 2) = some d) :
    serviceRing r s = serve d (cmdOf (Source.ofRing r) (s.host.rings[r.val].slotBytes s.host.rings[r.val].cons))
      (((s.examined r).freeSlot r).modSource (Source.ofRing r) fun x => { x with asm := [] }) := by
  have hring : (s.examined r).host.rings[r.val] = s.host.rings[r.val] := rfl
  have hroom' : (s.examined r).startRoom (Source.ofRing r) (s.host.rings[r.val].slotBytes s.host.rings[r.val].cons) = true := hroom
  have hasm' : ((s.examined r).freeSlot r).grp.sources[(Source.ofRing r).val].asm = [] := by rw [freeSlot_grp]; exact hasm
  have hserve : serviceRing r s = serveSlots 1 r (s.examined r) := by
    rw [serviceRing, if_neg (by simp [hrun, hholds])]
    dsimp only
    rw [huse]
    dsimp only
    rw [hused]
    rfl
  rw [hserve, serveSlots, hring, if_neg (by simp [huse, hused]), if_neg (by simp [hroom']), serveSlots,
    takeSlot_of_whole hasm' hpass hwhole hrow]

/-! ## A chain that waits too long, and a job that goes on -/

theorem exec_chainTimeout {src : Source} {s : State} (hrun : s.running = true) (hasm : s.grp.sources[src.val].asm ≠ [])
    (hdue : s.grp.sources[src.val].asmAt + s.msFrames 1000 ≤ s.grp.frame) :
    ∃ dest bytes, exec (.chainTimeout src) s = .next ((s.dropChain src).postReply dest none bytes) := by
  have hexec : exec (.chainTimeout src) s = execChainTimeout src s := rfl
  have hover : s.msFrames 1000 ≤ s.grp.frame - s.grp.sources[src.val].asmAt := by omega
  rw [hexec, execChainTimeout, if_pos (by simp [hrun, hasm, hover])]
  exact ⟨_, _, congrArg _ ((confined_dropChain s src).trans (confined_postReply _ _ _ _)).within_eq⟩

/-- A job's progress (R491): what its row in the list becomes. -/
def Job.progressed (id fraction cycles : Nat) (x : Job) : Job :=
  if x.id = id then { x with fraction := fraction, posted := fraction, cycles := cycles } else x

theorem exec_jobProgress {id f n : Nat} {j : Job} {s : State} (hholds : s.holds = true)
    (hfind : s.findJob (fun j => j.id = id) = some j) (hmost : f ≤ 256) (hstep : j.posted + 16 ≤ f) :
    ∃ dest bytes, exec (.jobProgress id f n) s = .next
      ({ s with grp := { s.grp with jobs := s.grp.jobs.map (Job.progressed id f n) } }.postReply dest (some id) bytes) := by
  have hexec : exec (.jobProgress id f n) s = execJobProgress id f n s := rfl
  have hjobs : Confined [.jobs] s { s with grp := { s.grp with jobs := s.grp.jobs.map (Job.progressed id f n) } } :=
    confined_of_within_eq rfl
  rw [hexec, execJobProgress, hfind]
  dsimp only
  rw [if_pos (by simp [hholds, hmost, hstep])]
  exact ⟨_, _, congrArg _ ((hjobs.mono (by decide)).trans ((postKeeps_postReply _ _ _ _).conf.mono (by decide))).within_eq⟩

theorem exec_jobProgress_none {id f n : Nat} {s : State} (hfind : s.findJob (fun j => j.id = id) = none) :
    exec (.jobProgress id f n) s = .next s := by
  have hexec : exec (.jobProgress id f n) s = execJobProgress id f n s := rfl
  rw [hexec, execJobProgress, hfind, (confined_refl _ s).within_eq]

end Sys2Proof.Machine

namespace Sys2Proof.Proofs

open Sys2Proof Sys2Proof.Machine

theorem ringService_command (r : RingId) (d : CmdDef) (s : State) (hrun : s.running = true) (hholds : s.holds = true) :
    let q := s.host.rings[r.val]
    let src := Source.ofRing r
    let b := q.slotBytes q.cons
    q.use = .command → q.used = 1 → s.grp.sources[src.val].asm = [] → headerPasses b = true → 16 + fieldAt b 4 2 ≤ b.length →
    s.startRoom src b = true → commandTable (fieldAt b 0 2) = some d →
    ∃ u, exec (.ringService r) s = .next (s.within serviceParts (serve d (cmdOf src b) u))
      ∧ u.host.rings[r.val].cons = q.next q.cons ∧ u.host.rings[r.val].data = q.data ∧ u.host.rung[r.val] = false
      ∧ u.grp.sources = s.grp.sources := by
  intro q src b huse hused hasm hpass hwhole hroom hrow
  have hexec : exec (.ringService r) s = execRingService r s := rfl
  rw [execRingService, serviceRing_command hrun hholds huse hused hasm hpass hwhole hroom hrow] at hexec
  have hring : ((s.examined r).freeSlot r).host.rings[r.val] = q.consume := freeSlot_ring r (s.examined r)
  have hrung : ((s.examined r).freeSlot r).host.rung[r.val] = false := by
    rw [freeSlot_rung]
    exact Vector.getElem_set_self ..
  refine ⟨_, hexec, by rw [modSource_host, hring]; rfl, by rw [modSource_host, hring]; rfl, hrung, ?_⟩
  have hidle : { s.grp.sources[src.val] with asm := [] } = s.grp.sources[src.val] := by rw [← hasm]
  have hsame : (s.examined r).grp.sources = s.grp.sources := rfl
  simp only [modSource_grp_sources, freeSlot_grp, hsame]
  rw [show Source.ofRing r = src from rfl, hidle, Vector.set_getElem_self]

theorem chainTimeout_spec (src : Source) (s : State) (hrun : s.running = true) (hasm : s.grp.sources[src.val].asm ≠ [])
    (hdue : s.grp.sources[src.val].asmAt + s.msFrames 1000 ≤ s.grp.frame) :
    ∃ t, exec (.chainTimeout src) s = .next t ∧ t.grp.sources[src.val].asm = []
      ∧ t.grp.sources[src.val].discarded = satInc 32 s.grp.sources[src.val].discarded
      ∧ ∀ r : RingId, src.ring = some r → t.host.rings[r.val].chainDiscarded = true ∧ t.host.irqEvent.getLsbD 5 = true := by
  obtain ⟨dest, bytes, hexec⟩ := exec_chainTimeout hrun hasm hdue
  obtain ⟨hsource, hring⟩ := dropChain_spec s src
  have hkept := postKeeps_postReply (s.dropChain src) dest none bytes
  refine ⟨_, hexec, by rw [hkept.sources_eq, hsource], by rw [hkept.sources_eq, hsource], fun r hr => ?_⟩
  rw [hkept.chain, hkept.event]
  exact hring r hr

theorem replyPost_fits (r : RingId) (h : Held) (s : State) (hholds : s.holds = true) :
    let q := s.host.rings[r.val]
    s.host.held[(Source.ofRing r).val] = [h] → q.use = .reply → 0 < q.room → h.bytes ≠ [] → h.bytes.length ≤ q.size →
    ∃ t, exec (.replyPost (Source.ofRing r)) s = .next t ∧ t.host.held[(Source.ofRing r).val] = []
      ∧ t.host.rings[r.val] = q.publish h.bytes ∧ t.host.irqRing.getLsbD r.val = true := by
  intro q hheld huse hroom _ hsize
  refine ⟨_, exec_replyPost_fits hholds hheld huse hroom hsize, Vector.getElem_set_self .., postedLast_ring r h.bytes s, ?_⟩
  simp [State.postedLast, State.publish, State.irqRing, State.modRing]

theorem jobProgress_spec (id f n : Nat) (j : Job) (s : State) (hholds : s.holds = true)
    (hfind : s.findJob (fun j => j.id = id) = some j) (hmost : f ≤ 256) (hstep : j.posted + 16 ≤ f) :
    ∃ t, exec (.jobProgress id f n) s = .next t ∧
      t.grp.jobs = s.grp.jobs.map fun x => if x.id = id then { x with fraction := f, posted := f, cycles := n } else x := by
  obtain ⟨dest, bytes, hexec⟩ := exec_jobProgress (n := n) hholds hfind hmost hstep
  exact ⟨_, hexec, (postKeeps_postReply _ dest (some id) bytes).jobs_eq⟩

/-- Settles O39: a service, a timeout, a posting and a progress, each by what it does to the mail parts. -/
theorem ringsServed : Obligations.RingsServed := by
  unfold Obligations.RingsServed
  exact ⟨ringService_command, fun r s hrun hholds huse => exec_ringService_dataIn hrun hholds huse, chainTimeout_spec,
    replyPost_fits, jobProgress_spec, fun id f n s hfind => exec_jobProgress_none hfind⟩

end Sys2Proof.Proofs

/-! PROOFS. O52: the order in which every mailbox command is judged. -/

namespace Sys2Proof.Machine

open Sys2Proof

/-- A mailbox command is served, and its parts take in the mail parts. -/
theorem exec_of_mail {i : Instr} {d : CmdDef} {c : Cmd} (h : i.mail = some (d, c)) (s : State) :
    ∃ ps, mailParts ⊆ ps ∧ exec i s = .next (s.within ps (serve d c s)) := by
  unfold Instr.mail at h
  split at h <;> simp only [Option.some.injEq, Prod.mk.injEq, reduceCtorEq] at h <;> obtain ⟨rfl, rfl⟩ := h
  all_goals exact ⟨_, by decide, rfl⟩

/-- A served command that keeps to the mail parts is served whole. -/
theorem exec_eq_of_serve {i : Instr} {d : CmdDef} {c : Cmd} {s t : State} (h : i.mail = some (d, c)) (hserve : serve d c s = t)
    (hconf : Confined mailParts s t) : exec i s = .next t := by
  obtain ⟨ps, hmail, hexec⟩ := exec_of_mail h s
  rw [hexec, hserve, (hconf.mono hmail).within_eq]

/-! ## The tests before a command is consumed (R471, R485, R486) -/

theorem confined_discardChain (s : State) (src : Source) (reply : List Byte) : Confined mailParts s (s.discardChain src reply) := by
  unfold State.discardChain
  exact (confined_dropChain s src).trans (confined_postReply _ _ _ _)

theorem discardChain_source (s : State) (src : Source) (reply : List Byte) : (s.discardChain src reply).grp.sources[src.val] =
    { s.grp.sources[src.val] with asm := [], discarded := satInc 32 s.grp.sources[src.val].discarded } := by
  unfold State.discardChain
  dsimp only
  rw [(postKeeps_postReply _ _ none reply).sources_eq, (dropChain_spec s src).1]

theorem serve_of_closed {d : CmdDef} {c : Cmd} {s : State} (h : s.takes c.src = false) : serve d c s = s := by
  rw [serve, judge, if_pos (by simp [h])]

theorem serve_of_header {d : CmdDef} {c : Cmd} {s : State} (htakes : s.takes c.src = true)
    (hheader : c.hdrCheck ≠ crc16 (c.header d.opcode)) :
    serve d c s = s.discardChain c.src (unsolicited ⟨0xFFFF, whyCheck, 0xFFFFFF⟩) := by
  rw [serve, judge, if_neg (by simp [htakes]), if_pos hheader]

theorem serve_of_repeats {d : CmdDef} {c : Cmd} {s : State} (htakes : s.takes c.src = true)
    (hheader : c.hdrCheck = crc16 (c.header d.opcode)) (hcopy : c.repeats s) :
    serve d c s = s.postReply (s.replyDest c.src c.target) none (replyBytes d.opcode c.tag stDuplicate 2 c.seq
      [byte s.grp.sources[c.src.val].lastStatus, 0, 0, 0]) := by
  rw [serve, judge, if_neg (by simp [htakes]), if_neg (by simp [hheader])]
  exact if_pos hcopy

theorem serve_of_disorder {d : CmdDef} {c : Cmd} {s : State} {l : Nat} (htakes : s.takes c.src = true)
    (hheader : c.hdrCheck = crc16 (c.header d.opcode)) (hnew : ¬ c.repeats s) (hlast : s.grp.sources[c.src.val].last = some l)
    (hseq : c.seq ≠ (l + 1) % 2 ^ 32) :
    serve d c s = s.postReply (s.replyDest c.src c.target) none (replyBytes d.opcode c.tag stSequence 2 c.seq
      (leBytes 4 ((l + 1) % 2 ^ 32))) := by
  rw [serve, judge, if_neg (by simp [htakes]), if_neg (by simp [hheader])]
  extract_lets src reply expected
  have hexpected : expected = (l + 1) % 2 ^ 32 := by simp only [expected, src, hlast]
  have hnew : ¬(src.last = some c.seq ∧ src.lastHdr = c.hdrCheck ∧ src.lastPay = c.payCheck) := hnew
  rw [if_neg hnew, if_pos (by rwa [hexpected]), hexpected]

/-! ## The tests of a consumed command, before those of its row (R487–R490) -/

/-- The first of the life cycle, the LENGTH that no buffer takes, the payload's check, its length and its form that fails. -/
def CmdDef.formAnswer (d : CmdDef) (c : Cmd) (t : State) : Option (Nat × List Byte) :=
  if !lifeAllows t.boot.life d.opcode then some (stForbidden, [])
  else if 0 < c.cut then some (stMalformed, Bad.bytes ⟨0xFFFF, whyLength, 0xFFFFFF⟩)
  else if c.payCheck ≠ crc16 c.payload then some (stMalformed, Bad.bytes ⟨0xFFFF, whyCheck, 0xFFFFFF⟩)
  else if !d.len c.payload.length || decide (16368 < c.payload.length) then
    some (stMalformed, Bad.bytes ⟨0xFFFF, whyLength, 0xFFFFFF⟩)
  else match headerBad t c with
    | some b => some (stMalformed, b.bytes)
    | none => (d.form (future t) c.payload).map fun b => (stMalformed, b.bytes)

/-- A command that is consumed and fails one of these tests is answered so, with nothing else changed. -/
theorem serve_of_formAnswer {d : CmdDef} {c : Cmd} {s : State} {st : Nat} {p : List Byte} (htakes : s.takes c.src = true)
    (hheader : c.hdrCheck = crc16 (c.header d.opcode)) (hnew : ¬ c.repeats s) (horder : c.inOrder s)
    (hanswer : d.formAnswer c (s.consumed c) = some (st, p)) : serve d c s = (s.consumed c).replyTo d.opcode c st p := by
  rw [serve, judge, if_neg (by simp [htakes]), if_neg (by simp [hheader])]
  extract_lets src reply expected t f ok
  have ht : t = s.consumed c := rfl
  have hnew : ¬(src.last = some c.seq ∧ src.lastHdr = c.hdrCheck ∧ src.lastPay = c.payCheck) := hnew
  have hseq : c.seq = expected := by
    cases hlast : src.last with
    | none => simp [expected, hlast]
    | some l => simpa [expected, hlast] using horder l hlast
  rw [if_neg hnew, if_neg (not_not_intro hseq)]
  rw [← ht] at hanswer ⊢
  unfold CmdDef.formAnswer at hanswer
  dsimp only
  split_ifs at hanswer ⊢ with hlife hcut hcheck hlen
  · cases hanswer; rfl
  · cases hanswer; rfl
  · cases hanswer; rfl
  · cases hanswer; rfl
  · cases hbad : headerBad t c with
    | some b => rw [hbad] at hanswer; cases hanswer; rfl
    | none =>
      rw [hbad] at hanswer
      cases hform : d.form f c.payload with
      | some b =>
        have hform' : d.form (future t) c.payload = some b := hform
        rw [hform'] at hanswer; cases hanswer; rfl
      | none =>
        have hform' : d.form (future t) c.payload = none := hform
        rw [hform'] at hanswer; cases hanswer

end Sys2Proof.Machine

namespace Sys2Proof.Proofs

open Sys2Proof Sys2Proof.Machine

/-- Settles O52: the tests in their order, each under the passing of those before. -/
theorem mailboxOrder : Obligations.MailboxOrder := by
  unfold Obligations.MailboxOrder
  intro i d c s hmail
  refine ⟨fun hclosed => exec_eq_of_serve hmail (serve_of_closed hclosed) (confined_refl _ s), fun htakes hheader => ?_,
    fun htakes hheader => ⟨fun hcopy => ?_, fun hnew l hlast hseq => ?_, fun hnew horder => ?_⟩⟩
  · have hserve := serve_of_header htakes hheader
    generalize unsolicited _ = reply at hserve
    exact ⟨_, exec_eq_of_serve hmail hserve (confined_discardChain s _ reply), discardChain_source s _ reply,
      (confined_discardChain s _ reply).2⟩
  · exact exec_eq_of_serve hmail (serve_of_repeats htakes hheader hcopy) (confined_postReply _ _ _ _)
  · exact exec_eq_of_serve hmail (serve_of_disorder htakes hheader hnew hlast hseq) (confined_postReply _ _ _ _)
  · have hanswer : ∀ {st p}, d.formAnswer c (s.consumed c) = some (st, p) →
        exec i s = .next ((s.consumed c).replyTo d.opcode c st p) := fun h =>
      exec_eq_of_serve hmail (serve_of_formAnswer htakes hheader hnew horder h)
        ((confined_consumed s c).trans (confined_replyTo _ _ _ _ _))
    have hboot : (s.consumed c).boot.life = s.boot.life := rfl
    have hhead : headerBad (s.consumed c) c = headerBad s c := rfl
    refine ⟨fun hlife => hanswer ?_, fun hlife => ⟨fun hcut => hanswer ?_, fun hcut hcheck => hanswer ?_, fun hcut hcheck =>
      ⟨fun hlen => hanswer ?_, fun hlen hfits hbad b hform => hanswer ?_⟩⟩⟩
    · simp [CmdDef.formAnswer, hboot, hlife]
    · simp [CmdDef.formAnswer, hboot, hlife, hcut]
    · simp [CmdDef.formAnswer, hboot, hlife, hcut, hcheck]
    · simp [CmdDef.formAnswer, hboot, hlife, hcut, hcheck, hlen]
    · simp [CmdDef.formAnswer, hboot, hlife, hcut, hcheck, hlen, hfits, hhead, hbad, hform]

end Sys2Proof.Proofs

/-! PROOFS. O57: commands that act as they are accepted. -/

namespace Sys2Proof.Machine

open Sys2Proof

/-! ## What each row's own tests decide -/

theorem frameConfigDef_act {f s : State} {c : Cmd}
    (hfits : breachAt f.nextStart ({ f with nv := { f.nv with frameLen := lenOf (fieldAt c.payload 0 2) } } : State).nextStart
      (lenOf (fieldAt c.payload 0 2)) f.boot.mode true = none) :
    frameConfigDef.act f c s = .done [] { s with nv := { s.nv with frameLen := lenOf (fieldAt c.payload 0 2) } } := by
  unfold frameConfigDef
  dsimp only
  rw [hfits]

theorem size_takeSlots (n : Nat) (q : Ring) : (takeSlots n q).2.2.size = q.size := by
  induction n generalizing q with
  | zero => rfl
  | succ n ih =>
    rw [takeSlots]
    split
    · rfl
    · exact ih q.consume

theorem ringReadDef_act_data {f s : State} {c : Cmd} (huse : s.host.rings[(ringOf c.payload).val].use = .dataOut) :
    ringReadDef.act f c s =
      .done (leBytes 2 (takeSlots (byteAt c.payload 1) s.host.rings[(ringOf c.payload).val]).2.1
          ++ leBytes 2 s.host.rings[(ringOf c.payload).val].size ++ zeros 12
          ++ (takeSlots (byteAt c.payload 1) s.host.rings[(ringOf c.payload).val]).1)
        (s.modRing (ringOf c.payload) fun _ => (takeSlots (byteAt c.payload 1) s.host.rings[(ringOf c.payload).val]).2.2) := by
  rw [← size_takeSlots (byteAt c.payload 1) s.host.rings[(ringOf c.payload).val]]
  exact if_neg (not_not_intro huse)

theorem ringReadDef_act_other {f s : State} {c : Cmd} (huse : s.host.rings[(ringOf c.payload).val].use ≠ .dataOut) :
    ringReadDef.act f c s = .done (leBytes 2 0 ++ leBytes 2 f.host.rings[(ringOf c.payload).val].size ++ zeros 12) s :=
  if_pos huse

theorem pairConfigDef_act {f s : State} {c : Cmd}
    (hfits : bit (byteAt c.payload 0) 0 = true → f.pairBreach (pairCfgOf c.payload) = none) :
    pairConfigDef.act f c s = .done [] { s with nv := { s.nv with pair := pairCfgOf c.payload } } := by
  unfold pairConfigDef
  dsimp only
  cases hpair : (pairCfgOf c.payload).paired with
  | false => rfl
  | true =>
    rw [if_pos rfl, hfits hpair]

theorem lifeProvisionDef_act {f s : State} {c : Cmd} (hself : s.namesSelf (byteAt c.payload 0) = true) :
    lifeProvisionDef.act f c s = .done [byte (s.nv.provision c.payload).keys, 0, 0, 0] { s with nv := s.nv.provision c.payload } := by
  unfold lifeProvisionDef
  dsimp only
  rw [if_pos hself]

theorem lifeAttestDef_act {f s : State} {c : Cmd} (hself : s.memberNamed (byteAt c.payload 0) = some true)
    (hleft : s.boot.nextQ < 1048576) :
    lifeAttestDef.act f c s = .done (s.attest ((c.payload.drop 4).take 32)).1 (s.attest ((c.payload.drop 4).take 32)).2 := by
  have hsome : s.attestLeft ≠ 0 := by
    rw [State.attestLeft]
    omega
  unfold lifeAttestDef
  dsimp only
  rw [if_pos hself, if_neg hsome]

/-- A life-cycle transition waits for the next reset, with a fresh challenge (R552, R575). -/
def State.awaitLife (p : List Byte) (s : State) : State :=
  let t : State := { s with nv := { s.nv with pendingLife := (Life.ofCode (byteAt p 13)).map fun x => (x, bit (byteAt p 14) 0) } }
  { (t.drawBytes 16).2 with boot := { (t.drawBytes 16).2.boot with challenge := (t.drawBytes 16).1 } }

theorem not_sealed_without_root {p : List Byte} {s : State}
    (hroot : Life.ofCode (byteAt p 13) = some .sealed → s.nv.customerRoot.isSome = true) :
    ¬(Life.ofCode (byteAt p 13) = some .sealed ∧ s.nv.customerRoot.isNone = true) := by
  rintro ⟨hsealed, hnone⟩
  have hsome := hroot hsealed
  simp [Option.isNone_iff_eq_none.mp hnone] at hsome

section

variable {f s : State} {c : Cmd} (hout : f.carsUp.all Car.out = true) (hjob : s.stagingJob = none)
  (hself : s.advancePartner c.payload = false)
  (hroot : Life.ofCode (byteAt c.payload 13) = some .sealed → s.nv.customerRoot.isSome = true)

include hout hjob hself hroot

theorem lifeAdvanceDef_act_signed (hsigned : s.advanceSigned c.payload = true) :
    lifeAdvanceDef.act f c s = .done [byte (byteAt c.payload 13), 0, 0, 0] (s.awaitLife c.payload) := by
  unfold lifeAdvanceDef
  dsimp only
  rw [if_neg (by simp [hout, hjob]), if_neg (by simp [hself]), if_neg (not_sealed_without_root hroot), if_neg (by simp [hsigned])]
  rfl

theorem lifeAdvanceDef_act_unsigned (hsigned : s.advanceSigned c.payload = false) :
    lifeAdvanceDef.act f c s = .refuse stSignature [] := by
  unfold lifeAdvanceDef
  dsimp only
  rw [if_neg (by simp [hout, hjob]), if_neg (by simp [hself]), if_neg (not_sealed_without_root hroot), if_pos (by simp [hsigned])]

end

/-- In a single module A the other copy is preferred where it is valid (R508, R509). -/
theorem fwActivateDef_act {f s : State} {c : Cmd} (hsingle : s.boot.pair.paired = false) (hmember : byteAt c.payload 0 = 1)
    (hsel : s.boot.pairSel = false) (hjob : s.stagingJob = none) (hvalid : s.nv.copies[s.otherCopy.val].state = .valid) :
    ∃ b, fwActivateDef.act f c s = .done b { s with nv := { s.nv with preferred := s.otherCopy } } := by
  have hself : s.namesSelf (byteAt c.payload 0) = true := by simp [State.namesSelf, State.selfBit, hsel, hmember, bit]
  have hother : s.namesPartner (byteAt c.payload 0) = false := by
    rw [State.namesPartner, State.selfBit, hsel, hmember]
    rfl
  unfold fwActivateDef
  dsimp only
  rw [if_neg (by simp [hvalid, hother, hjob])]
  simp only [hother, hself, if_true, Bool.false_eq_true, if_false, hsingle, Bool.false_and]
  exact ⟨_, rfl⟩

end Sys2Proof.Machine

namespace Sys2Proof.Proofs

open Sys2Proof Sys2Proof.Machine

theorem frameConfig_acts {c : Cmd} {s : State} (h : Judged frameConfigDef c s) :
    let f := future (s.consumed c)
    let l : FrameLen := if fieldAt c.payload 0 2 = 125 then .us125 else .us250
    breachAt f.nextStart ({ f with nv := { f.nv with frameLen := l } } : State).nextStart l f.boot.mode true = none →
    exec (.frameConfig c) s = .next (State.answer 0x0121 c stOk []
      { s.consumed c with nv := { (s.consumed c).nv with frameLen := l } }) :=
  fun hfits => exec_eq_answer (by decide) rfl h ((confined_of_within_eq rfl : Confined [.stored] _ _).mono (by decide))
    (frameConfigDef_act hfits)

theorem ringRead_acts {c : Cmd} {s : State} (h : Judged ringReadDef c s) :
    let r := ringOf c.payload
    let x := takeSlots (byteAt c.payload 1) s.host.rings[r.val]
    exec (.ringRead c) s = .next (if s.host.rings[r.val].use = .dataOut then
        State.answer 0x0D12 c stOk (leBytes 2 x.2.1 ++ leBytes 2 s.host.rings[r.val].size ++ zeros 12 ++ x.1)
          ((s.consumed c).modRing r fun _ => x.2.2)
      else (s.consumed c).answer 0x0D12 c stOk (leBytes 2 0 ++ leBytes 2 (future (s.consumed c)).host.rings[r.val].size ++ zeros 12)) := by
  intro r x
  split
  next huse =>
    exact exec_eq_answer (by decide) rfl h ((confined_of_within_eq rfl : Confined [.rings] _ _).mono (by decide))
      (ringReadDef_act_data huse)
  next huse => exact exec_eq_answer (by decide) rfl h (confined_refl _ _) (ringReadDef_act_other huse)

theorem lifeProvision_acts {c : Cmd} {s : State} (h : Judged lifeProvisionDef c s) (hself : s.namesSelf (byteAt c.payload 0) = true) :
    ∃ (t : State) (k : Nat), exec (.lifeProvision c) s = .next (State.answer 0x1112 c stOk [byte k, 0, 0, 0] t)
      ∧ t.nv.customerRoot = (if bit (byteAt c.payload 1) 3 then none
          else if bit (byteAt c.payload 1) 0 then some ((c.payload.drop 4).take 60) else s.nv.customerRoot)
      ∧ t.nv.netKey = (if bit (byteAt c.payload 1) 3 then none
          else if bit (byteAt c.payload 1) 1 then some ((c.payload.drop 64).take 32) else s.nv.netKey)
      ∧ t.nv.cosign = (!bit (byteAt c.payload 1) 3 && (s.nv.cosign || bit (byteAt c.payload 1) 2))
      ∧ k = flagBit t.nv.customerRoot.isSome 0 + flagBit t.nv.netKey.isSome 1 + flagBit t.nv.cosign 2
      ∧ t.grp = (s.consumed c).grp ∧ t.boot = s.boot := by
  have hkeeps : Confined [.life] (s.consumed c) { s.consumed c with nv := (s.consumed c).nv.provision c.payload } := by
    unfold Nv.provision
    dsimp only
    split <;> exact confined_of_within_eq rfl
  refine ⟨_, _, exec_eq_answer (by decide) rfl h (hkeeps.mono (by decide)) (lifeProvisionDef_act hself), ?_⟩
  dsimp only [Nv.provision]
  split
  next hclear => exact ⟨rfl, rfl, by simp [hclear], rfl, rfl, rfl⟩
  next hkeep => exact ⟨rfl, rfl, by simp [hkeep]; rfl, rfl, rfl, rfl⟩

theorem lifeAttest_acts {c : Cmd} {s : State} (h : Judged lifeAttestDef c s) (hself : s.memberNamed (byteAt c.payload 0) = some true)
    (hleft : s.boot.nextQ < 1048576) :
    ∃ (t : State) (b : List Byte), exec (.lifeAttest c) s = .next (State.answer 0x1113 c stOk b t)
      ∧ t.boot.nextQ = s.boot.nextQ + 1 ∧ t.nv.attestBlocks = max s.nv.attestBlocks (s.boot.nextQ / 1024 + 1)
      ∧ b.take 4 = leBytes 4 0x5441584F ∧ t.grp = (s.consumed c).grp := by
  have hkeeps : Confined [.leaf] (s.consumed c) ((s.consumed c).attest ((c.payload.drop 4).take 32)).2 := confined_of_within_eq rfl
  refine ⟨_, _, exec_eq_answer (by decide) rfl h (hkeeps.mono (by decide)) (lifeAttestDef_act hself hleft), rfl, rfl, ?_, rfl⟩
  simp only [State.attest, State.statement, List.append_assoc]
  exact List.take_left' (length_leBytes ..)

theorem lifeAdvance_acts {c : Cmd} {s : State} (h : Judged lifeAdvanceDef c s)
    (hout : (future (s.consumed c)).carsUp.all Car.out = true) (hjob : s.stagingJob = none)
    (hself : s.advancePartner c.payload = false)
    (hroot : Life.ofCode (byteAt c.payload 13) = some .sealed → s.nv.customerRoot.isSome = true) :
    (s.advanceSigned c.payload = true → ∃ t,
        exec (.lifeAdvance c) s = .next (State.answer 0x1110 c stOk [byte (byteAt c.payload 13), 0, 0, 0] t)
        ∧ t.nv.pendingLife = (Life.ofCode (byteAt c.payload 13)).map (fun x => (x, bit (byteAt c.payload 14) 0))
        ∧ t.boot.life = s.boot.life ∧ t.nv.groups = s.nv.groups)
      ∧ (s.advanceSigned c.payload = false → exec (.lifeAdvance c) s = .next ((s.consumed c).replyTo 0x1110 c stSignature [])) := by
  have hjob' : (s.consumed c).stagingJob = none := hjob
  refine ⟨fun hsigned => ?_, fun hsigned => ?_⟩
  · have hkeeps : Confined [.free, .counts, .life] (s.consumed c) ((s.consumed c).awaitLife c.payload) := confined_of_within_eq rfl
    exact ⟨_, exec_eq_answer (by decide) rfl h (hkeeps.mono (by decide)) (lifeAdvanceDef_act_signed hout hjob' hself hroot hsigned),
      rfl, rfl, rfl⟩
  · exact exec_eq_replyTo (by decide) rfl h (lifeAdvanceDef_act_unsigned hout hjob' hself hroot hsigned)

/-- Settles O57: each row's own tests decide, and `exec_eq_answer` ends it. -/
theorem immediateCommands : Obligations.ImmediateCommands := by
  unfold Obligations.ImmediateCommands
  intro c s f s' p
  refine ⟨fun h => ?_, frameConfig_acts, ringRead_acts, fun h => ?_, fun h hfits => ?_, fun h => ?_, lifeProvision_acts,
    lifeAttest_acts, lifeAdvance_acts, fun h hsingle hmember hsel hjob hvalid => ?_⟩
  · exact exec_eq_answer (by decide) rfl h (confined_refl _ _) rfl
  · exact exec_eq_answer (by decide) rfl h ((confined_of_within_eq rfl : Confined [.stored] _ _).mono (by decide)) rfl
  · exact exec_eq_answer (by decide) rfl h ((confined_of_within_eq rfl : Confined [.stored] _ _).mono (by decide)) (pairConfigDef_act hfits)
  · exact exec_eq_answer (by decide) rfl h ((confined_record _ _ _ _).mono (by decide)) rfl
  · obtain ⟨b, hact⟩ := fwActivateDef_act (f := f) (s := s') (c := c) hsingle hmember hsel hjob hvalid
    exact ⟨b, exec_eq_answer (by decide) rfl h ((confined_of_within_eq rfl : Confined [.firmware] _ _).mono (by decide)) hact⟩

end Sys2Proof.Proofs

/-! PROOFS. O60, first part: how a job starts. -/

namespace Sys2Proof.Machine

open Sys2Proof

/-! ## A JOB_ID that no running job has (R493) -/

/-- The ID after another, 0 skipped. -/
def nextId (i : Nat) : Nat := if i = 65535 then 1 else i + 1

/-- The IDs after `x` run on to 65,535 and begin again at 1. -/
theorem iterate_nextId (x : Nat) {k : Nat} (hk : k ≤ 65535) :
    nextId^[k] x = if 65535 < x ∨ x + k ≤ 65535 then x + k else x + k - 65535 := by
  induction k with
  | zero => simp
  | succ k ih =>
    rw [Function.iterate_succ_apply', ih (by omega), nextId]
    split_ifs <;> omega

/-- No ID comes twice in the first 257. -/
theorem iterate_nextId_injective (x : Nat) {k m : Nat} (hk : k ≤ 257) (hm : m ≤ 257) (h : nextId^[k] x = nextId^[m] x) : k = m := by
  rw [iterate_nextId x (by omega), iterate_nextId x (by omega)] at h
  split_ifs at h <;> omega

/-- Where the ID that is found is in use, every ID that was tried is. -/
theorem used_of_nextJobId (jobs : List Job) (n i : Nat) (h : nextJobId n jobs i ∈ jobs.map Job.id) :
    ∀ k < n, nextId^[k + 1] i ∈ jobs.map Job.id := by
  induction n generalizing i with
  | zero => exact fun k hk => absurd hk (by omega)
  | succ n ih =>
    intro k hk
    have hstep : nextJobId (n + 1) jobs i = if jobs.any (fun x => x.id = nextId i) then nextJobId n jobs (nextId i) else nextId i := rfl
    rw [hstep] at h
    split at h
    next hused =>
      cases k with
      | zero =>
        obtain ⟨x, hx, hid⟩ := List.any_eq_true.mp hused
        exact List.mem_map.mpr ⟨x, hx, of_decide_eq_true hid⟩
      | succ k => exact ih (nextId i) h k (by omega)
    next hfree =>
      obtain ⟨x, hx, hid⟩ := List.mem_map.mp h
      exact absurd (List.any_eq_true.mpr ⟨x, hx, decide_eq_true hid⟩) hfree

/-- With fewer than 257 jobs one of the 257 IDs tried is free. -/
theorem nextJobId_fresh {jobs : List Job} (hfew : jobs.length < 256) (i : Nat) : ∀ j ∈ jobs, j.id ≠ nextJobId 257 jobs i := by
  intro j hj hid
  have hused := used_of_nextJobId jobs 257 i (hid ▸ List.mem_map_of_mem hj)
  have hnodup : ((List.range 257).map fun k => nextId^[k + 1] i).Nodup := by
    refine List.Nodup.map_on (fun k hk m hm heq => ?_) List.nodup_range
    have := iterate_nextId_injective i (by simp at hk; omega) (by simp at hm; omega) heq
    omega
  have hsub : ((List.range 257).map fun k => nextId^[k + 1] i) ⊆ jobs.map Job.id := by
    intro id hmem
    obtain ⟨k, hk, rfl⟩ := List.mem_map.mp hmem
    exact hused k (List.mem_range.mp hk)
  have hlen := (List.subperm_of_subset hnodup hsub).length_le
  rw [List.length_map, List.length_map, List.length_range] at hlen
  omega

/-! ## The start of a job (R491, R493) -/

/-- The job that a command starts. -/
def Cmd.newJob (c : Cmd) (kind : JobKind) (opcode id serial : Nat) : Job :=
  { id := id, kind := kind, opcode := opcode, src := c.src, tag := c.tag, seq := c.seq, target := c.target, serial := serial,
    quiet := bit c.flags 0 }

/-- The ID of the next job. -/
def State.nextJob (s : State) : Nat := nextJobId 257 s.grp.jobs s.grp.jobCounter

/-- The job joins the list. -/
def State.addJob (kind : JobKind) (opcode : Nat) (c : Cmd) (s : State) : State :=
  { s with grp := { s.grp with jobs := s.grp.jobs ++ [c.newJob kind opcode s.nextJob (s.serial c.src)], jobCounter := s.nextJob } }

theorem confined_addJob (kind : JobKind) (opcode : Nat) (c : Cmd) (s : State) : Confined [.jobs] s (s.addJob kind opcode c) :=
  confined_of_within_eq rfl

/-- The job joins the list, and its first reply is posted. -/
def State.withJob (kind : JobKind) (opcode : Nat) (c : Cmd) (s : State) : State :=
  (s.addJob kind opcode c).postReply ((s.addJob kind opcode c).replyDest c.src c.target) none
    (replyBytes opcode c.tag stOk 0 c.seq (jobIdBytes s.nextJob))

theorem startJob_of_room {kind : JobKind} {opcode : Nat} {c : Cmd} {s : State} (hfew : s.grp.jobs.length < 256) :
    startJob kind opcode c s = .later (s.withJob kind opcode c) := by
  have hroom : ¬ s.jobsFull = true := by simp [State.jobsFull, hfew]
  rw [startJob, if_neg hroom]
  rfl

theorem postKeeps_withJob (kind : JobKind) (opcode : Nat) (c : Cmd) (s : State) :
    PostKeeps (s.addJob kind opcode c) (s.withJob kind opcode c) := postKeeps_postReply _ _ _ _

theorem confined_withJob (kind : JobKind) (opcode : Nat) (c : Cmd) (s : State) :
    Confined (.jobs :: postParts) s (s.withJob kind opcode c) :=
  ((confined_addJob kind opcode c s).mono (by decide)).trans ((postKeeps_withJob kind opcode c s).conf.mono (by decide))

/-- From one state to another a job has started, with what it asks of the next Calends. -/
structure StartsJob (kind : JobKind) (opcode : Nat) (c : Cmd) (ds : Nat → List Deferred) (s t : State) : Prop where
  jobs : t.grp.jobs = s.grp.jobs ++ [c.newJob kind opcode s.nextJob (s.serial c.src)]
  deferred : t.grp.deferred = s.grp.deferred ++ ds s.nextJob
  sources : t.grp.sources = s.grp.sources

theorem startsJob_withJob (kind : JobKind) (opcode : Nat) (c : Cmd) (s : State) :
    StartsJob kind opcode c (fun _ => []) s (s.withJob kind opcode c) where
  jobs := (postKeeps_withJob kind opcode c s).jobs_eq
  deferred := ((confined_withJob kind opcode c s).2 .deferred (by decide)).symm.trans (List.append_nil _).symm
  sources := ((confined_withJob kind opcode c s).2 .sources (by decide)).symm

theorem withJob_jobCounter (kind : JobKind) (opcode : Nat) (c : Cmd) (s : State) :
    (s.withJob kind opcode c).grp.jobCounter = s.nextJob :=
  ((postKeeps_withJob kind opcode c s).conf.2 .jobs (by decide)).2.symm

theorem StartsJob.stage {kind : JobKind} {opcode : Nat} {c : Cmd} {s t : State}
    (h : StartsJob kind opcode c (fun _ => []) s t) {d : Deferred} {ds : Nat → List Deferred} (hd : ds s.nextJob = [d]) :
    StartsJob kind opcode c ds s (t.stage d) where
  jobs := h.jobs
  deferred := by
    have hstage : (t.stage d).grp.deferred = t.grp.deferred ++ [d] := rfl
    rw [hstage, h.deferred, hd, List.append_nil]
  sources := h.sources

/-! ## A row that starts a job -/

/-- What a row that starts a job does, judged well (R487, R491, R493): where it is allowed the job starts, elsewhere it is
refused STATE. -/
def StartsOrRefuses (i : Instr) (d : CmdDef) (kind : JobKind) (allowed : Bool) (ds : Nat → List Deferred) (c : Cmd) (s : State) : Prop :=
  (allowed = true → ∃ (t : State) (id : Nat), exec i s = .next t ∧ (∀ j ∈ s.grp.jobs, j.id ≠ id)
    ∧ t.grp.jobs = s.grp.jobs ++ [c.newJob kind d.opcode id (s.serial c.src)] ∧ t.grp.deferred = s.grp.deferred ++ ds id
    ∧ t.grp.sources[c.src.val].accepted = satInc 32 s.grp.sources[c.src.val].accepted)
  ∧ (allowed = false → exec i s = .next ((s.consumed c).replyTo d.opcode c stState []))

section

variable {i : Instr} {d : CmdDef} {c : Cmd} {s : State} {ps : List Part} (hmail : mailParts ⊆ ps)
  (hexec : exec i s = .next (s.within ps (serve d c s))) (h : Judged d c s)

include hmail hexec h

/-- An accepted command that is answered later ends counted. -/
theorem exec_eq_counted {t : State} (hact : d.act (future (s.consumed c)) c (s.consumed c) = .later t)
    (hconf : Confined ps (s.consumed c) t) : exec i s = .next (t.counted c) :=
  exec_eq_close hmail hexec h hact hconf

theorem startsOrRefuses_of_act {kind : JobKind} {allowed : Bool} {ds : Nat → List Deferred} (hfew : s.grp.jobs.length < 256)
    (hstart : allowed = true → ∃ t, d.act (future (s.consumed c)) c (s.consumed c) = .later t ∧ Confined ps (s.consumed c) t
      ∧ StartsJob kind d.opcode c ds (s.consumed c) t)
    (hrefuse : allowed = false → d.act (future (s.consumed c)) c (s.consumed c) = .refuse stState []) :
    StartsOrRefuses i d kind allowed ds c s := by
  refine ⟨fun hallowed => ?_, fun hnot => exec_eq_replyTo hmail hexec h (hrefuse hnot)⟩
  obtain ⟨t, hact, hconf, hjobs, hdeferred, hsources⟩ := hstart hallowed
  have hcounted : (t.counted c).grp.sources[c.src.val].accepted = satInc 32 t.grp.sources[c.src.val].accepted := by
    rw [State.counted, source_modSource]
  have hconsumed : (s.consumed c).grp.sources[c.src.val].accepted = s.grp.sources[c.src.val].accepted := by
    rw [State.consumed, source_modSource]
  exact ⟨_, s.nextJob, exec_eq_counted hmail hexec h hact hconf, nextJobId_fresh hfew _, hjobs, hdeferred,
    by rw [hcounted, hsources, hconsumed]⟩

end

end Sys2Proof.Machine

/-! PROOFS. O60, second part: the commands that start a job. -/

namespace Sys2Proof.Machine

open Sys2Proof

section

variable {f s : State} {c : Cmd} (hfew : s.grp.jobs.length < 256)

include hfew

theorem not_jobsFull : ¬ s.jobsFull = true := by simp [State.jobsFull, hfew]

/-! ## ALM_SAVE (R506) -/

/-- What an ALM_SAVE is to save. -/
def State.keepAlm (s : State) : State :=
  { s with grp := { s.grp with
      saving := (s.grp.shown.filter fun q => q.2.type != 0 && decide (q.1 < 0xF0000)).map fun q => (q.1, q.2.kept) } }

theorem almSaveDef_act_starts (hnone : (s.findJob fun j => j.kind == .almSave).isNone = true) :
    almSaveDef.act f c s = .later (s.keepAlm.withJob .almSave 0x0316 c) := by
  have hnone' : ¬ (s.findJob fun j => j.kind == .almSave).isSome = true := by simpa using hnone
  unfold almSaveDef
  dsimp only
  rw [if_neg (not_jobsFull hfew), if_neg hnone']
  exact startJob_of_room (s := s.keepAlm) hfew

theorem almSaveDef_act_refuses (hsome : (s.findJob fun j => j.kind == .almSave).isNone = false) :
    almSaveDef.act f c s = .refuse stState [] := by
  have hsome' : (s.findJob fun j => j.kind == .almSave).isSome = true := by simpa using hsome
  unfold almSaveDef
  dsimp only
  rw [if_neg (not_jobsFull hfew), if_pos hsome']

/-! ## POS_LEARN (R137) -/

theorem posLearnDef_act_starts {x : Car} (hx : f.car (carOf c.payload) = x)
    (hmay : (x.mayLearn (bit (byteAt c.payload 1) 0) (bit (byteAt c.payload 1) 1) && x.pos.learn.isNone) = true) :
    posLearnDef.act f c s = .later ((s.withJob (.posLearn (carOf c.payload)) 0x0414 c).stage (.cmd 0x0414 c.payload)) := by
  subst hx
  obtain ⟨hlearn, hnone⟩ := Bool.and_eq_true_iff.mp hmay
  unfold posLearnDef
  dsimp only
  rw [if_neg (not_jobsFull hfew), if_neg (by simp [hlearn, Option.isNone_iff_eq_none.mp hnone]), startJob_of_room hfew]

theorem posLearnDef_act_refuses {x : Car} (hx : f.car (carOf c.payload) = x)
    (hnot : (x.mayLearn (bit (byteAt c.payload 1) 0) (bit (byteAt c.payload 1) 1) && x.pos.learn.isNone) = false) :
    posLearnDef.act f c s = .refuse stState [] := by
  subst hx
  have hnot' : (!(f.car (carOf c.payload)).mayLearn (bit (byteAt c.payload 1) 0) (bit (byteAt c.payload 1) 1)
      || (f.car (carOf c.payload)).pos.learn.isSome) = true := by
    rw [← Option.not_isNone, ← Bool.not_and, hnot]
    rfl
  unfold posLearnDef
  dsimp only
  rw [if_neg (not_jobsFull hfew), if_pos hnot']

/-! ## SAFE_BRAKE_TEST (R295) -/

/-- The test that the command asks for. -/
def Cmd.brakeTest (c : Cmd) (job frame : Nat) : BrakeTest :=
  { job := job, sets := byteAt c.payload 1, torque := intAt c.payload 2 2, testMs := fieldAt c.payload 4 2,
    limit := fieldAt c.payload 6 2, set := if bit (byteAt c.payload 1) 0 then 0 else 1, step := 1, since := frame + 1 }

/-- The brake test begins as its job starts. -/
def State.beginTest (c : Cmd) (s : State) : State :=
  (s.withJob (.brakeTest (carOf c.payload)) 0x0814 c).modSafe (carOf c.payload) fun x =>
    { x with test := some (c.brakeTest (s.withJob (.brakeTest (carOf c.payload)) 0x0814 c).grp.jobCounter
      (s.withJob (.brakeTest (carOf c.payload)) 0x0814 c).grp.frame) }

theorem safeBrakeTestDef_act_starts
    (hok : (f.brakeTestOk (carOf c.payload) && s.brakeTestOk (carOf c.payload)) = true) :
    safeBrakeTestDef.act f c s = .later (s.beginTest c) := by
  obtain ⟨hf, hs⟩ := Bool.and_eq_true_iff.mp hok
  unfold safeBrakeTestDef
  dsimp only
  rw [if_neg (not_jobsFull hfew), if_neg (by simp [hf, hs]), startJob_of_room hfew]
  rfl

theorem safeBrakeTestDef_act_refuses
    (hnot : (f.brakeTestOk (carOf c.payload) && s.brakeTestOk (carOf c.payload)) = false) :
    safeBrakeTestDef.act f c s = .refuse stState [] := by
  have hnot' : (!f.brakeTestOk (carOf c.payload) || !s.brakeTestOk (carOf c.payload)) = true := by
    rw [← Bool.not_and, hnot]
    rfl
  unfold safeBrakeTestDef
  dsimp only
  rw [if_neg (not_jobsFull hfew), if_pos hnot']

/-! ## CAN_SEND (R367) -/

theorem canSendDef_act_starts (hroom : decide (f.io.buses[(busOf c.payload).val].rawCount < 8) = true) :
    canSendDef.act f c s = .later ((s.withJob (.canSend (busOf c.payload)) 0x0A11 c).stage (.send s.nextJob c.payload)) := by
  have hroom' : ¬ 8 ≤ f.io.buses[(busOf c.payload).val].rawCount := by simpa using hroom
  unfold canSendDef
  dsimp only
  rw [if_neg (not_jobsFull hfew), if_neg hroom', startJob_of_room hfew]
  dsimp only
  rw [withJob_jobCounter]

theorem canSendDef_act_refuses (hfull : decide (f.io.buses[(busOf c.payload).val].rawCount < 8) = false) :
    canSendDef.act f c s = .refuse stState [] := by
  have hfull' : 8 ≤ f.io.buses[(busOf c.payload).val].rawCount := by simpa using hfull
  unfold canSendDef
  dsimp only
  rw [if_neg (not_jobsFull hfew), if_pos hfull']

/-! ## PAIR_LEAP (R448) -/

theorem pairLeapDef_act_starts
    (hok : (f.leapOk && f.mem.releaseDue.isNone && s.grp.jobs.all (fun j => j.kind != .leap)) = true) :
    pairLeapDef.act f c s = .later ((s.withJob .leap 0x0C11 c).stage (.cmd 0x0C11 c.payload)) := by
  unfold pairLeapDef
  dsimp only
  rw [if_neg (not_jobsFull hfew), hok, if_neg (by decide), startJob_of_room hfew]

theorem pairLeapDef_act_refuses
    (hnot : (f.leapOk && f.mem.releaseDue.isNone && s.grp.jobs.all (fun j => j.kind != .leap)) = false) :
    pairLeapDef.act f c s = .refuse stState [] := by
  unfold pairLeapDef
  dsimp only
  rw [if_neg (not_jobsFull hfew), hnot, if_pos (by decide)]

end

/-! ## 256 jobs run already (R487, R493) -/

/-- A row that starts a job is refused LIMIT before the present state of what it names is looked at. -/
theorem limit_of_full {f s : State} {c : Cmd} (hfull : 256 ≤ s.grp.jobs.length) :
    ∀ d ∈ [posLearnDef, safeBrakeTestDef, almSaveDef, canSendDef, pairLeapDef, recExportDef], d.act f c s = .refuse stLimit [] := by
  have hjobs : s.jobsFull = true := by simp [State.jobsFull, hfull]
  intro d hd
  simp only [List.mem_cons, List.not_mem_nil, or_false] at hd
  rcases hd with rfl | rfl | rfl | rfl | rfl | rfl <;> exact if_pos hjobs

end Sys2Proof.Machine

namespace Sys2Proof.Proofs

open Sys2Proof Sys2Proof.Machine

section

variable {c : Cmd} {s : State} (hfew : s.grp.jobs.length < 256)

include hfew

theorem almSave_starts (h : Judged almSaveDef c s) :
    StartsOrRefuses (.almSave c) almSaveDef .almSave (s.findJob fun j => j.kind == .almSave).isNone (fun _ => []) c s := by
  refine startsOrRefuses_of_act (by decide) rfl h hfew (fun hnone => ⟨_, almSaveDef_act_starts (s := s.consumed c) hfew hnone, ?_, ?_⟩)
    (almSaveDef_act_refuses (s := s.consumed c) hfew)
  · exact ((confined_of_within_eq rfl : Confined [.saves] (s.consumed c) (s.consumed c).keepAlm).mono (by decide)).trans
      ((confined_withJob _ _ _ _).mono (by decide))
  · obtain ⟨hjobs, hdeferred, hsources⟩ := startsJob_withJob .almSave 0x0316 c (s.consumed c).keepAlm
    exact ⟨hjobs, hdeferred, hsources⟩

theorem posLearn_starts (h : Judged posLearnDef c s) {x : Car} (hx : (future (s.consumed c)).car (carOf c.payload) = x) :
    StartsOrRefuses (.posLearn c) posLearnDef (.posLearn (carOf c.payload))
      (x.mayLearn (bit (byteAt c.payload 1) 0) (bit (byteAt c.payload 1) 1) && x.pos.learn.isNone)
      (fun _ => [.cmd 0x0414 c.payload]) c s := by
  refine startsOrRefuses_of_act (by decide) rfl h hfew (fun hmay =>
    ⟨_, posLearnDef_act_starts (s := s.consumed c) hfew hx hmay, ?_, (startsJob_withJob _ _ _ _).stage rfl⟩)
    (posLearnDef_act_refuses (s := s.consumed c) hfew hx)
  exact ((confined_withJob _ _ _ _).mono (by decide)).trans ((confined_stage _ _).mono (by decide))

theorem canSend_starts (h : Judged canSendDef c s) :
    StartsOrRefuses (.canSend c) canSendDef (.canSend (busOf c.payload))
      (decide ((future (s.consumed c)).io.buses[(busOf c.payload).val].rawCount < 8)) (fun n => [.send n c.payload]) c s := by
  refine startsOrRefuses_of_act (by decide) rfl h hfew (fun hroom =>
    ⟨_, canSendDef_act_starts (s := s.consumed c) hfew hroom, ?_, (startsJob_withJob _ _ _ _).stage rfl⟩)
    (canSendDef_act_refuses (s := s.consumed c) hfew)
  exact ((confined_withJob _ _ _ _).mono (by decide)).trans ((confined_stage _ _).mono (by decide))

theorem pairLeap_starts (h : Judged pairLeapDef c s) :
    StartsOrRefuses (.pairLeap c) pairLeapDef .leap ((future (s.consumed c)).leapOk && (future (s.consumed c)).mem.releaseDue.isNone
      && s.grp.jobs.all (fun j => j.kind != .leap)) (fun _ => [.cmd 0x0C11 c.payload]) c s := by
  refine startsOrRefuses_of_act (by decide) rfl h hfew (fun hok =>
    ⟨_, pairLeapDef_act_starts (s := s.consumed c) hfew hok, ?_, (startsJob_withJob _ _ _ _).stage rfl⟩)
    (pairLeapDef_act_refuses (s := s.consumed c) hfew)
  exact ((confined_withJob _ _ _ _).mono (by decide)).trans ((confined_stage _ _).mono (by decide))

omit hfew in
theorem confined_beginTest (u : State) : Confined (.cars :: .jobs :: postParts) u (u.beginTest c) :=
  ((confined_withJob _ _ _ u).mono (by decide)).trans ((confined_modSafe _ _ _).mono (by decide))

theorem safeBrakeTest_starts (h : Judged safeBrakeTestDef c s) :
    StartsOrRefuses (.safeBrakeTest c) safeBrakeTestDef (.brakeTest (carOf c.payload))
      ((future (s.consumed c)).brakeTestOk (carOf c.payload) && s.brakeTestOk (carOf c.payload)) (fun _ => []) c s := by
  refine startsOrRefuses_of_act (by decide) rfl h hfew (fun hok => ⟨_, safeBrakeTestDef_act_starts (s := s.consumed c) hfew hok, ?_, ?_⟩)
    (safeBrakeTestDef_act_refuses (s := s.consumed c) hfew)
  · exact (confined_beginTest _).mono (by decide)
  · obtain ⟨hjobs, hdeferred, hsources⟩ := startsJob_withJob (.brakeTest (carOf c.payload)) 0x0814 c (s.consumed c)
    exact ⟨hjobs, hdeferred, hsources⟩

theorem safeBrakeTest_begins (h : Judged safeBrakeTestDef c s)
    (hf : (future (s.consumed c)).brakeTestOk (carOf c.payload) = true) (hs : s.brakeTestOk (carOf c.payload) = true) :
    ∃ t, exec (.safeBrakeTest c) s = .next t ∧ ∃ b : BrakeTest, (t.car (carOf c.payload)).safe.test = some b
      ∧ b.sets = byteAt c.payload 1 ∧ b.torque = intAt c.payload 2 2 ∧ b.testMs = fieldAt c.payload 4 2
      ∧ b.limit = fieldAt c.payload 6 2 ∧ b.step = 1 ∧ b.since = s.grp.frame + 1 := by
  have hok : ((future (s.consumed c)).brakeTestOk (carOf c.payload) && (s.consumed c).brakeTestOk (carOf c.payload)) = true :=
    Bool.and_eq_true_iff.mpr ⟨hf, hs⟩
  have hexec := exec_eq_counted (i := .safeBrakeTest c) (ps := [.cars, .jobs] ++ mailParts) (by decide) rfl h
    (safeBrakeTestDef_act_starts (s := s.consumed c) hfew hok) ((confined_beginTest (s.consumed c)).mono (by decide))
  have hcar : ((s.consumed c).beginTest c).car (carOf c.payload) = _ := car_modCar ..
  have hframe : ((s.consumed c).withJob (.brakeTest (carOf c.payload)) 0x0814 c).grp.frame = s.grp.frame :=
    ((confined_withJob (.brakeTest (carOf c.payload)) 0x0814 c (s.consumed c)).2 .number (by decide)).symm
  refine ⟨_, hexec, _, congrArg (fun x : Car => x.safe.test) hcar, rfl, rfl, rfl, rfl, rfl, ?_⟩
  exact congrArg (· + 1) hframe

end

end Sys2Proof.Proofs

/-! PROOFS. O60, third part: an export that waits, and how a job ends. -/

namespace Sys2Proof.Machine

open Sys2Proof

/-! ## A posted reply goes to REPLY rings alone (R466) -/

theorem publish_ring_ne (s : State) (b : List Byte) {q r : RingId} (h : r ≠ q) :
    (s.publish q b).host.rings[r.val] = s.host.rings[r.val] :=
  ring_modRing_ne s (fun x => x.publish b) h

theorem replyRoom_of_ring (s : State) {x : Source} {q : RingId} (hsession : x.session = none) (hring : x.ring = some q) :
    s.replyRoom x =
      (decide (s.host.rings[q.val].use = .reply) && decide (0 < s.host.rings[q.val].room), s.host.rings[q.val].size) := by
  unfold State.replyRoom
  simp only [hsession, hring]

theorem use_of_room {u : RingUse} {n : Nat} (h : ¬(!(decide (u = .reply) && decide (0 < n))) = true) : u = .reply := by
  by_contra hne
  simp [hne] at h

theorem postOne_ring {r : RingId} {s : State} (hr : s.host.rings[r.val].use ≠ .reply) (x : Source) :
    (s.postOne x).host.rings[r.val] = s.host.rings[r.val] := by
  unfold State.postOne
  split
  case h_1 => rfl
  case h_2 =>
    split
    next ok size hroom =>
      extract_lets left held _ t
      have ht : t.host.rings[r.val] = s.host.rings[r.val] := rfl
      clear_value t
      split
      · rfl
      next hok =>
        split
        · exact ht
        next hsession =>
          split
          next q hq =>
            have huse : s.host.rings[q.val].use = .reply := by
              rw [replyRoom_of_ring s hsession hq] at hroom
              obtain ⟨hopen, -⟩ := Prod.mk.inj hroom
              rw [← hopen] at hok
              exact use_of_room hok
            have hne : r ≠ q := fun h => hr (h ▸ huse)
            exact (publish_ring_ne t _ hne).trans ht
          next => exact ht

theorem postHeld_ring {r : RingId} (n : Nat) (x : Source) {s : State} (hr : s.host.rings[r.val].use ≠ .reply) :
    (State.postHeld n x s).host.rings[r.val] = s.host.rings[r.val] := by
  induction n generalizing s with
  | zero => rfl
  | succ n ih =>
    have hone := postOne_ring hr x
    exact (ih (s := s.postOne x) (by rwa [hone])).trans hone

theorem postReply_ring {r : RingId} {s : State} (hr : s.host.rings[r.val].use ≠ .reply) (dest : Option Source) (job : Option Nat)
    (b : List Byte) : (s.postReply dest job b).host.rings[r.val] = s.host.rings[r.val] := by
  cases dest with
  | none => rfl
  | some x =>
    unfold State.postReply
    dsimp only
    split_ifs
    · rfl
    · exact postHeld_ring _ x hr

/-! ## REC_EXPORT (R547) -/

/-- An export whose ring is full waits (R547). -/
theorem goExport_of_full {j : Job} {r : RingId} {first last skipped : Nat} {s : State} (hjob : s.exporting = some j)
    (hkind : j.kind = .exportRecs r first first last skipped) (hlast : first ≤ last) (hfull : s.host.rings[r.val].room = 0) :
    s.goExport = s := by
  have hrun : State.runExport (s.host.rings[r.val].room + 2) s = s := by
    rw [State.runExport, hjob]
    dsimp only
    rw [hkind]
    dsimp only
    rw [if_neg (by omega), if_neg (by simp [hfull])]
  obtain ⟨id, kind, opcode, src, tag, seq, target⟩ := j
  cases hkind
  unfold State.goExport
  rw [hjob]
  exact hrun

/-- The job of an export. -/
def isExport (j : Job) : Bool := match j.kind with
  | .exportRecs _ _ _ _ _ => true
  | _ => false

theorem recExportDef_act {f s : State} {c : Cmd} (hfew : s.grp.jobs.length < 256) (hnone : s.exporting = none)
    (hfirst : fieldAt c.payload 0 8 ≤ s.nv.recorder.newest)
    (hfull : s.host.rings[(Fin.ofNat 64 (byteAt c.payload 8) : RingId).val].room = 0)
    (huse : s.host.rings[(Fin.ofNat 64 (byteAt c.payload 8) : RingId).val].use = .dataOut) :
    recExportDef.act f c s = .later (s.withJob (.exportRecs (Fin.ofNat 64 (byteAt c.payload 8)) (fieldAt c.payload 0 8)
      (fieldAt c.payload 0 8) s.nv.recorder.newest 0) 0x1012 c) := by
  generalize hkind : JobKind.exportRecs (Fin.ofNat 64 (byteAt c.payload 8)) (fieldAt c.payload 0 8)
    (fieldAt c.payload 0 8) s.nv.recorder.newest 0 = kind
  have hother : (s.addJob kind 0x1012 c).host.rings[(Fin.ofNat 64 (byteAt c.payload 8) : RingId).val].use ≠ .reply := by
    have hsame : (s.addJob kind 0x1012 c).host = s.host := rfl
    rw [hsame, huse]
    nofun
  have hring : (s.withJob kind 0x1012 c).host.rings[(Fin.ofNat 64 (byteAt c.payload 8) : RingId).val] =
      s.host.rings[(Fin.ofNat 64 (byteAt c.payload 8) : RingId).val] :=
    postReply_ring (s := s.addJob kind 0x1012 c) hother _ _ _
  have hjob : (s.withJob kind 0x1012 c).exporting = some (c.newJob kind 0x1012 s.nextJob (s.serial c.src)) := by
    have hold : s.grp.jobs.find? isExport = none := hnone
    have hnew : isExport (c.newJob kind 0x1012 s.nextJob (s.serial c.src)) = true := by
      rw [← hkind]
      rfl
    have hjobs : (s.withJob kind 0x1012 c).exporting = (s.withJob kind 0x1012 c).grp.jobs.find? isExport := rfl
    rw [hjobs, (startsJob_withJob kind 0x1012 c s).jobs, List.find?_append, hold, Option.none_or, List.find?_cons, hnew]
  have hwait : (s.withJob kind 0x1012 c).goExport = s.withJob kind 0x1012 c :=
    goExport_of_full hjob hkind.symm hfirst (by rw [hring, hfull])
  unfold recExportDef
  dsimp only
  rw [if_neg (not_jobsFull hfew), if_neg (by simp [hnone]), startJob_of_room hfew, hkind]
  dsimp only
  rw [hwait]

/-! ## A job that ends (R491) -/

theorem postKeeps_endJob (j : Job) (status : Nat) (payload : List Byte) (s : State) :
    PostKeeps { s with grp := { s.grp with jobs := s.grp.jobs.filter fun x => x.id ≠ j.id } } (endJob j status payload s) := by
  unfold endJob
  dsimp only
  split
  · exact .refl _
  · exact postKeeps_postReply _ _ _ _

theorem confined_endJob_post (j : Job) (status : Nat) (payload : List Byte) (s : State) :
    Confined (.jobs :: postParts) s (endJob j status payload s) :=
  ((confined_of_within_eq rfl : Confined [.jobs] s
    { s with grp := { s.grp with jobs := s.grp.jobs.filter fun x => x.id ≠ j.id } }).mono (by decide)).trans
    ((postKeeps_endJob j status payload s).conf.mono (by decide))

/-- A job that has ended is in the list no more. -/
theorem ended_of_endJob (j : Job) (status : Nat) (payload : List Byte) (s : State) :
    ∀ x ∈ (endJob j status payload s).grp.jobs, x.id ≠ j.id := by
  intro x hx
  rw [endJob_jobs] at hx
  simpa using (List.mem_filter.mp hx).2

/-! ## ALM_SAVE_COMPLETE (R506) -/

/-- The save is interrupted. -/
def State.unsaved (s : State) : State := { s with grp := { s.grp with saving := [] } }

/-- The save is in NAND, in force at the next restart (R506). -/
def State.almSaved (s : State) : State :=
  let t := s.drawNat.2
  { t with nv := { t.nv with saved := s.grp.saving }, grp := { t.grp with saving := [], saveFrame := t.grp.frame } }

theorem exec_almSaveComplete_interrupted {j : Job} {s : State} (hrun : s.running = true)
    (hjob : (s.findJob fun j => j.kind == .almSave) = some j) :
    exec (.almSaveComplete true) s = .next (endJob j stJobFailed [] s.unsaved) := by
  have hexec : exec (.almSaveComplete true) s = execAlmSaveComplete true s := rfl
  have hconf : Confined [.saves] s s.unsaved := confined_of_within_eq rfl
  rw [hexec, execAlmSaveComplete, whenRunning_of s _ hrun, hjob]
  exact congrArg _ ((hconf.mono (by decide)).trans ((confined_endJob_post j stJobFailed [] s.unsaved).mono (by decide))).within_eq

theorem confined_almSaved (s : State) : Confined [.free, .saves, .stored] s s.almSaved :=
  ((confined_drawNat s).mono (by decide)).trans
    ((confined_of_within_eq rfl : Confined [.saves, .stored] s.drawNat.2 s.almSaved).mono (by decide))

theorem exec_almSaveComplete {j : Job} {s : State} (hrun : s.running = true)
    (hjob : (s.findJob fun j => j.kind == .almSave) = some j) :
    exec (.almSaveComplete false) s =
      .next (endJob j stOk (leBytes 4 s.grp.saving.length ++ leBytes 4 (s.drawNat.1 % 2 ^ 32)) s.almSaved) := by
  have hexec : exec (.almSaveComplete false) s = execAlmSaveComplete false s := rfl
  rw [hexec, execAlmSaveComplete, whenRunning_of s _ hrun, hjob]
  dsimp only
  rw [if_neg (by decide)]
  generalize leBytes 4 s.grp.saving.length ++ leBytes 4 (s.drawNat.1 % 2 ^ 32) = reply
  exact congrArg _ (((confined_almSaved s).mono (by decide)).trans ((confined_endJob_post j stOk reply s.almSaved).mono (by decide))).within_eq

end Sys2Proof.Machine

/-! PROOFS. O60, last part: CAN_SEND_OUTCOME and FW_STAGE_COMPLETE. -/

namespace Sys2Proof.Machine

open Sys2Proof

/-! ## CAN_SEND_OUTCOME (R367) -/

/-- What a queue is left with of what is dropped: what has started, marked as its last attempt, and the rest. -/
def keptTx (p : TxEntry → Bool) (q : List TxEntry) : List TxEntry :=
  (q.filter fun t => !(p t && !t.started)).map fun t => if p t then { t with last := true } else t

theorem dropTx_queue (s : State) (b : BusId) (p : TxEntry → Bool) :
    (s.dropTx b p).io.buses[b.val].queue = keptTx p s.io.buses[b.val].queue := by
  unfold State.dropTx
  dsimp only
  rw [foldl_discarded_queue, bus_modBus]
  rfl

/-- Nothing that is dropped and has not started is left. -/
theorem not_dropped_of_kept {p : TxEntry → Bool} {q : List TxEntry} {t : TxEntry}
    (ht : t ∈ keptTx p q) : ¬ (p t = true ∧ t.started = false) := by
  obtain ⟨u, hu, rfl⟩ := List.mem_map.mp ht
  have hkept := (List.mem_filter.mp hu).2
  rintro ⟨hdrop, hwaits⟩
  by_cases hpu : p u = true
  · rw [if_pos hpu] at hwaits
    have hstarted : u.started = false := hwaits
    rw [hpu, hstarted] at hkept
    exact absurd hkept (by decide)
  · rw [if_neg hpu] at hdrop
    exact hpu hdrop

/-- No job has this ID. -/
def NoJob (id : Nat) (s : State) : Prop := ∀ x ∈ s.grp.jobs, x.id ≠ id

/-- A transmission of this ID that ends takes its job from the list. -/
theorem noJob_endSend (id outcome : Nat) (s : State) : NoJob id (s.endSend id outcome) := by
  unfold State.endSend
  cases hfind : s.findJob fun j => j.id == id with
  | none =>
    intro x hx
    simpa using List.find?_eq_none.mp hfind x hx
  | some j =>
    have hid : j.id = id := by simpa using List.find?_some hfind
    intro x hx
    exact hid ▸ ended_of_endJob j _ _ s x hx

theorem noJob_discarded_of_raw {b : BusId} {id : Nat} {t : TxEntry} (ht : t.kind = .raw id) (s : State) : NoJob id (s.discarded b t) := by
  unfold State.discarded
  rw [ht]
  exact noJob_endSend id 1 _

/-- Of transmissions that are all of this ID the discard ends the job, as soon as there is one. -/
theorem noJob_foldl_discarded {b : BusId} {id : Nat} {gone : List TxEntry} (hall : ∀ t ∈ gone, t.kind = .raw id)
    (hne : gone ≠ []) (s : State) : NoJob id (gone.foldl (State.discarded b) s) := by
  induction gone using List.reverseRecOn with
  | nil => exact absurd rfl hne
  | append_singleton gone t _ =>
    rw [List.foldl_append]
    exact noJob_discarded_of_raw (hall t (by simp)) _

theorem confined_discarded_post (b : BusId) (s : State) (t : TxEntry) :
    Confined ([.alm, .jobs, .buses, .recorder] ++ postParts) s (s.discarded b t) := by
  have hend : ∀ (u : State) (job outcome : Nat), Confined (.jobs :: postParts) u (u.endSend job outcome) := by
    intro u job outcome
    unfold State.endSend
    split
    · exact confined_endJob_post ..
    · exact confined_refl _ u
  unfold State.discarded
  split
  case h_1 => exact (confined_countDiscard ..).mono (by decide)
  case h_2 => exact ((confined_modBus ..).mono (by decide)).trans ((hend ..).mono (by decide))
  case h_3 => exact (confined_modBus ..).mono (by decide)

theorem confined_dropTx_post (s : State) (b : BusId) (p : TxEntry → Bool) :
    Confined ([.alm, .jobs, .buses, .recorder] ++ postParts) s (s.dropTx b p) := by
  unfold State.dropTx
  dsimp only
  exact ((confined_modBus ..).mono (by decide)).trans (confined_foldl (confined_discarded_post b) _ _)

/-- Is of this CAN_SEND. -/
def TxEntry.sentBy (id : Nat) (t : TxEntry) : Bool := t.kind == .raw id

section

variable {id : Nat} {b : BusId} {j : Job} {s : State} (hrun : s.running = true)
  (hjob : (s.findJob fun j => j.id == id) = some j) (hkind : j.kind = .canSend b)

include hrun hjob hkind

theorem exec_canSendOutcome_queued (hqueued : s.io.buses[b.val].queue.any (TxEntry.sentBy id) = true) :
    exec (.canSendOutcome id) s = .next (s.dropTx b fun t => t.sentBy id && t.due s.grp.frame) := by
  have hexec : exec (.canSendOutcome id) s = execCanSendOutcome id s := rfl
  obtain ⟨jid, kind, opcode, src, tag, seq, target⟩ := j
  cases hkind
  rw [hexec, execCanSendOutcome, whenRunning_of s _ hrun, hjob]
  dsimp only
  have hconf := (confined_dropTx_post s b fun t => t.sentBy id && t.due s.grp.frame).mono
    (show [.alm, .jobs, .buses, .recorder] ++ postParts ⊆ [.alm, .jobs, .sessions, .buses, .rings, .irq, .net, .recorder] by decide)
  rw [show (fun t : TxEntry => t.kind == TxKind.raw id) = TxEntry.sentBy id from rfl, if_pos hqueued]
  exact congrArg _ hconf.within_eq

theorem exec_canSendOutcome_gone (hqueue : ∀ x ∈ s.io.buses[b.val].queue, x.kind ≠ .raw id)
    (hstaged : ∀ p, Deferred.send id p ∉ s.grp.deferred) : exec (.canSendOutcome id) s = .next (s.endSend id 1) := by
  have hexec : exec (.canSendOutcome id) s = execCanSendOutcome id s := rfl
  have hnone : ¬ s.io.buses[b.val].queue.any (fun t => t.kind == .raw id) = true := by simpa using hqueue
  obtain ⟨jid, kind, opcode, src, tag, seq, target⟩ := j
  cases hkind
  rw [hexec, execCanSendOutcome, whenRunning_of s _ hrun, hjob]
  dsimp only
  rw [if_neg hnone, if_neg]
  · have hconf : Confined (.jobs :: postParts) s (s.endSend id 1) := by
      unfold State.endSend
      rw [hjob]
      exact confined_endJob_post ..
    exact congrArg _ (hconf.mono (by decide)).within_eq
  · intro hany
    obtain ⟨d, hd, hsend⟩ := List.any_eq_true.mp hany
    split at hsend
    next k p =>
      have hk : k = id := by simpa using hsend
      exact hstaged p (hk ▸ hd)
    next => cases hsend

end

/-! ## FW_STAGE_COMPLETE (R508) -/

/-- The result of a staging is known: of the member it names the other copy is marked, and the staging is over. -/
def State.stagingOver (result : Nat) (g : FwStaging) (s : State) : State :=
  let t := if s.namesSelf g.members then s.fwMark result g.bytes else s
  { t with grp := { t.grp with staging := none } }

theorem fwMark_eq (s : State) (result : Nat) (b : List Byte) :
    Confined [.firmware] s (s.fwMark result b)
      ∧ (s.fwMark result b).nv.copies[s.otherCopy.val].state = if result = 0 then .valid else .invalid := by
  unfold State.fwMark
  rcases fwIdent b with ⟨v, patch, proto⟩
  dsimp only
  refine ⟨confined_of_within_eq rfl, ?_⟩
  simp [State.modCopy]

/-- Whether the job of a staging wants the customer's signature too (R559). -/
def Job.wantsCosign (j : Job) : Bool := match j.kind with
  | .fwStage b => b
  | _ => false

theorem exec_fwStageComplete {x : FwCheck} {j : Job} {g : FwStaging} {s : State} (hrun : s.running = true) (hholds : s.holds = true)
    (hjob : s.stagingJob = some j) (hstaging : s.grp.staging = some g) :
    ∃ status reply, exec (.fwStageComplete x) s = .next (endJob j status reply (s.stagingOver (s.fwResult j.wantsCosign x g.bytes) g)) := by
  have hexec : exec (.fwStageComplete x) s = execFwStageComplete x s := rfl
  have hmarked : ∀ r, Confined [.staging, .firmware] s (s.stagingOver r g) := by
    intro r
    unfold State.stagingOver
    dsimp only
    split
    · exact ((fwMark_eq s r g.bytes).1.mono (by decide)).trans ((confined_of_within_eq rfl : Confined [.staging] _ _).mono (by decide))
    · exact (confined_of_within_eq rfl : Confined [.staging] _ _).mono (by decide)
  rw [hexec, execFwStageComplete, whenRunning_of s _ hrun, hjob, hstaging]
  dsimp only
  rw [if_neg (by simp [hholds])]
  generalize s.fwReply g.members _ x g.bytes = answer
  obtain ⟨status, reply⟩ := answer
  refine ⟨status, reply, congrArg _ (Confined.within_eq ?_)⟩
  exact ((hmarked (s.fwResult j.wantsCosign x g.bytes)).mono (by decide)).trans
    ((confined_endJob_post j status reply _).mono (by decide))

theorem fwResult_of_writeFailed {cosign : Bool} {x : FwCheck} {b : List Byte} {s : State} (h : x.writeFailed = true) :
    s.fwResult cosign x b = 2 := if_pos h

/-- A staging that is good was written whole, and its image passes (R559, R560). -/
theorem passes_of_fwResult {cosign : Bool} {x : FwCheck} {b : List Byte} {s : State} (h : s.fwResult cosign x b = 0) :
    x.writeFailed = false ∧ fwPasses s.nv.customerRoot cosign s.nv.security b = true := by
  unfold State.fwResult at h
  split_ifs at h with hwrite hpass
  exact ⟨by simpa using hwrite, hpass⟩

end Sys2Proof.Machine

namespace Sys2Proof.Proofs

open Sys2Proof Sys2Proof.Machine

theorem recExport_starts (c : Cmd) (s : State) (h : Judged recExportDef c s) (hnone : s.exporting = none)
    (hfew : s.grp.jobs.length < 256) :
    let r : RingId := Fin.ofNat 64 (byteAt c.payload 8)
    let first := fieldAt c.payload 0 8
    s.host.rings[r.val].room = 0 → first ≤ s.nv.recorder.newest → s.host.rings[r.val].use = .dataOut →
    ∃ (t : State) (id : Nat), exec (.recExport c) s = .next t ∧ (∀ j ∈ s.grp.jobs, j.id ≠ id)
      ∧ t.grp.jobs = s.grp.jobs ++ [c.newJob (.exportRecs r first first s.nv.recorder.newest 0) 0x1012 id (s.serial c.src)] := by
  intro r first hfull hfirst huse
  have hact := recExportDef_act (f := future (s.consumed c)) (s := s.consumed c) hfew hnone hfirst hfull huse
  have hconf : Confined ([.free, .jobs] ++ mailParts) (s.consumed c)
      ((s.consumed c).withJob (.exportRecs r first first s.nv.recorder.newest 0) 0x1012 c) :=
    (confined_withJob _ _ _ _).mono (by decide)
  exact ⟨_, s.nextJob, exec_eq_counted (by decide) rfl h hact hconf, nextJobId_fresh hfew _,
    (startsJob_withJob _ 0x1012 c (s.consumed c)).jobs⟩

theorem almSaveComplete_ends (j : Job) (s : State) (hrun : s.running = true)
    (hjob : s.findJob (fun j => j.kind == .almSave) = some j) :
    (∃ t, exec (.almSaveComplete false) s = .next t ∧ t.nv.saved = s.grp.saving ∧ t.grp.saveFrame = s.grp.frame
        ∧ ∀ x ∈ t.grp.jobs, x.id ≠ j.id)
      ∧ ∃ t, exec (.almSaveComplete true) s = .next t ∧ t.nv.saved = s.nv.saved ∧ t.grp.saveFrame = s.grp.saveFrame
        ∧ ∀ x ∈ t.grp.jobs, x.id ≠ j.id := by
  have hkept : ∀ status reply u, (endJob j status reply u).nv.saved = u.nv.saved
      ∧ (endJob j status reply u).grp.saveFrame = u.grp.saveFrame := by
    intro status reply u
    exact ⟨congrArg Nv.saved (postKeeps_endJob j status reply u).nv, ((confined_endJob_post j status reply u).2 .saves (by decide)).2.symm⟩
  obtain ⟨hsaved, hframe⟩ := hkept stOk (leBytes 4 s.grp.saving.length ++ leBytes 4 (s.drawNat.1 % 2 ^ 32)) s.almSaved
  obtain ⟨hunsaved, hunframe⟩ := hkept stJobFailed [] s.unsaved
  exact ⟨⟨_, exec_almSaveComplete hrun hjob, hsaved, hframe, ended_of_endJob _ _ _ _⟩,
    ⟨_, exec_almSaveComplete_interrupted hrun hjob, hunsaved, hunframe, ended_of_endJob _ _ _ _⟩⟩

theorem canSendOutcome_ends (j : Job) (b : BusId) (id : Nat) (s : State) (hrun : s.running = true)
    (hjob : s.findJob (fun j => j.id == id) = some j) (hkind : j.kind = .canSend b) :
    ((∃ x ∈ s.io.buses[b.val].queue, x.kind = .raw id ∧ x.started = false ∧ x.queuedAt + x.maxAge ≤ s.grp.frame) →
      ∃ t, exec (.canSendOutcome id) s = .next t ∧ (∀ x ∈ t.grp.jobs, x.id ≠ id)
        ∧ ∀ x ∈ t.io.buses[b.val].queue, ¬ (x.kind = .raw id ∧ x.started = false ∧ x.queuedAt + x.maxAge ≤ s.grp.frame))
    ∧ ((∀ x ∈ s.io.buses[b.val].queue, x.kind ≠ .raw id) → (∀ p, Deferred.send id p ∉ s.grp.deferred) →
      ∃ t, exec (.canSendOutcome id) s = .next t ∧ (∀ x ∈ t.grp.jobs, x.id ≠ id) ∧ t.io.buses = s.io.buses) := by
  refine ⟨?_, fun hqueue hstaged => ?_⟩
  · rintro ⟨x, hx, hraw, hwaits, hdue⟩
    have hqueued : s.io.buses[b.val].queue.any (TxEntry.sentBy id) = true :=
      List.any_eq_true.mpr ⟨x, hx, by simp [TxEntry.sentBy, hraw]⟩
    refine ⟨_, exec_canSendOutcome_queued hrun hjob hkind hqueued, ?_, fun y hy hbad => ?_⟩
    · unfold State.dropTx
      dsimp only
      refine noJob_foldl_discarded (fun t ht => ?_) (List.ne_nil_of_mem (a := x) ?_) _
      · have hmine := (List.mem_filter.mp ht).2
        simp only [TxEntry.sentBy, Bool.and_eq_true, beq_iff_eq] at hmine
        exact hmine.1.1
      · exact List.mem_filter.mpr ⟨hx, by simp [TxEntry.sentBy, TxEntry.due, hraw, hwaits, hdue]⟩
    · rw [dropTx_queue] at hy
      obtain ⟨hkind, hstart, hage⟩ := hbad
      exact not_dropped_of_kept hy ⟨by simp [TxEntry.sentBy, TxEntry.due, hkind, hage], hstart⟩
  · have hconf : Confined (.jobs :: mailParts) s (s.endSend id 1) := confined_endSend s id 1
    exact ⟨_, exec_canSendOutcome_gone hrun hjob hkind hqueue hstaged, noJob_endSend id 1 s, (hconf.2 .buses (by decide)).symm⟩

theorem fwStageComplete_ends (x : FwCheck) (j : Job) (g : FwStaging) (s : State) (hrun : s.running = true) (hholds : s.holds = true)
    (hjob : s.stagingJob = some j) (hstaging : s.grp.staging = some g) :
    ∃ t, exec (.fwStageComplete x) s = .next t ∧ t.grp.staging = none ∧ (∀ y ∈ t.grp.jobs, y.id ≠ j.id)
      ∧ (s.namesSelf g.members = true →
          (x.writeFailed = true → t.nv.copies[s.otherCopy.val].state = .invalid)
          ∧ (t.nv.copies[s.otherCopy.val].state = .valid → x.writeFailed = false ∧ ∃ cosign : Bool,
              fwPasses s.nv.customerRoot cosign s.nv.security g.bytes = true))
      ∧ (s.namesSelf g.members = false → t.nv = s.nv) := by
  obtain ⟨status, reply, hexec⟩ := exec_fwStageComplete (x := x) hrun hholds hjob hstaging
  have hnv := (postKeeps_endJob j status reply (s.stagingOver (s.fwResult j.wantsCosign x g.bytes) g)).nv
  have hover := (confined_endJob_post j status reply (s.stagingOver (s.fwResult j.wantsCosign x g.bytes) g)).2 .staging (by decide)
  have hnone : (s.stagingOver (s.fwResult j.wantsCosign x g.bytes) g).grp.staging = none := rfl
  refine ⟨_, hexec, hover.symm.trans hnone, ended_of_endJob _ _ _ _, fun hself => ?_, fun hother => ?_⟩
  · have hmark : (s.stagingOver (s.fwResult j.wantsCosign x g.bytes) g).nv.copies[s.otherCopy.val].state =
        if s.fwResult j.wantsCosign x g.bytes = 0 then .valid else .invalid := by
      unfold State.stagingOver
      rw [if_pos hself]
      exact (fwMark_eq s _ g.bytes).2
    rw [hnv, hmark]
    refine ⟨fun hfailed => if_neg (by rw [fwResult_of_writeFailed hfailed]; decide), fun hvalid => ?_⟩
    by_cases hgood : s.fwResult j.wantsCosign x g.bytes = 0
    · obtain ⟨hwritten, hpasses⟩ := passes_of_fwResult hgood
      exact ⟨hwritten, _, hpasses⟩
    · rw [if_neg hgood] at hvalid
      cases hvalid
  · have hkept : (s.stagingOver (s.fwResult j.wantsCosign x g.bytes) g).nv = s.nv := by
      unfold State.stagingOver
      rw [if_neg (by simp [hother])]
    exact hnv.trans hkept

/-- Settles O60: every row that starts a job by `startsOrRefuses_of_act`, and each completion by how its job ends. -/
theorem jobs : Obligations.Jobs := by
  unfold Obligations.Jobs
  refine ⟨fun c s => ?_, fun c s h hfew hf hs => safeBrakeTest_begins hfew h hf hs, fun c s hfull q hq h => ?_,
    recExport_starts, almSaveComplete_ends, canSendOutcome_ends, fwStageComplete_ends⟩
  · intro f p car x hfew q hq h
    simp only [List.mem_cons, List.not_mem_nil, or_false] at hq
    rcases hq with rfl | rfl | rfl | rfl | rfl
    · exact almSave_starts hfew h
    · exact posLearn_starts hfew h rfl
    · exact safeBrakeTest_starts hfew h
    · exact canSend_starts hfew h
    · exact pairLeap_starts hfew h
  · have hlimit := limit_of_full (f := future (s.consumed c)) (s := s.consumed c) (c := c) hfull
    simp only [List.mem_cons, List.not_mem_nil, or_false] at hq
    rcases hq with rfl | rfl | rfl | rfl | rfl | rfl <;> exact exec_eq_replyTo (by decide) rfl h (hlimit _ (by simp))

end Sys2Proof.Proofs
